-- ==== Sys2Proof/Word.lean ====
section
/-! DEFINITION. The word types of the Ndephor (R2, R3, R10), the four shared fields of an instruction word (R77), and the
plain records that the machine's events carry. -/

namespace Sys2Proof

/-- An 8-bit byte (R2). -/
abbrev Byte := BitVec 8
/-- A 32-bit word: one lane, one slot, one instruction word. -/
abbrev W32 := BitVec 32
/-- A 64-bit scalar (R10). -/
abbrev W64 := BitVec 64
/-- The number of a scalar or a vector register (R10). -/
abbrev Reg5 := BitVec 5
/-- The number of a predicate or a tile register (R10). -/
abbrev Reg4 := BitVec 4

/-- The fields every instruction word carries beside its major opcode and operands (R77). -/
structure Hdr where
  /-- C: the next word of the packet belongs to the same group. -/
  c : Bool
  /-- G: guard enable. -/
  g : Bool
  /-- PG: the guard predicate. -/
  pg : Reg4
  /-- PS: guard sense, 0 executes where the predicate is 1. -/
  ps : Bool
  deriving DecidableEq, Repr

/-- A reflected write as it arrives at a receive window (R243, R246). -/
structure Arrival where
  src : BitVec 12
  vc : BitVec 4
  seq : BitVec 32
  rxid : BitVec 12
  off : Nat
  data : List Byte
  /-- The FN of a non-returning atomic (R149), or none for a plain write. -/
  atom : Option (BitVec 4)
  deriving DecidableEq, Repr

/-- The fields of a collective call's first packet (R258). -/
structure FirstPacket where
  group : BitVec 16
  cseq : BitVec 32
  op : BitVec 8
  rop : BitVec 4
  dtype : BitVec 4
  carry : BitVec 4
  ord : Bool
  ckt : Bool
  count : BitVec 64
  root : BitVec 16
  deriving DecidableEq, Repr

/-- What a clock says of itself in the best master clock comparison (R266), in the order of comparison.
(Log entry 106, PRESUMED) -/
structure ClockId where
  priority1 : Byte
  clockClass : Byte
  accuracy : Byte
  variance : BitVec 16
  priority2 : Byte
  identity : W64
  deriving DecidableEq, Repr

/-- A gang-start group of time-triggered launches, as firmware installs it (R267, R315): its margin, its members' chips, the
transmit window its ready words leave by and the receive window they arrive in. -/
structure StartGroup where
  id : BitVec 16
  delta : Nat
  members : List (BitVec 12)
  tx : BitVec 12
  rx : BitVec 12
  deriving DecidableEq, Repr

/-- What a host write through a function's aperture or its registers goes to (R345, R346). -/
inductive HostTarget where
  | aperture | apbase | sparePol
  deriving DecidableEq, Repr

/-- What bring-up reads from package flash and the physically unclonable function (R347). -/
structure FlashImage where
  firmware : List Byte
  firmwareSig : List Byte
  config : List Byte
  configSig : List Byte
  /-- The 160 physical bays that the configuration record enables. -/
  bays : List Nat
  /-- The spare mapping of each listed bay, as ROWMAP holds it (R341). -/
  rowmaps : List (Nat × W64)
  pufReading : List Byte
  helper : List Byte
  certificate : List Byte
  hbmTrains : Bool
  /-- Repair data of the lanes and rows that the configuration record carries, as firmware applies it. -/
  repair : List Byte
  /-- The chips of the reflection domain (R238). -/
  chips : List (BitVec 12)
  /-- Components loaded after firmware, in order: each is measured before it runs. -/
  components : List (List Byte)
  /-- The time-protocol domain number, 0 to 127, and what this chip's clock says of itself (R266). -/
  clockDomain : Byte
  clockId : ClockId
  deriving DecidableEq, Repr

/-- A packet in the mesh (R299): where it is, the port it came in by, and the region's counter slot. -/
structure MeshPacket where
  router : Nat
  /-- Input code of R298: 1 north, 2 east, 3 south, 4 west, 5 local. -/
  port : Nat
  dest : Nat
  cslot : BitVec 6
  die : Bool
  /-- A budget wait of the packet has been counted (R296). -/
  waiting : Bool
  deriving DecidableEq, Repr

/-- Which agent met a correctable SRAM error (R334). -/
inductive SramReader where
  | bay | dieEngine | mailbox
  deriving DecidableEq, Repr

/-- Where a machine check was raised (R325). -/
inductive CheckSource where
  | bay
  | engine (region : W32)
  /-- An uncorrectable error comes about in a word of a slice. It shows when the word is read (R136, R334). -/
  | slice (addr : Nat)
  /-- The two conversion lanes of the next `tcvt` that gets so far disagree (R70, R169). -/
  | lanes
  /-- A chain check of the bay's next scan-out or scan-in fails (R324, R330). -/
  | chain
  deriving DecidableEq, Repr

/-- Which window table an entry is installed into (R239, R241). -/
inductive WindowKind where
  | tx | rx
  /-- A receive window that firmware reserves to the collective engine of its region (R256). -/
  | collective
  /-- A gang-start group, whose transmit and receive windows firmware reserves (R267). -/
  | start (group : StartGroup)
  deriving DecidableEq, Repr

end Sys2Proof
end

