-- ==== Sys2Proof/Config.lean ====
section
/-! DEFINITION. What the manual leaves to the device, as constants without a body: nothing can be proved of their values. -/

namespace Sys2Proof.Config

/-- A free 64-bit value, by the state's counter of free values: what a read of an undescribed address of privileged control
space returns (R203).
(Log entry 7, DESIGN CHOICE) -/
opaque freeWord : Nat → W64

/-- The handle that TASK reads of a launch (R13), which the manual does not build: by queue, by how often firmware has written
that queue's entry, and by the record's number in it.
(Log entry 47, DESIGN CHOICE) -/
opaque taskHandle : BitVec 12 → Nat → W64 → W64

/-- The handle that TASK reads of a fault handler task: by the handle, the index and the member of the unit that it serves, and
that unit's earlier faults.
(Log entry 47, DESIGN CHOICE) -/
opaque handlerHandle : W64 → Nat → Nat → Nat → W64

/-- A free byte of the unit state that a context save writes and only the device itself understands (R327, offset 0x4808
of the plane and unit block), by counter and offset.
(Log entry 7, DESIGN CHOICE) -/
opaque unitStateByte : Nat → Nat → Byte

/-- A free byte of the carry scratch that a collective call writes for itself (R255, R262), by counter and offset.
(Log entry 108, DESIGN CHOICE) -/
opaque scratchByte : Nat → Nat → Byte

/-- The partial sum and the feed slot of an array cell in a scan-out (R330), by counter and cell.
(Log entry 7, DESIGN CHOICE) -/
opaque cellState : Nat → Nat → W64

/-- The modulus of the RSA-4096 key in the boot ROM (R347), which the manual does not give.
(Log entry 7, DESIGN CHOICE) -/
opaque romModulus : Nat

/-- The exponent of that key.
(Log entry 7, DESIGN CHOICE) -/
opaque romExponent : Nat

/-- The identity key derived from the corrected reading of the physically unclonable function (R347): reading and helper
data.
(Log entry 7, DESIGN CHOICE) -/
opaque identityKey : List Byte → List Byte → List Byte

/-- The quote signature under the identity key (R348): key and message.
(Log entry 7, DESIGN CHOICE) -/
opaque quoteSign : List Byte → List Byte → List Byte

/-- The clock servo's correction of TIME in ns for an estimated offset (R266).
(Log entry 7, DESIGN CHOICE) -/
opaque clockServo : W64 → W64

/-- Whether the instruction cache answers a fetch with what it holds, where memory holds something else by now (R76), by
counter.
(Log entry 96, DESIGN CHOICE) -/
opaque staleFetch : Nat → Bool

/-- Writes that the resequencing buffer of a path has room for (R246), which the manual does not give.
(Log entries 7 DESIGN CHOICE, 62 DEDUCED) -/
opaque resequenceRoom : Nat

/-- The choice of the next contribution in a combination without ORD (R259), by counter, step and number left.
(Log entries 7 DESIGN CHOICE, 60 DEDUCED) -/
opaque combineChoice : Nat → Nat → Nat → Nat

end Sys2Proof.Config
end

