-- ==== Sys2Proof/Syntax.lean ====
section
/-! DEFINITION. `Instr`: one constructor per row of the opcode table. The 276 instruction words carry the shared fields of
R77 and their operand fields (R87, R88); the 90 event rows carry the data that arrives with the event. -/

namespace Sys2Proof
/-- Every row of the opcode table: the instruction words (R90, R91) and the machine's own steps. -/
inductive Instr where
  /-- NOP (R82): A no-operation word that uses no pipe; a group made only of nop words issues as an empty step. -/
  | nop (hd : Hdr)
  /-- HALT (R200): Supervisor-only word that stops the sequencer once nothing is in flight; only firmware restarts it. -/
  | halt (hd : Hdr)
  /-- EXIT (R200): Waits until no result is in flight, then ends the section, and with it possibly the unit. -/
  | exit (hd : Hdr)
  /-- TRAP (R200): Raises class 15 with the encoded code as detail. -/
  | trap (hd : Hdr) (k : BitVec 6)
  /-- ERET (R320): Supervisor-only return that waits for supervisor results, restores mode, PC and loop stack, and re-injects the in-flight queue of the live snapshot. -/
  | eret (hd : Hdr)
  /-- SNAPST (R320): Supervisor-only store of the 8,192-byte live snapshot to sA, or to SAVEPTR when A is s0. -/
  | snapst (hd : Hdr) (a : BitVec 5)
  /-- SNAPLD (R320): Supervisor-only load that checks a snapshot image and replaces the live snapshot with it. -/
  | snapld (hd : Hdr) (a : BitVec 5)
  /-- SNAPREL (R320): Supervisor-only word that releases the snapshot and clears TM, unmasking traps. -/
  | snaprel (hd : Hdr)
  /-- YIELD (R332): An iteration pre-emption point that otherwise issues as an empty step. -/
  | yield (hd : Hdr)
  /-- SRR (R118): Reads a special register into sA at the issue step, latching TIMEF when it reads TIME. -/
  | srr (hd : Hdr) (a : BitVec 5) (k : BitVec 9)
  /-- SRW (R119): Writes sA to the defined fields of a special register after its own group; this also covers writes to every register that has no row of its own. -/
  | srw (hd : Hdr) (a : BitVec 5) (k : BitVec 9)
  /-- BRK (R200): Raises class 12 detail 0x10 when the region's debug bit is set, and is otherwise an empty step. -/
  | brk (hd : Hdr) (k : BitVec 9)
  /-- ADD (R101): Scalar 64-bit addition, wrapping. -/
  | add (hd : Hdr) (a : BitVec 5) (b : BitVec 5) (x : BitVec 5)
  /-- SUB (R101): Scalar 64-bit subtraction, wrapping. -/
  | sub (hd : Hdr) (a : BitVec 5) (b : BitVec 5) (x : BitVec 5)
  /-- AND (R101): Scalar bitwise AND. -/
  | and (hd : Hdr) (a : BitVec 5) (b : BitVec 5) (x : BitVec 5)
  /-- OR (R101): Scalar bitwise OR. -/
  | or (hd : Hdr) (a : BitVec 5) (b : BitVec 5) (x : BitVec 5)
  /-- XOR (R101): Scalar bitwise exclusive OR. -/
  | xor (hd : Hdr) (a : BitVec 5) (b : BitVec 5) (x : BitVec 5)
  /-- ANDN (R101): Scalar B AND NOT Cc. -/
  | andn (hd : Hdr) (a : BitVec 5) (b : BitVec 5) (x : BitVec 5)
  /-- SLL (R101): Scalar logical left shift by Cc[5:0]. -/
  | sll (hd : Hdr) (a : BitVec 5) (b : BitVec 5) (x : BitVec 5)
  /-- SRL (R101): Scalar logical right shift by Cc[5:0]. -/
  | srl (hd : Hdr) (a : BitVec 5) (b : BitVec 5) (x : BitVec 5)
  /-- SRA (R101): Scalar arithmetic right shift by Cc[5:0]. -/
  | sra (hd : Hdr) (a : BitVec 5) (b : BitVec 5) (x : BitVec 5)
  /-- MUL (R101): Low 64 bits of the scalar product, with latency 3. -/
  | mul (hd : Hdr) (a : BitVec 5) (b : BitVec 5) (x : BitVec 5)
  /-- MULH (R101): High 64 bits of the signed scalar product. -/
  | mulh (hd : Hdr) (a : BitVec 5) (b : BitVec 5) (x : BitVec 5)
  /-- MULHU (R101): High 64 bits of the unsigned scalar product. -/
  | mulhu (hd : Hdr) (a : BitVec 5) (b : BitVec 5) (x : BitVec 5)
  /-- MIN (R101): Signed scalar minimum. -/
  | min (hd : Hdr) (a : BitVec 5) (b : BitVec 5) (x : BitVec 5)
  /-- MAX (R101): Signed scalar maximum. -/
  | max (hd : Hdr) (a : BitVec 5) (b : BitVec 5) (x : BitVec 5)
  /-- MINU (R101): Unsigned scalar minimum. -/
  | minu (hd : Hdr) (a : BitVec 5) (b : BitVec 5) (x : BitVec 5)
  /-- MAXU (R101): Unsigned scalar maximum. -/
  | maxu (hd : Hdr) (a : BitVec 5) (b : BitVec 5) (x : BitVec 5)
  /-- DIV (R103): Scoreboarded signed division truncated toward zero, with fixed results for a zero divisor and for overflow. -/
  | div (hd : Hdr) (a : BitVec 5) (b : BitVec 5) (x : BitVec 5)
  /-- DIVU (R103): Scoreboarded unsigned division. -/
  | divu (hd : Hdr) (a : BitVec 5) (b : BitVec 5) (x : BitVec 5)
  /-- REM (R103): Scoreboarded signed remainder, which takes the sign of B. -/
  | rem (hd : Hdr) (a : BitVec 5) (b : BitVec 5) (x : BitVec 5)
  /-- REMU (R103): Scoreboarded unsigned remainder. -/
  | remu (hd : Hdr) (a : BitVec 5) (b : BitVec 5) (x : BitVec 5)
  /-- CLZ (R102): Counts the leading zero bits of sB. -/
  | clz (hd : Hdr) (a : BitVec 5) (b : BitVec 5)
  /-- CTZ (R102): Counts the trailing zero bits of sB. -/
  | ctz (hd : Hdr) (a : BitVec 5) (b : BitVec 5)
  /-- POPC (R102): Counts the one bits of sB. -/
  | popc (hd : Hdr) (a : BitVec 5) (b : BitVec 5)
  /-- SEXT_B (R102): Sign-extends sB[7:0]. -/
  | sextB (hd : Hdr) (a : BitVec 5) (b : BitVec 5)
  /-- SEXT_H (R102): Sign-extends sB[15:0]. -/
  | sextH (hd : Hdr) (a : BitVec 5) (b : BitVec 5)
  /-- SEXT_W (R102): Sign-extends sB[31:0]. -/
  | sextW (hd : Hdr) (a : BitVec 5) (b : BitVec 5)
  /-- ZEXT_W (R102): Zero-extends sB[31:0]. -/
  | zextW (hd : Hdr) (a : BitVec 5) (b : BitVec 5)
  /-- BSWAP (R102): Reverses the eight bytes of sB. -/
  | bswap (hd : Hdr) (a : BitVec 5) (b : BitVec 5)
  /-- ADDI (R104): Adds a sign-extended 9-bit immediate. -/
  | addi (hd : Hdr) (a : BitVec 5) (b : BitVec 5) (i : BitVec 9)
  /-- ANDI (R104): ANDs with a sign-extended 9-bit immediate. -/
  | andi (hd : Hdr) (a : BitVec 5) (b : BitVec 5) (i : BitVec 9)
  /-- ORI (R104): ORs with a sign-extended 9-bit immediate. -/
  | ori (hd : Hdr) (a : BitVec 5) (b : BitVec 5) (i : BitVec 9)
  /-- XORI (R104): Exclusive-ORs with a sign-extended 9-bit immediate. -/
  | xori (hd : Hdr) (a : BitVec 5) (b : BitVec 5) (i : BitVec 9)
  /-- SLLI (R105): Logical left shift by a constant amount from 0 to 63. -/
  | slli (hd : Hdr) (a : BitVec 5) (b : BitVec 5) (h : BitVec 6)
  /-- SRLI (R105): Logical right shift by a constant amount. -/
  | srli (hd : Hdr) (a : BitVec 5) (b : BitVec 5) (h : BitVec 6)
  /-- SRAI (R105): Arithmetic right shift by a constant amount. -/
  | srai (hd : Hdr) (a : BitVec 5) (b : BitVec 5) (h : BitVec 6)
  /-- LI (R106): Loads a sign-extended 14-bit constant. -/
  | li (hd : Hdr) (a : BitVec 5) (i : BitVec 14)
  /-- LSH (R106): Shifts sA left by 14 and ORs in an unsigned 14-bit constant. -/
  | lsh (hd : Hdr) (a : BitVec 5) (i : BitVec 14)
  /-- CMP_EQ (R107): Writes B == Cc into all 64 lanes of a predicate. -/
  | cmpEq (hd : Hdr) (a : BitVec 4) (b : BitVec 5) (x : BitVec 5)
  /-- CMP_NE (R107): Writes B != Cc into all lanes of a predicate. -/
  | cmpNe (hd : Hdr) (a : BitVec 4) (b : BitVec 5) (x : BitVec 5)
  /-- CMP_LT (R107): Writes the signed B < Cc into all lanes of a predicate. -/
  | cmpLt (hd : Hdr) (a : BitVec 4) (b : BitVec 5) (x : BitVec 5)
  /-- CMP_GE (R107): Writes the signed B >= Cc into all lanes of a predicate. -/
  | cmpGe (hd : Hdr) (a : BitVec 4) (b : BitVec 5) (x : BitVec 5)
  /-- CMP_LTU (R107): Writes the unsigned B < Cc into all lanes of a predicate. -/
  | cmpLtu (hd : Hdr) (a : BitVec 4) (b : BitVec 5) (x : BitVec 5)
  /-- CMP_GEU (R107): Writes the unsigned B >= Cc into all lanes of a predicate. -/
  | cmpGeu (hd : Hdr) (a : BitVec 4) (b : BitVec 5) (x : BitVec 5)
  /-- CMPEQI (R108): Compares sB with an immediate for equality into a predicate. -/
  | cmpeqi (hd : Hdr) (a : BitVec 4) (b : BitVec 5) (i : BitVec 9)
  /-- CMPLTI (R108): Signed compare of sB below an immediate into a predicate. -/
  | cmplti (hd : Hdr) (a : BitVec 4) (b : BitVec 5) (i : BitVec 9)
  /-- CMPLTUI (R108): Unsigned compare of sB below a sign-extended immediate into a predicate. -/
  | cmpltui (hd : Hdr) (a : BitVec 4) (b : BitVec 5) (i : BitVec 9)
  /-- BR (R110): Branches by a packet displacement, popping loop entries by R113. -/
  | br (hd : Hdr) (d : BitVec 19)
  /-- CALL (R110): Branches by a packet displacement and links the next packet index into s31. -/
  | call (hd : Hdr) (d : BitVec 19)
  /-- JR (R111): Jumps to the packet index held in sB. -/
  | jr (hd : Hdr) (b : BitVec 5)
  /-- JALR (R111): Jumps to the packet index held in sB and links into sA. -/
  | jalr (hd : Hdr) (a : BitVec 5) (b : BitVec 5)
  /-- RET (R111): Returns to the packet index held in s31. -/
  | ret (hd : Hdr)
  /-- LOOP (R115): Pushes a hardware loop whose count is in sB and whose body length is I9, or skips the body when the count is 0. -/
  | loop (hd : Hdr) (b : BitVec 5) (l : BitVec 9)
  /-- LOOPI (R115): Pushes a hardware loop with an immediate count and body length. -/
  | loopi (hd : Hdr) (k : BitVec 10) (l : BitVec 9)
  /-- PAND (R109): Lane-wise AND of two predicates. -/
  | pand (hd : Hdr) (a : BitVec 4) (b : BitVec 4) (x : BitVec 4)
  /-- POR (R109): Lane-wise OR of two predicates. -/
  | por (hd : Hdr) (a : BitVec 4) (b : BitVec 4) (x : BitVec 4)
  /-- PXOR (R109): Lane-wise exclusive OR of two predicates. -/
  | pxor (hd : Hdr) (a : BitVec 4) (b : BitVec 4) (x : BitVec 4)
  /-- PANDN (R109): Lane-wise B AND NOT C of predicates. -/
  | pandn (hd : Hdr) (a : BitVec 4) (b : BitVec 4) (x : BitVec 4)
  /-- PNOT (R109): Lane-wise NOT of a predicate. -/
  | pnot (hd : Hdr) (a : BitVec 4) (b : BitVec 4)
  /-- PMOV (R109): Copies a predicate. -/
  | pmov (hd : Hdr) (a : BitVec 4) (b : BitVec 4)
  /-- PSET (R109): Sets every lane of a predicate. -/
  | pset (hd : Hdr) (a : BitVec 4)
  /-- PCLR (R109): Clears every lane of a predicate. -/
  | pclr (hd : Hdr) (a : BitVec 4)
  /-- PCNT (R109): Writes the number of set lanes of a predicate into a scalar. -/
  | pcnt (hd : Hdr) (a : BitVec 5) (b : BitVec 4)
  /-- PFIRST (R109): Writes the index of the lowest set lane of a predicate, or 64, into a scalar. -/
  | pfirst (hd : Hdr) (a : BitVec 5) (b : BitVec 4)
  /-- LD8 (R140): Loads a sign-extended byte and writes the residency flags into p15. -/
  | ld8 (hd : Hdr) (a : BitVec 5) (b : BitVec 5) (d : BitVec 6)
  /-- LD8U (R140): Loads a zero-extended byte. -/
  | ld8u (hd : Hdr) (a : BitVec 5) (b : BitVec 5) (d : BitVec 6)
  /-- LD16 (R140): Loads a sign-extended halfword. -/
  | ld16 (hd : Hdr) (a : BitVec 5) (b : BitVec 5) (d : BitVec 6)
  /-- LD16U (R140): Loads a zero-extended halfword. -/
  | ld16u (hd : Hdr) (a : BitVec 5) (b : BitVec 5) (d : BitVec 6)
  /-- LD32 (R140): Loads a sign-extended word. -/
  | ld32 (hd : Hdr) (a : BitVec 5) (b : BitVec 5) (d : BitVec 6)
  /-- LD32U (R140): Loads a zero-extended word. -/
  | ld32u (hd : Hdr) (a : BitVec 5) (b : BitVec 5) (d : BitVec 6)
  /-- LD64 (R140): Loads a doubleword. -/
  | ld64 (hd : Hdr) (a : BitVec 5) (b : BitVec 5) (d : BitVec 6)
  /-- ST8 (R140): Stores sA[7:0], checking and changing ownership. -/
  | st8 (hd : Hdr) (a : BitVec 5) (b : BitVec 5) (d : BitVec 6)
  /-- ST16 (R140): Stores sA[15:0]. -/
  | st16 (hd : Hdr) (a : BitVec 5) (b : BitVec 5) (d : BitVec 6)
  /-- ST32 (R140): Stores sA[31:0]. -/
  | st32 (hd : Hdr) (a : BitVec 5) (b : BitVec 5) (d : BitVec 6)
  /-- ST64 (R140): Stores sA. -/
  | st64 (hd : Hdr) (a : BitVec 5) (b : BitVec 5) (d : BitVec 6)
  /-- LDF (R145): Waits for a full word, reads it and leaves it full. -/
  | ldf (hd : Hdr) (a : BitVec 5) (b : BitVec 5) (d : BitVec 6)
  /-- LDE (R145): Waits for a full word, reads it and leaves it empty. -/
  | lde (hd : Hdr) (a : BitVec 5) (b : BitVec 5) (d : BitVec 6)
  /-- STF (R145): Waits for an empty word, writes it and leaves it full. -/
  | stf (hd : Hdr) (a : BitVec 5) (b : BitVec 5) (d : BitVec 6)
  /-- STFO (R145): Writes a word and leaves it full, without waiting. -/
  | stfo (hd : Hdr) (a : BitVec 5) (b : BitVec 5) (d : BitVec 6)
  /-- FE_REQUEST_SERVED (R145): A full/empty word waiting at the slice port is performed once its condition holds, and its group then issues. -/
  | feRequestServed
  /-- VLD_RAW (R141): Loads 256 bytes into a vector register with the raw tag. -/
  | vldRaw (hd : Hdr) (a : BitVec 5) (b : BitVec 5) (d : BitVec 6)
  /-- VLD_F32 (R141): Loads 256 bytes into a vector register with the f32 tag. -/
  | vldF32 (hd : Hdr) (a : BitVec 5) (b : BitVec 5) (d : BitVec 6)
  /-- VLD_BF16 (R141): Loads a vector register with the bf16 tag. -/
  | vldBf16 (hd : Hdr) (a : BitVec 5) (b : BitVec 5) (d : BitVec 6)
  /-- VLD_I32 (R141): Loads a vector register with the i32 tag. -/
  | vldI32 (hd : Hdr) (a : BitVec 5) (b : BitVec 5) (d : BitVec 6)
  /-- VLD_I8 (R141): Loads a vector register with the i8 tag. -/
  | vldI8 (hd : Hdr) (a : BitVec 5) (b : BitVec 5) (d : BitVec 6)
  /-- VLD_UI8 (R141): Loads a vector register with the ui8 tag. -/
  | vldUi8 (hd : Hdr) (a : BitVec 5) (b : BitVec 5) (d : BitVec 6)
  /-- VLD_HT8 (R141): Loads a vector register with the ht8 tag. -/
  | vldHt8 (hd : Hdr) (a : BitVec 5) (b : BitVec 5) (d : BitVec 6)
  /-- VLD_VTAG (R141): Loads a vector register tagged from VTAG, widening 192 packed bytes when the format is ht6. -/
  | vldVtag (hd : Hdr) (a : BitVec 5) (b : BitVec 5) (d : BitVec 6)
  /-- VST (R142): Stores the 256 bytes of a vector register as held. -/
  | vst (hd : Hdr) (a : BitVec 5) (b : BitVec 5) (d : BitVec 6)
  /-- VST_HT6 (R142): Stores an ht6 vector register packed into 192 bytes. -/
  | vstHt6 (hd : Hdr) (a : BitVec 5) (b : BitVec 5) (d : BitVec 6)
  /-- VLDG (R143): Gathers 64 lanes through signed offsets, with residency flags in a named predicate. -/
  | vldg (hd : Hdr) (a : BitVec 5) (b : BitVec 5) (x : BitVec 5) (r : BitVec 4)
  /-- VSTS (R144): Scatters 64 lanes in increasing lane order after checking every lane. -/
  | vsts (hd : Hdr) (a : BitVec 5) (b : BitVec 5) (x : BitVec 5)
  /-- ATOM32_ADD (R147): 32-bit atomic add at the memory port. -/
  | atom32Add (hd : Hdr) (a : BitVec 5) (b : BitVec 5) (x : BitVec 5)
  /-- ATOM32_AND (R147): 32-bit atomic AND. -/
  | atom32And (hd : Hdr) (a : BitVec 5) (b : BitVec 5) (x : BitVec 5)
  /-- ATOM32_OR (R147): 32-bit atomic OR. -/
  | atom32Or (hd : Hdr) (a : BitVec 5) (b : BitVec 5) (x : BitVec 5)
  /-- ATOM32_XOR (R147): 32-bit atomic exclusive OR. -/
  | atom32Xor (hd : Hdr) (a : BitVec 5) (b : BitVec 5) (x : BitVec 5)
  /-- ATOM32_MIN (R147): 32-bit atomic signed minimum. -/
  | atom32Min (hd : Hdr) (a : BitVec 5) (b : BitVec 5) (x : BitVec 5)
  /-- ATOM32_MAX (R147): 32-bit atomic signed maximum. -/
  | atom32Max (hd : Hdr) (a : BitVec 5) (b : BitVec 5) (x : BitVec 5)
  /-- ATOM32_MINU (R147): 32-bit atomic unsigned minimum. -/
  | atom32Minu (hd : Hdr) (a : BitVec 5) (b : BitVec 5) (x : BitVec 5)
  /-- ATOM32_MAXU (R147): 32-bit atomic unsigned maximum. -/
  | atom32Maxu (hd : Hdr) (a : BitVec 5) (b : BitVec 5) (x : BitVec 5)
  /-- ATOM32_SWAP (R147): 32-bit atomic swap. -/
  | atom32Swap (hd : Hdr) (a : BitVec 5) (b : BitVec 5) (x : BitVec 5)
  /-- ATOM32_CAS (R147): 32-bit atomic compare-and-swap against sA. -/
  | atom32Cas (hd : Hdr) (a : BitVec 5) (b : BitVec 5) (x : BitVec 5)
  /-- ATOM32_FADD (R147): 32-bit atomic binary32 add with flags. -/
  | atom32Fadd (hd : Hdr) (a : BitVec 5) (b : BitVec 5) (x : BitVec 5)
  /-- ATOM32_FMIN (R147): 32-bit atomic fmin. -/
  | atom32Fmin (hd : Hdr) (a : BitVec 5) (b : BitVec 5) (x : BitVec 5)
  /-- ATOM32_FMAX (R147): 32-bit atomic fmax. -/
  | atom32Fmax (hd : Hdr) (a : BitVec 5) (b : BitVec 5) (x : BitVec 5)
  /-- ATOM64_ADD (R147): 64-bit atomic add. -/
  | atom64Add (hd : Hdr) (a : BitVec 5) (b : BitVec 5) (x : BitVec 5)
  /-- ATOM64_AND (R147): 64-bit atomic AND. -/
  | atom64And (hd : Hdr) (a : BitVec 5) (b : BitVec 5) (x : BitVec 5)
  /-- ATOM64_OR (R147): 64-bit atomic OR. -/
  | atom64Or (hd : Hdr) (a : BitVec 5) (b : BitVec 5) (x : BitVec 5)
  /-- ATOM64_XOR (R147): 64-bit atomic exclusive OR. -/
  | atom64Xor (hd : Hdr) (a : BitVec 5) (b : BitVec 5) (x : BitVec 5)
  /-- ATOM64_MIN (R147): 64-bit atomic signed minimum. -/
  | atom64Min (hd : Hdr) (a : BitVec 5) (b : BitVec 5) (x : BitVec 5)
  /-- ATOM64_MAX (R147): 64-bit atomic signed maximum. -/
  | atom64Max (hd : Hdr) (a : BitVec 5) (b : BitVec 5) (x : BitVec 5)
  /-- ATOM64_MINU (R147): 64-bit atomic unsigned minimum. -/
  | atom64Minu (hd : Hdr) (a : BitVec 5) (b : BitVec 5) (x : BitVec 5)
  /-- ATOM64_MAXU (R147): 64-bit atomic unsigned maximum. -/
  | atom64Maxu (hd : Hdr) (a : BitVec 5) (b : BitVec 5) (x : BitVec 5)
  /-- ATOM64_SWAP (R147): 64-bit atomic swap. -/
  | atom64Swap (hd : Hdr) (a : BitVec 5) (b : BitVec 5) (x : BitVec 5)
  /-- ATOM64_CAS (R147): 64-bit atomic compare-and-swap. -/
  | atom64Cas (hd : Hdr) (a : BitVec 5) (b : BitVec 5) (x : BitVec 5)
  /-- FADDG (R150): Atomically hands out the next chunk of an index range from a 16-byte counter. -/
  | faddg (hd : Hdr) (a : BitVec 5) (b : BitVec 5) (x : BitVec 5)
  /-- ATOMIC_ACKNOWLEDGEMENT (R149): The acknowledgement of an atomic returns, landing its old value or ORing its flags into FSTAT[11:8], and releasing held core accesses. -/
  | atomicAcknowledgement (k : Nat) (flags : BitVec 4)
  /-- FENCE (R153): Orders accesses on the masked paths at the given scope, acting as both release and acquire. -/
  | fence (hd : Hdr) (s : BitVec 3) (m : BitVec 6)
  /-- REL (R151): Makes every granule of a scratchpad range PUB, in increasing address order. -/
  | rel (hd : Hdr) (b : BitVec 5) (x : BitVec 5)
  /-- OWN_RET (R151): Returns every granule of a scratchpad range to OPEN. -/
  | ownRet (hd : Hdr) (b : BitVec 5) (x : BitVec 5)
  /-- VALU_ADD (R124): Lane-wise 32-bit add of two vectors. -/
  | valuAdd (hd : Hdr) (a : BitVec 5) (b : BitVec 5) (x : BitVec 5)
  /-- VALU_SUB (R124): Lane-wise subtract. -/
  | valuSub (hd : Hdr) (a : BitVec 5) (b : BitVec 5) (x : BitVec 5)
  /-- VALU_AND (R124): Lane-wise AND, keeping vB's tag. -/
  | valuAnd (hd : Hdr) (a : BitVec 5) (b : BitVec 5) (x : BitVec 5)
  /-- VALU_OR (R124): Lane-wise OR. -/
  | valuOr (hd : Hdr) (a : BitVec 5) (b : BitVec 5) (x : BitVec 5)
  /-- VALU_XOR (R124): Lane-wise exclusive OR. -/
  | valuXor (hd : Hdr) (a : BitVec 5) (b : BitVec 5) (x : BitVec 5)
  /-- VALU_ANDN (R124): Lane-wise AND NOT. -/
  | valuAndn (hd : Hdr) (a : BitVec 5) (b : BitVec 5) (x : BitVec 5)
  /-- VALU_SLL (R124): Lane-wise left shift. -/
  | valuSll (hd : Hdr) (a : BitVec 5) (b : BitVec 5) (x : BitVec 5)
  /-- VALU_SRL (R124): Lane-wise logical right shift. -/
  | valuSrl (hd : Hdr) (a : BitVec 5) (b : BitVec 5) (x : BitVec 5)
  /-- VALU_SRA (R124): Lane-wise arithmetic right shift. -/
  | valuSra (hd : Hdr) (a : BitVec 5) (b : BitVec 5) (x : BitVec 5)
  /-- VALU_MUL (R124): Lane-wise low 32 bits of the product. -/
  | valuMul (hd : Hdr) (a : BitVec 5) (b : BitVec 5) (x : BitVec 5)
  /-- VALU_MULH (R124): Lane-wise high 32 bits of the signed product. -/
  | valuMulh (hd : Hdr) (a : BitVec 5) (b : BitVec 5) (x : BitVec 5)
  /-- VALU_MULHU (R124): Lane-wise high 32 bits of the unsigned product. -/
  | valuMulhu (hd : Hdr) (a : BitVec 5) (b : BitVec 5) (x : BitVec 5)
  /-- VALU_MIN (R124): Lane-wise signed minimum. -/
  | valuMin (hd : Hdr) (a : BitVec 5) (b : BitVec 5) (x : BitVec 5)
  /-- VALU_MAX (R124): Lane-wise signed maximum. -/
  | valuMax (hd : Hdr) (a : BitVec 5) (b : BitVec 5) (x : BitVec 5)
  /-- VALU_MINU (R124): Lane-wise unsigned minimum. -/
  | valuMinu (hd : Hdr) (a : BitVec 5) (b : BitVec 5) (x : BitVec 5)
  /-- VALU_MAXU (R124): Lane-wise unsigned maximum. -/
  | valuMaxu (hd : Hdr) (a : BitVec 5) (b : BitVec 5) (x : BitVec 5)
  /-- VALUS_ADD (R124): Lane-wise add of a vector and sC[31:0]. -/
  | valusAdd (hd : Hdr) (a : BitVec 5) (b : BitVec 5) (x : BitVec 5)
  /-- VALUS_SUB (R124): Lane-wise subtract of a scalar. -/
  | valusSub (hd : Hdr) (a : BitVec 5) (b : BitVec 5) (x : BitVec 5)
  /-- VALUS_AND (R124): Lane-wise AND with a scalar. -/
  | valusAnd (hd : Hdr) (a : BitVec 5) (b : BitVec 5) (x : BitVec 5)
  /-- VALUS_OR (R124): Lane-wise OR with a scalar. -/
  | valusOr (hd : Hdr) (a : BitVec 5) (b : BitVec 5) (x : BitVec 5)
  /-- VALUS_XOR (R124): Lane-wise exclusive OR with a scalar. -/
  | valusXor (hd : Hdr) (a : BitVec 5) (b : BitVec 5) (x : BitVec 5)
  /-- VALUS_ANDN (R124): Lane-wise AND NOT with a scalar. -/
  | valusAndn (hd : Hdr) (a : BitVec 5) (b : BitVec 5) (x : BitVec 5)
  /-- VALUS_SLL (R124): Lane-wise left shift by a scalar. -/
  | valusSll (hd : Hdr) (a : BitVec 5) (b : BitVec 5) (x : BitVec 5)
  /-- VALUS_SRL (R124): Lane-wise logical right shift by a scalar. -/
  | valusSrl (hd : Hdr) (a : BitVec 5) (b : BitVec 5) (x : BitVec 5)
  /-- VALUS_SRA (R124): Lane-wise arithmetic right shift by a scalar. -/
  | valusSra (hd : Hdr) (a : BitVec 5) (b : BitVec 5) (x : BitVec 5)
  /-- VALUS_MUL (R124): Lane-wise low product with a scalar. -/
  | valusMul (hd : Hdr) (a : BitVec 5) (b : BitVec 5) (x : BitVec 5)
  /-- VALUS_MULH (R124): Lane-wise signed high product with a scalar. -/
  | valusMulh (hd : Hdr) (a : BitVec 5) (b : BitVec 5) (x : BitVec 5)
  /-- VALUS_MULHU (R124): Lane-wise unsigned high product with a scalar. -/
  | valusMulhu (hd : Hdr) (a : BitVec 5) (b : BitVec 5) (x : BitVec 5)
  /-- VALUS_MIN (R124): Lane-wise signed minimum with a scalar. -/
  | valusMin (hd : Hdr) (a : BitVec 5) (b : BitVec 5) (x : BitVec 5)
  /-- VALUS_MAX (R124): Lane-wise signed maximum with a scalar. -/
  | valusMax (hd : Hdr) (a : BitVec 5) (b : BitVec 5) (x : BitVec 5)
  /-- VALUS_MINU (R124): Lane-wise unsigned minimum with a scalar. -/
  | valusMinu (hd : Hdr) (a : BitVec 5) (b : BitVec 5) (x : BitVec 5)
  /-- VALUS_MAXU (R124): Lane-wise unsigned maximum with a scalar. -/
  | valusMaxu (hd : Hdr) (a : BitVec 5) (b : BitVec 5) (x : BitVec 5)
  /-- FADD (R125): Lane-wise binary32 addition. -/
  | fadd (hd : Hdr) (a : BitVec 5) (b : BitVec 5) (x : BitVec 5)
  /-- FSUB (R125): Lane-wise binary32 subtraction. -/
  | fsub (hd : Hdr) (a : BitVec 5) (b : BitVec 5) (x : BitVec 5)
  /-- FMUL (R125): Lane-wise binary32 multiplication. -/
  | fmul (hd : Hdr) (a : BitVec 5) (b : BitVec 5) (x : BitVec 5)
  /-- FMIN (R125): Lane-wise fmin by R49. -/
  | fmin (hd : Hdr) (a : BitVec 5) (b : BitVec 5) (x : BitVec 5)
  /-- FMAX (R125): Lane-wise fmax by R49. -/
  | fmax (hd : Hdr) (a : BitVec 5) (b : BitVec 5) (x : BitVec 5)
  /-- FABS (R125): Clears the sign bit in each lane. -/
  | fabs (hd : Hdr) (a : BitVec 5) (b : BitVec 5)
  /-- FNEG (R125): Inverts the sign bit in each lane. -/
  | fneg (hd : Hdr) (a : BitVec 5) (b : BitVec 5)
  /-- FSQRT (R48): Correctly rounded square root in each lane. -/
  | fsqrt (hd : Hdr) (a : BitVec 5) (b : BitVec 5)
  /-- FRCP (R48): Correctly rounded reciprocal. -/
  | frcp (hd : Hdr) (a : BitVec 5) (b : BitVec 5)
  /-- FRSQ (R48): Correctly rounded reciprocal square root. -/
  | frsq (hd : Hdr) (a : BitVec 5) (b : BitVec 5)
  /-- FEXP2 (R48): Correctly rounded base-2 exponential. -/
  | fexp2 (hd : Hdr) (a : BitVec 5) (b : BitVec 5)
  /-- FLOG2 (R48): Correctly rounded base-2 logarithm. -/
  | flog2 (hd : Hdr) (a : BitVec 5) (b : BitVec 5)
  /-- FMA (R126): Fused B×C + A with one rounding. -/
  | fma (hd : Hdr) (a : BitVec 5) (b : BitVec 5) (x : BitVec 5)
  /-- FMS (R126): Fused B×C − A. -/
  | fms (hd : Hdr) (a : BitVec 5) (b : BitVec 5) (x : BitVec 5)
  /-- FNMA (R126): Fused A − B×C. -/
  | fnma (hd : Hdr) (a : BitVec 5) (b : BitVec 5) (x : BitVec 5)
  /-- VCMP_EQ (R127): Per-lane bit equality into a predicate lane. -/
  | vcmpEq (hd : Hdr) (a : BitVec 4) (b : BitVec 5) (x : BitVec 5)
  /-- VCMP_NE (R127): Per-lane bit inequality. -/
  | vcmpNe (hd : Hdr) (a : BitVec 4) (b : BitVec 5) (x : BitVec 5)
  /-- VCMP_LT (R127): Per-lane signed less-than. -/
  | vcmpLt (hd : Hdr) (a : BitVec 4) (b : BitVec 5) (x : BitVec 5)
  /-- VCMP_LE (R127): Per-lane signed less-or-equal. -/
  | vcmpLe (hd : Hdr) (a : BitVec 4) (b : BitVec 5) (x : BitVec 5)
  /-- VCMP_LTU (R127): Per-lane unsigned less-than. -/
  | vcmpLtu (hd : Hdr) (a : BitVec 4) (b : BitVec 5) (x : BitVec 5)
  /-- VCMP_FEQ (R127): Per-lane float equality, false on NaN. -/
  | vcmpFeq (hd : Hdr) (a : BitVec 4) (b : BitVec 5) (x : BitVec 5)
  /-- VCMP_FLT (R127): Per-lane float less-than, raising NV on NaN. -/
  | vcmpFlt (hd : Hdr) (a : BitVec 4) (b : BitVec 5) (x : BitVec 5)
  /-- VCMP_FLE (R127): Per-lane float less-or-equal, raising NV on NaN. -/
  | vcmpFle (hd : Hdr) (a : BitVec 4) (b : BitVec 5) (x : BitVec 5)
  /-- VCMP_FUNORD (R127): Per-lane test that either operand is NaN. -/
  | vcmpFunord (hd : Hdr) (a : BitVec 4) (b : BitVec 5) (x : BitVec 5)
  /-- VCVT_F32_I32 (R128): Converts i32 lanes to f32. -/
  | vcvtF32I32 (hd : Hdr) (a : BitVec 5) (b : BitVec 5) (z : BitVec 1)
  /-- VCVT_I32_F32 (R128): Converts f32 lanes to i32 with clamping. -/
  | vcvtI32F32 (hd : Hdr) (a : BitVec 5) (b : BitVec 5) (z : BitVec 1)
  /-- VCVT_BF16_F32 (R130): Narrows f32 lanes into one bf16 half of each destination lane, merging. -/
  | vcvtBf16F32 (hd : Hdr) (a : BitVec 5) (b : BitVec 5) (t : BitVec 2) (z : BitVec 1)
  /-- VCVT_F32_BF16 (R129): Widens one bf16 half of each lane to f32. -/
  | vcvtF32Bf16 (hd : Hdr) (a : BitVec 5) (b : BitVec 5) (t : BitVec 2)
  /-- VCVT_E4M3_F32 (R130): Narrows f32 lanes into one e4m3 element of each lane. -/
  | vcvtE4m3F32 (hd : Hdr) (a : BitVec 5) (b : BitVec 5) (t : BitVec 2) (z : BitVec 1)
  /-- VCVT_F32_E4M3 (R129): Widens one e4m3 element of each lane to f32. -/
  | vcvtF32E4m3 (hd : Hdr) (a : BitVec 5) (b : BitVec 5) (t : BitVec 2)
  /-- VCVT_E5M2_F32 (R130): Narrows f32 lanes into one e5m2 element. -/
  | vcvtE5m2F32 (hd : Hdr) (a : BitVec 5) (b : BitVec 5) (t : BitVec 2) (z : BitVec 1)
  /-- VCVT_F32_E5M2 (R129): Widens one e5m2 element to f32. -/
  | vcvtF32E5m2 (hd : Hdr) (a : BitVec 5) (b : BitVec 5) (t : BitVec 2)
  /-- VCVT_E2M1_F32 (R129): Narrows an f32 register pair into two e2m1 nibbles of each lane. -/
  | vcvtE2m1F32 (hd : Hdr) (a : BitVec 5) (b : BitVec 5) (t : BitVec 2) (z : BitVec 1)
  /-- VCVT_F32_E2M1 (R129): Widens two e2m1 nibbles of each lane into an f32 register pair. -/
  | vcvtF32E2m1 (hd : Hdr) (a : BitVec 5) (b : BitVec 5) (t : BitVec 2)
  /-- VCVT_HT8_F32 (R130): Narrows f32 lanes into one ht8 element, rounding by R39. -/
  | vcvtHt8F32 (hd : Hdr) (a : BitVec 5) (b : BitVec 5) (t : BitVec 2)
  /-- VCVT_F32_HT8 (R129): Widens one ht8 element to f32. -/
  | vcvtF32Ht8 (hd : Hdr) (a : BitVec 5) (b : BitVec 5) (t : BitVec 2)
  /-- VCVT_HT6_F32 (R130): Narrows f32 lanes into one ht6 container. -/
  | vcvtHt6F32 (hd : Hdr) (a : BitVec 5) (b : BitVec 5) (t : BitVec 2)
  /-- VCVT_F32_HT6 (R129): Widens one ht6 element to f32. -/
  | vcvtF32Ht6 (hd : Hdr) (a : BitVec 5) (b : BitVec 5) (t : BitVec 2)
  /-- VCVT_I32_I8 (R130): Widens one i8 or ui8 element of each lane to i32. -/
  | vcvtI32I8 (hd : Hdr) (a : BitVec 5) (b : BitVec 5) (t : BitVec 2)
  /-- VCVT_I8_I32 (R130): Narrows i32 lanes with clamping into one i8 or ui8 element. -/
  | vcvtI8I32 (hd : Hdr) (a : BitVec 5) (b : BitVec 5) (u : BitVec 1) (t : BitVec 2) (z : BitVec 1)
  /-- VRED_SUM_I32 (R131): Pairwise-tree wrapping integer sum of the active lanes into a scalar. -/
  | vredSumI32 (hd : Hdr) (a : BitVec 5) (b : BitVec 5)
  /-- VRED_SUM_F32 (R131): Pairwise-tree binary32 sum of the active lanes, with flags. -/
  | vredSumF32 (hd : Hdr) (a : BitVec 5) (b : BitVec 5)
  /-- VRED_MIN (R131): Signed minimum reduction. -/
  | vredMin (hd : Hdr) (a : BitVec 5) (b : BitVec 5)
  /-- VRED_MAX (R131): Signed maximum reduction. -/
  | vredMax (hd : Hdr) (a : BitVec 5) (b : BitVec 5)
  /-- VRED_FMIN (R131): fmin reduction. -/
  | vredFmin (hd : Hdr) (a : BitVec 5) (b : BitVec 5)
  /-- VRED_FMAX (R131): fmax reduction. -/
  | vredFmax (hd : Hdr) (a : BitVec 5) (b : BitVec 5)
  /-- VRED_AND (R131): Bitwise AND reduction. -/
  | vredAnd (hd : Hdr) (a : BitVec 5) (b : BitVec 5)
  /-- VRED_OR (R131): Bitwise OR reduction. -/
  | vredOr (hd : Hdr) (a : BitVec 5) (b : BitVec 5)
  /-- VPERM (R132): Permutes lanes by the indices in vC. -/
  | vperm (hd : Hdr) (a : BitVec 5) (b : BitVec 5) (x : BitVec 5)
  /-- VROT (R132): Rotates lanes by sC[5:0]. -/
  | vrot (hd : Hdr) (a : BitVec 5) (b : BitVec 5) (x : BitVec 5)
  /-- VBCAST (R132): Broadcasts one lane to every lane. -/
  | vbcast (hd : Hdr) (a : BitVec 5) (b : BitVec 5) (x : BitVec 5)
  /-- VEXT (R132): Extracts one lane into a scalar. -/
  | vext (hd : Hdr) (a : BitVec 5) (b : BitVec 5) (x : BitVec 5)
  /-- VINS (R132): Inserts sB[31:0] into one lane of vA without writing the tag. -/
  | vins (hd : Hdr) (a : BitVec 5) (b : BitVec 5) (x : BitVec 5)
  /-- VCOMPRESS (R132): Packs the lanes selected by a predicate into the low lanes. -/
  | vcompress (hd : Hdr) (a : BitVec 5) (b : BitVec 5) (x : BitVec 4)
  /-- VEXPAND (R132): Spreads the low lanes into the lanes selected by a predicate. -/
  | vexpand (hd : Hdr) (a : BitVec 5) (b : BitVec 5) (x : BitVec 4)
  /-- VID (R132): Writes each lane's index, tagged i32. -/
  | vid (hd : Hdr) (a : BitVec 5)
  /-- VSPLAT (R133): Writes a sign-extended 14-bit constant into every active lane, tagged i32. -/
  | vsplat (hd : Hdr) (a : BitVec 5) (i : BitVec 14)
  /-- TLD_CHK (R159): Loads a contiguous checked tile, recomputes its sums and verifies them against the trailer. -/
  | tldChk (hd : Hdr) (d : BitVec 4) (b : BitVec 5) (f : BitVec 4)
  /-- TLD_GEN (R159): Loads a tile, contiguous or strided, and generates its sums without reading a trailer. -/
  | tldGen (hd : Hdr) (d : BitVec 4) (b : BitVec 5) (s : BitVec 5) (f : BitVec 4)
  /-- TST_CHK (R160): Stores a CV=1 tile with its register sums as the trailer. -/
  | tstChk (hd : Hdr) (d : BitVec 4) (b : BitVec 5) (f : BitVec 4)
  /-- TST_GEN (R160): Stores a tile with a recomputed trailer, or rows and scales only when strided. -/
  | tstGen (hd : Hdr) (d : BitVec 4) (b : BitVec 5) (s : BitVec 5) (f : BitVec 4)
  /-- TLDS (R161): Loads the shadow plane W′ and the checksum-row unit's copy from a CV=1 tile. -/
  | tlds (hd : Hdr) (a : BitVec 4)
  /-- MMA (R163): Multiplies a feed tile by the stationary plane W, forming predictions, fresh or accumulating into TD. -/
  | mma (hd : Hdr) (d : BitVec 4) (a : BitVec 4) (e : BitVec 1) (s : BitVec 1) (w : BitVec 1) (v : BitVec 1) (t : BitVec 1)
  /-- MMA_CB (R165): Matrix multiply whose feed is one verified element taken from a circular-buffer slot. -/
  | mmaCb (hd : Hdr) (d : BitVec 4) (k : BitVec 4) (e : BitVec 1) (s : BitVec 1) (w : BitVec 1) (v : BitVec 1) (t : BitVec 1)
  /-- TSWAP (R161): Exchanges W and W′ in the planes and the checksum-row unit at once. -/
  | tswap (hd : Hdr)
  /-- TZERO (R168): Zeroes a tile and all its sum storage with the given format, CV=1 and NACC=0. -/
  | tzero (hd : Hdr) (d : BitVec 4) (f : BitVec 4)
  /-- TMARK (R73): Records the packet index and loop state as the tile's mark. -/
  | tmark (hd : Hdr) (d : BitVec 4)
  /-- TDRAIN (R64): Compares actual sums with predictions and corrects, repairs or traps, leaving the tile drained. -/
  | tdrain (hd : Hdr) (d : BitVec 4)
  /-- TCVT (R169): Converts a verified tile into another format in two lanes that must agree. -/
  | tcvt (hd : Hdr) (d : BitVec 4) (a : BitVec 4) (f : BitVec 4) (z : BitVec 1)
  /-- TTR (R170): Transposes an f32 or i32 tile, exchanging its sums. -/
  | ttr (hd : Hdr) (d : BitVec 4) (a : BitVec 4)
  /-- TCHK (R166): Checks a tile's sums without changing anything. -/
  | tchk (hd : Hdr) (a : BitVec 4)
  /-- TMOV (R168): Copies a tile with its tag, NACC and sum storage, keeping TD's mark. -/
  | tmov (hd : Hdr) (d : BitVec 4) (a : BitVec 4)
  /-- TADD (R171): Adds two accumulator tiles element-wise and combines their predictions. -/
  | tadd (hd : Hdr) (d : BitVec 4) (a : BitVec 4) (b : BitVec 4)
  /-- TDRQ (R167): Drains an i32 accumulator and requantises it into an i8 or ui8 tile. -/
  | tdrq (hd : Hdr) (d : BitVec 4) (a : BitVec 4) (v : BitVec 5) (f : BitVec 4) (e : BitVec 1)
  /-- TRGET (R172): Copies one tile row into a vector register. -/
  | trget (hd : Hdr) (t : BitVec 4) (x : BitVec 5) (y : BitVec 5)
  /-- TRSET (R172): Writes a vector register into one tile row and clears CV and NACC. -/
  | trset (hd : Hdr) (t : BitVec 4) (x : BitVec 5) (y : BitVec 5)
  /-- TCSUM (R172): Copies 64 column-sum words into a vector register. -/
  | tcsum (hd : Hdr) (t : BitVec 4) (x : BitVec 5) (y : BitVec 5)
  /-- TRSUM (R172): Copies the row-sum column into a vector register. -/
  | trsum (hd : Hdr) (t : BitVec 4) (x : BitVec 5)
  /-- TINJ (R173): With the debug bit set, XORs a value into one word of a tile without changing its sums. -/
  | tinj (hd : Hdr) (t : BitVec 4) (x : BitVec 5) (y : BitVec 5)
  /-- TSTAT (R174): Reads one 64-bit word of a tile's status word into a scalar. -/
  | tstat (hd : Hdr) (t : BitVec 4) (x : BitVec 5) (y : BitVec 5)
  /-- X_WORD_START (R156): An issued X word starts once its resource is free and every earlier X word has started. -/
  | xWordStart
  /-- CBDEF (R181): Binds a circular-buffer slot with a role and holder to a descriptor. -/
  | cbdef (hd : Hdr) (a : BitVec 5) (b : BitVec 5)
  /-- CBPUT (R181): Publishes elements, making their granules PUB and advancing PCNT. -/
  | cbput (hd : Hdr) (a : BitVec 5) (b : BitVec 5)
  /-- CBWAIT (R182): Waits for a quantum of elements or room, then returns the count or a status. -/
  | cbwait (hd : Hdr) (a : BitVec 5) (b : BitVec 5)
  /-- CBTAKE (R181): Releases consumed elements back to OPEN and advances CCNT. -/
  | cbtake (hd : Hdr) (a : BitVec 5) (b : BitVec 5)
  /-- CBCLOSE (R181): The producer closes an OPEN buffer. -/
  | cbclose (hd : Hdr) (b : BitVec 5)
  /-- CBST (R181): Returns a slot's count, state, role and holder without waiting. -/
  | cbst (hd : Hdr) (a : BitVec 5) (b : BitVec 5)
  /-- CPY (R185): Queues a strided byte copy with a start delay. -/
  | cpy (hd : Hdr) (a : BitVec 5) (b : BitVec 5) (e : BitVec 6)
  /-- CPYT (R185): Queues a copy of whole checked tiles, verified as they are read. -/
  | cpyt (hd : Hdr) (a : BitVec 5) (b : BitVec 5) (e : BitVec 6)
  /-- CPYA (R188): Arms a copy that fires when its trigger sync word reaches a generation. -/
  | cpya (hd : Hdr) (a : BitVec 5) (b : BitVec 5) (e : BitVec 6)
  /-- CPYC (R187): Queues a lock-step copy of a quantum between circular buffers or memory. -/
  | cpyc (hd : Hdr) (a : BitVec 5) (b : BitVec 5) (e : BitVec 6)
  /-- CPYST (R190): Returns the copy engine's state without waiting. -/
  | cpyst (hd : Hdr) (a : BitVec 5)
  /-- COPY_OPERATION_START (R186): A queued copy starts at the later of its delay and its predecessor's completion, and is charged to the copy budget. -/
  | copyOperationStart
  /-- CPYC_HOLD_END (R187): The clamp hold of a cpyc start ends when the buffer condition holds, a buffer fault arises, or a trap or pre-emption arrives. -/
  | cpycHoldEnd
  /-- COPY_OPERATION_COMPLETE (R186): A copy completes, publishing its destination, applying buffer counts and counting its bytes on SYNC. -/
  | copyOperationComplete
  /-- CPYA_FIRE (R188): An armed copy fires when its trigger generation is reached, and enters the queue. -/
  | cpyaFire
  /-- COPY_ENGINE_FAULT (R189): The engine stops on a faulting row, publishes the completed prefix, discards its queue and raises an engine fault. -/
  | copyEngineFault
  /-- SINIT (R193): Sets a sync word's TARGET and zeroes its other fields. -/
  | sinit (hd : Hdr) (a : BitVec 5) (b : BitVec 5)
  /-- SWAIT (R193): Waits until GEN differs from sA, then returns GEN and STATUS. -/
  | swait (hd : Hdr) (a : BitVec 5) (b : BitVec 5)
  /-- SWAIT_Y (R193): As swait, and also an iteration pre-emption point. -/
  | swaitY (hd : Hdr) (a : BitVec 5) (b : BitVec 5)
  /-- SADD (R193): Makes an arrival of sA bytes on a sync word. -/
  | sadd (hd : Hdr) (a : BitVec 5) (b : BitVec 5)
  /-- SSTAT (R193): Returns GEN and STATUS without waiting. -/
  | sstat (hd : Hdr) (a : BitVec 5) (b : BitVec 5)
  /-- WAIT_CONDITION_MET (R178): A waiting E word's condition is seen to hold; the word performs and its group issues. -/
  | waitConditionMet
  /-- RSUB (R224): Submits a record to a stage set and returns its record number. -/
  | rsub (hd : Hdr) (a : BitVec 5) (b : BitVec 5)
  /-- RTAKE (R225): Waits for a record in a stage queue and copies its private copy into the station's buffer. -/
  | rtake (hd : Hdr) (a : BitVec 5) (b : BitVec 5)
  /-- RPASS (R226): Copies back the stage's field range, sets its done bit and ends the hold. -/
  | rpass (hd : Hdr) (b : BitVec 5)
  /-- RDROP (R226): Finishes the held record as dropped and ends the hold. -/
  | rdrop (hd : Hdr) (b : BitVec 5)
  /-- RSIDE (R227): Appends a deferred side-effect entry to the held record. -/
  | rside (hd : Hdr) (a : BitVec 5) (b : BitVec 5)
  /-- RSTAT (R228): Returns the records in flight and retired of a set. -/
  | rstat (hd : Hdr) (a : BitVec 5) (b : BitVec 5)
  /-- STAGE_SET_INSTALL (R220): Firmware installs a stage set, and the router binds itself as the sink's producer and seeds the lottery. -/
  | stageSetInstall (east : Bool) (idx : BitVec 4) (region : W32) (desc : List Byte)
  /-- ROUTING (R229): The router sends the record at the front of the route queue to one undone stage. -/
  | routing (east : Bool) (idx : BitVec 4)
  /-- RETIREMENT (R232): Retires the next finished record in number order, applying side entries and publishing its sink element. -/
  | retirement (east : Bool) (idx : BitVec 4)
  /-- COLL (R195): Queues a collective call on the die's collective engine without waiting. -/
  | coll (hd : Hdr) (a : BitVec 5) (b : BitVec 5)
  /-- CWAIT (R195): Waits until a collective call ends and returns its status. -/
  | cwait (hd : Hdr) (a : BitVec 5) (b : BitVec 5)
  /-- CSTAT (R195): Returns a call's status without waiting. -/
  | cstat (hd : Hdr) (a : BitVec 5) (b : BitVec 5)
  /-- CABORT (R195): Aborts a collective call on every peer. -/
  | cabort (hd : Hdr) (b : BitVec 5)
  /-- COLL_FIRST_PACKET (R258): A peer's first packet arrives and is matched against the call, which starts running once all agree. -/
  | collFirstPacket (block : W64) (rank : Nat) (pkt : FirstPacket)
  /-- COLL_MATCH_TIMEOUT (R258): A call that lacks a peer's first packet after T1 ends with an error. -/
  | collMatchTimeout (block : W64)
  /-- COLL_CHUNK_START (R263): At a chunk boundary, the engine starts the next chunk of the credited call with the highest effective priority. -/
  | collChunkStart (east : Bool) (credited : List W64) (peers : List (List Byte))
  /-- COLL_CHUNK_TIMEOUT (R258): A running call with no chunk progress for T2 ends with an error. -/
  | collChunkTimeout (block : W64)
  /-- COLL_ABORT_RECEIVED (R258): An abort from a peer ends the local call aborted. -/
  | collAbortReceived (block : W64) (rank : Nat)
  /-- COLL_CALL_END (R262): A call ends: the engine writes the block, publishes RECV and advances SYNC by one generation. -/
  | collCallEnd (block : W64)
  /-- LAUNCH (R314): Appends a launch record to a device-fed queue and returns 0, −4 or −8. -/
  | launch (hd : Hdr) (a : BitVec 5) (b : BitVec 5)
  /-- LSTAT (R314): Returns a queue's pending records and binding. -/
  | lstat (hd : Hdr) (a : BitVec 5) (b : BitVec 5)
  /-- WAITT (R197): Waits until TIME reaches sB and returns the LATE and UNLOCKED bits. -/
  | waitt (hd : Hdr) (a : BitVec 5) (b : BitVec 5)
  /-- TNOW (R197): Samples TIME, TIMEF, LOCK and HOLD in one bay cycle. -/
  | tnow (hd : Hdr) (a : BitVec 5) (b : BitVec 5)
  /-- RFENCE (R198): Waits until every earlier reflected write has been applied at every target. -/
  | rfence (hd : Hdr) (a : BitVec 5)
  /-- RFENCEW (R198): As rfence, for one transmit window only. -/
  | rfencew (hd : Hdr) (a : BitVec 5) (b : BitVec 5)
  /-- WSTAT (R198): Returns a window's dead-target mask and first unacknowledged sequence number. -/
  | wstat (hd : Hdr) (a : BitVec 5) (b : BitVec 5)
  /-- PAGEREQ (R338): Requests a non-resident 64 KiB extent page. -/
  | pagereq (hd : Hdr) (a : BitVec 5) (b : BitVec 5)
  /-- PSTAT (R199): Returns a page's residency state, acquiring when it is resident. -/
  | pstat (hd : Hdr) (a : BitVec 5) (b : BitVec 5)
  /-- EXPOSED_RESULT_LANDING (R85): An exposed-latency result lands at the end of its L-th issuing step, writing lanes, tag and flags. -/
  | exposedResultLanding
  /-- SCOREBOARDED_RESULT_LANDING (R84): A scoreboarded result, such as load data, lands and clears the pending mark or busy bits. -/
  | scoreboardedResultLanding (k : Nat)
  /-- LOOK_AHEAD_NULLIFIER (R86): A group whose guards all fail stably is removed in zero steps. -/
  | lookAheadNullifier
  /-- CORRECTABLE_SRAM_ERROR (R334): A single-bit SRAM error is corrected in place and holds the clamp of the accessing bay. -/
  | correctableSramError (reader : SramReader) (bay : Nat)
  /-- CORRECTION_HOLD_END (R8): The 32-cycle clamp hold of a correction expires. -/
  | correctionHoldEnd
  /-- RESIDUE_GUARD_MISMATCH (R69): A residue mismatch makes the unit repeat its operation out of sight, or raises a machine check on a second mismatch. -/
  | residueGuardMismatch (vector : Bool) (again : Bool)
  /-- RESIDUE_HOLD_END (R8): The 8-cycle clamp hold of a V-word repeat expires. -/
  | residueHoldEnd
  /-- TRAP_ENTRY (R316): At a group boundary, captures the snapshot and in-flight queue, enters supervisor mode and jumps to EVEC. -/
  | trapEntry
  /-- PREEMPTION_REQUEST (R318): Dispatch delivers a pre-emption request, taken as class 12 detail 0x20 at the next user-mode group boundary. -/
  | preemptionRequest
  /-- MACHINE_CHECK (R325): An uncorrectable error or guard failure halts the bay, logs to firmware and kills a fault domain. -/
  | machineCheck (src : CheckSource) (detail : BitVec 6) (einfo : W64)
  /-- CTXCMD_SAVE (R326): Op 0 waits for results, stops the copy engine, writes the save area and scans out the array. -/
  | ctxcmdSave
  /-- CTXCMD_RELEASE (R326): Op 1 deschedules the unit as hard-pre-empted and frees the bay. -/
  | ctxcmdRelease
  /-- CTXCMD_FORWARD (R326): Op 2 releases the unit, writes its fault record and has dispatch spawn the fault handler task. -/
  | ctxcmdForward
  /-- REPLY_ABORT (R27): Action 0 aborts the faulting task, and its launch completes FAULTED. -/
  | replyAbort (unit : Nat)
  /-- REPLY_RESUME (R27): Action 1 restores the unit and reissues the words of the faulting group that did not complete. -/
  | replyResume (unit : Nat)
  /-- REPLY_RETRY_FROM_MARK (R73): Action 2 zeroes the tile, rebuilds the loop stack from the mark and resumes at MPC. -/
  | replyRetryFromMark (unit : Nat)
  /-- REPLY_KILL_REGION (R27): Actions 3 to 255 kill the region. -/
  | replyKillRegion (unit : Nat)
  /-- ITERATION_PREEMPTION (R332): Dispatch saves a unit at an iteration boundary, swait.y or yield without trap entry, keeping what R22 lists. -/
  | iterationPreemption
  /-- NODE_PREEMPTION (R332): Dispatch takes a unit between loop records of a command list after its copy queue drains. -/
  | nodePreemption
  /-- TAIL_WRITE (R302): A doorbell write carries a new TAIL, which is applied at the mailbox ordering point or refused. -/
  | tailWrite (fn : Nat) (queue : Nat) (off : Nat) (data : List Byte)
  /-- MAILBOX_WRITE (R217): A host write through the mailbox aperture is applied at the device-scope ordering point; with what the host writes to, and as which function. -/
  | mailboxWrite (fn : HostTarget × Nat) (off : Nat) (data : List Byte)
  /-- HEAD_MIRROR_STORE (R303): Dispatch stores HEAD to the head mirror, at most once per microsecond or at once when the queue empties. -/
  | headMirrorStore (queue : BitVec 12)
  /-- DISPATCH_SLOT_TABLE_WRITE (R304): Firmware binds or unbinds a queue in a dispatch slot-table entry. -/
  | dispatchSlotTableWrite (idx : BitVec 8) (value : W64)
  /-- ACTIVITY_BITMAP_CLEAR (R305): Write-1-to-clear of bits in the activity bitmap of unbound queues. -/
  | activityBitmapClear (idx : BitVec 6) (mask : W64)
  /-- RECORD_TAKE (R308): Dispatch takes a queue's next launch record and judges it. -/
  | recordTake (queue : BitVec 12)
  /-- DEPENDENCY_MET (R308): A launch waiting on its dependency sync word becomes ready when the generation is reached. -/
  | dependencyMet (launch : Nat)
  /-- PLACE_UNIT (R310): Dispatch places or resumes the highest-priority ready unit on a free admitted bay, freeing bays by R311 if needed; with the bay, and the units elsewhere that wait at `swait.y` and for what. -/
  | placeUnit (bay : Nat × List (Nat × W64 × W32))
  /-- PRIORITY_AGEING (R310): A waiting launch gains one effective priority level per 50 µs, up to +3 and never past 19. -/
  | priorityAgeing (launch : Nat)
  /-- SOFT_POINT_TIMEOUT (R311): A victim that reaches no soft point within 2 ms is pre-empted hard. -/
  | softPointTimeout
  /-- GANG_INSTANCE_PLACEMENT (R313): All members of a gang instance are placed together, and their pipe descriptors are written and bound. -/
  | gangInstancePlacement (launch : Nat) (bays : List Nat)
  /-- TT_START_ATTEMPT (R315): At time T a time-triggered launch starts or skips the period, completing after 16 skips. -/
  | ttStartAttempt (launch : Nat)
  /-- READY_WORD (R267): At T − Δ each member chip reflects a ready word for a time-triggered gang start. -/
  | readyWord (launch : Nat)
  /-- LAUNCH_COMPLETION (R309): Dispatch writes the completion block and advances its sync word by one generation; with the launch, and its units on other bays that have completed. -/
  | launchCompletion (launch : Nat × List Nat)
  /-- BUDGET_PERIOD_BOUNDARY (R296): Every 4,000 bay cycles, USED returns to zero and waiting activities are admitted again. -/
  | budgetPeriodBoundary (east : Bool)
  /-- BUDGET_HANDLE_LOAD (R297): Writing HANDLE through BUDGETD loads a counter slot with the region's limits and zeroes its counts, or frees it. -/
  | budgetHandleLoad (east : Bool) (slot : BitVec 6) (handle : W64)
  /-- BUDGET_LIMIT_WRITE (R297): Writing a limit through BUDGETD loads it for the current period. -/
  | budgetLimitWrite (east : Bool) (slot : BitVec 6) (act : Nat) (limit : W32)
  /-- ERRMAP_CLEAR (R341): Setting CLR in ERRMAP zeroes the selected error-map counter word. -/
  | errmapClear (bay : BitVec 8) (index : BitVec 8)
  /-- XTBL_WRITE (R289): A write to XTBL or PASID takes effect for later accesses and drops the bay TLB entries. -/
  | xtblWrite (pasid : Bool) (value : W64)
  /-- MESH_SCHEDULED_FORWARD (R299): In each mesh slot, routers forward packets by reserved entries or by open x-then-y routing. -/
  | meshScheduledForward (inject : List MeshPacket)
  /-- REFLECTED_WRITE_ARRIVAL (R243): An arriving write is resequenced, admitted, applied or combined at the receive window, and counted on its sync word. -/
  | reflectedWriteArrival (write : Arrival)
  /-- ACKNOWLEDGEMENT_SEND (R246): The receiver returns its high-water mark after 32 applied writes or 256 ns. -/
  | acknowledgementSend (src : BitVec 12) (vc : BitVec 4)
  /-- ACKNOWLEDGEMENT_RECEIVE (R246): An acknowledgement reaches the sender and retires its covered writes, freeing allowance. -/
  | acknowledgementReceive (dst : BitVec 12) (vc : BitVec 4) (high : BitVec 32)
  /-- RETRANSMISSION (R246): A write unacknowledged for 4 µs is sent again on the planes still up. -/
  | retransmission (dst : BitVec 12) (vc : BitVec 4)
  /-- PLANE_LOSS (R246): A lost plane is removed from the spray, and its unacknowledged flits are resent on the others. -/
  | planeLoss (plane : BitVec 3)
  /-- PATH_DEATH (R247): A path with a write unacknowledged for 1 ms, or with no plane, dies at both ends. -/
  | pathDeath (sender : Bool) (chip : BitVec 12) (vc : BitVec 4)
  /-- PATH_RESET (R247): Firmware resets both ends of a dead path, and numbering restarts at 0. -/
  | pathReset (chip : BitVec 12) (vc : BitVec 4)
  /-- PTP_SYNC (R266): An IEEE 1588 Sync event message is timestamped and processed; with its domain, master and number. -/
  | ptpSync (seq : Byte × ClockId × BitVec 16) (ingress : W64)
  /-- PTP_FOLLOW_UP (R266): A Follow_Up message carries the Sync timestamp for clock discipline. -/
  | ptpFollowUp (seq : BitVec 16) (origin : W64) (correction : W64)
  /-- PTP_PDELAY_REQ (R266): A Pdelay_Req message is timestamped and answered. -/
  | ptpPdelayReq (seq : BitVec 16) (ingress : W64)
  /-- PTP_PDELAY_RESP (R266): A Pdelay_Resp message is timestamped for the peer delay. -/
  | ptpPdelayResp (seq : BitVec 16) (requestReceipt : W64) (ingress : W64)
  /-- PTP_PDELAY_RESP_FOLLOW_UP (R266): A Pdelay_Resp_Follow_Up message completes the peer delay measurement. -/
  | ptpPdelayRespFollowUp (seq : BitVec 16) (responseOrigin : W64)
  /-- RESDONE (R338): The host driver writes a page address to RESDONE, and firmware sets the page's residency bit; with the function that writes. -/
  | resdone (page : Nat × W64)
  /-- RESFAIL (R338): The host driver writes RESFAIL, and the request is dropped with the page left non-resident; with the function that writes. -/
  | resfail (page : Nat × W64)
  /-- ATS_TRANSLATION_COMPLETION (R339): An ATS answer fills the TLBs or leads to a PRI page request. -/
  | atsTranslationCompletion (pasid : BitVec 20) (va : W64) (size : Nat) (phys : W64) (write : Bool)
  /-- PRI_RESPONSE (R339): A PRI response leads to a repeated ATS request, or to class 6 detail 0x03. -/
  | priResponse (pasid : BitVec 20) (va : W64) (success : Bool)
  /-- PRI_TIMEOUT (R339): No PRI response within 10 ms refuses the store with class 6 detail 0x03. -/
  | priTimeout (pasid : BitVec 20) (va : W64)
  /-- ATS_INVALIDATE_REQUEST (R340): Drops the TLB entries in a range, drains the stores that used them, then returns the Invalidation Completion. -/
  | atsInvalidateRequest (pasid : BitVec 20) (base : W64) (len : Nat)
  /-- ARRAY_SELF_TEST (R342): Firmware runs an array self-test on an idle bay to locate a bad row. -/
  | arraySelfTest (bay : BitVec 8) (badRow : Option (BitVec 6))
  /-- SPARE_ROW_SWITCH (R342): Firmware writes ROWMAP to replace a bad row with a spare under host policy. -/
  | spareRowSwitch (bay : BitVec 8) (spare : Bool) (row : BitVec 6) (soft : Bool)
  /-- BRING_UP (R347): After reset, the boot ROM and firmware verify, configure, train, clear and derive the identity in order. -/
  | bringUp (flash : FlashImage)
  /-- ATTESTATION_REQUEST (R348): A nonce through PF0 yields a signed quote of the measurement chain and log. -/
  | attestationRequest (nonce : BitVec 512)
  /-- THERMAL_THROTTLE (R349): Firmware lowers a die's bay clock in 250 MHz steps above 105 °C, and raises it below 95 °C. -/
  | thermalThrottle (east : Bool) (celsius : Nat)
  /-- WINDOW_ENTRY_INSTALL (R239): Firmware installs or refuses a transmit-window mapping entry or a receive-table entry for one region. -/
  | windowEntryInstall (kind : WindowKind) (id : BitVec 12) (region : W32) (entry : List Byte)
  /-- STAGE_SET_REMOVAL (R233): Firmware removes a stage set, which becomes broken and discards its records in flight. -/
  | stageSetRemoval (east : Bool) (idx : BitVec 4)
  /-- RESIDENCY_BIT_CLEAR (R206): Firmware clears a page's residency bit while no unit of its context is placed. -/
  | residencyBitClear (region : W32) (page : W64)
  /-- REGION_NODE_INSTALL (R292): Firmware installs or changes a region control block node, checking it against its parent; with the log extent that the host driver names, if any. -/
  | regionNodeInstall (addr : W64) (node : List Byte × List (W32 × Nat × Nat))
  /-- QUEUE_TABLE_WRITE (R301): Firmware writes a queue-table entry, creating a queue or making it valid again. -/
  | queueTableWrite (queue : BitVec 12) (entry : List Byte)
  /-- EXTENT_TABLE_INSTALL (R337): Firmware installs or refuses a context's extent descriptor table. -/
  | extentTableInstall (addr : W64) (table : List Byte)
  /-- SLOT_FRAGMENT_INSTALL (R300): Firmware grants mesh slot-table entries and installs a region's slot fragments, rejecting bad ones whole. -/
  | slotFragmentInstall (region : W32) (cslot : BitVec 6) (grant : Bool) (header entries : List Byte)
  /-- HARD_EVICTION (R264): Firmware evicts a region hard, and its collective calls end aborted at the next chunk boundary or within T2. -/
  | hardEviction (region : W32)
  /-- HOLDOVER (R266): A chip loses time lock, sets HOLD and runs its clock free. -/
  | holdover
  /-- REPLAY_INPUT_DELIVERY (R344): In replay mode, the device delivers the next logged mailbox or reflected write from the log. -/
  | replayInputDelivery (region : W32)
  deriving DecidableEq, Repr

end Sys2Proof
end

