-- ==== Sys2Proof/WellFormed.lean ====
section
/-! DEFINITION. The encoding checks that an instruction's own fields can fail (R79, R87, R88, R92), and well-formedness. -/

namespace Sys2Proof

/-- The header of an instruction word; an event has none. -/
def Instr.hdr? : Instr → Option Hdr
  | .nop hd => some hd
  | .halt hd => some hd
  | .exit hd => some hd
  | .trap hd _ => some hd
  | .eret hd => some hd
  | .snapst hd _ => some hd
  | .snapld hd _ => some hd
  | .snaprel hd => some hd
  | .yield hd => some hd
  | .srr hd _ _ => some hd
  | .srw hd _ _ => some hd
  | .brk hd _ => some hd
  | .add hd _ _ _ => some hd
  | .sub hd _ _ _ => some hd
  | .and hd _ _ _ => some hd
  | .or hd _ _ _ => some hd
  | .xor hd _ _ _ => some hd
  | .andn hd _ _ _ => some hd
  | .sll hd _ _ _ => some hd
  | .srl hd _ _ _ => some hd
  | .sra hd _ _ _ => some hd
  | .mul hd _ _ _ => some hd
  | .mulh hd _ _ _ => some hd
  | .mulhu hd _ _ _ => some hd
  | .min hd _ _ _ => some hd
  | .max hd _ _ _ => some hd
  | .minu hd _ _ _ => some hd
  | .maxu hd _ _ _ => some hd
  | .div hd _ _ _ => some hd
  | .divu hd _ _ _ => some hd
  | .rem hd _ _ _ => some hd
  | .remu hd _ _ _ => some hd
  | .clz hd _ _ => some hd
  | .ctz hd _ _ => some hd
  | .popc hd _ _ => some hd
  | .sextB hd _ _ => some hd
  | .sextH hd _ _ => some hd
  | .sextW hd _ _ => some hd
  | .zextW hd _ _ => some hd
  | .bswap hd _ _ => some hd
  | .addi hd _ _ _ => some hd
  | .andi hd _ _ _ => some hd
  | .ori hd _ _ _ => some hd
  | .xori hd _ _ _ => some hd
  | .slli hd _ _ _ => some hd
  | .srli hd _ _ _ => some hd
  | .srai hd _ _ _ => some hd
  | .li hd _ _ => some hd
  | .lsh hd _ _ => some hd
  | .cmpEq hd _ _ _ => some hd
  | .cmpNe hd _ _ _ => some hd
  | .cmpLt hd _ _ _ => some hd
  | .cmpGe hd _ _ _ => some hd
  | .cmpLtu hd _ _ _ => some hd
  | .cmpGeu hd _ _ _ => some hd
  | .cmpeqi hd _ _ _ => some hd
  | .cmplti hd _ _ _ => some hd
  | .cmpltui hd _ _ _ => some hd
  | .br hd _ => some hd
  | .call hd _ => some hd
  | .jr hd _ => some hd
  | .jalr hd _ _ => some hd
  | .ret hd => some hd
  | .loop hd _ _ => some hd
  | .loopi hd _ _ => some hd
  | .pand hd _ _ _ => some hd
  | .por hd _ _ _ => some hd
  | .pxor hd _ _ _ => some hd
  | .pandn hd _ _ _ => some hd
  | .pnot hd _ _ => some hd
  | .pmov hd _ _ => some hd
  | .pset hd _ => some hd
  | .pclr hd _ => some hd
  | .pcnt hd _ _ => some hd
  | .pfirst hd _ _ => some hd
  | .ld8 hd _ _ _ => some hd
  | .ld8u hd _ _ _ => some hd
  | .ld16 hd _ _ _ => some hd
  | .ld16u hd _ _ _ => some hd
  | .ld32 hd _ _ _ => some hd
  | .ld32u hd _ _ _ => some hd
  | .ld64 hd _ _ _ => some hd
  | .st8 hd _ _ _ => some hd
  | .st16 hd _ _ _ => some hd
  | .st32 hd _ _ _ => some hd
  | .st64 hd _ _ _ => some hd
  | .ldf hd _ _ _ => some hd
  | .lde hd _ _ _ => some hd
  | .stf hd _ _ _ => some hd
  | .stfo hd _ _ _ => some hd
  | .feRequestServed => none
  | .vldRaw hd _ _ _ => some hd
  | .vldF32 hd _ _ _ => some hd
  | .vldBf16 hd _ _ _ => some hd
  | .vldI32 hd _ _ _ => some hd
  | .vldI8 hd _ _ _ => some hd
  | .vldUi8 hd _ _ _ => some hd
  | .vldHt8 hd _ _ _ => some hd
  | .vldVtag hd _ _ _ => some hd
  | .vst hd _ _ _ => some hd
  | .vstHt6 hd _ _ _ => some hd
  | .vldg hd _ _ _ _ => some hd
  | .vsts hd _ _ _ => some hd
  | .atom32Add hd _ _ _ => some hd
  | .atom32And hd _ _ _ => some hd
  | .atom32Or hd _ _ _ => some hd
  | .atom32Xor hd _ _ _ => some hd
  | .atom32Min hd _ _ _ => some hd
  | .atom32Max hd _ _ _ => some hd
  | .atom32Minu hd _ _ _ => some hd
  | .atom32Maxu hd _ _ _ => some hd
  | .atom32Swap hd _ _ _ => some hd
  | .atom32Cas hd _ _ _ => some hd
  | .atom32Fadd hd _ _ _ => some hd
  | .atom32Fmin hd _ _ _ => some hd
  | .atom32Fmax hd _ _ _ => some hd
  | .atom64Add hd _ _ _ => some hd
  | .atom64And hd _ _ _ => some hd
  | .atom64Or hd _ _ _ => some hd
  | .atom64Xor hd _ _ _ => some hd
  | .atom64Min hd _ _ _ => some hd
  | .atom64Max hd _ _ _ => some hd
  | .atom64Minu hd _ _ _ => some hd
  | .atom64Maxu hd _ _ _ => some hd
  | .atom64Swap hd _ _ _ => some hd
  | .atom64Cas hd _ _ _ => some hd
  | .faddg hd _ _ _ => some hd
  | .atomicAcknowledgement _ _ => none
  | .fence hd _ _ => some hd
  | .rel hd _ _ => some hd
  | .ownRet hd _ _ => some hd
  | .valuAdd hd _ _ _ => some hd
  | .valuSub hd _ _ _ => some hd
  | .valuAnd hd _ _ _ => some hd
  | .valuOr hd _ _ _ => some hd
  | .valuXor hd _ _ _ => some hd
  | .valuAndn hd _ _ _ => some hd
  | .valuSll hd _ _ _ => some hd
  | .valuSrl hd _ _ _ => some hd
  | .valuSra hd _ _ _ => some hd
  | .valuMul hd _ _ _ => some hd
  | .valuMulh hd _ _ _ => some hd
  | .valuMulhu hd _ _ _ => some hd
  | .valuMin hd _ _ _ => some hd
  | .valuMax hd _ _ _ => some hd
  | .valuMinu hd _ _ _ => some hd
  | .valuMaxu hd _ _ _ => some hd
  | .valusAdd hd _ _ _ => some hd
  | .valusSub hd _ _ _ => some hd
  | .valusAnd hd _ _ _ => some hd
  | .valusOr hd _ _ _ => some hd
  | .valusXor hd _ _ _ => some hd
  | .valusAndn hd _ _ _ => some hd
  | .valusSll hd _ _ _ => some hd
  | .valusSrl hd _ _ _ => some hd
  | .valusSra hd _ _ _ => some hd
  | .valusMul hd _ _ _ => some hd
  | .valusMulh hd _ _ _ => some hd
  | .valusMulhu hd _ _ _ => some hd
  | .valusMin hd _ _ _ => some hd
  | .valusMax hd _ _ _ => some hd
  | .valusMinu hd _ _ _ => some hd
  | .valusMaxu hd _ _ _ => some hd
  | .fadd hd _ _ _ => some hd
  | .fsub hd _ _ _ => some hd
  | .fmul hd _ _ _ => some hd
  | .fmin hd _ _ _ => some hd
  | .fmax hd _ _ _ => some hd
  | .fabs hd _ _ => some hd
  | .fneg hd _ _ => some hd
  | .fsqrt hd _ _ => some hd
  | .frcp hd _ _ => some hd
  | .frsq hd _ _ => some hd
  | .fexp2 hd _ _ => some hd
  | .flog2 hd _ _ => some hd
  | .fma hd _ _ _ => some hd
  | .fms hd _ _ _ => some hd
  | .fnma hd _ _ _ => some hd
  | .vcmpEq hd _ _ _ => some hd
  | .vcmpNe hd _ _ _ => some hd
  | .vcmpLt hd _ _ _ => some hd
  | .vcmpLe hd _ _ _ => some hd
  | .vcmpLtu hd _ _ _ => some hd
  | .vcmpFeq hd _ _ _ => some hd
  | .vcmpFlt hd _ _ _ => some hd
  | .vcmpFle hd _ _ _ => some hd
  | .vcmpFunord hd _ _ _ => some hd
  | .vcvtF32I32 hd _ _ _ => some hd
  | .vcvtI32F32 hd _ _ _ => some hd
  | .vcvtBf16F32 hd _ _ _ _ => some hd
  | .vcvtF32Bf16 hd _ _ _ => some hd
  | .vcvtE4m3F32 hd _ _ _ _ => some hd
  | .vcvtF32E4m3 hd _ _ _ => some hd
  | .vcvtE5m2F32 hd _ _ _ _ => some hd
  | .vcvtF32E5m2 hd _ _ _ => some hd
  | .vcvtE2m1F32 hd _ _ _ _ => some hd
  | .vcvtF32E2m1 hd _ _ _ => some hd
  | .vcvtHt8F32 hd _ _ _ => some hd
  | .vcvtF32Ht8 hd _ _ _ => some hd
  | .vcvtHt6F32 hd _ _ _ => some hd
  | .vcvtF32Ht6 hd _ _ _ => some hd
  | .vcvtI32I8 hd _ _ _ => some hd
  | .vcvtI8I32 hd _ _ _ _ _ => some hd
  | .vredSumI32 hd _ _ => some hd
  | .vredSumF32 hd _ _ => some hd
  | .vredMin hd _ _ => some hd
  | .vredMax hd _ _ => some hd
  | .vredFmin hd _ _ => some hd
  | .vredFmax hd _ _ => some hd
  | .vredAnd hd _ _ => some hd
  | .vredOr hd _ _ => some hd
  | .vperm hd _ _ _ => some hd
  | .vrot hd _ _ _ => some hd
  | .vbcast hd _ _ _ => some hd
  | .vext hd _ _ _ => some hd
  | .vins hd _ _ _ => some hd
  | .vcompress hd _ _ _ => some hd
  | .vexpand hd _ _ _ => some hd
  | .vid hd _ => some hd
  | .vsplat hd _ _ => some hd
  | .tldChk hd _ _ _ => some hd
  | .tldGen hd _ _ _ _ => some hd
  | .tstChk hd _ _ _ => some hd
  | .tstGen hd _ _ _ _ => some hd
  | .tlds hd _ => some hd
  | .mma hd _ _ _ _ _ _ _ => some hd
  | .mmaCb hd _ _ _ _ _ _ _ => some hd
  | .tswap hd => some hd
  | .tzero hd _ _ => some hd
  | .tmark hd _ => some hd
  | .tdrain hd _ => some hd
  | .tcvt hd _ _ _ _ => some hd
  | .ttr hd _ _ => some hd
  | .tchk hd _ => some hd
  | .tmov hd _ _ => some hd
  | .tadd hd _ _ _ => some hd
  | .tdrq hd _ _ _ _ _ => some hd
  | .trget hd _ _ _ => some hd
  | .trset hd _ _ _ => some hd
  | .tcsum hd _ _ _ => some hd
  | .trsum hd _ _ => some hd
  | .tinj hd _ _ _ => some hd
  | .tstat hd _ _ _ => some hd
  | .xWordStart => none
  | .cbdef hd _ _ => some hd
  | .cbput hd _ _ => some hd
  | .cbwait hd _ _ => some hd
  | .cbtake hd _ _ => some hd
  | .cbclose hd _ => some hd
  | .cbst hd _ _ => some hd
  | .cpy hd _ _ _ => some hd
  | .cpyt hd _ _ _ => some hd
  | .cpya hd _ _ _ => some hd
  | .cpyc hd _ _ _ => some hd
  | .cpyst hd _ => some hd
  | .copyOperationStart => none
  | .cpycHoldEnd => none
  | .copyOperationComplete => none
  | .cpyaFire => none
  | .copyEngineFault => none
  | .sinit hd _ _ => some hd
  | .swait hd _ _ => some hd
  | .swaitY hd _ _ => some hd
  | .sadd hd _ _ => some hd
  | .sstat hd _ _ => some hd
  | .waitConditionMet => none
  | .rsub hd _ _ => some hd
  | .rtake hd _ _ => some hd
  | .rpass hd _ => some hd
  | .rdrop hd _ => some hd
  | .rside hd _ _ => some hd
  | .rstat hd _ _ => some hd
  | .stageSetInstall _ _ _ _ => none
  | .routing _ _ => none
  | .retirement _ _ => none
  | .coll hd _ _ => some hd
  | .cwait hd _ _ => some hd
  | .cstat hd _ _ => some hd
  | .cabort hd _ => some hd
  | .collFirstPacket _ _ _ => none
  | .collMatchTimeout _ => none
  | .collChunkStart _ _ _ => none
  | .collChunkTimeout _ => none
  | .collAbortReceived _ _ => none
  | .collCallEnd _ => none
  | .launch hd _ _ => some hd
  | .lstat hd _ _ => some hd
  | .waitt hd _ _ => some hd
  | .tnow hd _ _ => some hd
  | .rfence hd _ => some hd
  | .rfencew hd _ _ => some hd
  | .wstat hd _ _ => some hd
  | .pagereq hd _ _ => some hd
  | .pstat hd _ _ => some hd
  | .exposedResultLanding => none
  | .scoreboardedResultLanding _ => none
  | .lookAheadNullifier => none
  | .correctableSramError _ _ => none
  | .correctionHoldEnd => none
  | .residueGuardMismatch _ _ => none
  | .residueHoldEnd => none
  | .trapEntry => none
  | .preemptionRequest => none
  | .machineCheck _ _ _ => none
  | .ctxcmdSave => none
  | .ctxcmdRelease => none
  | .ctxcmdForward => none
  | .replyAbort _ => none
  | .replyResume _ => none
  | .replyRetryFromMark _ => none
  | .replyKillRegion _ => none
  | .iterationPreemption => none
  | .nodePreemption => none
  | .tailWrite _ _ _ _ => none
  | .mailboxWrite _ _ _ => none
  | .headMirrorStore _ => none
  | .dispatchSlotTableWrite _ _ => none
  | .activityBitmapClear _ _ => none
  | .recordTake _ => none
  | .dependencyMet _ => none
  | .placeUnit _ => none
  | .priorityAgeing _ => none
  | .softPointTimeout => none
  | .gangInstancePlacement _ _ => none
  | .ttStartAttempt _ => none
  | .readyWord _ => none
  | .launchCompletion _ => none
  | .budgetPeriodBoundary _ => none
  | .budgetHandleLoad _ _ _ => none
  | .budgetLimitWrite _ _ _ _ => none
  | .errmapClear _ _ => none
  | .xtblWrite _ _ => none
  | .meshScheduledForward _ => none
  | .reflectedWriteArrival _ => none
  | .acknowledgementSend _ _ => none
  | .acknowledgementReceive _ _ _ => none
  | .retransmission _ _ => none
  | .planeLoss _ => none
  | .pathDeath _ _ _ => none
  | .pathReset _ _ => none
  | .ptpSync _ _ => none
  | .ptpFollowUp _ _ _ => none
  | .ptpPdelayReq _ _ => none
  | .ptpPdelayResp _ _ _ => none
  | .ptpPdelayRespFollowUp _ _ => none
  | .resdone _ => none
  | .resfail _ => none
  | .atsTranslationCompletion _ _ _ _ _ => none
  | .priResponse _ _ _ => none
  | .priTimeout _ _ => none
  | .atsInvalidateRequest _ _ _ => none
  | .arraySelfTest _ _ => none
  | .spareRowSwitch _ _ _ _ => none
  | .bringUp _ => none
  | .attestationRequest _ => none
  | .thermalThrottle _ _ => none
  | .windowEntryInstall _ _ _ _ => none
  | .stageSetRemoval _ _ => none
  | .residencyBitClear _ _ => none
  | .regionNodeInstall _ _ => none
  | .queueTableWrite _ _ => none
  | .extentTableInstall _ _ => none
  | .slotFragmentInstall _ _ _ _ _ => none
  | .hardEviction _ => none
  | .holdover => none
  | .replayInputDelivery _ => none

/-- An instruction word, as against an event of the machine. -/
def Instr.isWord (i : Instr) : Bool := i.hdr?.isSome

/-- A header with G = 0 has PG and PS zero (R79, 0x07). -/
def Hdr.guardOk (h : Hdr) : Bool := h.g || (h.pg == 0 && !h.ps)

/-- The guard check of an instruction's header (0x07); an event passes. -/
def Instr.guardOk (i : Instr) : Bool :=
  match i.hdr? with
  | some h => h.guardOk
  | none => true

/-- A format code that an FMT field may hold: 0x1 to 0xA (R11, R92 0x09). -/
def fmtCodeOk (f : BitVec 4) : Bool := 1 ≤ f.toNat && f.toNat ≤ 10

/-- The FMT fields of `tld`, `tst`, `tzero` and `tcvt` (0x09). No other field carries a code that could be an SC-capable mode code
outside R40.
(Log entry 130, DEDUCED) -/
def Instr.formatOk : Instr → Bool
  | .tldChk _ _ _ f => fmtCodeOk f
  | .tldGen _ _ _ _ f => fmtCodeOk f
  | .tstChk _ _ _ f => fmtCodeOk f
  | .tstGen _ _ _ _ f => fmtCodeOk f
  | .tzero _ _ f => fmtCodeOk f
  | .tcvt _ _ _ f _ => fmtCodeOk f
  | _ => true

/-- Field values within the limits of R87, R88, R129, R163, R174 and R197 (0x0B). -/
def Instr.limitOk : Instr → Bool
  | .loop _ _ l => 1 ≤ l.toNat && l.toNat ≤ 255
  | .loopi _ _ l => 1 ≤ l.toNat
  | .fence _ s m => s.toNat ≤ 4 && m != 0
  | .tdrq _ _ _ v f _ => v.toNat ≤ 28 && (f == 4 || f == 5)
  | .tstat _ _ _ y => y.toNat ≤ 3
  | .mma _ d a _ _ _ _ _ => d != a
  | .tnow _ a b => a != b || a == 0
  | .vcvtBf16F32 _ _ _ t _ => t.toNat ≤ 1
  | .vcvtF32Bf16 _ _ _ t => t.toNat ≤ 1
  | .vcvtE2m1F32 _ _ b _ _ => !b.getLsbD 0
  | .vcvtF32E2m1 _ a _ _ => !a.getLsbD 0
  | _ => true

/-- Fields that must be zero although the form has them: RZ of `tcvt` to an ht target (R169), C of `snaprel` (R201) (0x0A). -/
def Instr.zeroOk : Instr → Bool
  | .tcvt _ _ _ f z => z == 0 || !(f == 9 || f == 10)
  | .snaprel hd => !hd.c
  | _ => true

/-- Every check that an instruction's own fields can fail. -/
def Instr.wellFormed (i : Instr) : Bool := i.guardOk && i.formatOk && i.limitOk && i.zeroOk

end Sys2Proof
end

