-- ==== Sys2Proof/Decode.lean ====
section
/-! DEFINITION. The decoder, total on any bytes, and the encoder. Fields follow R75, R77, R87 and R88, the opcode map R90
and R91, the order of the encoding checks R92. -/

namespace Sys2Proof

/-- The encoding checks one word can fail (R92), by name. -/
inductive DecodeError where
  | reservedMajor
  | reservedMinor
  | guardFields
  | predicateBit
  | formatCode
  | limit
  | mustBeZero
  /-- Fewer bytes than a word holds. -/
  | truncated
  deriving DecidableEq, Repr

/-- The detail that R92 gives each check; a truncated word has none and reads as 0. -/
def decodeErrorDetail : DecodeError → BitVec 6
  | .reservedMajor => 0x01
  | .reservedMinor => 0x02
  | .guardFields => 0x07
  | .predicateBit => 0x08
  | .formatCode => 0x09
  | .limit => 0x0B
  | .mustBeZero => 0x0A
  | .truncated => 0x00

/-- An instruction read from a word whose minor code is defined, with the raw-bit checks that its fields no longer show. -/
structure RawInstr where
  instr : Instr
  /-- Bit 4 of every field that names a predicate is 0 (0x08). -/
  predOk : Bool
  /-- Field bits outside R90's limits are 0 (0x0B). -/
  limitOk : Bool
  /-- Bits that must be zero are zero (0x0A). -/
  zeroOk : Bool

/-- The header fields of a word (R77). -/
def headerOf (w : W32) : Hdr :=
  Hdr.mk (w.getLsbD 31) (w.getLsbD 30) (w.extractLsb' 26 4) (w.getLsbD 25)

/-- Major 0x00 (R90). -/
def decodeSys (hd : Hdr) (r : BitVec 19) : Except DecodeError RawInstr :=
  let a : BitVec 5 := r.extractLsb' 14 5
  let b : BitVec 5 := r.extractLsb' 9 5
  let i9 : BitVec 9 := r.extractLsb' 0 9
  match b.toNat with
  | 0 => .ok (RawInstr.mk (.nop hd) true true (a == 0 && i9 == 0))
  | 1 => .ok (RawInstr.mk (.halt hd) true true (a == 0 && i9 == 0))
  | 2 => .ok (RawInstr.mk (.exit hd) true true (a == 0 && i9 == 0))
  | 3 => .ok (RawInstr.mk (.trap hd (i9.extractLsb' 0 6)) true true (a == 0 && (i9.extractLsb' 6 3) == 0))
  | 4 => .ok (RawInstr.mk (.eret hd) true true (a == 0 && i9 == 0))
  | 5 => .ok (RawInstr.mk (.snapst hd a) true true (i9 == 0))
  | 6 => .ok (RawInstr.mk (.snapld hd a) true true (i9 == 0))
  | 7 => .ok (RawInstr.mk (.snaprel hd) true true (a == 0 && i9 == 0))
  | 8 => .ok (RawInstr.mk (.yield hd) true true (a == 0 && i9 == 0))
  | 9 => .ok (RawInstr.mk (.srr hd a i9) true true true)
  | 10 => .ok (RawInstr.mk (.srw hd a i9) true true true)
  | 11 => .ok (RawInstr.mk (.brk hd i9) true true (a == 0))
  | _ => .error .reservedMinor

/-- Major 0x01 (R90). -/
def decodeAlu (hd : Hdr) (r : BitVec 19) : Except DecodeError RawInstr :=
  let a : BitVec 5 := r.extractLsb' 14 5
  let b : BitVec 5 := r.extractLsb' 9 5
  let cc : BitVec 5 := r.extractLsb' 4 5
  let fn : BitVec 4 := r.extractLsb' 0 4
  match fn.toNat with
  | 0 => .ok (RawInstr.mk (.add hd a b cc) true true true)
  | 1 => .ok (RawInstr.mk (.sub hd a b cc) true true true)
  | 2 => .ok (RawInstr.mk (.and hd a b cc) true true true)
  | 3 => .ok (RawInstr.mk (.or hd a b cc) true true true)
  | 4 => .ok (RawInstr.mk (.xor hd a b cc) true true true)
  | 5 => .ok (RawInstr.mk (.andn hd a b cc) true true true)
  | 6 => .ok (RawInstr.mk (.sll hd a b cc) true true true)
  | 7 => .ok (RawInstr.mk (.srl hd a b cc) true true true)
  | 8 => .ok (RawInstr.mk (.sra hd a b cc) true true true)
  | 9 => .ok (RawInstr.mk (.mul hd a b cc) true true true)
  | 10 => .ok (RawInstr.mk (.mulh hd a b cc) true true true)
  | 11 => .ok (RawInstr.mk (.mulhu hd a b cc) true true true)
  | 12 => .ok (RawInstr.mk (.min hd a b cc) true true true)
  | 13 => .ok (RawInstr.mk (.max hd a b cc) true true true)
  | 14 => .ok (RawInstr.mk (.minu hd a b cc) true true true)
  | 15 => .ok (RawInstr.mk (.maxu hd a b cc) true true true)
  | _ => .error .reservedMinor

/-- Major 0x02 (R90). -/
def decodeAlu2 (hd : Hdr) (r : BitVec 19) : Except DecodeError RawInstr :=
  let a : BitVec 5 := r.extractLsb' 14 5
  let b : BitVec 5 := r.extractLsb' 9 5
  let cc : BitVec 5 := r.extractLsb' 4 5
  let fn : BitVec 4 := r.extractLsb' 0 4
  match fn.toNat with
  | 0 => .ok (RawInstr.mk (.div hd a b cc) true true true)
  | 1 => .ok (RawInstr.mk (.divu hd a b cc) true true true)
  | 2 => .ok (RawInstr.mk (.rem hd a b cc) true true true)
  | 3 => .ok (RawInstr.mk (.remu hd a b cc) true true true)
  | 4 => .ok (RawInstr.mk (.clz hd a b) true true (cc == 0))
  | 5 => .ok (RawInstr.mk (.ctz hd a b) true true (cc == 0))
  | 6 => .ok (RawInstr.mk (.popc hd a b) true true (cc == 0))
  | 7 => .ok (RawInstr.mk (.sextB hd a b) true true (cc == 0))
  | 8 => .ok (RawInstr.mk (.sextH hd a b) true true (cc == 0))
  | 9 => .ok (RawInstr.mk (.sextW hd a b) true true (cc == 0))
  | 10 => .ok (RawInstr.mk (.zextW hd a b) true true (cc == 0))
  | 11 => .ok (RawInstr.mk (.bswap hd a b) true true (cc == 0))
  | _ => .error .reservedMinor

/-- Major 0x03 (R90). -/
def decodeAddi (hd : Hdr) (r : BitVec 19) : Except DecodeError RawInstr :=
  let a : BitVec 5 := r.extractLsb' 14 5
  let b : BitVec 5 := r.extractLsb' 9 5
  let i9 : BitVec 9 := r.extractLsb' 0 9
  .ok (RawInstr.mk (.addi hd a b i9) true true true)

/-- Major 0x04 (R90). -/
def decodeAndi (hd : Hdr) (r : BitVec 19) : Except DecodeError RawInstr :=
  let a : BitVec 5 := r.extractLsb' 14 5
  let b : BitVec 5 := r.extractLsb' 9 5
  let i9 : BitVec 9 := r.extractLsb' 0 9
  .ok (RawInstr.mk (.andi hd a b i9) true true true)

/-- Major 0x05 (R90). -/
def decodeOri (hd : Hdr) (r : BitVec 19) : Except DecodeError RawInstr :=
  let a : BitVec 5 := r.extractLsb' 14 5
  let b : BitVec 5 := r.extractLsb' 9 5
  let i9 : BitVec 9 := r.extractLsb' 0 9
  .ok (RawInstr.mk (.ori hd a b i9) true true true)

/-- Major 0x06 (R90). -/
def decodeXori (hd : Hdr) (r : BitVec 19) : Except DecodeError RawInstr :=
  let a : BitVec 5 := r.extractLsb' 14 5
  let b : BitVec 5 := r.extractLsb' 9 5
  let i9 : BitVec 9 := r.extractLsb' 0 9
  .ok (RawInstr.mk (.xori hd a b i9) true true true)

/-- Major 0x07 (R90). -/
def decodeShi (hd : Hdr) (r : BitVec 19) : Except DecodeError RawInstr :=
  let a : BitVec 5 := r.extractLsb' 14 5
  let b : BitVec 5 := r.extractLsb' 9 5
  let i9 : BitVec 9 := r.extractLsb' 0 9
  match (i9.extractLsb' 7 2).toNat with
  | 0 => .ok (RawInstr.mk (.slli hd a b (i9.extractLsb' 0 6)) true ((i9.extractLsb' 6 1) == 0) true)
  | 1 => .ok (RawInstr.mk (.srli hd a b (i9.extractLsb' 0 6)) true ((i9.extractLsb' 6 1) == 0) true)
  | 2 => .ok (RawInstr.mk (.srai hd a b (i9.extractLsb' 0 6)) true ((i9.extractLsb' 6 1) == 0) true)
  | _ => .error .reservedMinor

/-- Major 0x08 (R90). -/
def decodeLi (hd : Hdr) (r : BitVec 19) : Except DecodeError RawInstr :=
  let a : BitVec 5 := r.extractLsb' 14 5
  let i14 : BitVec 14 := r.extractLsb' 0 14
  .ok (RawInstr.mk (.li hd a i14) true true true)

/-- Major 0x09 (R90). -/
def decodeLsh (hd : Hdr) (r : BitVec 19) : Except DecodeError RawInstr :=
  let a : BitVec 5 := r.extractLsb' 14 5
  let i14 : BitVec 14 := r.extractLsb' 0 14
  .ok (RawInstr.mk (.lsh hd a i14) true true true)

/-- Major 0x0A (R90). -/
def decodeCmp (hd : Hdr) (r : BitVec 19) : Except DecodeError RawInstr :=
  let a : BitVec 5 := r.extractLsb' 14 5
  let b : BitVec 5 := r.extractLsb' 9 5
  let cc : BitVec 5 := r.extractLsb' 4 5
  let fn : BitVec 4 := r.extractLsb' 0 4
  match fn.toNat with
  | 0 => .ok (RawInstr.mk (.cmpEq hd (a.extractLsb' 0 4) b cc) ((a.extractLsb' 4 1) == 0) true true)
  | 1 => .ok (RawInstr.mk (.cmpNe hd (a.extractLsb' 0 4) b cc) ((a.extractLsb' 4 1) == 0) true true)
  | 2 => .ok (RawInstr.mk (.cmpLt hd (a.extractLsb' 0 4) b cc) ((a.extractLsb' 4 1) == 0) true true)
  | 3 => .ok (RawInstr.mk (.cmpGe hd (a.extractLsb' 0 4) b cc) ((a.extractLsb' 4 1) == 0) true true)
  | 4 => .ok (RawInstr.mk (.cmpLtu hd (a.extractLsb' 0 4) b cc) ((a.extractLsb' 4 1) == 0) true true)
  | 5 => .ok (RawInstr.mk (.cmpGeu hd (a.extractLsb' 0 4) b cc) ((a.extractLsb' 4 1) == 0) true true)
  | _ => .error .reservedMinor

/-- Major 0x0B (R90). -/
def decodeCmpeqi (hd : Hdr) (r : BitVec 19) : Except DecodeError RawInstr :=
  let a : BitVec 5 := r.extractLsb' 14 5
  let b : BitVec 5 := r.extractLsb' 9 5
  let i9 : BitVec 9 := r.extractLsb' 0 9
  .ok (RawInstr.mk (.cmpeqi hd (a.extractLsb' 0 4) b i9) ((a.extractLsb' 4 1) == 0) true true)

/-- Major 0x0C (R90). -/
def decodeCmplti (hd : Hdr) (r : BitVec 19) : Except DecodeError RawInstr :=
  let a : BitVec 5 := r.extractLsb' 14 5
  let b : BitVec 5 := r.extractLsb' 9 5
  let i9 : BitVec 9 := r.extractLsb' 0 9
  .ok (RawInstr.mk (.cmplti hd (a.extractLsb' 0 4) b i9) ((a.extractLsb' 4 1) == 0) true true)

/-- Major 0x0D (R90). -/
def decodeCmpltui (hd : Hdr) (r : BitVec 19) : Except DecodeError RawInstr :=
  let a : BitVec 5 := r.extractLsb' 14 5
  let b : BitVec 5 := r.extractLsb' 9 5
  let i9 : BitVec 9 := r.extractLsb' 0 9
  .ok (RawInstr.mk (.cmpltui hd (a.extractLsb' 0 4) b i9) ((a.extractLsb' 4 1) == 0) true true)

/-- Major 0x0E (R90). -/
def decodeBr (hd : Hdr) (r : BitVec 19) : Except DecodeError RawInstr :=
  let d19 : BitVec 19 := r.extractLsb' 0 19
  .ok (RawInstr.mk (.br hd d19) true true true)

/-- Major 0x0F (R90). -/
def decodeCall (hd : Hdr) (r : BitVec 19) : Except DecodeError RawInstr :=
  let d19 : BitVec 19 := r.extractLsb' 0 19
  .ok (RawInstr.mk (.call hd d19) true true true)

/-- Major 0x10 (R90). -/
def decodeJmp (hd : Hdr) (r : BitVec 19) : Except DecodeError RawInstr :=
  let a : BitVec 5 := r.extractLsb' 14 5
  let b : BitVec 5 := r.extractLsb' 9 5
  let cc : BitVec 5 := r.extractLsb' 4 5
  let fn : BitVec 4 := r.extractLsb' 0 4
  match fn.toNat with
  | 0 => .ok (RawInstr.mk (.jr hd b) true true (a == 0 && cc == 0))
  | 1 => .ok (RawInstr.mk (.jalr hd a b) true true (cc == 0))
  | 2 => .ok (RawInstr.mk (.ret hd) true true (a == 0 && b == 0 && cc == 0))
  | _ => .error .reservedMinor

/-- Major 0x11 (R90). -/
def decodeLoop (hd : Hdr) (r : BitVec 19) : Except DecodeError RawInstr :=
  let a : BitVec 5 := r.extractLsb' 14 5
  let b : BitVec 5 := r.extractLsb' 9 5
  let i9 : BitVec 9 := r.extractLsb' 0 9
  .ok (RawInstr.mk (.loop hd b i9) true true (a == 0))

/-- Major 0x12 (R90). -/
def decodeLoopi (hd : Hdr) (r : BitVec 19) : Except DecodeError RawInstr :=
  let cnt : BitVec 10 := r.extractLsb' 9 10
  let len : BitVec 9 := r.extractLsb' 0 9
  .ok (RawInstr.mk (.loopi hd cnt len) true true true)

/-- Major 0x13 (R90). -/
def decodePred (hd : Hdr) (r : BitVec 19) : Except DecodeError RawInstr :=
  let a : BitVec 5 := r.extractLsb' 14 5
  let b : BitVec 5 := r.extractLsb' 9 5
  let cc : BitVec 5 := r.extractLsb' 4 5
  let fn : BitVec 4 := r.extractLsb' 0 4
  match fn.toNat with
  | 0 => .ok (RawInstr.mk (.pand hd (a.extractLsb' 0 4) (b.extractLsb' 0 4) (cc.extractLsb' 0 4)) ((a.extractLsb' 4 1) == 0 && (b.extractLsb' 4 1) == 0 && (cc.extractLsb' 4 1) == 0) true true)
  | 1 => .ok (RawInstr.mk (.por hd (a.extractLsb' 0 4) (b.extractLsb' 0 4) (cc.extractLsb' 0 4)) ((a.extractLsb' 4 1) == 0 && (b.extractLsb' 4 1) == 0 && (cc.extractLsb' 4 1) == 0) true true)
  | 2 => .ok (RawInstr.mk (.pxor hd (a.extractLsb' 0 4) (b.extractLsb' 0 4) (cc.extractLsb' 0 4)) ((a.extractLsb' 4 1) == 0 && (b.extractLsb' 4 1) == 0 && (cc.extractLsb' 4 1) == 0) true true)
  | 3 => .ok (RawInstr.mk (.pandn hd (a.extractLsb' 0 4) (b.extractLsb' 0 4) (cc.extractLsb' 0 4)) ((a.extractLsb' 4 1) == 0 && (b.extractLsb' 4 1) == 0 && (cc.extractLsb' 4 1) == 0) true true)
  | 4 => .ok (RawInstr.mk (.pnot hd (a.extractLsb' 0 4) (b.extractLsb' 0 4)) ((a.extractLsb' 4 1) == 0 && (b.extractLsb' 4 1) == 0) true (cc == 0))
  | 5 => .ok (RawInstr.mk (.pmov hd (a.extractLsb' 0 4) (b.extractLsb' 0 4)) ((a.extractLsb' 4 1) == 0 && (b.extractLsb' 4 1) == 0) true (cc == 0))
  | 6 => .ok (RawInstr.mk (.pset hd (a.extractLsb' 0 4)) ((a.extractLsb' 4 1) == 0) true (b == 0 && cc == 0))
  | 7 => .ok (RawInstr.mk (.pclr hd (a.extractLsb' 0 4)) ((a.extractLsb' 4 1) == 0) true (b == 0 && cc == 0))
  | 8 => .ok (RawInstr.mk (.pcnt hd a (b.extractLsb' 0 4)) ((b.extractLsb' 4 1) == 0) true (cc == 0))
  | 9 => .ok (RawInstr.mk (.pfirst hd a (b.extractLsb' 0 4)) ((b.extractLsb' 4 1) == 0) true (cc == 0))
  | _ => .error .reservedMinor

/-- Major 0x15 (R90). -/
def decodeLd (hd : Hdr) (r : BitVec 19) : Except DecodeError RawInstr :=
  let a : BitVec 5 := r.extractLsb' 14 5
  let b : BitVec 5 := r.extractLsb' 9 5
  let d6 : BitVec 6 := r.extractLsb' 3 6
  let m : BitVec 3 := r.extractLsb' 0 3
  match m.toNat with
  | 0 => .ok (RawInstr.mk (.ld8 hd a b d6) true true true)
  | 1 => .ok (RawInstr.mk (.ld8u hd a b d6) true true true)
  | 2 => .ok (RawInstr.mk (.ld16 hd a b d6) true true true)
  | 3 => .ok (RawInstr.mk (.ld16u hd a b d6) true true true)
  | 4 => .ok (RawInstr.mk (.ld32 hd a b d6) true true true)
  | 5 => .ok (RawInstr.mk (.ld32u hd a b d6) true true true)
  | 6 => .ok (RawInstr.mk (.ld64 hd a b d6) true true true)
  | _ => .error .reservedMinor

/-- Major 0x16 (R90). -/
def decodeSt (hd : Hdr) (r : BitVec 19) : Except DecodeError RawInstr :=
  let a : BitVec 5 := r.extractLsb' 14 5
  let b : BitVec 5 := r.extractLsb' 9 5
  let d6 : BitVec 6 := r.extractLsb' 3 6
  let m : BitVec 3 := r.extractLsb' 0 3
  match m.toNat with
  | 0 => .ok (RawInstr.mk (.st8 hd a b d6) true true true)
  | 1 => .ok (RawInstr.mk (.st16 hd a b d6) true true true)
  | 2 => .ok (RawInstr.mk (.st32 hd a b d6) true true true)
  | 3 => .ok (RawInstr.mk (.st64 hd a b d6) true true true)
  | _ => .error .reservedMinor

/-- Major 0x17 (R90). -/
def decodeFe (hd : Hdr) (r : BitVec 19) : Except DecodeError RawInstr :=
  let a : BitVec 5 := r.extractLsb' 14 5
  let b : BitVec 5 := r.extractLsb' 9 5
  let d6 : BitVec 6 := r.extractLsb' 3 6
  let m : BitVec 3 := r.extractLsb' 0 3
  match m.toNat with
  | 0 => .ok (RawInstr.mk (.ldf hd a b d6) true true true)
  | 1 => .ok (RawInstr.mk (.lde hd a b d6) true true true)
  | 2 => .ok (RawInstr.mk (.stf hd a b d6) true true true)
  | 3 => .ok (RawInstr.mk (.stfo hd a b d6) true true true)
  | _ => .error .reservedMinor

/-- Major 0x18 (R90). -/
def decodeVld (hd : Hdr) (r : BitVec 19) : Except DecodeError RawInstr :=
  let a : BitVec 5 := r.extractLsb' 14 5
  let b : BitVec 5 := r.extractLsb' 9 5
  let d6 : BitVec 6 := r.extractLsb' 3 6
  let m : BitVec 3 := r.extractLsb' 0 3
  match m.toNat with
  | 0 => .ok (RawInstr.mk (.vldRaw hd a b d6) true true true)
  | 1 => .ok (RawInstr.mk (.vldF32 hd a b d6) true true true)
  | 2 => .ok (RawInstr.mk (.vldBf16 hd a b d6) true true true)
  | 3 => .ok (RawInstr.mk (.vldI32 hd a b d6) true true true)
  | 4 => .ok (RawInstr.mk (.vldI8 hd a b d6) true true true)
  | 5 => .ok (RawInstr.mk (.vldUi8 hd a b d6) true true true)
  | 6 => .ok (RawInstr.mk (.vldHt8 hd a b d6) true true true)
  | 7 => .ok (RawInstr.mk (.vldVtag hd a b d6) true true true)
  | _ => .error .reservedMinor

/-- Major 0x19 (R90). -/
def decodeVst (hd : Hdr) (r : BitVec 19) : Except DecodeError RawInstr :=
  let a : BitVec 5 := r.extractLsb' 14 5
  let b : BitVec 5 := r.extractLsb' 9 5
  let d6 : BitVec 6 := r.extractLsb' 3 6
  let m : BitVec 3 := r.extractLsb' 0 3
  match m.toNat with
  | 0 => .ok (RawInstr.mk (.vst hd a b d6) true true true)
  | 1 => .ok (RawInstr.mk (.vstHt6 hd a b d6) true true true)
  | _ => .error .reservedMinor

/-- Major 0x1A (R90). -/
def decodeVldg (hd : Hdr) (r : BitVec 19) : Except DecodeError RawInstr :=
  let a : BitVec 5 := r.extractLsb' 14 5
  let b : BitVec 5 := r.extractLsb' 9 5
  let cc : BitVec 5 := r.extractLsb' 4 5
  let fn : BitVec 4 := r.extractLsb' 0 4
  .ok (RawInstr.mk (.vldg hd a b cc fn) true true true)

/-- Major 0x1B (R90). -/
def decodeVsts (hd : Hdr) (r : BitVec 19) : Except DecodeError RawInstr :=
  let a : BitVec 5 := r.extractLsb' 14 5
  let b : BitVec 5 := r.extractLsb' 9 5
  let cc : BitVec 5 := r.extractLsb' 4 5
  let fn : BitVec 4 := r.extractLsb' 0 4
  match fn.toNat with
  | 0 => .ok (RawInstr.mk (.vsts hd a b cc) true true true)
  | _ => .error .reservedMinor

/-- Major 0x1C (R90). -/
def decodeAtom32 (hd : Hdr) (r : BitVec 19) : Except DecodeError RawInstr :=
  let a : BitVec 5 := r.extractLsb' 14 5
  let b : BitVec 5 := r.extractLsb' 9 5
  let cc : BitVec 5 := r.extractLsb' 4 5
  let fn : BitVec 4 := r.extractLsb' 0 4
  match fn.toNat with
  | 0 => .ok (RawInstr.mk (.atom32Add hd a b cc) true true true)
  | 1 => .ok (RawInstr.mk (.atom32And hd a b cc) true true true)
  | 2 => .ok (RawInstr.mk (.atom32Or hd a b cc) true true true)
  | 3 => .ok (RawInstr.mk (.atom32Xor hd a b cc) true true true)
  | 4 => .ok (RawInstr.mk (.atom32Min hd a b cc) true true true)
  | 5 => .ok (RawInstr.mk (.atom32Max hd a b cc) true true true)
  | 6 => .ok (RawInstr.mk (.atom32Minu hd a b cc) true true true)
  | 7 => .ok (RawInstr.mk (.atom32Maxu hd a b cc) true true true)
  | 8 => .ok (RawInstr.mk (.atom32Swap hd a b cc) true true true)
  | 9 => .ok (RawInstr.mk (.atom32Cas hd a b cc) true true true)
  | 10 => .ok (RawInstr.mk (.atom32Fadd hd a b cc) true true true)
  | 11 => .ok (RawInstr.mk (.atom32Fmin hd a b cc) true true true)
  | 12 => .ok (RawInstr.mk (.atom32Fmax hd a b cc) true true true)
  | _ => .error .reservedMinor

/-- Major 0x1D (R90). -/
def decodeAtom64 (hd : Hdr) (r : BitVec 19) : Except DecodeError RawInstr :=
  let a : BitVec 5 := r.extractLsb' 14 5
  let b : BitVec 5 := r.extractLsb' 9 5
  let cc : BitVec 5 := r.extractLsb' 4 5
  let fn : BitVec 4 := r.extractLsb' 0 4
  match fn.toNat with
  | 0 => .ok (RawInstr.mk (.atom64Add hd a b cc) true true true)
  | 1 => .ok (RawInstr.mk (.atom64And hd a b cc) true true true)
  | 2 => .ok (RawInstr.mk (.atom64Or hd a b cc) true true true)
  | 3 => .ok (RawInstr.mk (.atom64Xor hd a b cc) true true true)
  | 4 => .ok (RawInstr.mk (.atom64Min hd a b cc) true true true)
  | 5 => .ok (RawInstr.mk (.atom64Max hd a b cc) true true true)
  | 6 => .ok (RawInstr.mk (.atom64Minu hd a b cc) true true true)
  | 7 => .ok (RawInstr.mk (.atom64Maxu hd a b cc) true true true)
  | 8 => .ok (RawInstr.mk (.atom64Swap hd a b cc) true true true)
  | 9 => .ok (RawInstr.mk (.atom64Cas hd a b cc) true true true)
  | 13 => .ok (RawInstr.mk (.faddg hd a b cc) true true true)
  | _ => .error .reservedMinor

/-- Major 0x1E (R90). -/
def decodeFence (hd : Hdr) (r : BitVec 19) : Except DecodeError RawInstr :=
  let a : BitVec 5 := r.extractLsb' 14 5
  let b : BitVec 5 := r.extractLsb' 9 5
  let i9 : BitVec 9 := r.extractLsb' 0 9
  .ok (RawInstr.mk (.fence hd (i9.extractLsb' 6 3) (i9.extractLsb' 0 6)) true true (a == 0 && b == 0))

/-- Major 0x1F (R90). -/
def decodeOwn (hd : Hdr) (r : BitVec 19) : Except DecodeError RawInstr :=
  let a : BitVec 5 := r.extractLsb' 14 5
  let b : BitVec 5 := r.extractLsb' 9 5
  let cc : BitVec 5 := r.extractLsb' 4 5
  let fn : BitVec 4 := r.extractLsb' 0 4
  match fn.toNat with
  | 0 => .ok (RawInstr.mk (.rel hd b cc) true true (a == 0))
  | 1 => .ok (RawInstr.mk (.ownRet hd b cc) true true (a == 0))
  | _ => .error .reservedMinor

/-- Major 0x20 (R90). -/
def decodeValu (hd : Hdr) (r : BitVec 19) : Except DecodeError RawInstr :=
  let a : BitVec 5 := r.extractLsb' 14 5
  let b : BitVec 5 := r.extractLsb' 9 5
  let cc : BitVec 5 := r.extractLsb' 4 5
  let fn : BitVec 4 := r.extractLsb' 0 4
  match fn.toNat with
  | 0 => .ok (RawInstr.mk (.valuAdd hd a b cc) true true true)
  | 1 => .ok (RawInstr.mk (.valuSub hd a b cc) true true true)
  | 2 => .ok (RawInstr.mk (.valuAnd hd a b cc) true true true)
  | 3 => .ok (RawInstr.mk (.valuOr hd a b cc) true true true)
  | 4 => .ok (RawInstr.mk (.valuXor hd a b cc) true true true)
  | 5 => .ok (RawInstr.mk (.valuAndn hd a b cc) true true true)
  | 6 => .ok (RawInstr.mk (.valuSll hd a b cc) true true true)
  | 7 => .ok (RawInstr.mk (.valuSrl hd a b cc) true true true)
  | 8 => .ok (RawInstr.mk (.valuSra hd a b cc) true true true)
  | 9 => .ok (RawInstr.mk (.valuMul hd a b cc) true true true)
  | 10 => .ok (RawInstr.mk (.valuMulh hd a b cc) true true true)
  | 11 => .ok (RawInstr.mk (.valuMulhu hd a b cc) true true true)
  | 12 => .ok (RawInstr.mk (.valuMin hd a b cc) true true true)
  | 13 => .ok (RawInstr.mk (.valuMax hd a b cc) true true true)
  | 14 => .ok (RawInstr.mk (.valuMinu hd a b cc) true true true)
  | 15 => .ok (RawInstr.mk (.valuMaxu hd a b cc) true true true)
  | _ => .error .reservedMinor

/-- Major 0x21 (R90). -/
def decodeValus (hd : Hdr) (r : BitVec 19) : Except DecodeError RawInstr :=
  let a : BitVec 5 := r.extractLsb' 14 5
  let b : BitVec 5 := r.extractLsb' 9 5
  let cc : BitVec 5 := r.extractLsb' 4 5
  let fn : BitVec 4 := r.extractLsb' 0 4
  match fn.toNat with
  | 0 => .ok (RawInstr.mk (.valusAdd hd a b cc) true true true)
  | 1 => .ok (RawInstr.mk (.valusSub hd a b cc) true true true)
  | 2 => .ok (RawInstr.mk (.valusAnd hd a b cc) true true true)
  | 3 => .ok (RawInstr.mk (.valusOr hd a b cc) true true true)
  | 4 => .ok (RawInstr.mk (.valusXor hd a b cc) true true true)
  | 5 => .ok (RawInstr.mk (.valusAndn hd a b cc) true true true)
  | 6 => .ok (RawInstr.mk (.valusSll hd a b cc) true true true)
  | 7 => .ok (RawInstr.mk (.valusSrl hd a b cc) true true true)
  | 8 => .ok (RawInstr.mk (.valusSra hd a b cc) true true true)
  | 9 => .ok (RawInstr.mk (.valusMul hd a b cc) true true true)
  | 10 => .ok (RawInstr.mk (.valusMulh hd a b cc) true true true)
  | 11 => .ok (RawInstr.mk (.valusMulhu hd a b cc) true true true)
  | 12 => .ok (RawInstr.mk (.valusMin hd a b cc) true true true)
  | 13 => .ok (RawInstr.mk (.valusMax hd a b cc) true true true)
  | 14 => .ok (RawInstr.mk (.valusMinu hd a b cc) true true true)
  | 15 => .ok (RawInstr.mk (.valusMaxu hd a b cc) true true true)
  | _ => .error .reservedMinor

/-- Major 0x22 (R90). -/
def decodeVfalu (hd : Hdr) (r : BitVec 19) : Except DecodeError RawInstr :=
  let a : BitVec 5 := r.extractLsb' 14 5
  let b : BitVec 5 := r.extractLsb' 9 5
  let cc : BitVec 5 := r.extractLsb' 4 5
  let fn : BitVec 4 := r.extractLsb' 0 4
  match fn.toNat with
  | 0 => .ok (RawInstr.mk (.fadd hd a b cc) true true true)
  | 1 => .ok (RawInstr.mk (.fsub hd a b cc) true true true)
  | 2 => .ok (RawInstr.mk (.fmul hd a b cc) true true true)
  | 3 => .ok (RawInstr.mk (.fmin hd a b cc) true true true)
  | 4 => .ok (RawInstr.mk (.fmax hd a b cc) true true true)
  | 5 => .ok (RawInstr.mk (.fabs hd a b) true true (cc == 0))
  | 6 => .ok (RawInstr.mk (.fneg hd a b) true true (cc == 0))
  | 7 => .ok (RawInstr.mk (.fsqrt hd a b) true true (cc == 0))
  | 8 => .ok (RawInstr.mk (.frcp hd a b) true true (cc == 0))
  | 9 => .ok (RawInstr.mk (.frsq hd a b) true true (cc == 0))
  | 10 => .ok (RawInstr.mk (.fexp2 hd a b) true true (cc == 0))
  | 11 => .ok (RawInstr.mk (.flog2 hd a b) true true (cc == 0))
  | _ => .error .reservedMinor

/-- Major 0x23 (R90). -/
def decodeVfma (hd : Hdr) (r : BitVec 19) : Except DecodeError RawInstr :=
  let a : BitVec 5 := r.extractLsb' 14 5
  let b : BitVec 5 := r.extractLsb' 9 5
  let cc : BitVec 5 := r.extractLsb' 4 5
  let fn : BitVec 4 := r.extractLsb' 0 4
  match fn.toNat with
  | 0 => .ok (RawInstr.mk (.fma hd a b cc) true true true)
  | 1 => .ok (RawInstr.mk (.fms hd a b cc) true true true)
  | 2 => .ok (RawInstr.mk (.fnma hd a b cc) true true true)
  | _ => .error .reservedMinor

/-- Major 0x24 (R90). -/
def decodeVcmp (hd : Hdr) (r : BitVec 19) : Except DecodeError RawInstr :=
  let a : BitVec 5 := r.extractLsb' 14 5
  let b : BitVec 5 := r.extractLsb' 9 5
  let cc : BitVec 5 := r.extractLsb' 4 5
  let fn : BitVec 4 := r.extractLsb' 0 4
  match fn.toNat with
  | 0 => .ok (RawInstr.mk (.vcmpEq hd (a.extractLsb' 0 4) b cc) ((a.extractLsb' 4 1) == 0) true true)
  | 1 => .ok (RawInstr.mk (.vcmpNe hd (a.extractLsb' 0 4) b cc) ((a.extractLsb' 4 1) == 0) true true)
  | 2 => .ok (RawInstr.mk (.vcmpLt hd (a.extractLsb' 0 4) b cc) ((a.extractLsb' 4 1) == 0) true true)
  | 3 => .ok (RawInstr.mk (.vcmpLe hd (a.extractLsb' 0 4) b cc) ((a.extractLsb' 4 1) == 0) true true)
  | 4 => .ok (RawInstr.mk (.vcmpLtu hd (a.extractLsb' 0 4) b cc) ((a.extractLsb' 4 1) == 0) true true)
  | 5 => .ok (RawInstr.mk (.vcmpFeq hd (a.extractLsb' 0 4) b cc) ((a.extractLsb' 4 1) == 0) true true)
  | 6 => .ok (RawInstr.mk (.vcmpFlt hd (a.extractLsb' 0 4) b cc) ((a.extractLsb' 4 1) == 0) true true)
  | 7 => .ok (RawInstr.mk (.vcmpFle hd (a.extractLsb' 0 4) b cc) ((a.extractLsb' 4 1) == 0) true true)
  | 8 => .ok (RawInstr.mk (.vcmpFunord hd (a.extractLsb' 0 4) b cc) ((a.extractLsb' 4 1) == 0) true true)
  | _ => .error .reservedMinor

/-- Major 0x25 (R90). -/
def decodeVcvt (hd : Hdr) (r : BitVec 19) : Except DecodeError RawInstr :=
  let a : BitVec 5 := r.extractLsb' 14 5
  let b : BitVec 5 := r.extractLsb' 9 5
  let cc : BitVec 5 := r.extractLsb' 4 5
  let fn : BitVec 4 := r.extractLsb' 0 4
  match fn.toNat with
  | 0 => .ok (RawInstr.mk (.vcvtF32I32 hd a b (cc.extractLsb' 0 1)) true ((cc.extractLsb' 1 2) == 0) ((cc.extractLsb' 3 2) == 0))
  | 1 => .ok (RawInstr.mk (.vcvtI32F32 hd a b (cc.extractLsb' 0 1)) true ((cc.extractLsb' 1 2) == 0) ((cc.extractLsb' 3 2) == 0))
  | 2 => .ok (RawInstr.mk (.vcvtBf16F32 hd a b (cc.extractLsb' 1 2) (cc.extractLsb' 0 1)) true true ((cc.extractLsb' 3 2) == 0))
  | 3 => .ok (RawInstr.mk (.vcvtF32Bf16 hd a b (cc.extractLsb' 1 2)) true true ((cc.extractLsb' 3 2) == 0 && (cc.extractLsb' 0 1) == 0))
  | 4 => .ok (RawInstr.mk (.vcvtE4m3F32 hd a b (cc.extractLsb' 1 2) (cc.extractLsb' 0 1)) true true ((cc.extractLsb' 3 2) == 0))
  | 5 => .ok (RawInstr.mk (.vcvtF32E4m3 hd a b (cc.extractLsb' 1 2)) true true ((cc.extractLsb' 3 2) == 0 && (cc.extractLsb' 0 1) == 0))
  | 6 => .ok (RawInstr.mk (.vcvtE5m2F32 hd a b (cc.extractLsb' 1 2) (cc.extractLsb' 0 1)) true true ((cc.extractLsb' 3 2) == 0))
  | 7 => .ok (RawInstr.mk (.vcvtF32E5m2 hd a b (cc.extractLsb' 1 2)) true true ((cc.extractLsb' 3 2) == 0 && (cc.extractLsb' 0 1) == 0))
  | 8 => .ok (RawInstr.mk (.vcvtE2m1F32 hd a b (cc.extractLsb' 1 2) (cc.extractLsb' 0 1)) true true ((cc.extractLsb' 3 2) == 0))
  | 9 => .ok (RawInstr.mk (.vcvtF32E2m1 hd a b (cc.extractLsb' 1 2)) true true ((cc.extractLsb' 3 2) == 0 && (cc.extractLsb' 0 1) == 0))
  | 10 => .ok (RawInstr.mk (.vcvtHt8F32 hd a b (cc.extractLsb' 1 2)) true true ((cc.extractLsb' 3 2) == 0 && (cc.extractLsb' 0 1) == 0))
  | 11 => .ok (RawInstr.mk (.vcvtF32Ht8 hd a b (cc.extractLsb' 1 2)) true true ((cc.extractLsb' 3 2) == 0 && (cc.extractLsb' 0 1) == 0))
  | 12 => .ok (RawInstr.mk (.vcvtHt6F32 hd a b (cc.extractLsb' 1 2)) true true ((cc.extractLsb' 3 2) == 0 && (cc.extractLsb' 0 1) == 0))
  | 13 => .ok (RawInstr.mk (.vcvtF32Ht6 hd a b (cc.extractLsb' 1 2)) true true ((cc.extractLsb' 3 2) == 0 && (cc.extractLsb' 0 1) == 0))
  | 14 => .ok (RawInstr.mk (.vcvtI32I8 hd a b (cc.extractLsb' 1 2)) true true ((cc.extractLsb' 3 2) == 0 && (cc.extractLsb' 0 1) == 0))
  | 15 => .ok (RawInstr.mk (.vcvtI8I32 hd a b (cc.extractLsb' 4 1) (cc.extractLsb' 1 2) (cc.extractLsb' 0 1)) true true ((cc.extractLsb' 3 1) == 0))
  | _ => .error .reservedMinor

/-- Major 0x26 (R90). -/
def decodeVred (hd : Hdr) (r : BitVec 19) : Except DecodeError RawInstr :=
  let a : BitVec 5 := r.extractLsb' 14 5
  let b : BitVec 5 := r.extractLsb' 9 5
  let cc : BitVec 5 := r.extractLsb' 4 5
  let fn : BitVec 4 := r.extractLsb' 0 4
  match fn.toNat with
  | 0 => .ok (RawInstr.mk (.vredSumI32 hd a b) true true (cc == 0))
  | 1 => .ok (RawInstr.mk (.vredSumF32 hd a b) true true (cc == 0))
  | 2 => .ok (RawInstr.mk (.vredMin hd a b) true true (cc == 0))
  | 3 => .ok (RawInstr.mk (.vredMax hd a b) true true (cc == 0))
  | 4 => .ok (RawInstr.mk (.vredFmin hd a b) true true (cc == 0))
  | 5 => .ok (RawInstr.mk (.vredFmax hd a b) true true (cc == 0))
  | 6 => .ok (RawInstr.mk (.vredAnd hd a b) true true (cc == 0))
  | 7 => .ok (RawInstr.mk (.vredOr hd a b) true true (cc == 0))
  | _ => .error .reservedMinor

/-- Major 0x27 (R90). -/
def decodeVperm (hd : Hdr) (r : BitVec 19) : Except DecodeError RawInstr :=
  let a : BitVec 5 := r.extractLsb' 14 5
  let b : BitVec 5 := r.extractLsb' 9 5
  let cc : BitVec 5 := r.extractLsb' 4 5
  let fn : BitVec 4 := r.extractLsb' 0 4
  match fn.toNat with
  | 0 => .ok (RawInstr.mk (.vperm hd a b cc) true true true)
  | 1 => .ok (RawInstr.mk (.vrot hd a b cc) true true true)
  | 2 => .ok (RawInstr.mk (.vbcast hd a b cc) true true true)
  | 3 => .ok (RawInstr.mk (.vext hd a b cc) true true true)
  | 4 => .ok (RawInstr.mk (.vins hd a b cc) true true true)
  | 5 => .ok (RawInstr.mk (.vcompress hd a b (cc.extractLsb' 0 4)) ((cc.extractLsb' 4 1) == 0) true true)
  | 6 => .ok (RawInstr.mk (.vexpand hd a b (cc.extractLsb' 0 4)) ((cc.extractLsb' 4 1) == 0) true true)
  | 7 => .ok (RawInstr.mk (.vid hd a) true true (b == 0 && cc == 0))
  | _ => .error .reservedMinor

/-- Major 0x28 (R90). -/
def decodeVsplat (hd : Hdr) (r : BitVec 19) : Except DecodeError RawInstr :=
  let a : BitVec 5 := r.extractLsb' 14 5
  let i14 : BitVec 14 := r.extractLsb' 0 14
  .ok (RawInstr.mk (.vsplat hd a i14) true true true)

/-- Major 0x29 (R90). -/
def decodeTld (hd : Hdr) (r : BitVec 19) : Except DecodeError RawInstr :=
  let td : BitVec 4 := r.extractLsb' 15 4
  let bs : BitVec 5 := r.extractLsb' 10 5
  let st : BitVec 5 := r.extractLsb' 5 5
  let fm : BitVec 4 := r.extractLsb' 1 4
  let md : BitVec 1 := r.extractLsb' 0 1
  match md.toNat with
  | 0 => .ok (RawInstr.mk (.tldChk hd td bs fm) true true (st == 0))
  | 1 => .ok (RawInstr.mk (.tldGen hd td bs st fm) true true true)
  | _ => .error .reservedMinor

/-- Major 0x2A (R90). -/
def decodeTst (hd : Hdr) (r : BitVec 19) : Except DecodeError RawInstr :=
  let td : BitVec 4 := r.extractLsb' 15 4
  let bs : BitVec 5 := r.extractLsb' 10 5
  let st : BitVec 5 := r.extractLsb' 5 5
  let fm : BitVec 4 := r.extractLsb' 1 4
  let md : BitVec 1 := r.extractLsb' 0 1
  match md.toNat with
  | 0 => .ok (RawInstr.mk (.tstChk hd td bs fm) true true (st == 0))
  | 1 => .ok (RawInstr.mk (.tstGen hd td bs st fm) true true true)
  | _ => .error .reservedMinor

/-- Major 0x2B (R90). -/
def decodeTlds (hd : Hdr) (r : BitVec 19) : Except DecodeError RawInstr :=
  let td : BitVec 4 := r.extractLsb' 15 4
  let ta : BitVec 4 := r.extractLsb' 11 4
  let tb : BitVec 4 := r.extractLsb' 7 4
  let f7 : BitVec 7 := r.extractLsb' 0 7
  .ok (RawInstr.mk (.tlds hd ta) true true (td == 0 && tb == 0 && f7 == 0))

/-- Major 0x2C (R90). -/
def decodeMma (hd : Hdr) (r : BitVec 19) : Except DecodeError RawInstr :=
  let td : BitVec 4 := r.extractLsb' 15 4
  let ta : BitVec 4 := r.extractLsb' 11 4
  let tb : BitVec 4 := r.extractLsb' 7 4
  let f7 : BitVec 7 := r.extractLsb' 0 7
  match (f7.extractLsb' 6 1).toNat with
  | 0 => .ok (RawInstr.mk (.mma hd td ta (f7.extractLsb' 4 1) (f7.extractLsb' 3 1) (f7.extractLsb' 2 1) (f7.extractLsb' 1 1) (f7.extractLsb' 0 1)) true true (tb == 0 && (f7.extractLsb' 5 1) == 0))
  | 1 => .ok (RawInstr.mk (.mmaCb hd td ta (f7.extractLsb' 4 1) (f7.extractLsb' 3 1) (f7.extractLsb' 2 1) (f7.extractLsb' 1 1) (f7.extractLsb' 0 1)) true true (tb == 0 && (f7.extractLsb' 5 1) == 0))
  | _ => .error .reservedMinor

/-- Major 0x2D (R90). -/
def decodeTops (hd : Hdr) (r : BitVec 19) : Except DecodeError RawInstr :=
  let td : BitVec 4 := r.extractLsb' 15 4
  let ta : BitVec 4 := r.extractLsb' 11 4
  let tb : BitVec 4 := r.extractLsb' 7 4
  let f7 : BitVec 7 := r.extractLsb' 0 7
  match (f7.extractLsb' 3 4).toNat with
  | 0 => .ok (RawInstr.mk (.tswap hd) true true (td == 0 && ta == 0 && tb == 0 && (f7.extractLsb' 0 3) == 0))
  | 1 => .ok (RawInstr.mk (.tzero hd td tb) true true (ta == 0 && (f7.extractLsb' 0 3) == 0))
  | 2 => .ok (RawInstr.mk (.tmark hd td) true true (ta == 0 && tb == 0 && (f7.extractLsb' 0 3) == 0))
  | 3 => .ok (RawInstr.mk (.tdrain hd td) true true (ta == 0 && tb == 0 && (f7.extractLsb' 0 3) == 0))
  | 4 => .ok (RawInstr.mk (.tcvt hd td ta tb (f7.extractLsb' 0 1)) true true ((f7.extractLsb' 1 2) == 0))
  | 5 => .ok (RawInstr.mk (.ttr hd td ta) true true (tb == 0 && (f7.extractLsb' 0 3) == 0))
  | 6 => .ok (RawInstr.mk (.tchk hd ta) true true (td == 0 && tb == 0 && (f7.extractLsb' 0 3) == 0))
  | 7 => .ok (RawInstr.mk (.tmov hd td ta) true true (tb == 0 && (f7.extractLsb' 0 3) == 0))
  | 8 => .ok (RawInstr.mk (.tadd hd td ta tb) true true ((f7.extractLsb' 0 3) == 0))
  | _ => .error .reservedMinor

/-- Major 0x2E (R90). -/
def decodeTdrq (hd : Hdr) (r : BitVec 19) : Except DecodeError RawInstr :=
  let td : BitVec 4 := r.extractLsb' 15 4
  let ta : BitVec 4 := r.extractLsb' 11 4
  let vb : BitVec 5 := r.extractLsb' 6 5
  let fo : BitVec 4 := r.extractLsb' 2 4
  let bi : BitVec 1 := r.extractLsb' 1 1
  let ze : BitVec 1 := r.extractLsb' 0 1
  .ok (RawInstr.mk (.tdrq hd td ta vb fo bi) true true (ze == 0))

/-- Major 0x2F (R90). -/
def decodeTvec (hd : Hdr) (r : BitVec 19) : Except DecodeError RawInstr :=
  let t : BitVec 4 := r.extractLsb' 15 4
  let xv : BitVec 5 := r.extractLsb' 10 5
  let ys : BitVec 5 := r.extractLsb' 5 5
  let f5 : BitVec 5 := r.extractLsb' 0 5
  match f5.toNat with
  | 0 => .ok (RawInstr.mk (.trget hd t xv ys) true true true)
  | 1 => .ok (RawInstr.mk (.trset hd t xv ys) true true true)
  | 2 => .ok (RawInstr.mk (.tcsum hd t xv ys) true true true)
  | 3 => .ok (RawInstr.mk (.trsum hd t xv) true true (ys == 0))
  | 4 => .ok (RawInstr.mk (.tinj hd t xv ys) true true true)
  | 5 => .ok (RawInstr.mk (.tstat hd t xv ys) true true true)
  | _ => .error .reservedMinor

/-- Major 0x30 (R90). -/
noncomputable def decodeCb (hd : Hdr) (r : BitVec 19) : Except DecodeError RawInstr :=
  let a : BitVec 5 := r.extractLsb' 14 5
  let b : BitVec 5 := r.extractLsb' 9 5
  let i9 : BitVec 9 := r.extractLsb' 0 9
  match i9.toNat with
  | 0 => .ok (RawInstr.mk (.cbdef hd a b) true true true)
  | 1 => .ok (RawInstr.mk (.cbput hd a b) true true true)
  | 2 => .ok (RawInstr.mk (.cbwait hd a b) true true true)
  | 3 => .ok (RawInstr.mk (.cbtake hd a b) true true true)
  | 4 => .ok (RawInstr.mk (.cbclose hd b) true true (a == 0))
  | 5 => .ok (RawInstr.mk (.cbst hd a b) true true true)
  | _ => .error .reservedMinor

/-- Major 0x31 (R90). -/
noncomputable def decodeCpy (hd : Hdr) (r : BitVec 19) : Except DecodeError RawInstr :=
  let a : BitVec 5 := r.extractLsb' 14 5
  let b : BitVec 5 := r.extractLsb' 9 5
  let i9 : BitVec 9 := r.extractLsb' 0 9
  match (i9.extractLsb' 6 3).toNat with
  | 0 => .ok (RawInstr.mk (.cpy hd a b (i9.extractLsb' 0 6)) true true true)
  | 1 => .ok (RawInstr.mk (.cpyt hd a b (i9.extractLsb' 0 6)) true true true)
  | 2 => .ok (RawInstr.mk (.cpya hd a b (i9.extractLsb' 0 6)) true true true)
  | 3 => .ok (RawInstr.mk (.cpyc hd a b (i9.extractLsb' 0 6)) true true true)
  | 4 => .ok (RawInstr.mk (.cpyst hd a) true true (b == 0 && (i9.extractLsb' 0 6) == 0))
  | _ => .error .reservedMinor

/-- Major 0x32 (R90). -/
noncomputable def decodeSync (hd : Hdr) (r : BitVec 19) : Except DecodeError RawInstr :=
  let a : BitVec 5 := r.extractLsb' 14 5
  let b : BitVec 5 := r.extractLsb' 9 5
  let i9 : BitVec 9 := r.extractLsb' 0 9
  match i9.toNat with
  | 0 => .ok (RawInstr.mk (.sinit hd a b) true true true)
  | 1 => .ok (RawInstr.mk (.swait hd a b) true true true)
  | 2 => .ok (RawInstr.mk (.swaitY hd a b) true true true)
  | 3 => .ok (RawInstr.mk (.sadd hd a b) true true true)
  | 4 => .ok (RawInstr.mk (.sstat hd a b) true true true)
  | _ => .error .reservedMinor

/-- Major 0x33 (R90). -/
noncomputable def decodeRec (hd : Hdr) (r : BitVec 19) : Except DecodeError RawInstr :=
  let a : BitVec 5 := r.extractLsb' 14 5
  let b : BitVec 5 := r.extractLsb' 9 5
  let i9 : BitVec 9 := r.extractLsb' 0 9
  match i9.toNat with
  | 0 => .ok (RawInstr.mk (.rsub hd a b) true true true)
  | 1 => .ok (RawInstr.mk (.rtake hd a b) true true true)
  | 2 => .ok (RawInstr.mk (.rpass hd b) true true (a == 0))
  | 3 => .ok (RawInstr.mk (.rdrop hd b) true true (a == 0))
  | 4 => .ok (RawInstr.mk (.rside hd a b) true true true)
  | 5 => .ok (RawInstr.mk (.rstat hd a b) true true true)
  | _ => .error .reservedMinor

/-- Major 0x34 (R90). -/
noncomputable def decodeColl (hd : Hdr) (r : BitVec 19) : Except DecodeError RawInstr :=
  let a : BitVec 5 := r.extractLsb' 14 5
  let b : BitVec 5 := r.extractLsb' 9 5
  let i9 : BitVec 9 := r.extractLsb' 0 9
  match i9.toNat with
  | 0 => .ok (RawInstr.mk (.coll hd a b) true true true)
  | 1 => .ok (RawInstr.mk (.cwait hd a b) true true true)
  | 2 => .ok (RawInstr.mk (.cstat hd a b) true true true)
  | 3 => .ok (RawInstr.mk (.cabort hd b) true true (a == 0))
  | _ => .error .reservedMinor

/-- Major 0x35 (R90). -/
noncomputable def decodeLaunch (hd : Hdr) (r : BitVec 19) : Except DecodeError RawInstr :=
  let a : BitVec 5 := r.extractLsb' 14 5
  let b : BitVec 5 := r.extractLsb' 9 5
  let i9 : BitVec 9 := r.extractLsb' 0 9
  match i9.toNat with
  | 0 => .ok (RawInstr.mk (.launch hd a b) true true true)
  | 1 => .ok (RawInstr.mk (.lstat hd a b) true true true)
  | _ => .error .reservedMinor

/-- Major 0x36 (R90). -/
noncomputable def decodeTime (hd : Hdr) (r : BitVec 19) : Except DecodeError RawInstr :=
  let a : BitVec 5 := r.extractLsb' 14 5
  let b : BitVec 5 := r.extractLsb' 9 5
  let i9 : BitVec 9 := r.extractLsb' 0 9
  match i9.toNat with
  | 0 => .ok (RawInstr.mk (.waitt hd a b) true true true)
  | 1 => .ok (RawInstr.mk (.tnow hd a b) true true true)
  | _ => .error .reservedMinor

/-- Major 0x37 (R90). -/
noncomputable def decodeWin (hd : Hdr) (r : BitVec 19) : Except DecodeError RawInstr :=
  let a : BitVec 5 := r.extractLsb' 14 5
  let b : BitVec 5 := r.extractLsb' 9 5
  let i9 : BitVec 9 := r.extractLsb' 0 9
  match i9.toNat with
  | 0 => .ok (RawInstr.mk (.rfence hd a) true true (b == 0))
  | 1 => .ok (RawInstr.mk (.rfencew hd a b) true true true)
  | 2 => .ok (RawInstr.mk (.wstat hd a b) true true true)
  | 3 => .ok (RawInstr.mk (.pagereq hd a b) true true true)
  | 4 => .ok (RawInstr.mk (.pstat hd a b) true true true)
  | _ => .error .reservedMinor

/-- The major opcode map (R90); 0x14 and 0x38 to 0x3F are reserved. -/
noncomputable def decodeMajor (hd : Hdr) (op : BitVec 6) (r : BitVec 19) : Except DecodeError RawInstr :=
  match op.toNat with
  | 0 => decodeSys hd r
  | 1 => decodeAlu hd r
  | 2 => decodeAlu2 hd r
  | 3 => decodeAddi hd r
  | 4 => decodeAndi hd r
  | 5 => decodeOri hd r
  | 6 => decodeXori hd r
  | 7 => decodeShi hd r
  | 8 => decodeLi hd r
  | 9 => decodeLsh hd r
  | 10 => decodeCmp hd r
  | 11 => decodeCmpeqi hd r
  | 12 => decodeCmplti hd r
  | 13 => decodeCmpltui hd r
  | 14 => decodeBr hd r
  | 15 => decodeCall hd r
  | 16 => decodeJmp hd r
  | 17 => decodeLoop hd r
  | 18 => decodeLoopi hd r
  | 19 => decodePred hd r
  | 21 => decodeLd hd r
  | 22 => decodeSt hd r
  | 23 => decodeFe hd r
  | 24 => decodeVld hd r
  | 25 => decodeVst hd r
  | 26 => decodeVldg hd r
  | 27 => decodeVsts hd r
  | 28 => decodeAtom32 hd r
  | 29 => decodeAtom64 hd r
  | 30 => decodeFence hd r
  | 31 => decodeOwn hd r
  | 32 => decodeValu hd r
  | 33 => decodeValus hd r
  | 34 => decodeVfalu hd r
  | 35 => decodeVfma hd r
  | 36 => decodeVcmp hd r
  | 37 => decodeVcvt hd r
  | 38 => decodeVred hd r
  | 39 => decodeVperm hd r
  | 40 => decodeVsplat hd r
  | 41 => decodeTld hd r
  | 42 => decodeTst hd r
  | 43 => decodeTlds hd r
  | 44 => decodeMma hd r
  | 45 => decodeTops hd r
  | 46 => decodeTdrq hd r
  | 47 => decodeTvec hd r
  | 48 => decodeCb hd r
  | 49 => decodeCpy hd r
  | 50 => decodeSync hd r
  | 51 => decodeRec hd r
  | 52 => decodeColl hd r
  | 53 => decodeLaunch hd r
  | 54 => decodeTime hd r
  | 55 => decodeWin hd r
  | _ => .error .reservedMajor

/-- The checks of one word in the order of R92, once its minor code is known. -/
def checkRaw (raw : RawInstr) : Except DecodeError Instr :=
  if !raw.instr.guardOk then .error .guardFields
  else if !raw.predOk then .error .predicateBit
  else if !raw.instr.formatOk then .error .formatCode
  else if !(raw.limitOk && raw.instr.limitOk) then .error .limit
  else if !(raw.zeroOk && raw.instr.zeroOk) then .error .mustBeZero
  else .ok raw.instr

/-- The instruction a 32-bit word stands for, or the first check of R92 that it fails. -/
noncomputable def decodeWord (w : W32) : Except DecodeError Instr :=
  match decodeMajor (headerOf w) (w.extractLsb' 19 6) (w.extractLsb' 0 19) with
  | .error e => .error e
  | .ok raw => checkRaw raw

/-- Four bytes, lowest address first, as a little-endian word (R2, R75). -/
def wordOfBytes (b0 b1 b2 b3 : Byte) : W32 := b3 ++ b2 ++ b1 ++ b0

/-- Byte `i` of a word as it lies in memory (R2). -/
def byteOfWord (w : W32) (i : Nat) : Byte := w.extractLsb' (8 * i) 8

/-- Decoding of any byte list: the instruction of its first four bytes and the bytes that follow. -/
noncomputable def decode : List Byte → Except DecodeError (Instr × List Byte)
  | b0 :: b1 :: b2 :: b3 :: rest =>
    match decodeWord (wordOfBytes b0 b1 b2 b3) with
    | .ok i => .ok (i, rest)
    | .error e => .error e
  | _ => .error .truncated

/-- A word's bytes, lowest address first. -/
def bytesOfWord (w : W32) : List Byte := [byteOfWord w 0, byteOfWord w 1, byteOfWord w 2, byteOfWord w 3]

/-- The host's question of the decoder: an instruction whose bits are `w`, numbered as the opcode table numbers them. -/
noncomputable def decodeTableWord (nbits w : Nat) : Option Instr :=
  if nbits == 32 then
    match decode (bytesOfWord (BitVec.ofNat 32 w)) with
    | .ok (i, _) => some i
    | .error _ => none
  else none

/-- The seven header bits [31:25] of a word (R77). -/
def headerBits (hd : Hdr) : BitVec 7 :=
  BitVec.ofBool hd.c ++ BitVec.ofBool hd.g ++ hd.pg ++ BitVec.ofBool hd.ps

/-- A word from its header, its major opcode and its operand bits (R77). -/
def packWord (hd : Hdr) (op : BitVec 6) (r : BitVec 19) : W32 := headerBits hd ++ op ++ r

/-- Operand format F-R (and VLDG) of R87 or R88. -/
def packR (a : BitVec 5) (b : BitVec 5) (cc : BitVec 5) (fn : BitVec 4) : BitVec 19 := a ++ b ++ cc ++ fn

/-- Operand format F-I and F-E of R87 or R88. -/
def packI (a : BitVec 5) (b : BitVec 5) (i9 : BitVec 9) : BitVec 19 := a ++ b ++ i9

/-- Operand format F-L of R87 or R88. -/
def packL (a : BitVec 5) (i14 : BitVec 14) : BitVec 19 := a ++ i14

/-- Operand format F-J of R87 or R88. -/
def packJ (d19 : BitVec 19) : BitVec 19 := d19

/-- Operand format F-M of R87 or R88. -/
def packM (a : BitVec 5) (b : BitVec 5) (d6 : BitVec 6) (m : BitVec 3) : BitVec 19 := a ++ b ++ d6 ++ m

/-- Operand format F-T of R87 or R88. -/
def packT (td : BitVec 4) (ta : BitVec 4) (tb : BitVec 4) (f7 : BitVec 7) : BitVec 19 := td ++ ta ++ tb ++ f7

/-- Operand format F-TM of R87 or R88. -/
def packTM (td : BitVec 4) (bs : BitVec 5) (st : BitVec 5) (fm : BitVec 4) (md : BitVec 1) : BitVec 19 := td ++ bs ++ st ++ fm ++ md

/-- Operand format F-TV of R87 or R88. -/
def packTV (t : BitVec 4) (xv : BitVec 5) (ys : BitVec 5) (f5 : BitVec 5) : BitVec 19 := t ++ xv ++ ys ++ f5

/-- Operand format LOOPI of R87 or R88. -/
def packLoopi (cnt : BitVec 10) (len : BitVec 9) : BitVec 19 := cnt ++ len

/-- Operand format TDRQ of R87 or R88. -/
def packTdrq (td : BitVec 4) (ta : BitVec 4) (vb : BitVec 5) (fo : BitVec 4) (bi : BitVec 1) (ze : BitVec 1) : BitVec 19 := td ++ ta ++ vb ++ fo ++ bi ++ ze

/-- The word of an instruction, written from R87, R88, R90 and R91; an event has no word. -/
def encode : Instr → Option W32
  | .nop hd => some (packWord hd 0x00 (packI 0#5 0#5 0#9))
  | .halt hd => some (packWord hd 0x00 (packI 0#5 1#5 0#9))
  | .exit hd => some (packWord hd 0x00 (packI 0#5 2#5 0#9))
  | .trap hd k => some (packWord hd 0x00 (packI 0#5 3#5 (0#3 ++ k)))
  | .eret hd => some (packWord hd 0x00 (packI 0#5 4#5 0#9))
  | .snapst hd a => some (packWord hd 0x00 (packI a 5#5 0#9))
  | .snapld hd a => some (packWord hd 0x00 (packI a 6#5 0#9))
  | .snaprel hd => some (packWord hd 0x00 (packI 0#5 7#5 0#9))
  | .yield hd => some (packWord hd 0x00 (packI 0#5 8#5 0#9))
  | .srr hd a k => some (packWord hd 0x00 (packI a 9#5 k))
  | .srw hd a k => some (packWord hd 0x00 (packI a 10#5 k))
  | .brk hd k => some (packWord hd 0x00 (packI 0#5 11#5 k))
  | .add hd a b x => some (packWord hd 0x01 (packR a b x 0#4))
  | .sub hd a b x => some (packWord hd 0x01 (packR a b x 1#4))
  | .and hd a b x => some (packWord hd 0x01 (packR a b x 2#4))
  | .or hd a b x => some (packWord hd 0x01 (packR a b x 3#4))
  | .xor hd a b x => some (packWord hd 0x01 (packR a b x 4#4))
  | .andn hd a b x => some (packWord hd 0x01 (packR a b x 5#4))
  | .sll hd a b x => some (packWord hd 0x01 (packR a b x 6#4))
  | .srl hd a b x => some (packWord hd 0x01 (packR a b x 7#4))
  | .sra hd a b x => some (packWord hd 0x01 (packR a b x 8#4))
  | .mul hd a b x => some (packWord hd 0x01 (packR a b x 9#4))
  | .mulh hd a b x => some (packWord hd 0x01 (packR a b x 10#4))
  | .mulhu hd a b x => some (packWord hd 0x01 (packR a b x 11#4))
  | .min hd a b x => some (packWord hd 0x01 (packR a b x 12#4))
  | .max hd a b x => some (packWord hd 0x01 (packR a b x 13#4))
  | .minu hd a b x => some (packWord hd 0x01 (packR a b x 14#4))
  | .maxu hd a b x => some (packWord hd 0x01 (packR a b x 15#4))
  | .div hd a b x => some (packWord hd 0x02 (packR a b x 0#4))
  | .divu hd a b x => some (packWord hd 0x02 (packR a b x 1#4))
  | .rem hd a b x => some (packWord hd 0x02 (packR a b x 2#4))
  | .remu hd a b x => some (packWord hd 0x02 (packR a b x 3#4))
  | .clz hd a b => some (packWord hd 0x02 (packR a b 0#5 4#4))
  | .ctz hd a b => some (packWord hd 0x02 (packR a b 0#5 5#4))
  | .popc hd a b => some (packWord hd 0x02 (packR a b 0#5 6#4))
  | .sextB hd a b => some (packWord hd 0x02 (packR a b 0#5 7#4))
  | .sextH hd a b => some (packWord hd 0x02 (packR a b 0#5 8#4))
  | .sextW hd a b => some (packWord hd 0x02 (packR a b 0#5 9#4))
  | .zextW hd a b => some (packWord hd 0x02 (packR a b 0#5 10#4))
  | .bswap hd a b => some (packWord hd 0x02 (packR a b 0#5 11#4))
  | .addi hd a b i => some (packWord hd 0x03 (packI a b i))
  | .andi hd a b i => some (packWord hd 0x04 (packI a b i))
  | .ori hd a b i => some (packWord hd 0x05 (packI a b i))
  | .xori hd a b i => some (packWord hd 0x06 (packI a b i))
  | .slli hd a b h => some (packWord hd 0x07 (packI a b (0#2 ++ 0#1 ++ h)))
  | .srli hd a b h => some (packWord hd 0x07 (packI a b (1#2 ++ 0#1 ++ h)))
  | .srai hd a b h => some (packWord hd 0x07 (packI a b (2#2 ++ 0#1 ++ h)))
  | .li hd a i => some (packWord hd 0x08 (packL a i))
  | .lsh hd a i => some (packWord hd 0x09 (packL a i))
  | .cmpEq hd a b x => some (packWord hd 0x0A (packR (0#1 ++ a) b x 0#4))
  | .cmpNe hd a b x => some (packWord hd 0x0A (packR (0#1 ++ a) b x 1#4))
  | .cmpLt hd a b x => some (packWord hd 0x0A (packR (0#1 ++ a) b x 2#4))
  | .cmpGe hd a b x => some (packWord hd 0x0A (packR (0#1 ++ a) b x 3#4))
  | .cmpLtu hd a b x => some (packWord hd 0x0A (packR (0#1 ++ a) b x 4#4))
  | .cmpGeu hd a b x => some (packWord hd 0x0A (packR (0#1 ++ a) b x 5#4))
  | .cmpeqi hd a b i => some (packWord hd 0x0B (packI (0#1 ++ a) b i))
  | .cmplti hd a b i => some (packWord hd 0x0C (packI (0#1 ++ a) b i))
  | .cmpltui hd a b i => some (packWord hd 0x0D (packI (0#1 ++ a) b i))
  | .br hd d => some (packWord hd 0x0E (packJ d))
  | .call hd d => some (packWord hd 0x0F (packJ d))
  | .jr hd b => some (packWord hd 0x10 (packR 0#5 b 0#5 0#4))
  | .jalr hd a b => some (packWord hd 0x10 (packR a b 0#5 1#4))
  | .ret hd => some (packWord hd 0x10 (packR 0#5 0#5 0#5 2#4))
  | .loop hd b l => some (packWord hd 0x11 (packI 0#5 b l))
  | .loopi hd k l => some (packWord hd 0x12 (packLoopi k l))
  | .pand hd a b x => some (packWord hd 0x13 (packR (0#1 ++ a) (0#1 ++ b) (0#1 ++ x) 0#4))
  | .por hd a b x => some (packWord hd 0x13 (packR (0#1 ++ a) (0#1 ++ b) (0#1 ++ x) 1#4))
  | .pxor hd a b x => some (packWord hd 0x13 (packR (0#1 ++ a) (0#1 ++ b) (0#1 ++ x) 2#4))
  | .pandn hd a b x => some (packWord hd 0x13 (packR (0#1 ++ a) (0#1 ++ b) (0#1 ++ x) 3#4))
  | .pnot hd a b => some (packWord hd 0x13 (packR (0#1 ++ a) (0#1 ++ b) 0#5 4#4))
  | .pmov hd a b => some (packWord hd 0x13 (packR (0#1 ++ a) (0#1 ++ b) 0#5 5#4))
  | .pset hd a => some (packWord hd 0x13 (packR (0#1 ++ a) 0#5 0#5 6#4))
  | .pclr hd a => some (packWord hd 0x13 (packR (0#1 ++ a) 0#5 0#5 7#4))
  | .pcnt hd a b => some (packWord hd 0x13 (packR a (0#1 ++ b) 0#5 8#4))
  | .pfirst hd a b => some (packWord hd 0x13 (packR a (0#1 ++ b) 0#5 9#4))
  | .ld8 hd a b d => some (packWord hd 0x15 (packM a b d 0#3))
  | .ld8u hd a b d => some (packWord hd 0x15 (packM a b d 1#3))
  | .ld16 hd a b d => some (packWord hd 0x15 (packM a b d 2#3))
  | .ld16u hd a b d => some (packWord hd 0x15 (packM a b d 3#3))
  | .ld32 hd a b d => some (packWord hd 0x15 (packM a b d 4#3))
  | .ld32u hd a b d => some (packWord hd 0x15 (packM a b d 5#3))
  | .ld64 hd a b d => some (packWord hd 0x15 (packM a b d 6#3))
  | .st8 hd a b d => some (packWord hd 0x16 (packM a b d 0#3))
  | .st16 hd a b d => some (packWord hd 0x16 (packM a b d 1#3))
  | .st32 hd a b d => some (packWord hd 0x16 (packM a b d 2#3))
  | .st64 hd a b d => some (packWord hd 0x16 (packM a b d 3#3))
  | .ldf hd a b d => some (packWord hd 0x17 (packM a b d 0#3))
  | .lde hd a b d => some (packWord hd 0x17 (packM a b d 1#3))
  | .stf hd a b d => some (packWord hd 0x17 (packM a b d 2#3))
  | .stfo hd a b d => some (packWord hd 0x17 (packM a b d 3#3))
  | .feRequestServed => none
  | .vldRaw hd a b d => some (packWord hd 0x18 (packM a b d 0#3))
  | .vldF32 hd a b d => some (packWord hd 0x18 (packM a b d 1#3))
  | .vldBf16 hd a b d => some (packWord hd 0x18 (packM a b d 2#3))
  | .vldI32 hd a b d => some (packWord hd 0x18 (packM a b d 3#3))
  | .vldI8 hd a b d => some (packWord hd 0x18 (packM a b d 4#3))
  | .vldUi8 hd a b d => some (packWord hd 0x18 (packM a b d 5#3))
  | .vldHt8 hd a b d => some (packWord hd 0x18 (packM a b d 6#3))
  | .vldVtag hd a b d => some (packWord hd 0x18 (packM a b d 7#3))
  | .vst hd a b d => some (packWord hd 0x19 (packM a b d 0#3))
  | .vstHt6 hd a b d => some (packWord hd 0x19 (packM a b d 1#3))
  | .vldg hd a b x r => some (packWord hd 0x1A (packR a b x r))
  | .vsts hd a b x => some (packWord hd 0x1B (packR a b x 0#4))
  | .atom32Add hd a b x => some (packWord hd 0x1C (packR a b x 0#4))
  | .atom32And hd a b x => some (packWord hd 0x1C (packR a b x 1#4))
  | .atom32Or hd a b x => some (packWord hd 0x1C (packR a b x 2#4))
  | .atom32Xor hd a b x => some (packWord hd 0x1C (packR a b x 3#4))
  | .atom32Min hd a b x => some (packWord hd 0x1C (packR a b x 4#4))
  | .atom32Max hd a b x => some (packWord hd 0x1C (packR a b x 5#4))
  | .atom32Minu hd a b x => some (packWord hd 0x1C (packR a b x 6#4))
  | .atom32Maxu hd a b x => some (packWord hd 0x1C (packR a b x 7#4))
  | .atom32Swap hd a b x => some (packWord hd 0x1C (packR a b x 8#4))
  | .atom32Cas hd a b x => some (packWord hd 0x1C (packR a b x 9#4))
  | .atom32Fadd hd a b x => some (packWord hd 0x1C (packR a b x 10#4))
  | .atom32Fmin hd a b x => some (packWord hd 0x1C (packR a b x 11#4))
  | .atom32Fmax hd a b x => some (packWord hd 0x1C (packR a b x 12#4))
  | .atom64Add hd a b x => some (packWord hd 0x1D (packR a b x 0#4))
  | .atom64And hd a b x => some (packWord hd 0x1D (packR a b x 1#4))
  | .atom64Or hd a b x => some (packWord hd 0x1D (packR a b x 2#4))
  | .atom64Xor hd a b x => some (packWord hd 0x1D (packR a b x 3#4))
  | .atom64Min hd a b x => some (packWord hd 0x1D (packR a b x 4#4))
  | .atom64Max hd a b x => some (packWord hd 0x1D (packR a b x 5#4))
  | .atom64Minu hd a b x => some (packWord hd 0x1D (packR a b x 6#4))
  | .atom64Maxu hd a b x => some (packWord hd 0x1D (packR a b x 7#4))
  | .atom64Swap hd a b x => some (packWord hd 0x1D (packR a b x 8#4))
  | .atom64Cas hd a b x => some (packWord hd 0x1D (packR a b x 9#4))
  | .faddg hd a b x => some (packWord hd 0x1D (packR a b x 13#4))
  | .atomicAcknowledgement _ _ => none
  | .fence hd s m => some (packWord hd 0x1E (packI 0#5 0#5 (s ++ m)))
  | .rel hd b x => some (packWord hd 0x1F (packR 0#5 b x 0#4))
  | .ownRet hd b x => some (packWord hd 0x1F (packR 0#5 b x 1#4))
  | .valuAdd hd a b x => some (packWord hd 0x20 (packR a b x 0#4))
  | .valuSub hd a b x => some (packWord hd 0x20 (packR a b x 1#4))
  | .valuAnd hd a b x => some (packWord hd 0x20 (packR a b x 2#4))
  | .valuOr hd a b x => some (packWord hd 0x20 (packR a b x 3#4))
  | .valuXor hd a b x => some (packWord hd 0x20 (packR a b x 4#4))
  | .valuAndn hd a b x => some (packWord hd 0x20 (packR a b x 5#4))
  | .valuSll hd a b x => some (packWord hd 0x20 (packR a b x 6#4))
  | .valuSrl hd a b x => some (packWord hd 0x20 (packR a b x 7#4))
  | .valuSra hd a b x => some (packWord hd 0x20 (packR a b x 8#4))
  | .valuMul hd a b x => some (packWord hd 0x20 (packR a b x 9#4))
  | .valuMulh hd a b x => some (packWord hd 0x20 (packR a b x 10#4))
  | .valuMulhu hd a b x => some (packWord hd 0x20 (packR a b x 11#4))
  | .valuMin hd a b x => some (packWord hd 0x20 (packR a b x 12#4))
  | .valuMax hd a b x => some (packWord hd 0x20 (packR a b x 13#4))
  | .valuMinu hd a b x => some (packWord hd 0x20 (packR a b x 14#4))
  | .valuMaxu hd a b x => some (packWord hd 0x20 (packR a b x 15#4))
  | .valusAdd hd a b x => some (packWord hd 0x21 (packR a b x 0#4))
  | .valusSub hd a b x => some (packWord hd 0x21 (packR a b x 1#4))
  | .valusAnd hd a b x => some (packWord hd 0x21 (packR a b x 2#4))
  | .valusOr hd a b x => some (packWord hd 0x21 (packR a b x 3#4))
  | .valusXor hd a b x => some (packWord hd 0x21 (packR a b x 4#4))
  | .valusAndn hd a b x => some (packWord hd 0x21 (packR a b x 5#4))
  | .valusSll hd a b x => some (packWord hd 0x21 (packR a b x 6#4))
  | .valusSrl hd a b x => some (packWord hd 0x21 (packR a b x 7#4))
  | .valusSra hd a b x => some (packWord hd 0x21 (packR a b x 8#4))
  | .valusMul hd a b x => some (packWord hd 0x21 (packR a b x 9#4))
  | .valusMulh hd a b x => some (packWord hd 0x21 (packR a b x 10#4))
  | .valusMulhu hd a b x => some (packWord hd 0x21 (packR a b x 11#4))
  | .valusMin hd a b x => some (packWord hd 0x21 (packR a b x 12#4))
  | .valusMax hd a b x => some (packWord hd 0x21 (packR a b x 13#4))
  | .valusMinu hd a b x => some (packWord hd 0x21 (packR a b x 14#4))
  | .valusMaxu hd a b x => some (packWord hd 0x21 (packR a b x 15#4))
  | .fadd hd a b x => some (packWord hd 0x22 (packR a b x 0#4))
  | .fsub hd a b x => some (packWord hd 0x22 (packR a b x 1#4))
  | .fmul hd a b x => some (packWord hd 0x22 (packR a b x 2#4))
  | .fmin hd a b x => some (packWord hd 0x22 (packR a b x 3#4))
  | .fmax hd a b x => some (packWord hd 0x22 (packR a b x 4#4))
  | .fabs hd a b => some (packWord hd 0x22 (packR a b 0#5 5#4))
  | .fneg hd a b => some (packWord hd 0x22 (packR a b 0#5 6#4))
  | .fsqrt hd a b => some (packWord hd 0x22 (packR a b 0#5 7#4))
  | .frcp hd a b => some (packWord hd 0x22 (packR a b 0#5 8#4))
  | .frsq hd a b => some (packWord hd 0x22 (packR a b 0#5 9#4))
  | .fexp2 hd a b => some (packWord hd 0x22 (packR a b 0#5 10#4))
  | .flog2 hd a b => some (packWord hd 0x22 (packR a b 0#5 11#4))
  | .fma hd a b x => some (packWord hd 0x23 (packR a b x 0#4))
  | .fms hd a b x => some (packWord hd 0x23 (packR a b x 1#4))
  | .fnma hd a b x => some (packWord hd 0x23 (packR a b x 2#4))
  | .vcmpEq hd a b x => some (packWord hd 0x24 (packR (0#1 ++ a) b x 0#4))
  | .vcmpNe hd a b x => some (packWord hd 0x24 (packR (0#1 ++ a) b x 1#4))
  | .vcmpLt hd a b x => some (packWord hd 0x24 (packR (0#1 ++ a) b x 2#4))
  | .vcmpLe hd a b x => some (packWord hd 0x24 (packR (0#1 ++ a) b x 3#4))
  | .vcmpLtu hd a b x => some (packWord hd 0x24 (packR (0#1 ++ a) b x 4#4))
  | .vcmpFeq hd a b x => some (packWord hd 0x24 (packR (0#1 ++ a) b x 5#4))
  | .vcmpFlt hd a b x => some (packWord hd 0x24 (packR (0#1 ++ a) b x 6#4))
  | .vcmpFle hd a b x => some (packWord hd 0x24 (packR (0#1 ++ a) b x 7#4))
  | .vcmpFunord hd a b x => some (packWord hd 0x24 (packR (0#1 ++ a) b x 8#4))
  | .vcvtF32I32 hd a b z => some (packWord hd 0x25 (packR a b (0#2 ++ 0#2 ++ z) 0#4))
  | .vcvtI32F32 hd a b z => some (packWord hd 0x25 (packR a b (0#2 ++ 0#2 ++ z) 1#4))
  | .vcvtBf16F32 hd a b t z => some (packWord hd 0x25 (packR a b (0#2 ++ t ++ z) 2#4))
  | .vcvtF32Bf16 hd a b t => some (packWord hd 0x25 (packR a b (0#2 ++ t ++ 0#1) 3#4))
  | .vcvtE4m3F32 hd a b t z => some (packWord hd 0x25 (packR a b (0#2 ++ t ++ z) 4#4))
  | .vcvtF32E4m3 hd a b t => some (packWord hd 0x25 (packR a b (0#2 ++ t ++ 0#1) 5#4))
  | .vcvtE5m2F32 hd a b t z => some (packWord hd 0x25 (packR a b (0#2 ++ t ++ z) 6#4))
  | .vcvtF32E5m2 hd a b t => some (packWord hd 0x25 (packR a b (0#2 ++ t ++ 0#1) 7#4))
  | .vcvtE2m1F32 hd a b t z => some (packWord hd 0x25 (packR a b (0#2 ++ t ++ z) 8#4))
  | .vcvtF32E2m1 hd a b t => some (packWord hd 0x25 (packR a b (0#2 ++ t ++ 0#1) 9#4))
  | .vcvtHt8F32 hd a b t => some (packWord hd 0x25 (packR a b (0#2 ++ t ++ 0#1) 10#4))
  | .vcvtF32Ht8 hd a b t => some (packWord hd 0x25 (packR a b (0#2 ++ t ++ 0#1) 11#4))
  | .vcvtHt6F32 hd a b t => some (packWord hd 0x25 (packR a b (0#2 ++ t ++ 0#1) 12#4))
  | .vcvtF32Ht6 hd a b t => some (packWord hd 0x25 (packR a b (0#2 ++ t ++ 0#1) 13#4))
  | .vcvtI32I8 hd a b t => some (packWord hd 0x25 (packR a b (0#2 ++ t ++ 0#1) 14#4))
  | .vcvtI8I32 hd a b u t z => some (packWord hd 0x25 (packR a b (u ++ 0#1 ++ t ++ z) 15#4))
  | .vredSumI32 hd a b => some (packWord hd 0x26 (packR a b 0#5 0#4))
  | .vredSumF32 hd a b => some (packWord hd 0x26 (packR a b 0#5 1#4))
  | .vredMin hd a b => some (packWord hd 0x26 (packR a b 0#5 2#4))
  | .vredMax hd a b => some (packWord hd 0x26 (packR a b 0#5 3#4))
  | .vredFmin hd a b => some (packWord hd 0x26 (packR a b 0#5 4#4))
  | .vredFmax hd a b => some (packWord hd 0x26 (packR a b 0#5 5#4))
  | .vredAnd hd a b => some (packWord hd 0x26 (packR a b 0#5 6#4))
  | .vredOr hd a b => some (packWord hd 0x26 (packR a b 0#5 7#4))
  | .vperm hd a b x => some (packWord hd 0x27 (packR a b x 0#4))
  | .vrot hd a b x => some (packWord hd 0x27 (packR a b x 1#4))
  | .vbcast hd a b x => some (packWord hd 0x27 (packR a b x 2#4))
  | .vext hd a b x => some (packWord hd 0x27 (packR a b x 3#4))
  | .vins hd a b x => some (packWord hd 0x27 (packR a b x 4#4))
  | .vcompress hd a b x => some (packWord hd 0x27 (packR a b (0#1 ++ x) 5#4))
  | .vexpand hd a b x => some (packWord hd 0x27 (packR a b (0#1 ++ x) 6#4))
  | .vid hd a => some (packWord hd 0x27 (packR a 0#5 0#5 7#4))
  | .vsplat hd a i => some (packWord hd 0x28 (packL a i))
  | .tldChk hd d b f => some (packWord hd 0x29 (packTM d b 0#5 f 0#1))
  | .tldGen hd d b s f => some (packWord hd 0x29 (packTM d b s f 1#1))
  | .tstChk hd d b f => some (packWord hd 0x2A (packTM d b 0#5 f 0#1))
  | .tstGen hd d b s f => some (packWord hd 0x2A (packTM d b s f 1#1))
  | .tlds hd a => some (packWord hd 0x2B (packT 0#4 a 0#4 0#7))
  | .mma hd d a e s w v t => some (packWord hd 0x2C (packT d a 0#4 (0#1 ++ 0#1 ++ e ++ s ++ w ++ v ++ t)))
  | .mmaCb hd d k e s w v t => some (packWord hd 0x2C (packT d k 0#4 (1#1 ++ 0#1 ++ e ++ s ++ w ++ v ++ t)))
  | .tswap hd => some (packWord hd 0x2D (packT 0#4 0#4 0#4 (0#4 ++ 0#3)))
  | .tzero hd d f => some (packWord hd 0x2D (packT d 0#4 f (1#4 ++ 0#3)))
  | .tmark hd d => some (packWord hd 0x2D (packT d 0#4 0#4 (2#4 ++ 0#3)))
  | .tdrain hd d => some (packWord hd 0x2D (packT d 0#4 0#4 (3#4 ++ 0#3)))
  | .tcvt hd d a f z => some (packWord hd 0x2D (packT d a f (4#4 ++ 0#2 ++ z)))
  | .ttr hd d a => some (packWord hd 0x2D (packT d a 0#4 (5#4 ++ 0#3)))
  | .tchk hd a => some (packWord hd 0x2D (packT 0#4 a 0#4 (6#4 ++ 0#3)))
  | .tmov hd d a => some (packWord hd 0x2D (packT d a 0#4 (7#4 ++ 0#3)))
  | .tadd hd d a b => some (packWord hd 0x2D (packT d a b (8#4 ++ 0#3)))
  | .tdrq hd d a v f e => some (packWord hd 0x2E (packTdrq d a v f e 0#1))
  | .trget hd t x y => some (packWord hd 0x2F (packTV t x y 0#5))
  | .trset hd t x y => some (packWord hd 0x2F (packTV t x y 1#5))
  | .tcsum hd t x y => some (packWord hd 0x2F (packTV t x y 2#5))
  | .trsum hd t x => some (packWord hd 0x2F (packTV t x 0#5 3#5))
  | .tinj hd t x y => some (packWord hd 0x2F (packTV t x y 4#5))
  | .tstat hd t x y => some (packWord hd 0x2F (packTV t x y 5#5))
  | .xWordStart => none
  | .cbdef hd a b => some (packWord hd 0x30 (packI a b 0#9))
  | .cbput hd a b => some (packWord hd 0x30 (packI a b 1#9))
  | .cbwait hd a b => some (packWord hd 0x30 (packI a b 2#9))
  | .cbtake hd a b => some (packWord hd 0x30 (packI a b 3#9))
  | .cbclose hd b => some (packWord hd 0x30 (packI 0#5 b 4#9))
  | .cbst hd a b => some (packWord hd 0x30 (packI a b 5#9))
  | .cpy hd a b e => some (packWord hd 0x31 (packI a b (0#3 ++ e)))
  | .cpyt hd a b e => some (packWord hd 0x31 (packI a b (1#3 ++ e)))
  | .cpya hd a b e => some (packWord hd 0x31 (packI a b (2#3 ++ e)))
  | .cpyc hd a b e => some (packWord hd 0x31 (packI a b (3#3 ++ e)))
  | .cpyst hd a => some (packWord hd 0x31 (packI a 0#5 (4#3 ++ 0#6)))
  | .copyOperationStart => none
  | .cpycHoldEnd => none
  | .copyOperationComplete => none
  | .cpyaFire => none
  | .copyEngineFault => none
  | .sinit hd a b => some (packWord hd 0x32 (packI a b 0#9))
  | .swait hd a b => some (packWord hd 0x32 (packI a b 1#9))
  | .swaitY hd a b => some (packWord hd 0x32 (packI a b 2#9))
  | .sadd hd a b => some (packWord hd 0x32 (packI a b 3#9))
  | .sstat hd a b => some (packWord hd 0x32 (packI a b 4#9))
  | .waitConditionMet => none
  | .rsub hd a b => some (packWord hd 0x33 (packI a b 0#9))
  | .rtake hd a b => some (packWord hd 0x33 (packI a b 1#9))
  | .rpass hd b => some (packWord hd 0x33 (packI 0#5 b 2#9))
  | .rdrop hd b => some (packWord hd 0x33 (packI 0#5 b 3#9))
  | .rside hd a b => some (packWord hd 0x33 (packI a b 4#9))
  | .rstat hd a b => some (packWord hd 0x33 (packI a b 5#9))
  | .stageSetInstall _ _ _ _ => none
  | .routing _ _ => none
  | .retirement _ _ => none
  | .coll hd a b => some (packWord hd 0x34 (packI a b 0#9))
  | .cwait hd a b => some (packWord hd 0x34 (packI a b 1#9))
  | .cstat hd a b => some (packWord hd 0x34 (packI a b 2#9))
  | .cabort hd b => some (packWord hd 0x34 (packI 0#5 b 3#9))
  | .collFirstPacket _ _ _ => none
  | .collMatchTimeout _ => none
  | .collChunkStart _ _ _ => none
  | .collChunkTimeout _ => none
  | .collAbortReceived _ _ => none
  | .collCallEnd _ => none
  | .launch hd a b => some (packWord hd 0x35 (packI a b 0#9))
  | .lstat hd a b => some (packWord hd 0x35 (packI a b 1#9))
  | .waitt hd a b => some (packWord hd 0x36 (packI a b 0#9))
  | .tnow hd a b => some (packWord hd 0x36 (packI a b 1#9))
  | .rfence hd a => some (packWord hd 0x37 (packI a 0#5 0#9))
  | .rfencew hd a b => some (packWord hd 0x37 (packI a b 1#9))
  | .wstat hd a b => some (packWord hd 0x37 (packI a b 2#9))
  | .pagereq hd a b => some (packWord hd 0x37 (packI a b 3#9))
  | .pstat hd a b => some (packWord hd 0x37 (packI a b 4#9))
  | .exposedResultLanding => none
  | .scoreboardedResultLanding _ => none
  | .lookAheadNullifier => none
  | .correctableSramError _ _ => none
  | .correctionHoldEnd => none
  | .residueGuardMismatch _ _ => none
  | .residueHoldEnd => none
  | .trapEntry => none
  | .preemptionRequest => none
  | .machineCheck _ _ _ => none
  | .ctxcmdSave => none
  | .ctxcmdRelease => none
  | .ctxcmdForward => none
  | .replyAbort _ => none
  | .replyResume _ => none
  | .replyRetryFromMark _ => none
  | .replyKillRegion _ => none
  | .iterationPreemption => none
  | .nodePreemption => none
  | .tailWrite _ _ _ _ => none
  | .mailboxWrite _ _ _ => none
  | .headMirrorStore _ => none
  | .dispatchSlotTableWrite _ _ => none
  | .activityBitmapClear _ _ => none
  | .recordTake _ => none
  | .dependencyMet _ => none
  | .placeUnit _ => none
  | .priorityAgeing _ => none
  | .softPointTimeout => none
  | .gangInstancePlacement _ _ => none
  | .ttStartAttempt _ => none
  | .readyWord _ => none
  | .launchCompletion _ => none
  | .budgetPeriodBoundary _ => none
  | .budgetHandleLoad _ _ _ => none
  | .budgetLimitWrite _ _ _ _ => none
  | .errmapClear _ _ => none
  | .xtblWrite _ _ => none
  | .meshScheduledForward _ => none
  | .reflectedWriteArrival _ => none
  | .acknowledgementSend _ _ => none
  | .acknowledgementReceive _ _ _ => none
  | .retransmission _ _ => none
  | .planeLoss _ => none
  | .pathDeath _ _ _ => none
  | .pathReset _ _ => none
  | .ptpSync _ _ => none
  | .ptpFollowUp _ _ _ => none
  | .ptpPdelayReq _ _ => none
  | .ptpPdelayResp _ _ _ => none
  | .ptpPdelayRespFollowUp _ _ => none
  | .resdone _ => none
  | .resfail _ => none
  | .atsTranslationCompletion _ _ _ _ _ => none
  | .priResponse _ _ _ => none
  | .priTimeout _ _ => none
  | .atsInvalidateRequest _ _ _ => none
  | .arraySelfTest _ _ => none
  | .spareRowSwitch _ _ _ _ => none
  | .bringUp _ => none
  | .attestationRequest _ => none
  | .thermalThrottle _ _ => none
  | .windowEntryInstall _ _ _ _ => none
  | .stageSetRemoval _ _ => none
  | .residencyBitClear _ _ => none
  | .regionNodeInstall _ _ => none
  | .queueTableWrite _ _ => none
  | .extentTableInstall _ _ => none
  | .slotFragmentInstall _ _ _ _ _ => none
  | .hardEviction _ => none
  | .holdover => none
  | .replayInputDelivery _ => none

end Sys2Proof
end

