-- ==== Sys2Proof/Machine/State.lean ====
section
/-! DEFINITION. The state of one Ndephor as one sequencer's program and its firmware can reach it: the bay and its
registers (R7, R10 to R16, R287 to R289), memory (R203), the copy engine (R184 to R190), host translation (R339), the
reflection unit (R239 to R252), the collective engine (R255 to R264), the stage router (R219 to R236), dispatch (R301 to
R315), firmware's tables (R291 to R300, R335 to R349) and the clock (R14, R266). All of it is plain data. -/

namespace Sys2Proof.Machine

/-- Why the machine stops with a fault: for no reason. Every exception of the manual is taken, and the machine goes on. -/
inductive Fault where
  deriving DecidableEq, Repr

/-- Why the machine gives an instruction no meaning. -/
inductive Refusal where
  /-- An instruction that is not modelled, by its mnemonic. Safe. No arm of `exec` answers it. -/
  | notModelled (mnemonic : String)
  deriving DecidableEq, Repr

/-- A memory: listed bytes in rising address order, none of them 0; every unlisted address reads as 0. -/
abbrev Memory := List Host.Cell

/-- The ownership of a 64-byte scratchpad granule that is not OPEN (R208). -/
inductive Owner where
  | excl (agent : BitVec 9)
  | pub
  deriving DecidableEq, Repr

/-- Memory and what scratchpad carries beside its bytes (R203, R145, R208). -/
structure Mem where
  /-- The 160 slices, one flat range from address 0. -/
  spad : Memory
  /-- HBM by physical address, 512 GiB. -/
  hbm : Memory
  /-- Scratchpad words (address / 8) whose full/empty bit is full, rising. -/
  full : List Nat
  /-- Granules (address / 64) that are not OPEN, rising. -/
  owner : List (Nat × Owner)
  /-- Scratchpad words (address / 8) that hold an uncorrectable error (R334): the model's own schedule of errors.
  (Log entry 95, DESIGN CHOICE) -/
  damaged : List Nat
  deriving DecidableEq, Repr

/-- A vector register: 64 lanes of 32 bits, lane i at bit 32 i, and its format tag (R10, R11). -/
structure VReg where
  data : BitVec 2048
  tag : Byte
  deriving DecidableEq, Repr

/-- A tile register (R10, R12, R60): slot (m, n) at bit 32 (64 m + n) of `data`, scale byte k of row m at bit
8 (16 m + k) of `scales`. -/
structure Tile where
  data : BitVec 131072
  rowSum : BitVec 2048
  colSum : BitVec 16384
  scales : BitVec 8192
  tag : Byte
  status : BitVec 256
  deriving DecidableEq, Repr

/-- A stationary plane (R10, R61): data, column sums, absolute column sums, scales and tag. -/
structure Plane where
  data : BitVec 131072
  csw : BitVec 16384
  acsw : BitVec 16384
  scales : BitVec 8192
  tag : Byte
  deriving DecidableEq, Repr

/-- One entry of the loop stack (R10, R114). -/
structure LoopEntry where
  start : BitVec 40
  stop : BitVec 40
  remain : W32
  index : W32
  deriving DecidableEq, Repr

/-- The kind of register an in-flight result writes (R319 DKIND). -/
inductive DKind where
  | scalar | predicate | vector
  deriving DecidableEq, Repr

/-- An exposed-latency result in flight: an in-flight entry of R319. `remain` counts the issuing steps left (R317). -/
structure InFlight where
  kind : DKind
  reg : Reg5
  remain : Nat
  /-- NV, OF, UF, NX in bits 3 to 0. -/
  flags : BitVec 4
  tag : Byte
  /-- Whether the landing writes the destination's tag. -/
  setsTag : Bool
  emask : Byte
  lmask : W64
  value : BitVec 2048
  deriving DecidableEq, Repr

/-- The unit a scoreboarded word was handed to (R84). -/
inductive PendKind where
  | alu | memory | atomic | array | engine
  deriving DecidableEq, Repr

/-- What a pending word's completion waits for beside its own latency: a fence's scope and path mask (R153), or the
application of the reflected atomic of that serial number at its targets (R149). -/
inductive PendHold where
  | fence (scope : BitVec 3) (mask : BitVec 6)
  /-- `remote`: some of its targets are other chips. -/
  | applied (serial : Nat) (remote : Bool)
  deriving DecidableEq, Repr

/-- A scoreboarded result that has been accepted and has not landed (R84): what it writes when it lands. -/
structure Pending where
  kind : PendKind
  sregs : List (Reg5 × W64)
  pregs : List (Reg4 × W64)
  vregs : List (Reg5 × VReg)
  tiles : List (Reg4 × Tile)
  /-- Tiles the word still reads (RB busy bits, R155). -/
  reads : List Reg4
  coreFlags : BitVec 4
  atomFlags : BitVec 4
  hold : Option PendHold
  /-- Whether the word has started on its resource (R156). -/
  started : Bool
  /-- Issued in supervisor mode. -/
  sup : Bool
  deriving DecidableEq, Repr

/-- A trap cause with what it reports (R316, R319). -/
structure TrapInfo where
  cls : BitVec 4
  detail : BitVec 6
  eaddr : W64
  einfo : W64
  /-- SOURCE of R26. -/
  source : Byte
  deriving DecidableEq, Repr

/-- The snapshot taken at trap entry (R319). The fields from `gpos` on are the model's own record beside it: the position
in the packet of the trapping group's first word, the predicates landed in the last two issuing steps (R86), and what the
fault record of R26 reports of the trapping group and of the registers at the fault. -/
structure Snapshot where
  epc : BitVec 40
  cause : BitVec 10
  done : BitVec 3
  pmode : Bool
  source : Byte
  loops : List LoopEntry
  eaddr : W64
  einfo : W64
  steps : W64
  ifq : List InFlight
  gpos : Nat
  landed1 : BitVec 16
  landed2 : BitVec 16
  faultPc : BitVec 40
  faultDone : BitVec 3
  faultDepth : Nat
  faultTime : W64
  faultCkcnt : W32
  faultCklog : W64
  faultRace : W64
  deriving DecidableEq, Repr

/-- A transfer a group's word makes, applied when the group has issued (R80, R110 to R116, R200). -/
inductive Transfer where
  | jump (target : BitVec 40)
  | push (entry : LoopEntry)
  | skip (target : BitVec 40)
  | endSection
  | eret
  | halt
  | descheduled
  deriving DecidableEq, Repr

/-- What a waiting word waits for (R145, R178); `other` covers acceptances, ports, busy operands and budgets (R9). -/
inductive Wait where
  | fullEmpty (addr : W64) (full : Bool)
  | buffer (slot : BitVec 4)
  | sync (addr : W64) (gen : W32) (yields : Bool)
  | submit (idx : BitVec 4)
  | take (idx : BitVec 4) (stage : BitVec 3)
  | call (block : W64)
  | time (deadline : W64)
  | reflected (window : Option (BitVec 12))
  | budget (activity : Nat)
  | other
  deriving DecidableEq, Repr

/-- The group being issued: the words' shared bookkeeping between the opening and the closing of the group (R78, R316). -/
structure Group where
  /-- A group is open: words act on it and leave its closing to the sequencer. -/
  isOpen : Bool
  /-- Position in the packet of the word now acting. -/
  pos : Nat
  /-- Positions of words that did not complete. -/
  failed : List Nat
  /-- The lowest-position cause raised so far, with its position. -/
  trap : Option (Nat × TrapInfo)
  /-- A word of the group waits, so the group does not issue. -/
  stalled : Option Wait
  transfer : Option Transfer
  /-- The `srw` of this group, which takes effect after the group (R119). -/
  srw : Option (BitVec 9 × W64)
  /-- Core flags that scoreboarded words of the group have raised, which an `srw` of FSTAT beside them does not clear (R15). -/
  raised : BitVec 4
  deriving DecidableEq, Repr

/-- A circular-buffer slot of the bay (R180). -/
structure CbSlot where
  bound : Bool
  desc : W64
  producer : Bool
  /-- Held by the bay's copy engine. -/
  engine : Bool
  deriving DecidableEq, Repr

/-- A record held by this bay's station, and its take point (R225, R234). -/
structure Held where
  idx : BitVec 4
  stage : BitVec 3
  rnum : BitVec 48
  buffer : W64
  pc : BitVec 40
  gpos : Nat
  loops : List LoopEntry
  /-- STEPS when the `rtake` landed (R230). -/
  since : W64
  sides : List (BitVec 3 × W64 × W64)
  deriving DecidableEq, Repr

/-- Which section of its loop record a unit runs (R19). -/
inductive Section where
  | prologue | kernel | epilogue
  deriving DecidableEq, Repr

/-- A loop record as a running unit keeps it (R18). -/
structure LoopRecord where
  addr : W64
  prologue : W64
  kernel : W64
  epilogue : W64
  trip : W32
  argp : W64
  carry : W64
  malformed : Bool
  deriving DecidableEq, Repr

/-- A request of dispatch that a unit leave its bay (R311, R318); `saving` once a `yield` has met a soft request, while the
save waits for results in flight (R332). -/
inductive Preempt where
  | hard | soft | saving
  deriving DecidableEq, Repr

/-- One sequencer: registers, special registers, and the machinery of issue and traps. -/
structure Seq where
  s : Vector W64 32
  p : Vector W64 16
  v : Vector VReg 32
  t : Vector Tile 16
  w : Plane
  w' : Plane
  k : Vector W64 8
  pc : BitVec 40
  /-- Position in the packet of the next group's first word. -/
  gpos : Nat
  /-- Loop stack, innermost first (R114). -/
  loops : List LoopEntry
  -- user special registers (R13)
  bayId : Byte
  chipId : BitVec 12
  unitIdx : BitVec 24
  nunits : BitVec 25
  region : W64
  task : W64
  timef : BitVec 16
  steps : W64
  iter : W32
  trip : W32
  member : BitVec 3
  fstat : W64
  vtag : Byte
  ckctl : BitVec 3
  ckcnt : W32
  cklog : W64
  cklog2 : W32
  raceinfo : W64
  -- supervisor special registers (R288, R289)
  supervisor : Bool
  prevSupervisor : Bool
  masked : Bool
  debug : Bool
  evec : BitVec 40
  epc : BitVec 40
  ecause : BitVec 10
  eaddr : W64
  einfo : W64
  saveptr : W64
  xtbl : W64
  pasid : BitVec 20
  rcbp : W64
  budget : W64
  errmap : W64
  -- issue
  ifq : List InFlight
  sb : List Pending
  /-- Predicates whose exposed writes landed at the end of the last issuing step, and of the one before (R86). -/
  landed1 : BitVec 16
  landed2 : BitVec 16
  group : Group
  wait : Option Wait
  /-- Words of the group at `pc` that a resume shows as completed (R320). -/
  resumeDone : BitVec 3
  -- traps
  snapshot : Snapshot
  /-- An op 0 of CTXCMD has been made since trap entry (R326). -/
  saved : Bool
  /-- Faults of engines waiting for the next group boundary (R189, R262). -/
  engineFaults : List TrapInfo
  preempt : Option Preempt
  -- the clamp (R8)
  corrections : List Nat
  residue : Nat
  cpycHold : Bool
  /-- The instruction cache (R7, R76): packets fetched, by index, oldest first. -/
  icache : List (BitVec 40 × List W32)
  /-- The lanes of the next `tcvt` disagree (R70): the model's own schedule of errors.
  (Log entry 95, DESIGN CHOICE) -/
  lanesDiffer : Bool
  /-- A chain check of the next scan-out or scan-in fails (R324, R330): the model's own schedule of errors.
  (Log entry 95, DESIGN CHOICE) -/
  chainFails : Bool
  /-- Stopped by `halt` (R200). -/
  halted : Bool
  /-- Stopped by a machine check with the clamp held (R325). -/
  stopped : Bool
  -- the unit
  /-- The placed unit's key in dispatch, if any. -/
  unit : Option Nat
  /-- The unit last descheduled here (R210). -/
  last : Option Nat
  sect : Section
  record : LoopRecord
  /-- The effective REC and RPL of its region at its placement (R292). -/
  recording : Bool
  replay : Bool
  /-- The address of the command-list entry that names its next record, 0 for none (R307). -/
  cmdp : W64
  slots : Vector CbSlot 16
  /-- Descriptors that the unit has bound a side of since it started (R183). -/
  buffers : List W64
  held : Option Held
  /-- Counters of recorded inputs of the running unit (R343 SEQ). -/
  inputSeq : W64
  deriving DecidableEq, Repr

/-- The kinds of copy operation (R185); a fired `cpya` is a `row` or a `tile` copy. -/
inductive CopyKind where
  | row | tile | lockstep
  deriving DecidableEq, Repr

/-- A copy operation in the queue or the armed table (R184, R186, R188). -/
structure CopyOp where
  kind : CopyKind
  armed : Bool
  descAddr : W64
  src : W64
  dst : W64
  len : W32
  rows : W32
  spitch : W32
  dpitch : W32
  sync : W64
  trig : W64
  tgen : W32
  fmt : BitVec 4
  scb : Bool
  dcb : Bool
  delay : BitVec 6
  /-- Steps left before the start delay is reached. -/
  left : Nat
  started : Bool
  /-- Bytes moved. -/
  done : Nat
  /-- Bytes in all, fixed at the start for a lock-step copy. -/
  total : Nat
  /-- A budget wait of the operation has been counted (R296). -/
  waiting : Bool
  /-- Source bytes read and not yet written: the rest of an aligned word (R214).
  (Log entry 103, DEDUCED) -/
  ahead : List Byte
  deriving DecidableEq, Repr

/-- The bay's copy engine (R184 to R190). -/
structure Copy where
  queue : List CopyOp
  armed : List CopyOp
  /-- Fired this step; they enter the queue in the next (R188). -/
  fired : List CopyOp
  doneCount : W32
  /-- Destination granules written by the running operation (R186). -/
  written : List Nat
  deriving DecidableEq, Repr

/-- A host translation (R339). -/
structure TlbEntry where
  pasid : BitVec 20
  base : W64
  size : Nat
  phys : W64
  write : Bool
  deriving DecidableEq, Repr

/-- Where a translation request stands (R339). -/
inductive AtsPhase where
  | ats | pri | atsAgain | refused
  deriving DecidableEq, Repr

/-- A translation request of a waiting host store. -/
structure AtsRequest where
  pasid : BitVec 20
  va : W64
  phase : AtsPhase
  /-- TIME when it came to this phase. -/
  since : W64
  deriving DecidableEq, Repr

/-- A posted write to host memory (R207). -/
structure HostStore where
  va : W64
  pasid : BitVec 20
  phys : W64
  data : List Byte
  agent : BitVec 9
  deriving DecidableEq, Repr

/-- A page request in a die's queue (R338): the page, the region and address space it is for, and the region's partition. -/
structure PageEvent where
  page : W64
  region : W32
  pasid : BitVec 20
  part : Nat
  deriving DecidableEq, Repr

/-- An entry of a function's mailbox error log (R208, R302, R345): the address or offset refused. -/
structure MailboxError where
  addr : W64
  deriving DecidableEq, Repr

/-- The PCIe side (R207, R338 to R340, R345, R346). -/
structure HostPort where
  tlb : List TlbEntry
  /-- Second-level TLBs of the two dies. -/
  tlbWest : List TlbEntry
  tlbEast : List TlbEntry
  requests : List AtsRequest
  /-- Accepted stores that have not left. -/
  posted : List HostStore
  /-- Stores that reached the host's ordering point, newest last. -/
  delivered : List HostStore
  /-- Invalidation completions returned: PASID, base and length. -/
  completions : List (BitVec 20 × W64 × Nat)
  /-- Pages requested in each die's queue of 64. -/
  pagesWest : List PageEvent
  pagesEast : List PageEvent
  /-- The 32-byte entries written to the event rings, by partition, oldest first (R338).
  (Log entry 107, DESIGN CHOICE) -/
  eventRing : List (Nat × List Byte)
  /-- APBASE of each function (R346). -/
  apbase : Vector W64 9
  /-- The newest 64 entries of each function's mailbox error log, oldest first (R345). -/
  mailboxErrors : Vector (List MailboxError) 9
  deriving DecidableEq, Repr

/-- A transmit-window entry (R239). -/
structure TxWindow where
  id : BitVec 12
  region : W32
  base : W64
  len : W64
  allow : W32
  vc : BitVec 4
  loop : Byte
  ops : BitVec 13
  rooted : Bool
  targets : List (BitVec 12 × BitVec 12)
  deriving DecidableEq, Repr

/-- What one admitted sender has written to an ordered reduce window (R251). -/
structure SenderCount where
  slot : Nat
  /-- Bytes arrived since installation. -/
  arrived : Nat
  /-- Bytes combined since installation. -/
  combined : Nat
  deriving DecidableEq, Repr

/-- A write, or the part of one, whose turn has not come (R251). -/
structure HeldWrite where
  slot : Nat
  seq : W32
  off : Nat
  data : List Byte
  /-- The last part of its write. -/
  last : Bool
  /-- The write it is a part of, which a root forwards once it is combined (R249). -/
  whole : Arrival
  deriving DecidableEq, Repr

/-- A receive-window entry (R241) and its ordered-reduction progress. -/
structure RxWindow where
  id : BitVec 12
  region : W32
  back : W64
  len : W32
  sync : W64
  stat : W64
  redOp : BitVec 4
  redType : BitVec 2
  free : Bool
  dln : Bool
  ckt : BitVec 4
  mask : BitVec 16
  fwd : Option (BitVec 12)
  senders : List (BitVec 12)
  hold : W64
  hlen : W32
  dper : W32
  dbase : W64
  /-- Reserved to the collective engine of the region (R256). -/
  engine : Bool
  counts : List SenderCount
  held : List HeldWrite
  /-- Runs of bytes, start and length, that have arrived of tiles not yet whole, in a CKT window. -/
  arrived : List (Nat × Nat)
  /-- Granules of the backing written since the last generation (R208). -/
  unpublished : List Nat
  deriving DecidableEq, Repr

/-- A reflected write posted to one target (R240, R246). -/
structure Posted where
  /-- The write's own number on this chip: one for all its targets. -/
  serial : Nat
  window : BitVec 12
  rxid : BitVec 12
  seq : W32
  off : Nat
  data : List Byte
  atom : Option (BitVec 4)
  agent : BitVec 9
  /-- Times sent, and TIME when it was last sent. -/
  sends : Nat
  sentAt : W64
  deriving DecidableEq, Repr

/-- The sender's end of a path (R245 to R247). -/
structure SendPath where
  dst : BitVec 12
  vc : BitVec 4
  next : W32
  unacked : List Posted
  dead : Bool
  /-- The first unacknowledged number when the path died. -/
  lost : W32
  /-- Agents and windows whose writes were discarded or dropped since the path died. -/
  lostBy : List (BitVec 9 × BitVec 12)
  deriving DecidableEq, Repr

/-- The receiver's end of a path (R246, R247). -/
structure RecvPath where
  src : BitVec 12
  vc : BitVec 4
  /-- Number of the next write to apply: H + 1. -/
  next : W32
  waiting : List Arrival
  /-- Writes applied since the last acknowledgement. -/
  unreturned : Nat
  dead : Bool
  deriving DecidableEq, Repr

/-- An entry of the reflection error log (R243). -/
structure ReflectError where
  src : BitVec 12
  vc : BitVec 4
  rxid : BitVec 12
  seq : W32
  cause : BitVec 10
  deriving DecidableEq, Repr

/-- The reflection unit (R239 to R252). -/
structure Reflect where
  tx : List TxWindow
  rx : List RxWindow
  send : List SendPath
  recv : List RecvPath
  /-- Planes that are up (R246). -/
  planes : Byte
  errors : List ReflectError
  /-- Acknowledgements returned: source chip, channel, H. -/
  acks : List (BitVec 12 × BitVec 4 × W32)
  retransmissions : Nat
  /-- The serial number of the next write. -/
  nextSerial : Nat
  /-- The chips of the reflection domain (R238). -/
  domain : List (BitVec 12)
  deriving DecidableEq, Repr

/-- How far a collective call has come (R255 STATE). -/
inductive CallState where
  | queued | matching | running | ended
  deriving DecidableEq, Repr

/-- A collective call on the engine (R255 to R264). -/
structure Call where
  block : W64
  east : Bool
  region : W32
  unit : Option Nat
  pkt : FirstPacket
  prio : Nat
  vc : BitVec 4
  clog : Nat
  send : W64
  recv : W64
  cscr : W64
  sync : W64
  t1 : W32
  t2 : W32
  g : Nat
  rank : Nat
  rw : BitVec 12
  chips : List (BitVec 12)
  state : CallState
  /-- TIME at acceptance, at matching and at the last chunk. -/
  since : W64
  /-- First packets that have arrived. -/
  packets : List (Nat × FirstPacket)
  chunk : Nat
  bdone : Nat
  flags : BitVec 4
  overflow : Option Nat
  evicted : Bool
  /-- A budget wait of its next chunk has been counted (R296). -/
  waiting : Bool
  /-- How it ends: STATE, cause and PEER. -/
  ending : Option (Byte × BitVec 10 × BitVec 16)
  deriving DecidableEq, Repr

/-- A communicator of a region (R256). -/
structure Communicator where
  region : W32
  group : BitVec 16
  vc : BitVec 4
  rw : BitVec 12
  deriving DecidableEq, Repr

/-- The collective engines of the two dies. -/
structure Coll where
  calls : List Call
  comms : List Communicator
  /-- Aborts sent to peers: block and rank named. -/
  aborts : List (W64 × Nat)
  deriving DecidableEq, Repr

/-- A stage of a stage set and its queue and statistics (R219, R230). -/
structure Stage where
  pool : BitVec 80
  fofs : Nat
  flen : Nat
  qdepth : Nat
  hint : Nat
  queue : List (BitVec 48)
  tickets : Nat
  n : Nat
  passes : Nat
  cost : Nat
  deriving DecidableEq, Repr

/-- How a record stands (R221 STATUS). -/
inductive RecStatus where
  | inFlight | passed | dropped | faulted
  deriving DecidableEq, Repr

/-- A record in flight in the router's store (R222, R227).
(Log entry 58, DEDUCED) -/
structure Rec where
  rnum : BitVec 48
  submitted : List Byte
  composed : List Byte
  done : Byte
  status : RecStatus
  /-- Side entries: stage, op, address, value. -/
  sides : List (Nat × BitVec 3 × W64 × W64)
  deriving DecidableEq, Repr

/-- A stage set installed in a die's router (R219, R220).
(Log entry 58, DEDUCED) -/
structure StageSet where
  east : Bool
  idx : BitVec 4
  region : W32
  xtbl : W64
  fixed : Bool
  lwin : Nat
  rsize : Nat
  store : W64
  sink : W64
  limit : BitVec 48
  stats : W64
  lfsr : BitVec 16
  stages : List Stage
  next : BitVec 48
  retired : BitVec 48
  recs : List Rec
  route : List (BitVec 48)
  windows : W64
  flags : BitVec 4
  isRetired : Bool
  broken : Bool
  /-- Activities whose budget the set waits for, each counted as a stall once (R296). -/
  waiting : List Nat
  deriving DecidableEq, Repr

/-- A user queue's table entry (R301). -/
structure Queue where
  idx : BitVec 12
  ring : W64
  head : W64
  tail : W64
  hmirr : W64
  region : W32
  log2n : Nat
  prio : Nat
  valid : Bool
  device : Bool
  /-- TIME of the last head-mirror store, and whether a store is due (R303). -/
  mirrored : Option W64
  due : Bool
  /-- Times that firmware has written the entry before: the model's own count, by which launches are told apart (R13).
  (Log entry 47, DESIGN CHOICE) -/
  epoch : Nat
  deriving DecidableEq, Repr

/-- Where a taken launch stands (R308). -/
inductive LaunchPhase where
  | dependency | timed | ready | started | ended
  deriving DecidableEq, Repr

/-- A gang's pipe (R312). -/
structure GangPipe where
  prod : Nat
  cons : Nat
  slot : BitVec 4
  lsize : Nat
  esize : Nat
  quant : Nat
  ofs : Nat
  hash : W64
  deriving DecidableEq, Repr

/-- A launch that dispatch has taken (R307 to R315). -/
structure Launch where
  key : Nat
  queue : Option (BitVec 12)
  /-- Record number in the queue (R343 KEY). -/
  number : W64
  /-- Unit key whose fault this handler task serves (R25). -/
  handles : Option Nat
  region : W32
  /-- TASK of its units (R13). -/
  task : W64
  kind : Byte
  /-- REC of the record: loop record, command list or gang descriptor. -/
  recAddr : W64
  bmin : Nat
  bmax : Nat
  gang : BitVec 16
  units : Nat
  argp : W64
  csync : W64
  dsync : W64
  dgen : W32
  dep : Bool
  tt : Bool
  period : W32
  tstart : W64
  skip : Nat
  /-- The loop records of a gang's members (R312). -/
  members : List W64
  pipes : List GangPipe
  prio : Nat
  phase : LaunchPhase
  /-- Units (instances) placed so far. -/
  placed : Nat
  ndone : Nat
  ended : Nat
  /-- The cause of the first fault that a unit of it had (R309).
  (Log entry 134, DEDUCED) -/
  fcause : Option (BitVec 10)
  outcome : BitVec 32
  /-- TIME from which it waits (R310). -/
  waitSince : W64
  /-- TIME at which it became ready, which settles ties (R310). -/
  readyAt : W64
  /-- Levels gained by ageing (R310). -/
  aged : Nat
  /-- Indices of units or instances taken off their bays before they started, to be placed again (R315). -/
  released : List Nat
  /-- Ready words held for a gang start: stamps (R267). -/
  stamps : List W64
  refusing : Bool
  deriving DecidableEq, Repr

/-- Where a unit stands. -/
inductive UnitPhase where
  | placed | savedHard | savedIteration | savedNode | faulted | ended
  deriving DecidableEq, Repr

/-- A unit of a launch as dispatch keeps it, with what of a saved context stays in the device (R19, R307 to R311, R316, R329,
R331). -/
structure UnitRec where
  key : Nat
  launch : Nat
  idx : Nat
  member : Nat
  region : W32
  bay : Nat
  slot : Nat
  phase : UnitPhase
  /-- The address of its first loop record, and of the command-list entry that names the next one (R307). -/
  first : W64
  cmdp : W64
  /-- The record it runs, and the section of it. -/
  loopRecord : LoopRecord
  sect : Section
  /-- Descriptors it has bound a side of. -/
  buffers : List W64
  /-- Scoreboarded X work captured with the context. -/
  frozen : List Pending
  planes : Option (Plane × Plane)
  queue : List CopyOp
  armed : List CopyOp
  held : Option Held
  snapshot : Option Snapshot
  /-- Index of its fault record in the fault area, and the record's address (R25). -/
  record : Option W64
  cause : BitVec 10
  /-- Faults of it that have been forwarded: the model's own count, by which handler tasks are told apart (R13).
  (Log entry 47, DESIGN CHOICE) -/
  faultCount : Nat
  /-- The slice image at the save slot is valid (R328). -/
  slice : Bool
  /-- The sync word and generation it left waiting for at `swait.y` (R24). -/
  waiting : Option (W64 × W32)
  /-- The tile of a retry from mark still to be made (R73). -/
  retry : Option Reg4
  debug : Bool
  /-- Faults of engines that wait for its next group boundary in user mode (R189). -/
  faults : List TrapInfo
  /-- What dispatch has asked of the unit while it stands on another bay (R311). -/
  asked : Option Preempt
  /-- TIME when dispatch asked it to leave, on whichever bay it stands (R311). -/
  askedAt : W64
  /-- TIME when the sync word of its `swait.y` was seen to have changed (R24, R310). -/
  readyAt : Option W64
  /-- The fault domain, effective fault area and handler record when it was last placed (R292). -/
  domain : W64
  farea : W64
  fhrec : W64
  prio : Nat
  since : W64
  aged : Nat
  inputSeq : W64
  deriving DecidableEq, Repr

/-- A reply of a fault handler that dispatch is to carry out (R27). -/
structure Reply where
  unit : Nat
  action : Byte
  tile : Reg4
  deriving DecidableEq, Repr

/-- The dispatch units (R301 to R315).
(Log entry 4, DESIGN CHOICE) -/
structure Dispatch where
  queues : List Queue
  /-- Slot-table entries that are not 0, by index (R304). -/
  slotTable : List (BitVec 8 × W64)
  bitmap : BitVec 4096
  launches : List Launch
  units : List UnitRec
  replies : List Reply
  /-- The region whose unit last stood on each bay (R146, R210). -/
  occupants : List (Nat × W32)
  /-- The unit last descheduled on a bay other than the modelled one, by bay (R210, R328). -/
  retained : List (Nat × Nat)
  /-- The other bays that a machine check has stopped (R325). -/
  stoppedBays : List Nat
  /-- Killed regions whose launches are still to complete BROKEN, with the bays whose loop-back writes are applied first (R212,
  R293): the model's own record.
  (Log entry 55, DEDUCED) -/
  breaking : List (W32 × List Nat)
  /-- The units that coming events of PREEMPTION_REQUEST, ITERATION_PREEMPTION, NODE_PREEMPTION and SOFT_POINT_TIMEOUT are
  about, in order: a unit on another bay by its key, none for the modelled bay's own; its own too once the list is empty. The
  model's own schedule.
  (Log entry 4, DESIGN CHOICE) -/
  elsewhere : List (Option Nat)
  /-- Next key for a launch or a unit. -/
  fresh : Nat
  deriving DecidableEq, Repr

/-- A region control block, as installed (R291). -/
structure Rcb where
  addr : W64
  kind : Byte
  flags : Byte
  inh : BitVec 16
  prio : Nat
  part : Nat
  parent : W64
  handle : W32
  pasid : BitVec 20
  xtab : W64
  farea : W64
  fhrec : W64
  save : W64
  bays : BitVec 160
  limits : List W32
  slotn : Nat
  saven : Nat
  /-- Faults recorded so far (R26 SEQ). -/
  faults : W64
  killed : Bool
  deriving DecidableEq, Repr

/-- A counter slot of one die (R295, R297). -/
structure CounterSlot where
  handle : W32
  limits : Vector W32 6
  used : Vector Nat 6
  /-- What has been charged since the start of the cycle: a cycle is admitted by `used` (R296). -/
  charged : Vector Nat 6
  stalls : W64
  periods : W64
  deriving DecidableEq, Repr

/-- An entry of a region's input log (R343). -/
structure InputEntry where
  type : Byte
  unit : W32
  key : W64
  seq : W64
  value : W64
  payload : List Byte
  deriving DecidableEq, Repr

/-- A region's record or replay log (R343, R344). -/
structure InputLog where
  region : W32
  /-- Where the log extent that the host driver names stands in HBM, the bytes it holds, and those of its entries (R343). -/
  base : Nat
  size : Nat
  used : Nat
  /-- Order of the region's own inputs, types 1 and 2. -/
  order : W64
  full : Bool
  diverged : Bool
  deriving DecidableEq, Repr

/-- A machine-check log entry (R325). -/
structure CheckEntry where
  detail : BitVec 6
  bay : Byte
  epc : BitVec 40
  einfo : W64
  deriving DecidableEq, Repr

/-- A management log entry (R342, R349, R303, R309). -/
inductive LogEntry where
  | spareSwitch (bay : Byte) (spare : Bool) (row : BitVec 6)
  | selfTest (bay : Byte) (row : Option (BitVec 6))
  | clock (east : Bool) (mhz : Nat)
  | mirrorRefused (queue : BitVec 12)
  | badSync (addr : W64)
  | refusedInstall
  deriving DecidableEq, Repr

/-- How far bring-up has come (R347). -/
inductive BootState where
  | off | up | failed (stage : Nat)
  deriving DecidableEq, Repr

/-- A quote (R348). -/
structure Quote where
  nonce : BitVec 512
  chain : List Byte
  log : List (List Byte)
  signature : List Byte
  certificate : List Byte
  deriving DecidableEq, Repr

/-- Firmware's tables and logs, and the units they describe. -/
structure Firmware where
  nodes : List Rcb
  west : Vector CounterSlot 64
  east : Vector CounterSlot 64
  /-- Bay cycles left in each die's budget period. -/
  periodWest : Nat
  periodEast : Nat
  /-- The part of a cycle of the other die that its clock has gained, in units of this die's frequency (R295). -/
  cycleFrac : Nat
  /-- Error-map words that are not 0, by bay and index (R341). -/
  errmap : List (Nat × Nat × W64)
  /-- Mesh slot-table entries that are not 0, by router and slot (R298). -/
  slotEntries : List (Nat × Nat × W32)
  packets : List MeshPacket
  meshCycle : Nat
  inputs : List InputLog
  startGroups : List StartGroup
  checks : List CheckEntry
  /-- Regions in whose operations an engine has met an uncorrectable error in this cycle (R324, R334).
  (Log entry 95, DESIGN CHOICE) -/
  alarms : List W32
  log : List LogEntry
  spareRow : List (Byte × BitVec 6)
  sparePol : Byte
  boot : BootState
  /-- Logical bay order of the configuration record (R347). -/
  bays : List Nat
  /-- The repair data that configuration has applied (R347). -/
  repair : List Byte
  chain : List Byte
  measured : List (List Byte)
  identity : List Byte
  certificate : List Byte
  quotes : List Quote
  mhzWest : Nat
  mhzEast : Nat
  deriving DecidableEq, Repr

/-- The clock and its discipline (R14, R266). -/
structure Clock where
  time : W64
  /-- The domain number, what this clock says of itself, and the master it follows (R266). -/
  domain : Byte
  own : ClockId
  parent : Option ClockId
  frac : BitVec 16
  cycles : Nat
  ofs : W32
  hold : Bool
  lock : Bool
  /-- The last Sync: its number and ingress time. -/
  sync : Option (BitVec 16 × W64)
  /-- The peer delay exchange: number, t1 or t4 side times. -/
  delayReq : Option (BitVec 16 × W64)
  delayResp : Option (BitVec 16 × W64 × W64)
  linkDelay : W64
  /-- Pdelay requests answered. -/
  answered : List (BitVec 16 × W64)
  deriving DecidableEq, Repr

/-- The whole machine.
(Log entry 4, DESIGN CHOICE) -/
structure State where
  /-- Events that have happened and are still to take effect, oldest first: the model's own schedule. -/
  inbox : List Instr
  seq : Seq
  mem : Mem
  copy : Copy
  host : HostPort
  refl : Reflect
  coll : Coll
  sets : List StageSet
  disp : Dispatch
  fw : Firmware
  clock : Clock
  /-- The model's own counter of free values taken. -/
  freeCount : Nat
  deriving DecidableEq, Repr

/-- A vector register at unit start: tag raw, contents zero (R19).
(Log entry 1, DESIGN CHOICE) -/
def VReg.zero : VReg := { data := 0, tag := 0 }

/-- A tile register at unit start (R19). -/
def Tile.zero : Tile := { data := 0, rowSum := 0, colSum := 0, scales := 0, tag := 0, status := 0 }

/-- A plane at unit start (R19). -/
def Plane.zero : Plane := { data := 0, csw := 0, acsw := 0, scales := 0, tag := 0 }

/-- No group open.
(Log entry 3, DESIGN CHOICE) -/
def Group.closed : Group :=
  { isOpen := false, pos := 0, failed := [], trap := none, stalled := none, transfer := none,
    srw := none, raised := 0 }

/-- A snapshot before any trap entry. -/
def Snapshot.empty : Snapshot :=
  { epc := 0, cause := 0, done := 0, pmode := false, source := 0, loops := [], eaddr := 0, einfo := 0, steps := 0,
    ifq := [], gpos := 0, landed1 := 0, landed2 := 0, faultPc := 0, faultDone := 0, faultDepth := 0, faultTime := 0, faultCkcnt := 0,
    faultCklog := 0, faultRace := 0 }

/-- A loop record with nothing to run. -/
def LoopRecord.empty : LoopRecord :=
  { addr := 0, prologue := 0, kernel := 0, epilogue := 0, trip := 0, argp := 0, carry := 0, malformed := false }

/-- An unbound circular-buffer slot (R180). -/
def CbSlot.unbound : CbSlot := { bound := false, desc := 0, producer := false, engine := false }

/-- A free counter slot (R297). -/
def CounterSlot.free : CounterSlot :=
  { handle := 0, limits := Vector.replicate 6 0, used := Vector.replicate 6 0, charged := Vector.replicate 6 0, stalls := 0, periods := 0 }

/-- A sequencer after reset: no unit is placed; registers as R19 gives for the start of a unit, the supervisor's own
registers 0.
(Log entry 1, DESIGN CHOICE) -/
def Seq.reset : Seq :=
  { s := Vector.replicate 32 0, p := Vector.replicate 16 0, v := Vector.replicate 32 VReg.zero,
    t := Vector.replicate 16 Tile.zero, w := Plane.zero, w' := Plane.zero, k := Vector.replicate 8 0, pc := 0, gpos := 0,
    loops := [], bayId := 0, chipId := 0, unitIdx := 0, nunits := 0, region := 0, task := 0, timef := 0, steps := 0,
    iter := 0, trip := 0, member := 0, fstat := 0, vtag := 0, ckctl := 5, ckcnt := 0, cklog := 0, cklog2 := 0,
    raceinfo := 0, supervisor := false, prevSupervisor := false, masked := false, debug := false, evec := 0, epc := 0,
    ecause := 0, eaddr := 0, einfo := 0, saveptr := 0, xtbl := 0, pasid := 0, rcbp := 0, budget := 0, errmap := 0,
    ifq := [], sb := [], landed1 := 0, landed2 := 0, group := Group.closed, wait := none, resumeDone := 0,
    snapshot := Snapshot.empty, saved := false, engineFaults := [], preempt := none, corrections := [], residue := 0,
    cpycHold := false, icache := [], lanesDiffer := false, chainFails := false, halted := false, stopped := false, unit := none, last := none,
    sect := .prologue, record := LoopRecord.empty, recording := false, replay := false, cmdp := 0,
    slots := Vector.replicate 16 CbSlot.unbound, buffers := [], held := none, inputSeq := 0 }

/-- What a clock says of itself before bring-up has set it: the values of a clock that is never chosen.
(Log entry 106, PRESUMED) -/
def ClockId.unset : ClockId :=
  { priority1 := 255, clockClass := 255, accuracy := 0xFE, variance := 0xFFFF, priority2 := 255, identity := 0 }

/-- The machine right after reset: nothing placed, bound, mapped or installed, and bring-up (R347) still to run.
(Log entry 1, DESIGN CHOICE) -/
def State.reset : State :=
  { inbox := []
    seq := Seq.reset
    mem := { spad := [], hbm := [], full := [], owner := [], damaged := [] }
    copy := { queue := [], armed := [], fired := [], doneCount := 0, written := [] }
    host := { tlb := [], tlbWest := [], tlbEast := [], requests := [], posted := [], delivered := [], completions := [],
              pagesWest := [], pagesEast := [], eventRing := [], apbase := Vector.replicate 9 0,
              mailboxErrors := Vector.replicate 9 [] }
    refl := { tx := [], rx := [], send := [], recv := [], planes := 0xFF, errors := [], acks := [], retransmissions := 0,
              nextSerial := 0, domain := [] }
    coll := { calls := [], comms := [], aborts := [] }
    sets := []
    disp := { queues := [], slotTable := [], bitmap := 0, launches := [], units := [], replies := [], occupants := [],
              retained := [], stoppedBays := [], breaking := [], elsewhere := [], fresh := 0 }
    fw := { nodes := [], west := Vector.replicate 64 CounterSlot.free, east := Vector.replicate 64 CounterSlot.free,
            periodWest := 4000, periodEast := 4000, cycleFrac := 0, errmap := [], slotEntries := [], packets := [], meshCycle := 0,
            inputs := [], startGroups := [], checks := [], alarms := [], log := [], spareRow := [], sparePol := 0, boot := .off, bays := [],
            repair := [], chain := [],
            measured := [], identity := [], certificate := [], quotes := [], mhzWest := 4000, mhzEast := 4000 }
    clock := { time := 0, domain := 0, own := ClockId.unset, parent := none, frac := 0, cycles := 0, ofs := 0,
               hold := false, lock := false, sync := none, delayReq := none, delayResp := none, linkDelay := 0, answered := [] }
    freeCount := 0 }

end Sys2Proof.Machine
end

