-- ==== Sys2Proof/Machine/Num.lean ====
section
/-! DEFINITION. Number formats and arithmetic (R30 to R49): exact values, one rounding, flags. A flag set is four bits,
NV OF UF NX from bit 3 to bit 0 (R15). -/

namespace Sys2Proof.Machine

/-- An exact value in the extended reals: NaN (and NaR, R38), an infinity, or (-1)^neg x mag x 2^exp. -/
inductive Num where
  | nan
  | inf (neg : Bool)
  | fin (neg : Bool) (mag : Nat) (exp : Int)
  deriving DecidableEq, Repr

/-- The sticky flags of one operation (R33). -/
abbrev Flags := BitVec 4
/-- Invalid. -/
def flagNV : Flags := 8
/-- Overflow. -/
def flagOF : Flags := 4
/-- Underflow. -/
def flagUF : Flags := 2
/-- Inexact. -/
def flagNX : Flags := 1

/-- A value with the flags its computation raised. -/
structure Res (α : Type) where
  val : α
  flags : Flags
  deriving DecidableEq, Repr

/-- 2 to the power of an integer that is not negative; 1 otherwise. -/
def pow2 (e : Int) : Nat := 1 <<< e.toNat

/-- mag x 2^exp rounded to a multiple of 2^q by RNE or RZ (R30): the multiple, and whether it differs. -/
def roundAt (rz : Bool) (mag : Nat) (exp q : Int) : Nat × Bool :=
  if exp ≥ q then (mag * pow2 (exp - q), false)
  else
    let sh := pow2 (q - exp)
    let hi := mag / sh
    let lo := mag % sh
    let up := !rz && (2 * lo > sh || (2 * lo == sh && hi % 2 == 1))
    (if up then hi + 1 else hi, lo != 0)

/-- The place of the leading bit of mag x 2^exp. -/
def topBit (mag : Nat) (exp : Int) : Int := exp + mag.log2

/-- A binary format with gradual underflow: significant bits, exponent of the smallest normal value, the code of the
largest finite magnitude, the width in bits. -/
structure BinFmt where
  prec : Nat
  emin : Int
  maxCode : Nat
  width : Nat
  deriving DecidableEq, Repr

/-- Binary32 (R34). -/
def binF32 : BinFmt := { prec := 24, emin := -126, maxCode := 0x7F7FFFFF, width := 32 }
/-- bf16 (R34). -/
def binBf16 : BinFmt := { prec := 8, emin := -126, maxCode := 0x7F7F, width := 16 }
/-- e4m3 (R36). -/
def binE4m3 : BinFmt := { prec := 4, emin := -6, maxCode := 0x7E, width := 8 }
/-- e5m2 (R36). -/
def binE5m2 : BinFmt := { prec := 3, emin := -14, maxCode := 0x7B, width := 8 }
/-- e2m1 (R36). -/
def binE2m1 : BinFmt := { prec := 2, emin := 0, maxCode := 0x7, width := 4 }

/-- The magnitude code of a non-zero magnitude, not yet limited to the largest code, and whether the value was tiny and
whether it was inexact (R30, R33). -/
def magCode (f : BinFmt) (rz : Bool) (mag : Nat) (exp : Int) : Nat × Bool × Bool :=
  let qmin := f.emin - (f.prec - 1 : Nat)
  let qu := topBit mag exp - (f.prec - 1 : Nat)
  let u := roundAt rz mag exp qu
  let tiny := decide (topBit u.1 qu < f.emin)
  let q := max qu qmin
  let d := roundAt rz mag exp q
  ((q - qmin).toNat * 2 ^ (f.prec - 1) + d.1, tiny, d.2)

/-- A code with its sign bit. -/
def withSign (f : BinFmt) (neg : Bool) (code : Nat) : W32 :=
  BitVec.ofNat 32 (code + if neg then 2 ^ (f.width - 1) else 0)

/-- Rounding of a finite value into a binary format. `ovf` is the magnitude code on overflow (R47). -/
def roundFin (f : BinFmt) (rz : Bool) (ovf : Nat) (neg : Bool) (mag : Nat) (exp : Int) : Res W32 :=
  if mag == 0 then { val := withSign f neg 0, flags := 0 }
  else
    let c := magCode f rz mag exp
    if c.1 > f.maxCode then { val := withSign f neg ovf, flags := flagOF ||| flagNX }
    else { val := withSign f neg c.1,
           flags := if c.2.2 then (if c.2.1 then flagUF ||| flagNX else flagNX) else 0 }

/-- RNE_F32 of R6: one rounding to binary32. -/
def rneF32 : Num → Res W32
  | .nan => { val := 0x7FC00000, flags := 0 }
  | .inf neg => { val := withSign binF32 neg 0x7F800000, flags := 0 }
  | .fin neg mag exp => roundFin binF32 false 0x7F800000 neg mag exp

/-- The value of a binary code with exponent width `we` and fraction width `wf`, without specials. -/
def decodeFin (we wf : Nat) (bias : Int) (neg : Bool) (code : Nat) : Num :=
  let e := (code / 2 ^ wf) % 2 ^ we
  let f := code % 2 ^ wf
  if e == 0 then .fin neg f (1 - bias - wf) else .fin neg (2 ^ wf + f) (e - bias - wf)

/-- The value of a binary32 (R34). -/
def decodeF32 (x : W32) : Num :=
  let n := x.toNat % 0x80000000
  if n == 0x7F800000 then .inf x.msb
  else if n > 0x7F800000 then .nan
  else decodeFin 8 23 127 x.msb n

/-- The value of a bf16 (R34). -/
def decodeBf16 (x : BitVec 16) : Num := decodeF32 (x ++ 0#16)

/-- The value of an e4m3 element (R36). -/
def decodeE4m3 (x : Byte) : Num :=
  let n := x.toNat % 128
  if n == 0x7F then .nan else decodeFin 4 3 7 x.msb n

/-- The value of an e5m2 element (R36). -/
def decodeE5m2 (x : Byte) : Num :=
  let n := x.toNat % 128
  if n == 0x7C then .inf x.msb else if n > 0x7C then .nan else decodeFin 5 2 15 x.msb n

/-- The value of an e2m1 element (R36). -/
def decodeE2m1 (x : BitVec 4) : Num := decodeFin 2 1 1 x.msb (x.toNat % 8)

/-- Bits [n-1:0] of a number, most significant first. -/
def bitsDown (w : Nat) : Nat → List Bool
  | 0 => []
  | n + 1 => w.testBit n :: bitsDown w n

/-- A bit string, most significant first, as a number. -/
def natOfBits : List Bool → Nat := List.foldl (fun a b => 2 * a + b.toNat) 0

/-- HT_DECODE of R37, for a word of n bits. -/
def decodeHt (n : Nat) (w0 : Nat) : Num :=
  if w0 == 0 then .fin false 0 0
  else if w0 == 2 ^ (n - 1) then .nan
  else
    let neg := w0.testBit (n - 1)
    let w := if neg then 2 ^ n - w0 else w0
    let bits := bitsDown w (n - 1)
    let b := w.testBit (n - 2)
    let run := (bits.takeWhile (· == b)).length
    let k : Int := if b then (run : Int) - 1 else -(run : Int)
    let rest := bits.drop (run + 1)
    let e : Int := match rest with
      | true :: _ => 1
      | _ => 0
    let fb := rest.drop 1
    .fin neg (2 ^ fb.length + natOfBits fb) (2 * k + e - fb.length)

/-- The magnitude code of R39 for a magnitude strictly between the format's ends, and whether a dropped bit was 1. -/
def htString (n : Nat) (mag : Nat) (exp : Int) : Nat × Bool :=
  let t := topBit mag exp
  let k := t / 2
  let e := (t % 2).toNat
  let fl := mag.log2
  let f := mag - 2 ^ fl
  let regime : Nat × Nat := if k ≥ 0 then ((pow2 (k + 1) - 1) * 2, (k + 2).toNat) else (1, (1 - k).toNat)
  let str := (regime.1 * 2 + e) * 2 ^ fl + f
  let len := regime.2 + 1 + fl
  roundAt false str (-(len : Int)) (-(n - 1 : Nat))

/-- Rounding of a non-zero finite value into ht8 (n = 8) or ht6 (n = 6) (R39). -/
def roundHt (n : Nat) (neg : Bool) (mag : Nat) (exp : Int) : Res Byte :=
  let lim : Int := if n == 8 then 12 else 8
  let t := topBit mag exp
  let pow := mag == 2 ^ mag.log2
  let c : Res Nat :=
    if t ≥ lim then
      { val := 2 ^ (n - 1) - 1, flags := if t == lim && pow then 0 else flagOF ||| flagNX }
    else if t < -lim || (t == -lim && pow) then
      { val := 1, flags := if t == -lim && pow then 0 else flagUF ||| flagNX }
    else
      let r := htString n mag exp
      { val := r.1, flags := if r.2 then flagNX else 0 }
  { val := BitVec.ofNat 8 (if neg then 2 ^ n - c.val else c.val), flags := c.flags }

/-- Conversion of a value into ht8 or ht6 (R38, R39, R47). -/
def toHt (n : Nat) : Num → Res Byte
  | .nan => { val := BitVec.ofNat 8 (2 ^ (n - 1)), flags := 0 }
  | .inf neg => { val := BitVec.ofNat 8 (if neg then 2 ^ (n - 1) + 1 else 2 ^ (n - 1) - 1), flags := flagOF ||| flagNX }
  | .fin _ 0 _ => { val := 0, flags := 0 }
  | .fin neg mag exp => roundHt n neg mag exp

/-- Conversion of a value to bf16 (R47), in the low 16 bits. -/
def toBf16 (rz : Bool) : Num → Res W32
  | .nan => { val := 0x7FC0, flags := 0 }
  | .inf neg => { val := withSign binBf16 neg 0x7F80, flags := 0 }
  | .fin neg mag exp => roundFin binBf16 rz (if rz then 0x7F7F else 0x7F80) neg mag exp

/-- Conversion of a value to binary32 by a named mode (R47). A finite value beyond the format, which R47's table does not
expect here, gives the infinity under RNE and the largest finite value under RZ, with OF and NX.
(Log entry 85, DESIGN CHOICE) -/
def toF32 (rz : Bool) : Num → Res W32
  | .nan => { val := 0x7FC00000, flags := 0 }
  | .inf neg => { val := withSign binF32 neg 0x7F800000, flags := 0 }
  | .fin neg mag exp => roundFin binF32 rz (if rz then 0x7F7FFFFF else 0x7F800000) neg mag exp

/-- Conversion of a value to e4m3 (R47). -/
def toE4m3 (rz : Bool) : Num → Res W32
  | .nan => { val := 0x7F, flags := 0 }
  | .inf neg => { val := withSign binE4m3 neg 0x7E, flags := flagOF ||| flagNX }
  | .fin neg mag exp => roundFin binE4m3 rz 0x7E neg mag exp

/-- Conversion of a value to e5m2 (R47). -/
def toE5m2 (rz : Bool) : Num → Res W32
  | .nan => { val := 0x7F, flags := 0 }
  | .inf neg => { val := withSign binE5m2 neg 0x7C, flags := 0 }
  | .fin neg mag exp => roundFin binE5m2 rz 0x7B neg mag exp

/-- Conversion of a value to e2m1 (R47). -/
def toE2m1 (rz : Bool) : Num → Res W32
  | .nan => { val := 0, flags := flagNV }
  | .inf neg => { val := withSign binE2m1 neg 7, flags := flagOF ||| flagNX }
  | .fin neg mag exp => roundFin binE2m1 rz 7 neg mag exp

/-- Conversion of a value to an integer between two bounds (R47). -/
def toInt (rz : Bool) (lo hi : Int) : Num → Res Int
  | .nan => { val := 0, flags := flagNV }
  | .inf neg => { val := if neg then lo else hi, flags := flagNV }
  | .fin neg mag exp =>
    let r := roundAt rz mag exp 0
    let n : Int := if neg then -(r.1 : Int) else r.1
    if n < lo then { val := lo, flags := flagNV }
    else if n > hi then { val := hi, flags := flagNV }
    else { val := n, flags := if r.2 then flagNX else 0 }

/-- The value of an integer. -/
def ofInt (i : Int) : Num := .fin (decide (i < 0)) i.natAbs 0

/-- A value times 2^k. -/
def Num.scale (k : Int) : Num → Num
  | .fin neg mag exp => .fin neg mag (exp + k)
  | x => x

/-- The negative of a value. -/
def Num.negate : Num → Num
  | .nan => .nan
  | .inf neg => .inf (!neg)
  | .fin neg mag exp => .fin (!neg) mag exp

/-- The magnitude of a value. -/
def Num.abs : Num → Num
  | .nan => .nan
  | .inf _ => .inf false
  | .fin _ mag exp => .fin false mag exp

/-- The exact sum, with the sign of an exact zero by R30, and NV on infinities of opposite sign (R33). -/
def Num.add : Num → Num → Res Num
  | .nan, _ => { val := .nan, flags := 0 }
  | _, .nan => { val := .nan, flags := 0 }
  | .inf a, .inf b => if a == b then { val := .inf a, flags := 0 } else { val := .nan, flags := flagNV }
  | .inf a, .fin _ _ _ => { val := .inf a, flags := 0 }
  | .fin _ _ _, .inf b => { val := .inf b, flags := 0 }
  | .fin na ma ea, .fin nb mb eb =>
    let e := min ea eb
    let a : Int := (ma * pow2 (ea - e) : Nat)
    let b : Int := (mb * pow2 (eb - e) : Nat)
    let sum := (if na then -a else a) + (if nb then -b else b)
    let neg := if sum == 0 then na && nb && ma == 0 && mb == 0 else decide (sum < 0)
    { val := .fin neg sum.natAbs e, flags := 0 }

/-- The exact product, with NV on 0 times an infinity (R33). -/
def Num.mul : Num → Num → Res Num
  | .nan, _ => { val := .nan, flags := 0 }
  | _, .nan => { val := .nan, flags := 0 }
  | .inf a, .inf b => { val := .inf (a != b), flags := 0 }
  | .inf a, .fin b m _ => if m == 0 then { val := .nan, flags := flagNV } else { val := .inf (a != b), flags := 0 }
  | .fin a m _, .inf b => if m == 0 then { val := .nan, flags := flagNV } else { val := .inf (a != b), flags := 0 }
  | .fin a ma ea, .fin b mb eb => { val := .fin (a != b) (ma * mb) (ea + eb), flags := 0 }

/-- A computation on exact values, rounded once into binary32. -/
def roundRes (x : Res Num) : Res W32 :=
  let r := rneF32 x.val
  { val := r.val, flags := r.flags ||| x.flags }

/-- RNE_F32(a + b). -/
def addF32 (a b : W32) : Res W32 := roundRes (Num.add (decodeF32 a) (decodeF32 b))
/-- RNE_F32(a - b). -/
def subF32 (a b : W32) : Res W32 := roundRes (Num.add (decodeF32 a) (decodeF32 b).negate)
/-- RNE_F32(a x b). -/
def mulF32 (a b : W32) : Res W32 := roundRes (Num.mul (decodeF32 a) (decodeF32 b))

/-- RNE_F32(a x b + c), one rounding. -/
def fmaF32 (a b : Num) (c : Num) : Res W32 :=
  let p := Num.mul a b
  let r := Num.add p.val c
  roundRes { val := r.val, flags := p.flags ||| r.flags }

/-- A key that orders binary32 codes other than NaN, with -0 below +0 (R49). -/
def orderKey (x : W32) : Int :=
  if x.msb then -((x.toNat % 0x80000000 : Nat) : Int) - 1 else x.toNat

/-- The code of a binary32 NaN. -/
def isNanF32 (x : W32) : Bool := x.toNat % 0x80000000 > 0x7F800000

/-- `fmin` of R49, everywhere on the device. -/
def minF32 (a b : W32) : W32 :=
  if isNanF32 a || isNanF32 b then 0x7FC00000 else if orderKey a ≤ orderKey b then a else b

/-- `fmax` of R49, everywhere on the device. -/
def maxF32 (a b : W32) : W32 :=
  if isNanF32 a || isNanF32 b then 0x7FC00000 else if orderKey a ≤ orderKey b then b else a

/-- Exact comparison of two values neither of which is NaN: less, and equal. -/
def numLt (a b : W32) : Bool :=
  let z (x : W32) := if x.toNat % 0x80000000 == 0 then (0 : Int) else orderKey x
  !(isNanF32 a || isNanF32 b) && z a < z b

/-- Equality of values: NaN equals nothing, and the two zeros are equal. -/
def numEq (a b : W32) : Bool :=
  !(isNanF32 a || isNanF32 b) && (a == b || (a.toNat % 0x80000000 == 0 && b.toNat % 0x80000000 == 0))

/-- The integer square root, from bit i downwards. -/
def isqrtFrom (n : Nat) : Nat → Nat → Nat
  | 0, r => r
  | i + 1, r =>
    let r' := r + 2 ^ i
    isqrtFrom n i (if r' * r' ≤ n then r' else r)

/-- The integer square root of a number below 2^128. -/
def isqrt (n : Nat) : Nat := isqrtFrom n 64 0

/-- A number truncated, with one more bit that is set when anything was cut off, so that one rounding of the result is
the rounding of the exact number. -/
def sticky (n : Nat) (cut : Bool) : Nat := 2 * n + cut.toNat

/-- The square root of mag x 2^exp. -/
def sqrtNum (mag : Nat) (exp : Int) : Num :=
  let sh : Int := 56 - mag.log2
  let sh := if (exp - sh) % 2 == 0 then sh else sh + 1
  let n := mag * pow2 sh
  let r := isqrt n
  .fin false (sticky r (r * r != n)) ((exp - sh) / 2 - 1)

/-- The reciprocal of mag x 2^exp. -/
def rcpNum (neg : Bool) (mag : Nat) (exp : Int) : Num :=
  let k := 40 + 2 * mag.log2
  let q := 2 ^ k / mag
  .fin neg (sticky q (2 ^ k % mag != 0)) (-exp - k - 1)

/-- The reciprocal square root of mag x 2^exp. -/
def rsqNum (mag : Nat) (exp : Int) : Num :=
  let k : Int := 60 + mag.log2
  let k := if (exp + k) % 2 == 0 then k else k + 1
  let q := pow2 k / mag
  let r := isqrt q
  .fin false (sticky r (r * r != q || pow2 k % mag != 0)) ((-exp - k) / 2 - 1)

/-- Fraction bits of the fixed-point evaluation of `fexp2` and `flog2`. -/
def fixBits : Nat := 256

/-- ln 2 with `fixBits` fraction bits, cut off. -/
def ln2Fix : Nat := 0xb17217f7d1cf79abc9e3b39803f2f6af40f343267298b62d8a0d175b8baafa2b

/-- The terms y^n / n! from the n-th on, in fixed point. -/
def expTerms (y : Nat) : Nat → Nat → Nat → Nat
  | 0, _, _ => 0
  | fuel + 1, n, term =>
    let next := term * y / 2 ^ fixBits / n
    term + expTerms y fuel (n + 1) next

/-- 2^f for a fraction f in fixed point.
(Log entry 33, PRESUMED) -/
def exp2Fix (f : Nat) : Nat := expTerms (f * ln2Fix / 2 ^ fixBits) 70 1 (2 ^ fixBits)

/-- The terms z^(2n+1) / (2n+1) from the n-th on, in fixed point. -/
def atanhTerms (z2 : Nat) : Nat → Nat → Nat → Nat
  | 0, _, _ => 0
  | fuel + 1, n, power => power / (2 * n + 1) + atanhTerms z2 fuel (n + 1) (power * z2 / 2 ^ fixBits)

/-- log2 of m / 2^wm for m between 2^wm and 2^(wm+1), in fixed point. -/
def log2Fix (m wm : Nat) : Nat :=
  let one := 2 ^ wm
  let z := (m - one) * 2 ^ fixBits / (m + one)
  let lnm := 2 * atanhTerms (z * z / 2 ^ fixBits) 90 0 z
  lnm * 2 ^ fixBits / ln2Fix

/-- 2^x for a finite x. A result that is not a power of two is irrational, so its cut-off bit is always set (R48).
(Log entry 33, PRESUMED) -/
def exp2Num (neg : Bool) (mag : Nat) (exp : Int) : Num :=
  let x : Int := (if neg then -1 else 1) * (mag : Int)
  if mag == 0 then .fin false 1 0
  else if topBit mag exp ≥ 9 then .fin false 1 (if neg then -1000 else 1000)
  else if exp ≥ 0 then .fin false 1 (x * pow2 exp)
  else
    let fx := x * pow2 (exp + fixBits)
    let i := fx / (2 ^ fixBits : Nat)
    let f := (fx % (2 ^ fixBits : Nat)).toNat
    if f == 0 then .fin false 1 i else .fin false (sticky (exp2Fix f) true) (i - fixBits - 1)

/-- log2 of mag x 2^exp, mag not 0.
(Log entry 33, PRESUMED) -/
def log2Num (mag : Nat) (exp : Int) : Num :=
  let t := topBit mag exp
  if mag == 2 ^ mag.log2 then ofInt t
  else
    let v : Int := t * (2 ^ fixBits : Nat) + log2Fix mag mag.log2
    .fin (decide (v < 0)) (sticky v.natAbs true) (-(fixBits : Int) - 1)

/-- `fsqrt` (R48). -/
def sqrtF32 (x : W32) : Res W32 :=
  match decodeF32 x with
  | .nan => { val := 0x7FC00000, flags := 0 }
  | .inf neg => if neg then { val := 0x7FC00000, flags := flagNV } else { val := 0x7F800000, flags := 0 }
  | .fin neg mag exp =>
    if mag == 0 then { val := x, flags := 0 }
    else if neg then { val := 0x7FC00000, flags := flagNV }
    else rneF32 (sqrtNum mag exp)

/-- `frcp` (R48). -/
def rcpF32 (x : W32) : Res W32 :=
  match decodeF32 x with
  | .nan => { val := 0x7FC00000, flags := 0 }
  | .inf neg => { val := withSign binF32 neg 0, flags := 0 }
  | .fin neg mag exp =>
    if mag == 0 then { val := withSign binF32 neg 0x7F800000, flags := 0 } else rneF32 (rcpNum neg mag exp)

/-- `frsq` (R48). -/
def rsqF32 (x : W32) : Res W32 :=
  match decodeF32 x with
  | .nan => { val := 0x7FC00000, flags := 0 }
  | .inf neg => if neg then { val := 0x7FC00000, flags := flagNV } else { val := 0, flags := 0 }
  | .fin neg mag exp =>
    if mag == 0 then { val := withSign binF32 neg 0x7F800000, flags := 0 }
    else if neg then { val := 0x7FC00000, flags := flagNV }
    else rneF32 (rsqNum mag exp)

/-- `fexp2` (R48). -/
def exp2F32 (x : W32) : Res W32 :=
  match decodeF32 x with
  | .nan => { val := 0x7FC00000, flags := 0 }
  | .inf neg => { val := if neg then 0 else 0x7F800000, flags := 0 }
  | .fin neg mag exp => rneF32 (exp2Num neg mag exp)

/-- `flog2` (R48). -/
def log2F32 (x : W32) : Res W32 :=
  match decodeF32 x with
  | .nan => { val := 0x7FC00000, flags := 0 }
  | .inf neg => if neg then { val := 0x7FC00000, flags := flagNV } else { val := 0x7F800000, flags := 0 }
  | .fin neg mag exp =>
    if mag == 0 then { val := 0xFF800000, flags := 0 }
    else if neg then { val := 0x7FC00000, flags := flagNV }
    else rneF32 (log2Num mag exp)

/-- SAT_I32 of R6. -/
def satI32 (x : Int) : Int := max (-0x80000000) (min 0x7FFFFFFF x)

/-- WRAP_I32 of R35. -/
def wrapI32 (x : Int) : Int := (BitVec.ofInt 32 x).toInt

/-- Elements per 32-bit slot (R11, R44); 1 for codes without a pack. -/
def packOf (fmt : BitVec 4) : Nat :=
  match fmt.toNat with
  | 2 => 2
  | 4 | 5 | 6 | 7 | 9 | 10 => 4
  | 8 => 8
  | _ => 1

/-- Whether a format may carry block scales (R40). -/
def scalable (fmt : BitVec 4) : Bool := 6 ≤ fmt.toNat && fmt.toNat ≤ 10

/-- The value of element j of a 32-bit slot of a format (R34 to R38, R44). -/
def elemValue (fmt : BitVec 4) (slot : W32) (j : Nat) : Num :=
  match fmt.toNat with
  | 1 => decodeF32 slot
  | 2 => decodeBf16 (slot.extractLsb' (16 * j) 16)
  | 3 => ofInt slot.toInt
  | 4 => ofInt (slot.extractLsb' (8 * j) 8).toInt
  | 5 => ofInt (slot.extractLsb' (8 * j) 8).toNat
  | 6 => decodeE4m3 (slot.extractLsb' (8 * j) 8)
  | 7 => decodeE5m2 (slot.extractLsb' (8 * j) 8)
  | 8 => decodeE2m1 (slot.extractLsb' (4 * j) 4)
  | 9 => decodeHt 8 (slot.extractLsb' (8 * j) 8).toNat
  | 10 => decodeHt 6 (slot.extractLsb' (8 * j) 6).toNat
  | _ => .nan

/-- The width in bits of an element in its slot (R44). -/
def elemBits (fmt : BitVec 4) : Nat := 32 / packOf fmt

/-- A value converted into a format by a mode (R47), as the element's bits. -/
def convertTo (fmt : BitVec 4) (rz : Bool) (x : Num) : Res W32 :=
  match fmt.toNat with
  | 1 => toF32 rz x
  | 2 => toBf16 rz x
  | 3 => let r := toInt rz (-0x80000000) 0x7FFFFFFF x; { val := BitVec.ofInt 32 r.val, flags := r.flags }
  | 4 => let r := toInt rz (-128) 127 x; { val := (BitVec.ofInt 8 r.val).setWidth 32, flags := r.flags }
  | 5 => let r := toInt rz 0 255 x; { val := (BitVec.ofInt 8 r.val).setWidth 32, flags := r.flags }
  | 6 => toE4m3 rz x
  | 7 => toE5m2 rz x
  | 8 => toE2m1 rz x
  | 9 => let r := toHt 8 x; { val := r.val.setWidth 32, flags := r.flags }
  | 10 => let r := toHt 6 x; { val := r.val.setWidth 32, flags := r.flags }
  | _ => { val := 0, flags := 0 }

end Sys2Proof.Machine
end

