-- ==== Sys2Proof/Machine/Ops.lean ====
section
/-! DEFINITION. The named operations over memory and registers, the bookkeeping of an issue group, the landing of results,
and taking a trap with the return from it. -/

namespace Sys2Proof.Machine

/-! ### Bytes and words -/

/-- A little-endian byte string as a number (R2). -/
def natOfBytes (bs : List Byte) : Nat := bs.foldr (fun b acc => b.toNat + 256 * acc) 0

/-- The n low bytes of a number, lowest first (R2). -/
def bytesOfNat : Nat → Nat → List Byte
  | 0, _ => []
  | n + 1, v => BitVec.ofNat 8 v :: bytesOfNat n (v / 256)

/-- n zero bytes. -/
def zeroBytes (n : Nat) : List Byte := List.replicate n 0

/-- The slice of a byte string from offset o, n bytes long. -/
def bytesAt (bs : List Byte) (o n : Nat) : List Byte := (bs.drop o).take n

/-- The little-endian field of n bytes at offset o. -/
def fieldAt (bs : List Byte) (o n : Nat) : Nat := natOfBytes (bytesAt bs o n)

/-- Lane i of 32 bits of a wide value. -/
def lane {n : Nat} (x : BitVec n) (i : Nat) : W32 := x.extractLsb' (32 * i) 32

/-- A wide value built from its 32-bit lanes, the first `count` of them. -/
def ofLanes (w count : Nat) (f : Nat → W32) : BitVec w :=
  BitVec.ofNat w ((List.range count).foldr (fun i acc => (f i).toNat + 2 ^ 32 * (acc)) 0)

/-- A vector register's contents from its lanes. -/
def vecOf (f : Nat → W32) : BitVec 2048 := ofLanes 2048 64 f

/-- Lanes of a predicate as 64 bits, from a test of each lane. -/
def maskOf (f : Nat → Bool) : W64 :=
  BitVec.ofNat 64 ((List.range 64).foldr (fun i acc => (f i).toNat + 2 * acc) 0)

/-- Bits [lo + n - 1 : lo] of a wide value replaced. -/
def setBits {w : Nat} (x : BitVec w) (lo n : Nat) (v : Nat) : BitVec w :=
  let m := BitVec.ofNat w ((2 ^ n - 1) <<< lo)
  (x &&& ~~~m) ||| (BitVec.ofNat w (v <<< lo) &&& m)

/-- A 64-bit value of all ones or all zeros. -/
def allLanes (b : Bool) : W64 := if b then BitVec.allOnes 64 else 0

/-- Entry i of a vector changed; an index out of range changes nothing. -/
def vecModify {α : Type} {n : Nat} (v : Vector α n) (i : Nat) (f : α → α) : Vector α n :=
  if h : i < n then v.set i (f v[i]) h else v

/-! ### Memory cells -/

/-- The byte at an address: a listed byte, or 0.
(Log entry 2, DESIGN CHOICE) -/
def memByte (m : Memory) (a : Nat) : Byte :=
  match m.find? (fun c => c.1 == a) with
  | some c => c.2
  | none => 0

/-- The listed cells of a byte string placed at an address: its bytes that are not 0. -/
def cellsOf : Nat → List Byte → Memory
  | _, [] => []
  | a, b :: bs => if b == 0 then cellsOf (a + 1) bs else (a, b) :: cellsOf (a + 1) bs

/-- The bytes of a memory from an address on.
(Log entry 2, DESIGN CHOICE) -/
def memRead (m : Memory) (a n : Nat) : List Byte :=
  let r := m.filter (fun c => a ≤ c.1 && c.1 < a + n)
  (List.range n).map (fun i => memByte r (a + i))

/-- A byte string written at an address; the canonical form is kept.
(Log entry 2, DESIGN CHOICE) -/
def memWrite (m : Memory) (a : Nat) (bs : List Byte) : Memory :=
  m.filter (fun c => c.1 < a) ++ cellsOf a bs ++ m.filter (fun c => a + bs.length ≤ c.1)

/-- Listed cells in strictly rising address order. -/
def cellsRise : Memory → Bool
  | [] => true
  | [_] => true
  | c :: d :: m => c.1 < d.1 && cellsRise (d :: m)

/-- The canonical form of a memory: rising addresses, no listed byte that an unlisted address would read as. -/
def Memory.wf (m : Memory) : Bool := cellsRise m && m.all (fun c => c.2 != 0)

/-- An aligned little-endian word of n bytes. -/
def memWord (m : Memory) (a n : Nat) : Nat := natOfBytes (memRead m a n)

/-- The ownership of a granule (R208); none is OPEN. -/
def ownerOf (m : Mem) (g : Nat) : Option Owner :=
  match m.owner.find? (fun c => c.1 == g) with
  | some c => some c.2
  | none => none

/-- A granule's new ownership; the list stays rising and holds no OPEN granule. -/
def setOwner (m : Mem) (g : Nat) (o : Option Owner) : Mem :=
  let mid := match o with
    | some x => [(g, x)]
    | none => []
  { m with owner := m.owner.filter (fun c => c.1 < g) ++ mid ++ m.owner.filter (fun c => g < c.1) }

/-- The full/empty bit of a scratchpad word (R145). -/
def isFull (m : Mem) (w : Nat) : Bool := m.full.any (· == w)

/-- A full/empty bit set or cleared. -/
def setFull (m : Mem) (w : Nat) (b : Bool) : Mem :=
  { m with full := m.full.filter (· < w) ++ (if b then [w] else []) ++ m.full.filter (w < ·) }

/-- Scratchpad bytes written; words written whole hold no error any more (R334). -/
def Mem.putSpad (m : Mem) (a : Nat) (bs : List Byte) : Mem :=
  { m with spad := memWrite m.spad a bs
           damaged := m.damaged.filter (fun d => !(a ≤ 8 * d && 8 * d + 8 ≤ a + bs.length)) }

/-- The first byte of a scratchpad range that holds an uncorrectable error (R334). -/
def Mem.badByte (m : Mem) (a n : Nat) : Option Nat :=
  (m.damaged.find? (fun d => 8 * d < a + n && a < 8 * d + 8)).map (fun d => max a (8 * d))

/-- An uncorrectable error in a word of a slice; the list stays rising. -/
def Mem.damage (m : Mem) (w : Nat) : Mem :=
  { m with damaged := m.damaged.filter (· < w) ++ [w] ++ m.damaged.filter (w < ·) }

/-- The granules that a byte range overlaps, rising; none for an empty range. -/
def granulesOf (a n : Nat) : List Nat :=
  if n == 0 then [] else (List.range ((a + n - 1) / 64 - a / 64 + 1)).map (· + a / 64)

/-! ### Parts of the state -/

/-- The sequencer changed. -/
def onSeq (f : Seq → Seq) (s : State) : State := { s with seq := f s.seq }
/-- Memory changed. -/
def onMem (f : Mem → Mem) (s : State) : State := { s with mem := f s.mem }
/-- The issue group's bookkeeping changed. -/
def onGroup (f : Group → Group) (s : State) : State := onSeq (fun q => { q with group := f q.group }) s
/-- The copy engine changed. -/
def onCopy (f : Copy → Copy) (s : State) : State := { s with copy := f s.copy }
/-- The host port changed. -/
def onHost (f : HostPort → HostPort) (s : State) : State := { s with host := f s.host }
/-- The reflection unit changed. -/
def onRefl (f : Reflect → Reflect) (s : State) : State := { s with refl := f s.refl }
/-- The collective engines changed. -/
def onColl (f : Coll → Coll) (s : State) : State := { s with coll := f s.coll }
/-- Dispatch changed. -/
def onDisp (f : Dispatch → Dispatch) (s : State) : State := { s with disp := f s.disp }
/-- Firmware's tables changed. -/
def onFw (f : Firmware → Firmware) (s : State) : State := { s with fw := f s.fw }
/-- The clock changed. -/
def onClock (f : Clock → Clock) (s : State) : State := { s with clock := f s.clock }

/-- The modelled bay's die: east holds x = 10 to 19 (R1, R336). -/
def State.east (s : State) : Bool := s.seq.bayId.toNat % 20 ≥ 10

/-- The sequencer's agent id (R139). -/
def State.agent (s : State) : BitVec 9 := s.seq.bayId.setWidth 9

/-- The bay's copy engine's agent id (R180). -/
def State.copyAgent (s : State) : BitVec 9 := 160 + s.seq.bayId.setWidth 9

/-- A free value taken: the value, and the state with the counter advanced.
(Log entry 47, DESIGN CHOICE) -/
def takeFree (s : State) : W64 × State := (Config.freeWord s.freeCount, { s with freeCount := s.freeCount + 1 })

/-! ### Registers -/

/-- A scalar register; s0 reads as zero (R10). -/
def readS (s : State) (r : Reg5) : W64 := if r == 0 then 0 else s.seq.s.get r.toFin
/-- A predicate register. -/
def readP (s : State) (r : Reg4) : W64 := s.seq.p.get r.toFin
/-- A vector register. -/
def readV (s : State) (r : Reg5) : VReg := s.seq.v.get r.toFin
/-- A tile register. -/
def readT (s : State) (r : Reg4) : Tile := s.seq.t.get r.toFin

/-- A scalar register written; a write to s0 is discarded (R10). -/
def Seq.setS (q : Seq) (r : Reg5) (x : W64) : Seq :=
  if r == 0 then q else { q with s := q.s.set r.toNat x r.isLt }
/-- A predicate register written. -/
def Seq.setP (q : Seq) (r : Reg4) (x : W64) : Seq := { q with p := q.p.set r.toNat x r.isLt }
/-- A vector register written. -/
def Seq.setV (q : Seq) (r : Reg5) (x : VReg) : Seq := { q with v := q.v.set r.toNat x r.isLt }
/-- A tile register written. -/
def Seq.setT (q : Seq) (r : Reg4) (x : Tile) : Seq := { q with t := q.t.set r.toNat x r.isLt }

/-! ### The issue group -/

/-- Lane 0 of a guard (R81): whether a word other than a vector word executes. -/
def guardPass (hd : Hdr) (s : State) : Bool := !hd.g || ((readP s hd.pg).getLsbD 0 != hd.ps)

/-- The lanes in which a guard passes (R81). -/
def guardMask (hd : Hdr) (s : State) : W64 :=
  if !hd.g then BitVec.allOnes 64 else if hd.ps then ~~~(readP s hd.pg) else readP s hd.pg

/-- Of the causes of a group the one at the lowest position is reported (R316). -/
def lowestTrap (old : Option (Nat × TrapInfo)) (new : Nat × TrapInfo) : Option (Nat × TrapInfo) :=
  match old with
  | some x => if new.1 < x.1 then some new else some x
  | none => some new

/-- A trap of a word: recorded for the group's closing, the lowest position first, and the word did not complete (R316).
(Log entry 14, DEDUCED) -/
def raise (t : TrapInfo) (s : State) : State :=
  onGroup (fun g =>
    { g with failed := g.pos :: g.failed
             trap := lowestTrap g.trap (g.pos, t) }) s

/-- A cause by class and detail, with SOURCE 0. -/
def cause (cls : BitVec 4) (detail : BitVec 6) (eaddr einfo : W64) : TrapInfo :=
  { cls := cls, detail := detail, eaddr := eaddr, einfo := einfo, source := 0 }

/-- A word that completed and whose cause is reported at its group all the same (R316). -/
def raiseAfter (t : TrapInfo) (s : State) : State :=
  onGroup (fun g =>
    { g with trap := lowestTrap g.trap (g.pos, t) }) s

/-- A word that waits: its group does not issue (R178).
(Log entry 17, DESIGN CHOICE) -/
def stallOn (w : Wait) (s : State) : State :=
  onGroup (fun g =>
    { g with failed := g.pos :: g.failed
             stalled := match g.stalled with
               | some x => some x
               | none => some w }) s

/-- A transfer of a branch word, which gives way to the end of a section, an `eret`, a `halt` or a release beside it. -/
def Transfer.isBranch : Transfer → Bool
  | .jump _ | .push _ | .skip _ => true
  | .endSection | .eret | .halt | .descheduled => false

/-- A transfer of control, applied at the group's closing.
(Log entry 15, DEDUCED) -/
def transfer (t : Transfer) (s : State) : State :=
  onGroup (fun g => { g with transfer := match g.transfer with
    | some x => if t.isBranch && !x.isBranch then some x else some t
    | none => some t }) s

/-! ### Results -/

/-- An exposed result of latency L (R83, R317) joins those in flight. -/
def expose (e : InFlight) (s : State) : State := onSeq (fun q => { q with ifq := q.ifq ++ [e] }) s

/-- An exposed scalar result; a result for s0 without flags leaves no entry (R319). -/
def exposeS (lat : Nat) (r : Reg5) (x : W64) (flags : BitVec 4) (s : State) : State :=
  if r == 0 && flags == 0 then s
  else expose { kind := .scalar, reg := r, remain := lat, flags := flags, tag := 0, setsTag := false, emask := 0,
                lmask := BitVec.allOnes 64, value := x.setWidth 2048 } s

/-- An exposed predicate result over the lanes of a mask. -/
def exposeP (lat : Nat) (r : Reg4) (x mask : W64) (flags : BitVec 4) (s : State) : State :=
  expose { kind := .predicate, reg := r.setWidth 5, remain := lat, flags := flags, tag := 0, setsTag := false, emask := 0,
           lmask := mask, value := x.setWidth 2048 } s

/-- An exposed vector result over the lanes of a mask and the elements of a mask. -/
def exposeV (lat : Nat) (r : Reg5) (x : BitVec 2048) (tag : Byte) (emask : Byte) (mask : W64) (flags : BitVec 4)
    (s : State) : State :=
  expose { kind := .vector, reg := r, remain := lat, flags := flags, tag := tag, setsTag := true, emask := emask,
           lmask := mask, value := x } s

/-- The bits of a 32-bit lane that an element mask selects, elements of `w` bits (R319 EMASK). -/
def elemMask (emask : Byte) (w : Nat) : W32 :=
  BitVec.ofNat 32 ((List.range (32 / w)).foldr (fun j acc => (if emask.getLsbD j then 2 ^ w - 1 else 0) + 2 ^ w * acc) 0)

/-- A vector result at its landing: lanes of LMASK, elements of EMASK; other elements of a written lane keep their bits
when the format is the destination's own, and are zero otherwise (R319, R130). -/
def mergeLanes (e : InFlight) (old : VReg) : VReg :=
  let fmt := e.tag.extractLsb' 0 4
  let em : W32 := if e.emask == 0xFF then BitVec.allOnes 32 else elemMask e.emask (elemBits fmt)
  let keep : W32 := if old.tag.extractLsb' 0 4 == fmt then ~~~em else 0
  { data := vecOf (fun i =>
      if e.lmask.getLsbD i then (lane e.value i &&& em) ||| (lane old.data i &&& keep) else lane old.data i)
    tag := if e.setsTag then e.tag else old.tag }

/-- An in-flight result lands: its register is written and its flags are ORed into FSTAT (R85, R319). -/
def landEntry (e : InFlight) (q : Seq) : Seq :=
  let q := match e.kind with
    | .scalar => q.setS e.reg (e.value.setWidth 64)
    | .predicate =>
      let r : Reg4 := e.reg.setWidth 4
      let old := q.p.get r.toFin
      q.setP r ((e.value.setWidth 64 &&& e.lmask) ||| (old &&& ~~~e.lmask))
    | .vector => q.setV e.reg (mergeLanes e (q.v.get e.reg.toFin))
  { q with fstat := q.fstat ||| e.flags.setWidth 64 }

/-- The predicates that a list of entries writes, as a mask. -/
def predsOf (es : List InFlight) : BitVec 16 :=
  es.foldl (fun m e => if e.kind == .predicate then m ||| (1 <<< (e.reg.setWidth 4).toNat) else m) 0

/-- Every result in flight comes one issuing step nearer (R317). -/
def countDown (q : Seq) : Seq :=
  { q with ifq := q.ifq.map (fun e => { e with remain := e.remain - 1 }), landed2 := q.landed1, landed1 := 0 }

/-- The results in flight that are due land in order (R85). -/
def landDue (q : Seq) : Seq :=
  let due := q.ifq.filter (fun e => e.remain == 0)
  let q' := due.foldl (fun q e => landEntry e q) q
  { q' with ifq := q.ifq.filter (fun e => e.remain != 0), landed1 := q.landed1 ||| predsOf due }

/-- The end of an issuing step (R9, R85, R317): every result in flight comes one step nearer, and those due land in
order. -/
def endIssuing (s : State) : State := onSeq (fun q => landDue (countDown q)) s

/-- A scoreboarded result lands (R84): registers, tiles and flags. -/
def landPending (p : Pending) (q : Seq) : Seq :=
  let q := p.sregs.foldl (fun q x => q.setS x.1 x.2) q
  let q := p.pregs.foldl (fun q x => q.setP x.1 x.2) q
  let q := p.vregs.foldl (fun q x => q.setV x.1 x.2) q
  let q := p.tiles.foldl (fun q x => q.setT x.1 x.2) q
  { q with fstat := q.fstat ||| p.coreFlags.setWidth 64 ||| (p.atomFlags.setWidth 64 <<< 8) }

/-- A scoreboarded result that writes nothing. -/
def Pending.none (kind : PendKind) : Pending :=
  { kind := kind, sregs := [], pregs := [], vregs := [], tiles := [], reads := [], coreFlags := 0, atomFlags := 0,
    hold := Option.none, started := true, sup := false }

/-- A scoreboarded result is accepted and stays pending (R84). -/
def pend (p : Pending) (s : State) : State :=
  onSeq (fun q => { q with sb := q.sb ++ [{ p with sup := q.supervisor }] }) s

/-- The k-th pending result lands, unless it is X work frozen at trap entry (R316, R323). -/
def landNth (k : Nat) (s : State) : State :=
  match s.seq.sb[k]? with
  | some p =>
    if p.kind == .array && !p.sup && s.seq.supervisor then s
    else onSeq (fun q => landPending p { q with sb := q.sb.eraseIdx k }) s
  | none => s

/-- A scoreboarded result that lands in the step it issues. -/
def landNow (p : Pending) (s : State) : State :=
  onGroup (fun g => { g with raised := g.raised ||| p.coreFlags }) (onSeq (landPending p) s)

/-- A scoreboarded scalar result in the step its word issues. -/
def putS (r : Reg5) (x : W64) (s : State) : State := onSeq (fun q => q.setS r x) s

/-! ### Taking a trap, and returning from it -/

/-- The cause code of R26 and R289: class in [9:6], detail in [5:0]. -/
def causeCode (t : TrapInfo) : BitVec 10 := t.cls ++ t.detail

/-- Trap entry from user mode (R316, R317, R319, R287 to R289). `done` shows the words of the group that completed. A
station that holds a record is rewound to its take point, and its fault is reported with SOURCE 2 unless the trap is a
pre-emption request (R234).
(Log entry 81, DEDUCED) -/
def enterTrap (t : TrapInfo) (done : BitVec 3) (s : State) : State :=
  onSeq (fun q =>
    let preempted := t.cls == 12 && t.detail == 0x20
    let source : Byte := match q.held with
      | some _ => if preempted then t.source else 2
      | none => t.source
    let einfo : W64 := match q.held with
      | some h =>
        if preempted then t.einfo else h.rnum.setWidth 64 ||| (h.idx.setWidth 64 <<< 48) ||| (h.stage.setWidth 64 <<< 52)
      | none => t.einfo
    let base : Snapshot :=
      { epc := q.pc, cause := causeCode t, done := done, pmode := q.supervisor, source := source, loops := q.loops,
        eaddr := t.eaddr, einfo := einfo, steps := q.steps, ifq := q.ifq, gpos := q.gpos, landed1 := q.landed1,
        landed2 := q.landed2, faultPc := q.pc, faultDone := done, faultDepth := q.loops.length, faultTime := s.clock.time,
        faultCkcnt := q.ckcnt, faultCklog := q.cklog, faultRace := q.raceinfo }
    let snap := match q.held with
      | some h => { base with epc := h.pc, gpos := h.gpos, loops := h.loops, ifq := [], done := 0 }
      | none => base
    { q with snapshot := snap, loops := [], ifq := [], prevSupervisor := q.supervisor, supervisor := true, masked := true,
             ecause := causeCode t, epc := q.pc, eaddr := t.eaddr, einfo := einfo, pc := q.evec, gpos := 0,
             group := Group.closed, wait := none, resumeDone := 0, saved := false, landed1 := 0, landed2 := 0 }) s

/-- The return of `eret` from the live snapshot (R320): mode, pc, loop stack, in-flight queue, and the words already
done. Results that words of the `eret`'s own group still have in flight land at their own steps.
(Log entries 44 DEDUCED, 81 DEDUCED) -/
def returnFromTrap (s : State) : State :=
  onSeq (fun q =>
    let n := q.snapshot
    { q with supervisor := q.prevSupervisor, pc := n.epc, gpos := n.gpos, loops := n.loops,
             ifq := q.ifq ++ n.ifq, resumeDone := n.done, landed1 := n.landed1, landed2 := n.landed2, wait := none, saved := false }) s

end Sys2Proof.Machine
end

