-- ==== Sys2Proof/Machine/Crypto.lean ====
section
/-! DEFINITION. The hash and the signature check of bring-up (R1, R347): SHA-512, and RSASSA-PSS with SHA-512, a 64-byte salt and
an RSA-4096 key, as FIPS 180-4 and RFC 8017 define them. -/

namespace Sys2Proof.Machine

/-! ### SHA-512 -/

/-- Round constants 0 to 15 of SHA-512.
(Log entry 110, PRESUMED) -/
def shaConstants0 : List W64 :=
  [0x428A2F98D728AE22, 0x7137449123EF65CD, 0xB5C0FBCFEC4D3B2F, 0xE9B5DBA58189DBBC,
   0x3956C25BF348B538, 0x59F111F1B605D019, 0x923F82A4AF194F9B, 0xAB1C5ED5DA6D8118,
   0xD807AA98A3030242, 0x12835B0145706FBE, 0x243185BE4EE4B28C, 0x550C7DC3D5FFB4E2,
   0x72BE5D74F27B896F, 0x80DEB1FE3B1696B1, 0x9BDC06A725C71235, 0xC19BF174CF692694]

/-- Round constants 16 to 31 of SHA-512.
(Log entry 110, PRESUMED) -/
def shaConstants1 : List W64 :=
  [0xE49B69C19EF14AD2, 0xEFBE4786384F25E3, 0x0FC19DC68B8CD5B5, 0x240CA1CC77AC9C65,
   0x2DE92C6F592B0275, 0x4A7484AA6EA6E483, 0x5CB0A9DCBD41FBD4, 0x76F988DA831153B5,
   0x983E5152EE66DFAB, 0xA831C66D2DB43210, 0xB00327C898FB213F, 0xBF597FC7BEEF0EE4,
   0xC6E00BF33DA88FC2, 0xD5A79147930AA725, 0x06CA6351E003826F, 0x142929670A0E6E70]

/-- Round constants 32 to 47 of SHA-512.
(Log entry 110, PRESUMED) -/
def shaConstants2 : List W64 :=
  [0x27B70A8546D22FFC, 0x2E1B21385C26C926, 0x4D2C6DFC5AC42AED, 0x53380D139D95B3DF,
   0x650A73548BAF63DE, 0x766A0ABB3C77B2A8, 0x81C2C92E47EDAEE6, 0x92722C851482353B,
   0xA2BFE8A14CF10364, 0xA81A664BBC423001, 0xC24B8B70D0F89791, 0xC76C51A30654BE30,
   0xD192E819D6EF5218, 0xD69906245565A910, 0xF40E35855771202A, 0x106AA07032BBD1B8]

/-- Round constants 48 to 63 of SHA-512.
(Log entry 110, PRESUMED) -/
def shaConstants3 : List W64 :=
  [0x19A4C116B8D2D0C8, 0x1E376C085141AB53, 0x2748774CDF8EEB99, 0x34B0BCB5E19B48A8,
   0x391C0CB3C5C95A63, 0x4ED8AA4AE3418ACB, 0x5B9CCA4F7763E373, 0x682E6FF3D6B2B8A3,
   0x748F82EE5DEFB2FC, 0x78A5636F43172F60, 0x84C87814A1F0AB72, 0x8CC702081A6439EC,
   0x90BEFFFA23631E28, 0xA4506CEBDE82BDE9, 0xBEF9A3F7B2C67915, 0xC67178F2E372532B]

/-- Round constants 64 to 79 of SHA-512.
(Log entry 110, PRESUMED) -/
def shaConstants4 : List W64 :=
  [0xCA273ECEEA26619C, 0xD186B8C721C0C207, 0xEADA7DD6CDE0EB1E, 0xF57D4F7FEE6ED178,
   0x06F067AA72176FBA, 0x0A637DC5A2C898A6, 0x113F9804BEF90DAE, 0x1B710B35131C471B,
   0x28DB77F523047D84, 0x32CAAB7B40C72493, 0x3C9EBE0A15C9BEBC, 0x431D67C49C100D4C,
   0x4CC5D4BECB3E42B6, 0x597F299CFC657E2A, 0x5FCB6FAB3AD6FAEC, 0x6C44198C4A475817]

/-- The 80 round constants of SHA-512. -/
def shaConstants : List W64 := shaConstants0 ++ shaConstants1 ++ shaConstants2 ++ shaConstants3 ++ shaConstants4

/-- The eight working variables of SHA-512. -/
structure Sha where
  a : W64
  b : W64
  c : W64
  d : W64
  e : W64
  f : W64
  g : W64
  h : W64
  deriving DecidableEq, Repr

/-- The initial hash value of SHA-512. -/
def Sha.init : Sha :=
  { a := 0x6A09E667F3BCC908, b := 0xBB67AE8584CAA73B, c := 0x3C6EF372FE94F82B, d := 0xA54FF53A5F1D36F1,
    e := 0x510E527FADE682D1, f := 0x9B05688C2B3E6C1F, g := 0x1F83D9ABFB41BD6B, h := 0x5BE0CD19137E2179 }

/-- One round of SHA-512 with a constant and a word of the schedule. -/
def Sha.round (x : Sha) (kw : W64) : Sha :=
  let s1 := x.e.rotateRight 14 ^^^ x.e.rotateRight 18 ^^^ x.e.rotateRight 41
  let ch := (x.e &&& x.f) ^^^ (~~~x.e &&& x.g)
  let t1 := x.h + s1 + ch + kw
  let s0 := x.a.rotateRight 28 ^^^ x.a.rotateRight 34 ^^^ x.a.rotateRight 39
  let maj := (x.a &&& x.b) ^^^ (x.a &&& x.c) ^^^ (x.b &&& x.c)
  { a := t1 + (s0 + maj), b := x.a, c := x.b, d := x.c, e := x.d + t1, f := x.e, g := x.f, h := x.g }

/-- The next word of the schedule after those in a list, the newest first. -/
def shaNext (ws : List W64) : W64 :=
  let w := fun (i : Nat) => ws.getD (i - 1) 0
  let s0 := (w 15).rotateRight 1 ^^^ (w 15).rotateRight 8 ^^^ w 15 >>> 7
  let s1 := (w 2).rotateRight 19 ^^^ (w 2).rotateRight 61 ^^^ w 2 >>> 6
  s1 + w 7 + s0 + w 16

/-- The schedule of a block, the newest word first, extended by n words. -/
def shaExtend : Nat → List W64 → List W64
  | 0, ws => ws
  | n + 1, ws => shaExtend n (shaNext ws :: ws)

/-- A big-endian number. -/
def numberOf (b : List Byte) : Nat := b.foldl (fun x y => 256 * x + y.toNat) 0

/-- A number as n big-endian bytes. -/
def bytesBig (n x : Nat) : List Byte := (bytesOfNat n x).reverse

/-- One block of 128 bytes hashed in. -/
def Sha.block (x : Sha) (b : List Byte) : Sha :=
  let first := (List.range 16).map (fun i => BitVec.ofNat 64 (numberOf (bytesAt b (8 * i) 8)))
  let ws := (shaExtend 64 first.reverse).reverse
  let y := (shaConstants.zip ws).foldl (fun y kw => y.round (kw.1 + kw.2)) x
  { a := x.a + y.a, b := x.b + y.b, c := x.c + y.c, d := x.d + y.d, e := x.e + y.e, f := x.f + y.f, g := x.g + y.g,
    h := x.h + y.h }

/-- A message padded to a whole number of blocks. -/
def shaPad (m : List Byte) : List Byte :=
  m ++ [0x80] ++ zeroBytes ((239 - m.length % 128) % 128) ++ bytesBig 16 (8 * m.length)

/-- SHA-512 of a message, as 64 bytes.
(Log entry 110, PRESUMED) -/
def sha512 (m : List Byte) : List Byte :=
  let p := shaPad m
  let x := (List.range (p.length / 128)).foldl (fun x i => x.block (bytesAt p (128 * i) 128)) Sha.init
  ([x.a, x.b, x.c, x.d, x.e, x.f, x.g, x.h].map (fun w => bytesBig 8 w.toNat)).flatten

/-! ### RSASSA-PSS -/

/-- b ^ e modulo n, by squaring, with fuel for the bits of e. -/
def powMod (n : Nat) : Nat → Nat → Nat → Nat
  | 0, _, _ => 1 % n
  | fuel + 1, b, e =>
    if e == 0 then 1 % n
    else
      let r := powMod n fuel (b * b % n) (e / 2)
      if e % 2 == 1 then b * r % n else r

/-- MGF1 over SHA-512: n bytes of mask from a seed. -/
def mgf1 (seed : List Byte) (n : Nat) : List Byte :=
  (((List.range (n / 64 + 1)).map (fun i => sha512 (seed ++ bytesBig 4 i))).flatten).take n

/-- The check of an encoded message of 512 bytes whose top bit is 0: EMSA-PSS with a salt of 64 bytes. -/
def pssEncodingOk (m em : List Byte) : Bool :=
  let masked := em.take 447
  let h := bytesAt em 447 64
  let db := (masked.zip (mgf1 h 447)).map (fun x => x.1 ^^^ x.2)
  let db := match db with
    | [] => []
    | x :: rest => (x &&& 0x7F) :: rest
  em.length == 512 && em.getD 511 0 == 0xBC && (em.getD 0 0).toNat < 128 && (db.take 382).all (· == 0) && db.getD 382 0 == 1 &&
    sha512 (zeroBytes 8 ++ sha512 m ++ bytesAt db 383 64) == h

/-- Whether a signature of a message verifies under an RSA-4096 key: RSASSA-PSS with SHA-512 and a 64-byte salt (R347).
(Log entry 110, PRESUMED) -/
def pssVerify (modulus exponent : Nat) (m sig : List Byte) : Bool :=
  sig.length == 512 && numberOf sig < modulus && pssEncodingOk m (bytesBig 512 (powMod modulus 4096 (numberOf sig) exponent))

end Sys2Proof.Machine
end

