-- ==== Sys2Proof/Machine/Access.lean ====
section
/-! DEFINITION. The address map, extents and residency, the checks of a core access in the order of R136, ownership, and
reads and writes of memory by any agent (R134 to R139, R203 to R211, R335, R339). -/

namespace Sys2Proof.Machine

/-- The spaces of the address map (R203). -/
inductive Space where
  | scratchpad | extent | window | control | host
  deriving DecidableEq, Repr

/-- The row of the address map that holds an address: its space and the first address past it. -/
def rowOf (a : Nat) : Option (Space × Nat) :=
  if a < 0x14000000 then some (.scratchpad, 0x14000000)
  else if 0x100000000 ≤ a && a < 0x10000000000 then some (.extent, 0x10000000000)
  else if 0x10000000000 ≤ a && a < 0x20000000000 then some (.window, 0x20000000000)
  else if 0x20000000000 ≤ a && a < 0x20100000000 then some (.control, 0x20100000000)
  else if 0x8000000000000000 ≤ a && a < 0x8200000000000000 then some (.host, 0x8200000000000000)
  else none

/-- An address after the replacement of the alias of the bay's own slice (R134). -/
def unalias (bay : Nat) (a : Nat) : Nat :=
  if 0x1FE00000 ≤ a && a < 0x20000000 then bay * 0x200000 + (a - 0x1FE00000) else a

/-- An extent descriptor (R335). -/
structure Extent where
  base : Nat
  len : Nat
  phys : Nat
  attr : W64
  deriving DecidableEq, Repr

/-- Who accesses: the agent id, the extent table it goes by, and whether supervisor-only descriptors cover. -/
structure Who where
  agent : BitVec 9
  xtbl : W64
  sup : Bool
  deriving DecidableEq, Repr

/-- The sequencer as an accessing agent. -/
def coreWho (s : State) : Who := { agent := s.agent, xtbl := s.seq.xtbl, sup := s.seq.supervisor }

/-- The bay's copy engine as an accessing agent (R186). -/
def copyWho (s : State) : Who := { agent := s.copyAgent, xtbl := s.seq.xtbl, sup := false }

/-- Descriptor i of the table whose cells are given (R335).
(Log entry 50, DEDUCED) -/
def descriptorAt (cells : Memory) (xtbl i : Nat) : Extent :=
  { base := memWord cells (xtbl + 32 * i) 8, len := memWord cells (xtbl + 32 * i + 8) 8,
    phys := memWord cells (xtbl + 32 * i + 16) 8 % 2 ^ 39, attr := BitVec.ofNat 64 (memWord cells (xtbl + 32 * i + 24) 8) }

/-- Whether a descriptor covers an address for an agent (R205, R287). -/
def Extent.covers (e : Extent) (sup : Bool) (a : Nat) : Bool :=
  e.attr.getLsbD 0 && (sup || !e.attr.getLsbD 4) && e.base ≤ a && a < e.base + e.len

/-- The lowest-numbered of the first n descriptors that covers an address (R205).
(Log entry 50, DEDUCED) -/
def coverFrom (cells : Memory) (xtbl : Nat) (sup : Bool) (a : Nat) : Nat → Nat → Option Extent
  | 0, _ => none
  | n + 1, i =>
    let e := descriptorAt cells xtbl i
    if e.covers sup a then some e else coverFrom cells xtbl sup a n (i + 1)

/-- The descriptor that covers an extent address (R205). -/
def coverOf (m : Mem) (w : Who) (a : Nat) : Option Extent :=
  let x := w.xtbl.toNat
  coverFrom (m.hbm.filter (fun c => x ≤ c.1 && c.1 < x + 2048)) x w.sup a 64 0

/-- Whether the page of a covered address is resident (R335).
(Log entry 50, DEDUCED) -/
def isResident (m : Mem) (e : Extent) (a : Nat) : Bool :=
  let page := (a - e.base) / 65536
  e.attr.getLsbD 5 || (memByte m.hbm ((e.attr.toNat % 2 ^ 39) / 65536 * 65536 + page / 8)).getLsbD (page % 8)

/-- The parts of a byte range between boundaries at multiples of b, by fuel. -/
def cutsFrom (b : Nat) : Nat → Nat → Nat → List (Nat × Nat)
  | 0, _, _ => []
  | fuel + 1, a, n =>
    let k := b - a % b
    if n == 0 then [] else if n ≤ k then [(a, n)] else (a, k) :: cutsFrom b fuel (a + k) (n - k)

/-- The parts of a byte range within 64 KiB pages: over each, coverage, rights and residency are one (R335). -/
def pageParts (a n : Nat) : List (Nat × Nat) := cutsFrom 65536 (n / 65536 + 2) a n

/-- The parts of a byte range within 64-byte granules. -/
def granuleParts (a n : Nat) : List (Nat × Nat) := cutsFrom 64 (n / 64 + 2) a n

/-- The parts of a byte range within 4 KiB host pages. -/
def hostParts (a n : Nat) : List (Nat × Nat) := cutsFrom 4096 (n / 4096 + 2) a n

/-- The bytes of a range within one page as an agent reads them: scratchpad, or an extent's resident page; anything else
reads as zero (R138). -/
def readPiece (m : Mem) (w : Who) (a n : Nat) : List Byte :=
  match rowOf a with
  | some (.scratchpad, _) => memRead m.spad a n
  | some (.extent, _) =>
    match coverOf m w a with
    | some e => if isResident m e a then memRead m.hbm (e.phys + (a - e.base)) n else zeroBytes n
    | none => zeroBytes n
  | _ => zeroBytes n

/-- The bytes of a range as an agent reads them, without any check.
(Log entry 6, DEDUCED) -/
def readMem (m : Mem) (w : Who) (a n : Nat) : List Byte :=
  (pageParts a n).foldr (fun p acc => readPiece m w p.1 p.2 ++ acc) []

/-- A range within one page written by an agent, ownership apart. -/
def writePiece (m : Mem) (w : Who) (a : Nat) (bs : List Byte) : Mem :=
  match rowOf a with
  | some (.scratchpad, _) => m.putSpad a bs
  | some (.extent, _) =>
    match coverOf m w a with
    | some e => { m with hbm := memWrite m.hbm (e.phys + (a - e.base)) bs }
    | none => m
  | _ => m

/-- A range written by an agent, ownership apart and without any check.
(Log entry 6, DEDUCED) -/
def writeMem (m : Mem) (w : Who) (a : Nat) (bs : List Byte) : Mem :=
  (pageParts a bs.length).foldl (fun m p => writePiece m w p.1 (bytesAt bs (p.1 - a) p.2)) m

/-- A little-endian word as an agent reads it. -/
def readWord (m : Mem) (w : Who) (a n : Nat) : Nat := natOfBytes (readMem m w a n)

/-- A little-endian word written by an agent, ownership apart. -/
def writeWord (m : Mem) (w : Who) (a n v : Nat) : Mem := writeMem m w a (bytesOfNat n v)

/-! ### Ownership -/

/-- Every granule of a range becomes EXCL of an agent: an ordinary write (R208). -/
def ownRange (m : Mem) (agent : BitVec 9) (a n : Nat) : Mem :=
  (granulesOf a n).foldl (fun m g => setOwner m g (some (.excl agent))) m

/-- A publication by an agent (R208): every granule that is OPEN, EXCL of it or PUB becomes PUB. -/
def publishRange (m : Mem) (agent : BitVec 9) (a n : Nat) : Mem :=
  (granulesOf a n).foldl (fun m g =>
    match ownerOf m g with
    | some (.excl x) => if x == agent then setOwner m g (some .pub) else m
    | _ => setOwner m g (some .pub)) m

/-- Every granule of a range becomes OPEN. -/
def openRange (m : Mem) (a n : Nat) : Mem :=
  (granulesOf a n).foldl (fun m g => setOwner m g none) m

/-- RACEINFO for a detected race (R16, R139); AGENT is 0 for a granule that is PUB and has no owner.
(Log entries 29 DEDUCED, 91 DESIGN CHOICE) -/
def raceInfo (write : Bool) (o : Owner) (addr : Nat) : W64 :=
  let st : Nat := match o with
    | .excl _ => 1
    | .pub => 2
  let ag : Nat := match o with
    | .excl a => a.toNat
    | .pub => 0
  BitVec.ofNat 64 (2 ^ 63 + (if write then 2 ^ 43 else 0) + st * 2 ^ 41 + ag * 2 ^ 32 + addr / 64 % 2 ^ 32)

/-- A race as the checks report it: detail of class 7, the address, and RACEINFO. -/
structure Race where
  detail : BitVec 6
  addr : Nat
  info : W64
  deriving DecidableEq, Repr

/-- The race of a read of one granule (R139, R208). -/
def readRaceAt (m : Mem) (agent : BitVec 9) (a : Nat) : Option Race :=
  match ownerOf m (a / 64) with
  | some (.excl x) => if x == agent then none else some { detail := 1, addr := a, info := raceInfo false (.excl x) a }
  | _ => none

/-- The race of a write to one granule (R139, R208). -/
def writeRaceAt (m : Mem) (agent : BitVec 9) (a : Nat) : Option Race :=
  match ownerOf m (a / 64) with
  | some (.excl x) => if x == agent then none else some { detail := 2, addr := a, info := raceInfo true (.excl x) a }
  | some .pub => some { detail := 3, addr := a, info := raceInfo true .pub a }
  | none => none

/-- The first race of an access to a scratchpad range; other spaces have none. -/
def raceOf (m : Mem) (agent : BitVec 9) (write : Bool) (a n : Nat) : Option Race :=
  match rowOf a with
  | some (.scratchpad, _) =>
    (granuleParts a n).findSome? (fun p => if write then writeRaceAt m agent p.1 else readRaceAt m agent p.1)
  | _ => none

/-- `rel` or `ret` over the granules of a range, one at a time in rising order, until one is held by another agent
(R151): the memory and the race.
(Log entry 28, DEDUCED) -/
def relGranules (m : Mem) (agent : BitVec 9) (o : Option Owner) : List Nat → Mem × Option Race
  | [] => (m, none)
  | g :: gs =>
    match ownerOf m g with
    | some (.excl x) =>
      if x == agent then relGranules (setOwner m g o) agent o gs
      else (m, some { detail := 4, addr := g * 64, info := raceInfo false (.excl x) (g * 64) })
    | _ => relGranules (setOwner m g o) agent o gs

/-! ### The checks of a core access -/

/-- What a core word does to memory (R135); a side entry's address is checked and nothing is accessed (R227). -/
inductive AccessKind where
  | load | store | fullEmpty | atomicRet | atomicNon | side
  deriving DecidableEq, Repr

/-- One lane of an access (R136): its number, its first byte after alias replacement, its length. -/
structure Part where
  lane : Nat
  addr : Nat
  len : Nat
  deriving DecidableEq, Repr

/-- A failed check: the trap, and RACEINFO when it is a race. -/
structure Failure where
  trap : TrapInfo
  race : Option W64
  deriving DecidableEq, Repr

/-- A failure of a class with the address and the lane that R136 reports.
(Log entry 27, DEDUCED) -/
def failAt (cls : BitVec 4) (detail : BitVec 6) (addr laneNo : Nat) : Failure :=
  { trap := cause cls detail (BitVec.ofNat 64 addr) (BitVec.ofNat 64 (laneNo % 256)), race := none }

/-- Step 4.1: every byte in the row of the first (R136). -/
def checkMap (p : Part) : Option Failure :=
  match rowOf p.addr with
  | none => some (failAt 5 0x01 p.addr p.lane)
  | some (_, hi) => if p.addr + p.len > hi then some (failAt 5 0x01 hi p.lane) else none

/-- The transmit window of a region that holds an address (R239). -/
def txWindowAt (r : Reflect) (region : W32) (a : Nat) : Option TxWindow :=
  r.tx.find? (fun w => w.region == region && w.base.toNat ≤ a && a < w.base.toNat + w.len.toNat)

/-- Step 4.3: the access kinds each space takes (R135). `narrow` marks `ld32`, `ld64`, `st32` and `st64`; `fn` is an
atomic's FN.
(Log entry 30, DEDUCED) -/
def checkSpace (s : State) (kind : AccessKind) (narrow : Bool) (fn : BitVec 4) (p : Part) : Option Failure :=
  match rowOf p.addr, kind with
  | some (.scratchpad, _), _ => none
  | some (.extent, _), .fullEmpty => some (failAt 5 0x04 p.addr p.lane)
  | some (.extent, _), _ => none
  | some (.window, _), .load => some (failAt 5 0x03 p.addr p.lane)
  | some (.window, _), .atomicRet => some (failAt 5 0x03 p.addr p.lane)
  | some (.window, _), .store => none
  | some (.window, _), .fullEmpty => some (failAt 5 0x04 p.addr p.lane)
  | some (.window, _), .atomicNon =>
    match txWindowAt s.refl (s.seq.region.setWidth 32) p.addr with
    | some w => if w.ops.getLsbD fn.toNat then none else some (failAt 5 0x05 p.addr p.lane)
    | none => none
  | some (.window, _), .side => some (failAt 5 0x05 p.addr p.lane)
  | some (.control, _), .fullEmpty => some (failAt 5 0x04 p.addr p.lane)
  | some (.control, _), .load => if narrow then none else some (failAt 5 0x05 p.addr p.lane)
  | some (.control, _), .store => if narrow then none else some (failAt 5 0x05 p.addr p.lane)
  | some (.control, _), _ => some (failAt 5 0x05 p.addr p.lane)
  | some (.host, _), .store => none
  | some (.host, _), .load => some (failAt 5 0x03 p.addr p.lane)
  | some (.host, _), .atomicRet => some (failAt 5 0x03 p.addr p.lane)
  | some (.host, _), .fullEmpty => some (failAt 5 0x04 p.addr p.lane)
  | some (.host, _), .atomicNon => some (failAt 5 0x05 p.addr p.lane)
  | some (.host, _), .side => some (failAt 5 0x05 p.addr p.lane)
  | none, _ => some (failAt 5 0x01 p.addr p.lane)

/-- Whether a descriptor's rights admit an access (R135). -/
def rightsOk (kind : AccessKind) (e : Extent) : Bool :=
  match kind with
  | .load => e.attr.getLsbD 1
  | .store | .atomicNon | .side => e.attr.getLsbD 2
  | .atomicRet => e.attr.getLsbD 1 && e.attr.getLsbD 2
  | .fullEmpty => true

/-- Step 4.4: rights against the covering descriptor (R136). -/
def checkRights (m : Mem) (w : Who) (kind : AccessKind) (p : Part) : Option Failure :=
  match rowOf p.addr with
  | some (.extent, _) =>
    (pageParts p.addr p.len).findSome? (fun q =>
      match coverOf m w q.1 with
      | some e => if rightsOk kind e then none else some (failAt 5 0x0A q.1 p.lane)
      | none => none)
  | _ => none

/-- Step 5 for extents: coverage, and residency of everything but loads (R136, R206). -/
def checkExtent (m : Mem) (w : Who) (kind : AccessKind) (p : Part) : Option Failure :=
  match rowOf p.addr with
  | some (.extent, _) =>
    (pageParts p.addr p.len).findSome? (fun q =>
      match coverOf m w q.1 with
      | some e => if kind == .load || isResident m e q.1 then none else some (failAt 6 0x02 q.1 p.lane)
      | none => some (failAt 6 0x01 q.1 p.lane))
  | _ => none

/-- Class 9 detail 0x01: a window address that no entry of the region maps (R239). Made with the coverage checks. -/
def checkWindow (s : State) (p : Part) : Option Failure :=
  match rowOf p.addr with
  | some (.window, _) =>
    match txWindowAt s.refl (s.seq.region.setWidth 32) p.addr with
    | some w =>
      if p.addr + p.len ≤ w.base.toNat + w.len.toNat then none
      else some (failAt 9 0x01 (w.base.toNat + w.len.toNat) p.lane)
    | none => some (failAt 9 0x01 p.addr p.lane)
  | _ => none

/-- The virtual page address of a host address (R339 bits [56:0]). -/
def hostVa (a : Nat) : W64 := BitVec.ofNat 64 (a % 2 ^ 57)

/-- A translation in a list of TLB entries (R339). -/
def tlbFind (es : List TlbEntry) (pasid : BitVec 20) (va : W64) : Option TlbEntry :=
  es.find? (fun e => e.pasid == pasid && e.base.toNat ≤ va.toNat && va.toNat < e.base.toNat + e.size)

/-- The translation of a host address by the bay's TLB or its die's second level (R339). -/
def hostTranslation (s : State) (a : Nat) : Option TlbEntry :=
  match tlbFind s.host.tlb s.seq.pasid (hostVa a) with
  | some e => some e
  | none => tlbFind (if s.east then s.host.tlbEast else s.host.tlbWest) s.seq.pasid (hostVa a)

/-- The request in hand for a host address. -/
def atsRequestOf (s : State) (a : Nat) : Option AtsRequest :=
  s.host.requests.find? (fun r => r.pasid == s.seq.pasid && r.va.toNat / 4096 == (hostVa a).toNat / 4096)

/-- Whether a host page is translated with write permission, refused, or still to be translated (R339). -/
inductive HostCheck where
  | translated | refused | pending
  deriving DecidableEq, Repr

/-- The state of translation of one host page. -/
def checkHostPage (s : State) (a : Nat) : HostCheck :=
  match hostTranslation s a with
  | some e => if e.write then .translated else
      (match atsRequestOf s a with
        | some r => if r.phase == .refused then .refused else .pending
        | none => .pending)
  | none =>
    match atsRequestOf s a with
    | some r => if r.phase == .refused then .refused else .pending
    | none => .pending

/-- Step 5 for host space: the first page refused (R339). -/
def checkHost (s : State) (p : Part) : Option Failure :=
  match rowOf p.addr with
  | some (.host, _) =>
    (hostParts p.addr p.len).findSome? (fun q =>
      if checkHostPage s q.1 == .refused then some (failAt 6 0x03 q.1 p.lane) else none)
  | _ => none

/-- Step 6: ownership of scratchpad granules (R139); synchronisation accesses check none. -/
def checkOwner (m : Mem) (agent : BitVec 9) (kind : AccessKind) (p : Part) : Option Failure :=
  if kind == .load || kind == .store then
    match raceOf m agent (kind == .store) p.addr p.len with
    | some r => some { (failAt 7 r.detail r.addr p.lane) with race := some r.info }
    | none => none
  else none

/-- Whether an access reads what it reaches. -/
def AccessKind.reads : AccessKind → Bool
  | .load | .atomicRet | .atomicNon => true
  | .store | .fullEmpty | .side => false

/-- Uncorrectable errors in data read from a slice, after every other check (R136, R334). -/
def checkDamage (m : Mem) (kind : AccessKind) (p : Part) : Option Failure :=
  match kind.reads, rowOf p.addr with
  | true, some (.scratchpad, _) => (m.badByte p.addr p.len).map (fun a => failAt 5 0x09 a p.lane)
  | _, _ => none

/-- A core access whose checks are to be made: what it does, its lanes, and the alignment failure its own rule found
(step 4.2 of R136). -/
structure CoreAccess where
  kind : AccessKind
  narrow : Bool
  fn : BitVec 4
  parts : List Part
  align : Option Failure
  deriving DecidableEq, Repr

/-- The checks of R136 from step 4 on, in order; within a check the lowest failing lane.
(Log entry 27, DEDUCED) -/
def checkAccess (s : State) (a : CoreAccess) : Option Failure :=
  let w := coreWho s
  (a.parts.findSome? checkMap).or
    (a.align.or
      ((a.parts.findSome? (checkSpace s a.kind a.narrow a.fn)).or
        ((a.parts.findSome? (checkRights s.mem w a.kind)).or
          ((a.parts.findSome? (checkExtent s.mem w a.kind)).or
            ((a.parts.findSome? (checkWindow s)).or
              ((a.parts.findSome? (checkHost s)).or
                ((a.parts.findSome? (checkOwner s.mem s.agent a.kind)).or
                  (a.parts.findSome? (checkDamage s.mem a.kind)))))))))

/-- The first address at which a user-mode access reaches privileged control space (class 1 detail 0x02, R135, R290). -/
def checkPrivilege (s : State) (parts : List Part) : Option Nat :=
  if s.seq.supervisor then none
  else (parts.find? (fun p =>
    match rowOf p.addr with
    | some (.control, _) => true
    | _ => false)).map (·.addr)

/-- A failed check takes the word out: its trap is recorded, and RACEINFO is written for a race (R139). -/
def fail (f : Failure) (s : State) : State :=
  let s := match f.race with
    | some x => onSeq (fun q => { q with raceinfo := x }) s
    | none => s
  raise f.trap s

/-! ### Budgets -/

/-- The counter slots of a die. -/
def slotsOf (f : Firmware) (east : Bool) : Vector CounterSlot 64 := if east then f.east else f.west

/-- The index of a region's counter slot on a die (R295). -/
def slotIndex (f : Firmware) (east : Bool) (region : W32) : Option Nat :=
  if region == 0 then none else (List.range 64).find? (fun i => ((slotsOf f east).toList[i]?.map (·.handle)) == some region)

/-- A counter slot changed. -/
def onSlot (east : Bool) (i : Nat) (g : CounterSlot → CounterSlot) (s : State) : State :=
  onFw (fun f =>
    if east then { f with east := vecModify f.east i g } else { f with west := vecModify f.west i g }) s

/-- Whether an activity of a region is admitted on a die (R296); a region without a slot is not metered. In the cycle of a
boundary a request sees the new period, whose USED is 0.
(Log entry 48, DEDUCED) -/
def admitted (s : State) (east : Bool) (region : W32) (act : Nat) : Bool :=
  match slotIndex s.fw east region with
  | some i =>
    match (slotsOf s.fw east).toList[i]? with
    | some c =>
      let limit := c.limits.toList.getD act 0
      limit == 0 || (if east then s.fw.periodEast else s.fw.periodWest) == 0 || c.used.toList.getD act 0 < limit.toNat
    | none => true
  | none => true

/-- The cycles left of a die's budget period. -/
def periodLeft (f : Firmware) (east : Bool) : Nat := if east then f.periodEast else f.periodWest

/-- The end of a budget period on a die, with the cycles left of the next: USED of every slot returns to zero and PERIODS
advances (R295, R296). -/
def endPeriod (east : Bool) (left : Nat) (s : State) : State :=
  let f := fun (v : Vector CounterSlot 64) => v.map (fun c =>
    if c.handle == 0 then c else
      { c with used := Vector.replicate 6 0, charged := Vector.replicate 6 0, periods := c.periods + 1 })
  onFw (fun w => if east then { w with east := f w.east, periodEast := left } else { w with west := f w.west, periodWest := left }) s

/-- A period boundary that is due is made, and the next period has its 4,000 cycles (R295).
(Log entry 10, DESIGN CHOICE) -/
def takeBoundary (east : Bool) (s : State) : State := if periodLeft s.fw east == 0 then endPeriod east 4000 s else s

/-- The charge of an admitted activity (R296); one that costs nothing leaves the counters alone. -/
def charge (east : Bool) (region : W32) (act cost : Nat) (s : State) : State :=
  if cost == 0 then s
  else
    match slotIndex s.fw east region with
    | some i => onSlot east i (fun c => { c with charged := vecModify c.charged act (· + cost) }) (takeBoundary east s)
    | none => s

/-- What has been charged in a cycle counts from the next one on (R296). -/
def settleCharges (f : Firmware) : Firmware :=
  let g := fun (v : Vector CounterSlot 64) => v.map (fun c =>
    if c.handle == 0 then c else { c with used := Vector.ofFn (fun (i : Fin 6) => c.used[i] + c.charged[i]),
                                          charged := Vector.replicate 6 0 })
  { f with west := g f.west, east := g f.east }

/-- The start of a budget wait is counted (R296). -/
def countStall (east : Bool) (region : W32) (s : State) : State :=
  match slotIndex s.fw east region with
  | some i => onSlot east i (fun c => { c with stalls := c.stalls + 1 }) s
  | none => s

/-- The 64-byte HBM accesses of the parts of an access (R295).
(Log entry 48, DEDUCED) -/
def hbmAccesses (parts : List Part) : Nat :=
  parts.foldl (fun n p =>
    match rowOf p.addr with
    | some (.extent, _) => n + (granulesOf p.addr p.len).length
    | _ => n) 0

/-- The running region's handle, 32 bits. -/
def State.regionHandle (s : State) : W32 := s.seq.region.setWidth 32

/-! ### Atomics -/

/-- The operation of an atomic FN on a memory word of w bits (R147): new word and flags. `cmp` is the comparand of `cas`. -/
def atomicOp (fn : BitVec 4) (w : Nat) (old op cmp : BitVec w) : Res (BitVec w) :=
  match fn.toNat with
  | 0 => { val := old + op, flags := 0 }
  | 1 => { val := old &&& op, flags := 0 }
  | 2 => { val := old ||| op, flags := 0 }
  | 3 => { val := old ^^^ op, flags := 0 }
  | 4 => { val := if old.toInt ≤ op.toInt then old else op, flags := 0 }
  | 5 => { val := if old.toInt ≤ op.toInt then op else old, flags := 0 }
  | 6 => { val := if old.toNat ≤ op.toNat then old else op, flags := 0 }
  | 7 => { val := if old.toNat ≤ op.toNat then op else old, flags := 0 }
  | 8 => { val := op, flags := 0 }
  | 9 => { val := if old == cmp then op else old, flags := 0 }
  | 10 =>
    let r := addF32 (old.setWidth 32) (op.setWidth 32)
    { val := r.val.setWidth w, flags := r.flags }
  | 11 => { val := (minF32 (old.setWidth 32) (op.setWidth 32)).setWidth w, flags := 0 }
  | 12 => { val := (maxF32 (old.setWidth 32) (op.setWidth 32)).setWidth w, flags := 0 }
  | _ => { val := old, flags := 0 }

/-- The chunk that `faddg` hands out (R150): next, N and the operand. -/
def faddgChunk (next n : Nat) (op : W64) : Nat :=
  let mc := op.toNat % 65536
  let dv := max 1 (op.toNat / 65536 % 65536)
  if next ≥ n then 0
  else
    let rem := n - next
    min rem (min (max mc ((rem + dv - 1) / dv)) 0xFFFFFF)

/-! ### Privileged control space -/

/-- Entry s of the dispatch slot table (R304). -/
def slotEntry (d : Dispatch) (i : Nat) : W64 :=
  match d.slotTable.find? (fun e => e.1.toNat == i) with
  | some e => e.2
  | none => 0

/-- The bits of a slot-table entry that are not reserved (R304). -/
def slotEntryMask : W64 := 0x000000FFFC001FFF

/-- A slot-table entry written (R304). -/
def setSlotEntry (d : Dispatch) (i : BitVec 8) (x : W64) : Dispatch :=
  let v := x &&& slotEntryMask
  { d with slotTable := d.slotTable.filter (fun e => e.1.toNat < i.toNat) ++ (if v == 0 then [] else [(i, v)]) ++
      d.slotTable.filter (fun e => i.toNat < e.1.toNat) }

/-- A word of the error map (R341). -/
def errmapWord (f : Firmware) (bay index : Nat) : W64 :=
  if bay < 160 && index < 134 then
    match f.errmap.find? (fun e => e.1 == bay && e.2.1 == index) with
    | some e => e.2.2
    | none => 0
  else 0

/-- A word of the error map set; zero words are not listed. -/
def setErrmap (f : Firmware) (bay index : Nat) (x : W64) : Firmware :=
  let rest := f.errmap.filter (fun e => !(e.1 == bay && e.2.1 == index))
  { f with errmap := if x == 0 then rest else
      rest.filter (fun e => e.1 < bay || (e.1 == bay && e.2.1 < index)) ++ [(bay, index, x)] ++
      rest.filter (fun e => bay < e.1 || (e.1 == bay && index < e.2.1)) }

/-- The 8-byte registers of privileged control space that the manual describes. -/
inductive ControlReg where
  | slotTable (i : BitVec 8)
  | bitmap (i : BitVec 6)
  | errmap (bay index : Nat)
  | undescribed
  deriving DecidableEq, Repr

/-- The register at an 8-byte-aligned address of privileged control space (R304, R305, R341). -/
def controlReg (a : Nat) : ControlReg :=
  let o := a - 0x20000000000
  if 0x8000 ≤ o && o < 0x8800 then .slotTable (BitVec.ofNat 8 ((o - 0x8000) / 8))
  else if 0x9000 ≤ o && o < 0x9200 then .bitmap (BitVec.ofNat 6 ((o - 0x9000) / 8))
  else if 0x10000 ≤ o && o < 0x10000 + 2048 * 160 then .errmap ((o - 0x10000) / 2048) ((o - 0x10000) % 2048 / 8)
  else .undescribed

/-- A read of privileged control space; an undescribed register gives a free value.
(Log entry 8, DESIGN CHOICE) -/
def controlRead (a : Nat) (s : State) : W64 × State :=
  match controlReg (a / 8 * 8) with
  | .slotTable i => (slotEntry s.disp i.toNat, s)
  | .bitmap i => (s.disp.bitmap.extractLsb' (64 * i.toNat) 64, s)
  | .errmap b i => (errmapWord s.fw b i, s)
  | .undescribed => takeFree s

/-- A write-1-to-clear of a word of the activity bitmap (R305). -/
def clearBitmap (i : BitVec 6) (mask : W64) (d : Dispatch) : Dispatch :=
  { d with bitmap := d.bitmap &&& ~~~(mask.setWidth 4096 <<< (64 * i.toNat)) }

/-- A write of n bytes (4 or 8) to privileged control space. At an address that no rule describes it is accepted (R135), and
what is read there stays free.
(Log entry 8, DESIGN CHOICE) -/
def controlWrite (a n : Nat) (x : W64) (s : State) : State :=
  let low := a % 8
  match controlReg (a / 8 * 8) with
  | .slotTable i =>
    onDisp (fun d => setSlotEntry d i (setBits (slotEntry d i.toNat) (8 * low) (8 * n) (x.toNat % 2 ^ (8 * n)))) s
  | .bitmap i => onDisp (clearBitmap i (BitVec.ofNat 64 (x.toNat % 2 ^ (8 * n)) <<< (8 * low))) s
  | .errmap _ _ => s
  | .undescribed => s

/-! ### Host stores -/

/-- A translation request for each page of a host range that has none in hand (R339). -/
def askHost (a n : Nat) (s : State) : State :=
  (hostParts a n).foldl (fun s q =>
    if checkHostPage s q.1 == .pending && (atsRequestOf s q.1).isNone then
      onHost (fun h => { h with requests := h.requests ++ [{ pasid := s.seq.pasid, va := hostVa q.1, phase := .ats, since := s.clock.time }] }) s
    else s) s

/-- Whether every page of a host range is translated. -/
def hostReady (s : State) (a n : Nat) : Bool :=
  (hostParts a n).all (fun q => checkHostPage s q.1 == .translated)

/-- The refused requests of a host range are answered by the trap and dropped. -/
def dropRefused (a n : Nat) (s : State) : State :=
  onHost (fun h => { h with requests := h.requests.filter (fun r =>
    !(r.phase == .refused && r.pasid == s.seq.pasid &&
      (hostParts a n).any (fun q => r.va.toNat / 4096 == (hostVa q.1).toNat / 4096))) }) s

/-- The parts of a host range that leave as posted writes: its aligned 8-byte words in address order (R207). -/
def hostWords (a n : Nat) : List (Nat × Nat) := cutsFrom 8 (n / 8 + 2) a n

/-- A translated host store is posted (R207).
(Log entry 67, DESIGN CHOICE) -/
def postHost (agent : BitVec 9) (a : Nat) (bs : List Byte) (s : State) : State :=
  onHost (fun h =>
    { h with posted := h.posted ++ (hostWords a bs.length).map (fun q =>
        { va := hostVa q.1, pasid := s.seq.pasid,
          phys := match hostTranslation s q.1 with
            | some e => e.phys + (hostVa q.1 - e.base)
            | none => 0
          data := bytesAt bs (q.1 - a) q.2, agent := agent }) }) s

end Sys2Proof.Machine
end

