-- ==== Sys2Proof/Machine/TileArith.lean ====
section
/-! DEFINITION. Checked tiles as values: their layout in memory, their sums, the verification of stored sums, products and
predictions, and the drain (R40 to R46, R50 to R53, R56 to R67). -/

namespace Sys2Proof.Machine

/-- A scale byte as a shift count (R40). -/
def shiftOf (b : Byte) : Int := b.toInt

/-- The code of an all-zero block (R40). -/
def zeroBlock : Byte := 0x80

/-- The integer formats i32, i8 and ui8, and raw as i32. -/
def isIntFmt (fmt : BitVec 4) : Bool := fmt == 0 || fmt == 3 || fmt == 4 || fmt == 5

/-- The FMT field of a tag (R11). -/
def tagFmt (t : Byte) : BitVec 4 := t.extractLsb' 0 4
/-- The SC bit of a tag (R11). -/
def tagSc (t : Byte) : Bool := t.getLsbD 4
/-- The CV bit of a tag (R11). -/
def tagCv (t : Byte) : Bool := t.getLsbD 5
/-- A tag from its fields (R11). -/
def mkTag (fmt : BitVec 4) (sc cv : Bool) : Byte := 0#2 ++ BitVec.ofBool cv ++ BitVec.ofBool sc ++ fmt

/-- Row m of tile or plane data. -/
def rowBits (d : BitVec 131072) (m : Nat) : BitVec 2048 := d.extractLsb' (2048 * m) 2048

/-- The slots of a row (R45). -/
def rowSlots (r : BitVec 2048) : List W32 := (List.range 64).map (lane r)

/-- Data from its 64 rows. -/
def dataOfRows (rows : List (BitVec 2048)) : BitVec 131072 :=
  BitVec.ofNat 131072 (rows.foldr (fun r acc => r.toNat + 2 ^ 2048 * acc) 0)

/-- A wide value from its 32-bit words. -/
def ofWords (w : Nat) (ws : List W32) : BitVec w :=
  BitVec.ofNat w (ws.foldr (fun x acc => x.toNat + 2 ^ 32 * acc) 0)

/-- The scale bytes of row m: 16 bytes of room, 2P of them used (R40, R60). -/
def scaleRow (sc : BitVec 8192) (m : Nat) : List Byte :=
  (List.range 16).map (fun b => sc.extractLsb' (8 * (16 * m + b)) 8)

/-- Scales from the scale bytes of 64 rows. -/
def scalesOfRows (rows : List (List Byte)) : BitVec 8192 :=
  BitVec.ofNat 8192 (rows.foldr (fun r acc => natOfBytes (bytesAt (r ++ zeroBytes 16) 0 16) + 2 ^ 128 * acc) 0)

/-- The shift count of slot k of a row: every slot lies in one block (R51); 0 when scales are absent. -/
def slotShift (fmt : BitVec 4) (sc : Bool) (row : List Byte) (k : Nat) : Byte :=
  if sc then row.getD (k * packOf fmt / 32) 0 else 0

/-- The decoded elements of a slot, unscaled (R34 to R38, R44). -/
def slotElems (fmt : BitVec 4) (slot : W32) : List Num :=
  (List.range (packOf fmt)).map (elemValue fmt slot)

/-- V(m, c) over a row: decoded, scaled, zero in a zero block (R57). -/
def rowValues (fmt : BitVec 4) (sc : Bool) (r : BitVec 2048) (scales : List Byte) : List Num :=
  ((rowSlots r).zipIdx.map (fun x =>
    let sh := slotShift fmt sc scales x.2
    if sh == zeroBlock then List.replicate (packOf fmt) (.fin false 0 0)
    else (slotElems fmt x.1).map (Num.scale (shiftOf sh)))).flatten

/-- V of a whole tile, row by row. -/
def tileValues (fmt : BitVec 4) (sc : Bool) (d : BitVec 131072) (scales : BitVec 8192) : List (List Num) :=
  (List.range 64).map (fun m => rowValues fmt sc (rowBits d m) (scaleRow scales m))

/-- The columns of a matrix of rows, n of them. -/
def columnsOf {α : Type} (n : Nat) (rows : List (List α)) : List (List α) :=
  rows.foldr (fun r acc => List.zipWith List.cons r acc) (List.replicate n [])

/-- The integer that an integer element's value is. -/
def numInt : Num → Int
  | .fin neg mag exp => (if neg then -1 else 1) * ((mag * pow2 exp : Nat) : Int)
  | _ => 0

/-- One rounded addition of a value to a binary32 sum (R57). It raises no flag of FSTAT.
(Log entry 126, DEDUCED) -/
def addTo (s : W32) (x : Num) : W32 := (roundRes (Num.add (decodeF32 s) x)).val

/-- A floating sum in order from -0 (R57). -/
def sumF (xs : List Num) : W32 := xs.foldl addTo 0x80000000

/-- An integer sum, wrapping (R57). -/
def sumI (xs : List Num) : W32 := BitVec.ofInt 32 (xs.foldl (fun s x => s + numInt x) 0)

/-- ROWSUM or COLSUM of a list of values in order (R57). -/
def sumOf (fmt : BitVec 4) (xs : List Num) : W32 := if isIntFmt fmt then sumI xs else sumF xs

/-- The row sums and the 64P column sums of tile contents (R57). -/
structure Sums where
  rows : List W32
  cols : List W32
  deriving DecidableEq, Repr

/-- Sums recomputed from the data (R57). -/
def formSums (fmt : BitVec 4) (vals : List (List Num)) : Sums :=
  { rows := vals.map (sumOf fmt), cols := (columnsOf (64 * packOf fmt) vals).map (sumOf fmt) }

/-- Sums of magnitudes in the same order, by COLSUM's own arithmetic (R57, R58, R61). -/
def formMags (fmt : BitVec 4) (vals : List (List Num)) : Sums := formSums fmt (vals.map (fun r => r.map Num.abs))

/-- |a - b| ≤ t for finite a and b; any difference is within an infinite t, and none within NaN or a negative t. -/
def numWithin (a b t : Num) : Bool :=
  match a, b, t with
  | .fin .., .fin .., .inf tn => !tn
  | .fin .., .fin .., .fin tn tm te =>
    match (Num.add a b.negate).val with
    | .fin _ dm de =>
      let e := min de te
      !(tn && tm != 0) && dm * pow2 (de - e) ≤ tm * pow2 (te - e)
    | _ => false
  | _, _, _ => false

/-- Whether a binary32 is finite. -/
def finiteF32 (x : W32) : Bool := x.toNat % 0x80000000 < 0x7F800000

/-- k x 2^-22 x m, the tolerance of R58 and R64. -/
def tolerance (k : Nat) (m : W32) : Num :=
  (Num.mul (.fin false k (-22)) (decodeF32 m)).val

/-- A stored sum word matches a recomputed one (R58); `m` is the magnitude sum. -/
def sumMatches (fmt : BitVec 4) (s x m : W32) : Bool :=
  s == x || (!isIntFmt fmt && finiteF32 s && finiteF32 x && numWithin (decodeF32 x) (decodeF32 s) (tolerance 4 m))

/-- The indices at which stored sums do not match (R58). -/
def mismatches (fmt : BitVec 4) (stored fresh mags : List W32) : List Nat :=
  ((stored.zip (fresh.zip mags)).zipIdx.filter (fun y => !sumMatches fmt y.1.1 y.1.2.1 y.1.2.2)).map (·.2)

/-! ### Layout in memory -/

/-- Bytes of one row in memory (R56). -/
def rowBytes (fmt : BitVec 4) : Nat := if fmt == 10 then 192 else 256

/-- The size D of the data part (R56). -/
def dataBytes (fmt : BitVec 4) : Nat := 64 * rowBytes fmt

/-- The size of the trailer of sums (R56). -/
def trailerBytes (fmt : BitVec 4) : Nat := 256 + 256 * packOf fmt

/-- The size of the scale block (R56). -/
def scaleBytes (fmt : BitVec 4) : Nat := if scalable fmt then 128 * packOf fmt else 0

/-- The size of a checked tile (R56). -/
def tileBytes (fmt : BitVec 4) : Nat := dataBytes fmt + trailerBytes fmt + scaleBytes fmt

/-- Four 6-bit elements from three bytes, each in an 8-bit container (R46). -/
def widenHt6 (b0 b1 b2 : Byte) : W32 :=
  let g : BitVec 24 := b2 ++ b1 ++ b0
  0#2 ++ g.extractLsb' 18 6 ++ 0#2 ++ g.extractLsb' 12 6 ++ 0#2 ++ g.extractLsb' 6 6 ++ 0#2 ++ g.extractLsb' 0 6

/-- Three bytes from four 8-bit containers (R46). -/
def packHt6 (x : W32) : List Byte :=
  let g : BitVec 24 := x.extractLsb' 24 6 ++ x.extractLsb' 16 6 ++ x.extractLsb' 8 6 ++ x.extractLsb' 0 6
  [g.extractLsb' 0 8, g.extractLsb' 8 8, g.extractLsb' 16 8]

/-- Lanes of 32 bits from memory: 256 bytes as they lie, or 192 bytes of packed ht6. -/
def lanesOfBytes (ht6 : Bool) (bs : List Byte) : BitVec 2048 :=
  if ht6 then vecOf (fun i => widenHt6 (bs.getD (3 * i) 0) (bs.getD (3 * i + 1) 0) (bs.getD (3 * i + 2) 0))
  else BitVec.ofNat 2048 (natOfBytes bs)

/-- Memory bytes of 64 lanes: 256 as held, or 192 of packed ht6 (R46, R142). -/
def bytesOfLanes (ht6 : Bool) (x : BitVec 2048) : List Byte :=
  if ht6 then ((rowSlots x).map packHt6).flatten else bytesOfNat 256 x.toNat

/-- The bits of each 32-element block of a row that are kept: those of blocks whose shift is not -128 (R41, R42). -/
def clearZeroBlocks (fmt : BitVec 4) (scales : List Byte) (r : BitVec 2048) : BitVec 2048 :=
  vecOf (fun k => if scales.getD (k * packOf fmt / 32) 0 == zeroBlock then 0 else lane r k)

/-- A checked tile as read from memory: data, stored sums, scales as shifts, and the offset of the lowest scale byte
0xFF of an MX format (R41). -/
structure MemTile where
  data : BitVec 131072
  rows : List W32
  cols : List W32
  scales : BitVec 8192
  badScale : Option Nat
  deriving DecidableEq, Repr

/-- 32-bit words of a byte string. -/
def wordsOf (n : Nat) (bs : List Byte) : List W32 :=
  (List.range n).map (fun i => BitVec.ofNat 32 (fieldAt bs (4 * i) 4))

/-- The scale bytes of row m in memory, 2P of them. -/
def scaleMem (fmt : BitVec 4) (bs : List Byte) (m : Nat) : List Byte := bytesAt bs (2 * packOf fmt * m) (2 * packOf fmt)

/-- E8M0 codes apply to e4m3, e5m2 and e2m1; ht formats hold shift bytes (R41, R42). -/
def isMx (fmt : BitVec 4) : Bool := fmt == 6 || fmt == 7 || fmt == 8

/-- Scale bytes of a row as they are held in a register (R41, R42). -/
def scaleToReg (fmt : BitVec 4) (bs : List Byte) : List Byte := if isMx fmt then bs.map (· - 127) else bs

/-- Scale bytes of a row as they are held in memory (R41, R42). -/
def scaleToMem (fmt : BitVec 4) (bs : List Byte) : List Byte :=
  if isMx fmt then bs.map (fun s => if s == zeroBlock then 0 else s + 127) else bs

/-- A checked tile from its rows, trailer and scale block (R56, R41, R42). -/
def parseTile (fmt : BitVec 4) (rows : List (List Byte)) (trailer scales : List Byte) : MemTile :=
  let sc := (List.range 64).map (fun m => scaleMem fmt scales m)
  let regs := sc.map (scaleToReg fmt)
  let raw := rows.map (lanesOfBytes (fmt == 10))
  let data := if scalable fmt then (raw.zip regs).map (fun x => clearZeroBlocks fmt x.2 x.1) else raw
  { data := dataOfRows data, rows := wordsOf 64 trailer, cols := wordsOf (64 * packOf fmt) (trailer.drop 256),
    scales := scalesOfRows regs
    badScale := if isMx fmt then scales.findIdx? (· == 0xFF) else none }

/-- The rows of a tile's data part in memory (R56, R41, R42). -/
def memRows (fmt : BitVec 4) (sc : Bool) (d : BitVec 131072) (scales : BitVec 8192) : List (List Byte) :=
  (List.range 64).map (fun m =>
    let r := rowBits d m
    bytesOfLanes (fmt == 10) (if sc then clearZeroBlocks fmt (scaleRow scales m) r else r))

/-- The trailer in memory (R56). -/
def memTrailer (s : Sums) : List Byte := ((s.rows ++ s.cols).map (fun x => bytesOfNat 4 x.toNat)).flatten

/-- The scale block in memory (R56); a tile without scales writes shift 0. -/
def memScales (fmt : BitVec 4) (sc : Bool) (scales : BitVec 8192) : List Byte :=
  if scalable fmt then
    ((List.range 64).map (fun m =>
      scaleToMem fmt ((if sc then scaleRow scales m else zeroBytes 16).take (2 * packOf fmt)))).flatten
  else []

/-- The sums held in a tile register, the column sums being the first 64P words (R60). -/
def heldSums (t : Tile) : Sums :=
  { rows := (List.range 64).map (lane t.rowSum), cols := (List.range (64 * packOf (tagFmt t.tag))).map (lane t.colSum) }

/-- V of a tile register (R57). -/
def Tile.values (t : Tile) : List (List Num) := tileValues (tagFmt t.tag) (tagSc t.tag) t.data t.scales

/-- EINFO of class 4 (R68). -/
def sumInfo (rows cols : List Nat) (tile : Nat) : W64 :=
  BitVec.ofNat 64 (cols.length * 2 ^ 48 + rows.length * 2 ^ 32 + cols.headD 0 * 2 ^ 16 + rows.headD 0 * 2 ^ 8 + tile)

/-- What verifying stored sums against data found (R58): the indices that do not match, and the fresh sums. -/
structure Verdict where
  rows : List Nat
  cols : List Nat
  fresh : Sums
  deriving DecidableEq, Repr

/-- Stored sums verified against data (R58). -/
def verifySums (fmt : BitVec 4) (vals : List (List Num)) (stored : Sums) : Verdict :=
  let fresh := formSums fmt vals
  let mags := formMags fmt vals
  { rows := mismatches fmt stored.rows fresh.rows mags.rows, cols := mismatches fmt stored.cols fresh.cols mags.cols,
    fresh := fresh }

/-- NACC of a tile (R12). -/
def Tile.nacc (t : Tile) : Nat := (t.status.extractLsb' 0 16).toNat

/-- A tile's status with NACC replaced (R12). -/
def setNacc (status : BitVec 256) (n : Nat) : BitVec 256 := setBits status 0 16 (min n 0xFFFF)

/-- The column-sum row with its first words replaced and the rest zero (R60). -/
def colRow (cols : List W32) : BitVec 16384 := ofWords 16384 cols

/-! ### Products -/

/-- A matrix operand of the array: format, rows of slots with each slot's shift. -/
structure Operand where
  fmt : BitVec 4
  rows : List (List (W32 × Byte))
  vals : List (List Num)

/-- The operand that tile or plane contents are. -/
def operandOf (tag : Byte) (d : BitVec 131072) (scales : BitVec 8192) : Operand :=
  let fmt := tagFmt tag
  { fmt := fmt
    rows := (List.range 64).map (fun m =>
      (rowSlots (rowBits d m)).zipIdx.map (fun x => (x.1, slotShift fmt (tagSc tag) (scaleRow scales m) x.2)))
    vals := tileValues fmt (tagSc tag) d scales }

/-- A row of an operand with every slot decoded. -/
def decodedRow (fmt : BitVec 4) (r : List (W32 × Byte)) : List (List Num × Byte) := r.map (fun x => (slotElems fmt x.1, x.2))

/-- The exact sum of values taken together (R51): NaN with NV when infinities of both signs stand among them, whatever else
does; otherwise their sum. A sum of zeros that are all -0 is -0.
(Log entry 84, DESIGN CHOICE) -/
def sumExact (xs : List Num) : Res Num :=
  if xs.contains (.inf false) && xs.contains (.inf true) then { val := .nan, flags := flagNV }
  else match xs with
    | [] => { val := .fin false 0 0, flags := 0 }
    | x :: rest => { val := rest.foldl (fun s y => (Num.add s y).val) x, flags := 0 }

/-- The exact sum of the products of two slots, with the flags of the products and of the sum (R51). -/
def dotExact (a w : List Num) : Res Num :=
  let ps := List.zipWith Num.mul a w
  let s := sumExact (ps.map (·.val))
  { val := s.val, flags := ps.foldl (fun f p => f ||| p.flags) s.flags }

/-- q[k] of R51: one cell's rounded sum. -/
def cellF (a w : List Num × Byte) : Res W32 :=
  if a.2 == zeroBlock || w.2 == zeroBlock then { val := 0, flags := 0 }
  else
    let x := dotExact a.1 w.1
    roundRes { val := Num.scale (shiftOf a.2 + shiftOf w.2) x.val, flags := x.flags }

/-- A rounded addition that gathers flags. -/
def addRes (s x : Res W32) : Res W32 :=
  let r := addF32 s.val x.val
  { val := r.val, flags := s.flags ||| x.flags ||| r.flags }

/-- s of R51 for one output element, before accumulation. -/
def elementF (a w : List (List Num × Byte)) : Res W32 :=
  match List.zipWith cellF a w with
  | [] => { val := 0, flags := 0 }
  | q :: qs => qs.foldl addRes q

/-- C[m][n] of R51 with the flags of its additions. -/
def outF (acc : Option W32) (a w : List (List Num × Byte)) : Res W32 :=
  let s := elementF a w
  match acc with
  | some c => addRes { val := c, flags := 0 } s
  | none => s

/-- One integer addition of the array, and whether saturation clamped it (R52, R63). -/
def addI (sat : Bool) (s : Int × Bool) (q : Int) : Int × Bool :=
  let x := s.1 + q
  if sat then (satI32 x, s.2 || satI32 x != x) else (wrapI32 x, s.2)

/-- C[m][n] of R52, and whether an addition of it was clamped. -/
def outI (sat : Bool) (acc : Option W32) (a w : List (List Num × Byte)) : W32 × Bool :=
  let q := List.zipWith (fun x y => (List.zipWith (fun p r => numInt p * numInt r) x.1 y.1).foldl (· + ·) 0) a w
  let s := match q with
    | [] => ((0 : Int), false)
    | q0 :: qs => qs.foldl (addI sat) (q0, false)
  let r := match acc with
    | some c => let y := addI sat (c.toInt, s.2) s.1; y
    | none => s
  (BitVec.ofInt 32 r.1, r.2)

/-- A product of the array: the elements row by row, flags, and the saturated rows and columns as bit masks. -/
structure Product where
  rows : List (List W32)
  flags : Flags
  satRows : W64
  satCols : W64

/-- The bits of a list of Booleans as a 64-bit mask, element 0 in bit 0. -/
def maskOfList (bs : List Bool) : W64 := BitVec.ofNat 64 (bs.foldr (fun b acc => b.toNat + 2 * acc) 0)

/-- C of an `mma` (R51, R52); `acc` holds the accumulator's rows when it accumulates. -/
def arrayProduct (sat : Bool) (acc : Option (List (List W32))) (a w : Operand) : Product :=
  let ar := a.rows.map (decodedRow a.fmt)
  let wr := w.rows.map (decodedRow w.fmt)
  if isIntFmt a.fmt then
    let out := ar.zipIdx.map (fun r => wr.zipIdx.map (fun c =>
      outI sat (acc.map (fun x => (x.getD r.2 []).getD c.2 0)) r.1 c.1))
    { rows := out.map (fun r => r.map (·.1)), flags := 0
      satRows := maskOfList (out.map (fun r => r.any (·.2)))
      satCols := maskOfList ((columnsOf 64 out).map (fun r => r.any (·.2))) }
  else
    let out := ar.zipIdx.map (fun r => wr.zipIdx.map (fun c =>
      outF (acc.map (fun x => (x.getD r.2 []).getD c.2 0)) r.1 c.1))
    { rows := out.map (fun r => r.map (·.val))
      flags := out.foldl (fun f r => r.foldl (fun f x => f ||| x.flags) f) 0
      satRows := 0, satCols := 0 }

/-- The prediction parts of R62: per row of A and per row of W, sums and magnitudes. -/
structure Parts where
  r : List W32
  mr : List W32
  c : List W32
  mc : List W32
  deriving DecidableEq, Repr

/-- A sum of products in order from -0, one rounding a step (R62). -/
def dotF (xs ys : List Num) : W32 :=
  (List.zipWith (fun x y => (Num.mul x y).val) xs ys).foldl addTo 0x80000000

/-- A wrapping integer sum of products (R62). -/
def dotI (xs ys : List Num) : W32 :=
  BitVec.ofInt 32 ((List.zipWith (fun x y => numInt x * numInt y) xs ys).foldl (· + ·) 0)

/-- The prediction of a product (R62): V of A and W, the column sums CSA, CSW and ACSW as words. -/
def predict (int : Bool) (va vw : List (List Num)) (csa csw acsw : List W32) (width : Nat) : Parts :=
  if int then
    let ci := fun (xs : List W32) => xs.map (fun x => ofInt x.toInt)
    { r := va.map (fun row => dotI row (ci csw)), mr := List.replicate 64 0
      c := vw.map (fun row => dotI (ci csa) row), mc := List.replicate 64 0 }
  else
    let cf := fun (xs : List W32) => xs.map decodeF32
    let aca := (columnsOf width (va.map (fun r => r.map Num.abs))).map sumF
    { r := va.map (fun row => dotF row (cf csw)), mr := va.map (fun row => dotF (row.map Num.abs) (cf acsw))
      c := vw.map (fun row => dotF (cf csa) row), mc := vw.map (fun row => dotF (cf aca) (row.map Num.abs)) }

/-- One prediction word added to the held one (R63). -/
def combineWord (int : Bool) (held part : W32) : W32 := if int then held + part else (addF32 held part).val

/-- Words [lo, lo + n) of the column-sum row. -/
def colWords (t : Tile) (lo n : Nat) : List W32 := (List.range n).map (fun i => lane t.colSum (lo + i))

/-- The two words of a 64-bit mask. -/
def maskWords (m : W64) : List W32 := [m.extractLsb' 0 32, m.extractLsb' 32 32]

/-- A 64-bit mask from two words of the column-sum row (R60). -/
def colMask (t : Tile) (lo : Nat) : W64 := lane t.colSum (lo + 1) ++ lane t.colSum lo

/-- The column-sum row of an accumulator (R60): predictions, magnitudes and masks, and zeros in words 200 to 511.
(Log entry 127, DESIGN CHOICE) -/
def accRow (c mc mr : List W32) (satr satc nfr nfc : W64) : BitVec 16384 :=
  ofWords 16384 (c ++ mc ++ mr ++ maskWords satr ++ maskWords satc ++ maskWords nfr ++ maskWords nfc)

/-- The accumulator after an `mma` (R63): the held tile when it accumulates, the product and the parts. In integer mode, where
magnitudes are not formed (R62), their words are 0 after a fresh `mma` and stay as they are when it accumulates.
(Log entry 113, DESIGN CHOICE) -/
def accumulate (held : Option Tile) (status : BitVec 256) (int : Bool) (p : Product) (q : Parts) : Tile :=
  let comb := fun (old part : List W32) => List.zipWith (combineWord int) old part
  let fmt : BitVec 4 := if int then 3 else 1
  let d := dataOfRows (p.rows.map (ofWords 2048))
  match held with
  | none =>
    { data := d, rowSum := ofWords 2048 q.r, colSum := accRow q.c q.mc q.mr p.satRows p.satCols 0 0, scales := 0,
      tag := mkTag fmt false false, status := setNacc status 1 }
  | some t =>
    { data := d, rowSum := ofWords 2048 (comb ((List.range 64).map (lane t.rowSum)) q.r)
      colSum := accRow (comb (colWords t 0 64) q.c) (if int then colWords t 64 64 else comb (colWords t 64 64) q.mc)
        (if int then colWords t 128 64 else comb (colWords t 128 64) q.mr) (colMask t 192 ||| p.satRows)
        (colMask t 194 ||| p.satCols) 0 0
      scales := 0, tag := mkTag fmt false false, status := setNacc status (t.nacc + 1) }

/-! ### The drain -/

/-- How a row or column stands in a drain (R64). -/
inductive LineClass where
  | exempt | flagged | clean
  deriving DecidableEq, Repr

/-- The class of one row or column (R64). -/
def classify (int : Bool) (nacc : Nat) (sat : Bool) (act pred mag : W32) : LineClass :=
  if int then (if sat then .exempt else if act == pred then .clean else .flagged)
  else if !(finiteF32 pred && finiteF32 mag) then .exempt
  else if !finiteF32 act then .flagged
  else if numWithin (decodeF32 act) (decodeF32 pred) (tolerance (nacc + 4) mag) then .clean
  else .flagged

/-- The rows of words of an accumulator's data. -/
def accRows (t : Tile) : List (List W32) := (List.range 64).map (fun m => rowSlots (rowBits t.data m))

/-- The indices of one class. -/
def indicesOf (c : LineClass) (cs : List LineClass) : List Nat := (cs.zipIdx.filter (·.1 == c)).map (·.2)

/-- The actual sums of an accumulator (R64). -/
def actualSums (int : Bool) (rows : List (List W32)) : Sums :=
  let f : BitVec 4 := if int then 3 else 1
  let v := rows.map (fun r => r.map (fun x => elemValue f x 0))
  formSums f v

/-- A drain's classification of an accumulator (R64). -/
structure DrainView where
  int : Bool
  act : Sums
  rows : List LineClass
  cols : List LineClass

/-- The classification of a tile with NACC ≥ 1 (R64). -/
def drainView (t : Tile) : DrainView :=
  let int := tagFmt t.tag == 3
  let act := actualSums int (accRows t)
  let line := fun (sat : W64) (a p m : List W32) =>
    (a.zip (p.zip m)).zipIdx.map (fun x => classify int t.nacc (sat.getLsbD x.2) x.1.1 x.1.2.1 x.1.2.2)
  { int := int, act := act
    rows := line (colMask t 192) act.rows ((List.range 64).map (lane t.rowSum)) (colWords t 128 64)
    cols := line (colMask t 194) act.cols (colWords t 0 64) (colWords t 64 64) }

/-- The values of a row or column but for one place. -/
def without (xs : List W32) (i : Nat) : List W32 := xs.eraseIdx i

/-- RNE_F32(a - b). -/
def subWord (a b : W32) : W32 := (subF32 a b).val

/-- The corrected element of R66, or none when no candidate fits. -/
def correctElement (t : Tile) (m0 n0 : Nat) : Option W32 :=
  let int := tagFmt t.tag == 3
  let rows := accRows t
  let row := rows.getD m0 []
  let col := (columnsOf 64 rows).getD n0 []
  let old := row.getD n0 0
  let rp := lane t.rowSum m0
  let cp := lane t.colSum n0
  if int then
    let s := fun (xs : List W32) => xs.foldl (· + ·) 0
    let cr := rp - s (without row n0)
    let cc := cp - s (without col m0)
    if cr == cc then some cr else none
  else
    let cr := subWord rp (sumF ((without row n0).map decodeF32))
    let cc := subWord cp (sumF ((without col m0).map decodeF32))
    let tr := tolerance (t.nacc + 4) (lane t.colSum (128 + m0))
    let tc := tolerance (t.nacc + 4) (lane t.colSum (64 + n0))
    let cands := (List.range 32).map (fun b => old ^^^ (1 <<< b))
    let ok := cands.filter (fun x => finiteF32 x && numWithin (decodeF32 x) (decodeF32 cr) tr &&
      numWithin (decodeF32 x) (decodeF32 cc) tc)
    let dist := fun (x : W32) => (Num.add (decodeF32 x) (decodeF32 cr).negate).val.abs
    ok.foldl (fun best x =>
      match best with
      | none => some x
      | some y => if numWithin (dist y) (.fin false 0 0) (dist x) then some y else some x) none

/-- A data word of a tile replaced. -/
def setSlot (d : BitVec 131072) (m n : Nat) (x : W32) : BitVec 131072 := setBits d (32 * (64 * m + n)) 32 x.toNat

/-- A tile after a drain that does not trap before its correction (R67). -/
def drained (t : Tile) (act : Sums) (rows cols : List LineClass) : Tile :=
  let nfr := maskOfList (rows.map (· == .exempt))
  let nfc := maskOfList (cols.map (· == .exempt))
  let z := List.replicate 64 (0 : W32)
  { t with rowSum := ofWords 2048 act.rows, colSum := accRow act.cols z z (colMask t 192) (colMask t 194) nfr nfc,
           tag := mkTag (tagFmt t.tag) (tagSc t.tag) (nfr == 0 && nfc == 0), status := setNacc t.status 0 }

/-- The residual of a line as binary32 (R67): a difference of binary32 words, or of i32 words converted by RNE.
(Log entry 32, DEDUCED) -/
def residualOf (int : Bool) (act pred : W32) : W32 :=
  if int then (rneF32 (ofInt (act.toInt - pred.toInt))).val else subWord act pred

/-- What a drain does (R64 to R67): a trap before any effect, or a new tile with the correction or repair it made. -/
inductive DrainResult where
  | trap (detail : BitVec 6) (rows cols : List Nat)
  | done (tile : Tile) (fix : Option (BitVec 3 × Nat × Nat × W32)) (rows cols : List Nat)
  deriving Repr

/-- The drain of a tile with NACC ≥ 1 (R64 to R67); a fix is its KIND, row, column and residual. -/
def drainTile (ce : Bool) (t : Tile) : DrainResult :=
  let v := drainView t
  let fr := indicesOf .flagged v.rows
  let fc := indicesOf .flagged v.cols
  let rowRes := fun (m : Nat) => residualOf v.int (v.act.rows.getD m 0) (lane t.rowSum m)
  let colRes := fun (n : Nat) => residualOf v.int (v.act.cols.getD n 0) (lane t.colSum n)
  match fr, fc with
  | [], [] => .done (drained t v.act v.rows v.cols) none [] []
  | [m], [n] =>
    if !ce then .trap 0x02 fr fc
    else
      match correctElement t m n with
      | none => .trap 0x01 fr fc
      | some x =>
        let t' := { t with data := setSlot t.data m n x }
        .done (drained t' (actualSums v.int (accRows t')) v.rows v.cols) (some (1, m, n, rowRes m)) fr fc
  | [m], [] => if !ce then .trap 0x03 fr fc else .done (drained t v.act v.rows v.cols) (some (2, m, 0, rowRes m)) fr fc
  | [], [n] => if !ce then .trap 0x03 fr fc else .done (drained t v.act v.rows v.cols) (some (3, 0, n, colRes n)) fr fc
  | _, _ => .trap 0x01 fr fc

/-- CKLOG for a correction or repair (R16, R67). -/
def cklogWord (kind : BitVec 3) (row col tile : Nat) (residual : W32) : W64 :=
  BitVec.ofNat 64 (2 ^ 27 + kind.toNat * 2 ^ 24 + (residual.extractLsb' 23 8).toNat * 2 ^ 16 + col * 2 ^ 10 + row * 2 ^ 4 +
    tile)

end Sys2Proof.Machine
end

