-- ==== Sys2Proof/Machine/Sync.lean ====
section
/-! DEFINITION. Sync words (R191, R192), circular-buffer descriptors (R179 to R183), and the region tree that says whose
extent table, priority and limits apply (R291, R292). -/

namespace Sys2Proof.Machine

/-- The reading and writing of scratchpad by hardware for itself: no extent table applies. -/
def spadWho (agent : BitVec 9) : Who := { agent := agent, xtbl := 0, sup := true }

/-- A scratchpad word of n bytes. -/
def spadWord (m : Mem) (a n : Nat) : Nat := memWord m.spad a n

/-- A scratchpad word of n bytes written, ownership apart. -/
def setSpadWord (m : Mem) (a n v : Nat) : Mem := m.putSpad a (bytesOfNat n v)

/-! ### Sync words -/

/-- A sync word's placement: 16-byte aligned in scratchpad (R191). -/
def syncPlaced (a : Nat) : Bool := a % 16 == 0 && a + 16 ≤ 0x14000000

/-- TARGET of a sync word. -/
def syncTarget (m : Mem) (a : Nat) : Nat := spadWord m a 4
/-- COUNT of a sync word. -/
def syncCount (m : Mem) (a : Nat) : Nat := spadWord m (a + 4) 4
/-- GEN of a sync word. -/
def syncGen (m : Mem) (a : Nat) : W32 := BitVec.ofNat 32 (spadWord m (a + 8) 4)
/-- STATUS of a sync word. -/
def syncStatus (m : Mem) (a : Nat) : W32 := BitVec.ofNat 32 (spadWord m (a + 12) 4)

/-- A cause code from its class and detail. -/
def causeOf (cls : BitVec 4) (detail : BitVec 6) : BitVec 10 := cls ++ detail

/-- STATUS bits set; CAUSE is set when it holds none (R191). -/
def syncMark (m : Mem) (a : Nat) (bits : W32) (c : BitVec 10) : Mem :=
  let old := syncStatus m a
  let new := old ||| bits
  let new := if old.extractLsb' 16 10 == 0 then new ||| (c.setWidth 32 <<< 16) else new
  setSpadWord m (a + 12) 4 new.toNat

/-- An arrival of b bytes (R192): the memory, and whether the generation advanced. -/
def syncArrive (m : Mem) (a b : Nat) : Mem × Bool :=
  let t := syncTarget m a
  if t == 0 then (syncMark m a 1 (causeOf 8 0x0C), false)
  else
    let c := syncCount m a + b
    let m1 := setSpadWord m (a + 4) 4 (c % t)
    (setSpadWord m1 (a + 8) 4 ((syncGen m a).toNat + c / t), c / t != 0)

/-- The arrival that advances GEN by exactly one (R262, R309). -/
def syncAdvance (m : Mem) (a : Nat) : Mem × Bool := syncArrive m a (syncTarget m a - syncCount m a)

/-- GEN has reached or passed a generation: (GEN - g) mod 2^32 < 2^31 (R188, R308). -/
def syncReached (m : Mem) (a : Nat) (g : W32) : Bool := (syncGen m a - g).toNat < 2 ^ 31

/-! ### Circular buffers -/

/-- A circular-buffer descriptor (R179). -/
structure CbDesc where
  base : Nat
  esize : Nat
  quant : Nat
  lsize : Nat
  state : Nat
  pcnt : Nat
  ccnt : Nat
  pagent : Nat
  cagent : Nat
  tail : Nat
  deriving DecidableEq, Repr

/-- The descriptor at an address (R179). -/
def cbRead (m : Mem) (a : Nat) : CbDesc :=
  { base := spadWord m a 8, esize := spadWord m (a + 8) 4, quant := spadWord m (a + 12) 2, lsize := spadWord m (a + 14) 1,
    state := spadWord m (a + 15) 1, pcnt := spadWord m (a + 16) 8, ccnt := spadWord m (a + 24) 8,
    pagent := spadWord m (a + 32) 2, cagent := spadWord m (a + 34) 2, tail := spadWord m (a + 36) 4 + spadWord m (a + 48) 16 }

/-- NSLOT (R179). -/
def CbDesc.nslot (d : CbDesc) : Nat := if d.esize == 0 then 0 else 2 ^ d.lsize / d.esize

/-- The address of element e (R179). -/
def CbDesc.elem (d : CbDesc) (e : Nat) : Nat := d.base + (e % d.nslot) * d.esize

/-- Published and not yet taken, modulo 2^64. -/
def CbDesc.avail (d : CbDesc) : Nat := (d.pcnt + 2 ^ 64 - d.ccnt) % 2 ^ 64

/-- Room for the producer. -/
def CbDesc.room (d : CbDesc) : Nat := d.nslot - d.avail

/-- A descriptor that keeps R179, at an address. -/
def CbDesc.ok (d : CbDesc) (a : Nat) : Bool :=
  a % 64 == 0 && a + 64 ≤ 0x14000000 && 6 ≤ d.lsize && d.lsize ≤ 21 && d.base % 64 == 0 && d.esize % 64 == 0 &&
  d.esize != 0 && d.esize ≤ 2 ^ d.lsize && 1 ≤ d.quant && d.quant ≤ d.nslot && d.state ≤ 4 && d.tail == 0 &&
  d.pagent < 512 && d.cagent < 512 && d.base + d.nslot * d.esize ≤ 0x14000000 &&
  d.base / 0x200000 == (d.base + d.nslot * d.esize - 1) / 0x200000

/-- STATE of a descriptor set (R183). -/
def cbSetState (m : Mem) (a st : Nat) : Mem := setSpadWord m (a + 15) 1 st

/-- STATE changes only from OPEN (R183). -/
def cbEnd (m : Mem) (a st : Nat) : Mem := if (cbRead m a).state == 0 then cbSetState m a st else m

/-- The granules of n elements from element e on (R181).
(Log entry 36, DEDUCED) -/
def cbGranules (d : CbDesc) (e n : Nat) : List Nat :=
  ((List.range n).map (fun i => granulesOf (d.elem (e + i)) d.esize)).flatten

/-- PCNT advanced (R181). -/
def cbAddP (m : Mem) (a n : Nat) : Mem := setSpadWord m (a + 16) 8 (spadWord m (a + 16) 8 + n)
/-- CCNT advanced (R181). -/
def cbAddC (m : Mem) (a n : Nat) : Mem := setSpadWord m (a + 24) 8 (spadWord m (a + 24) 8 + n)

/-! ### The region tree -/

/-- The node at an address. -/
def nodeAt (f : Firmware) (a : W64) : Option Rcb := f.nodes.find? (·.addr == a)

/-- The region node of a handle. -/
def nodeOf (f : Firmware) (h : W32) : Option Rcb := f.nodes.find? (fun n => n.handle == h)

/-- A field's effective value: the node's own, or its parent's when its INH bit is set (R292). -/
def effective {α : Type} (f : Firmware) (bit : Nat) (get : Rcb → α) : Nat → Rcb → α
  | 0, n => get n
  | fuel + 1, n =>
    if n.inh.getLsbD bit then
      match nodeAt f n.parent with
      | some p => effective f bit get fuel p
      | none => get n
    else get n

/-- Effective PRIO (R292). -/
def effPrio (f : Firmware) (n : Rcb) : Nat := effective f 0 (·.prio) 3 n
/-- Effective FD. -/
def effFd (f : Firmware) (n : Rcb) : Bool := effective f 1 (fun x => x.flags.getLsbD 0) 3 n
/-- Effective DBG. -/
def effDbg (f : Firmware) (n : Rcb) : Bool := effective f 2 (fun x => x.flags.getLsbD 1) 3 n
/-- Effective BAYS. -/
def effBays (f : Firmware) (n : Rcb) : BitVec 160 := effective f 3 (·.bays) 3 n
/-- Effective FAREA. -/
def effFarea (f : Firmware) (n : Rcb) : W64 := effective f 4 (·.farea) 3 n
/-- Effective FHREC. -/
def effFhrec (f : Firmware) (n : Rcb) : W64 := effective f 5 (·.fhrec) 3 n
/-- Effective limit of an activity.
(Log entry 49, DEDUCED) -/
def effLimit (f : Firmware) (n : Rcb) (i : Nat) : W32 := effective f (6 + i) (fun x => x.limits.getD i 0) 3 n
/-- Effective SLOTN. -/
def effSlotn (f : Firmware) (n : Rcb) : Nat := effective f 12 (·.slotn) 3 n
/-- Effective REC. -/
def effRec (f : Firmware) (n : Rcb) : Bool := effective f 13 (fun x => x.flags.getLsbD 2) 3 n
/-- Effective RPL. -/
def effRpl (f : Firmware) (n : Rcb) : Bool := effective f 13 (fun x => x.flags.getLsbD 3) 3 n

/-- The context of a region: its parent (R291). -/
def contextOf (f : Firmware) (n : Rcb) : Option Rcb := nodeAt f n.parent

/-- The extent table that a region's accesses go by: the placed unit's, or its context's (R289, R291). -/
def regionXtbl (s : State) (h : W32) : W64 :=
  if s.seq.unit.isSome && s.regionHandle == h then s.seq.xtbl
  else
    match nodeOf s.fw h with
    | some n => match contextOf s.fw n with
      | some c => c.xtab
      | none => 0
    | none => 0

/-- An agent acting for a region. -/
def regionWho (s : State) (agent : BitVec 9) (h : W32) : Who := { agent := agent, xtbl := regionXtbl s h, sup := false }

/-- A management or firmware error log entry. -/
def logEntry (e : LogEntry) (s : State) : State := onFw (fun f => { f with log := f.log ++ [e] }) s

/-- An uncorrectable error that an engine has met in an operation of a region, whose machine check is due (R324, R334). -/
def alarm (h : W32) (s : State) : State :=
  onFw (fun f => { f with alarms := if f.alarms.contains h then f.alarms else f.alarms ++ [h] }) s

/-- Whether a bay lies on the east die (R1). -/
def eastBay (b : Nat) : Bool := b % 20 ≥ 10

/-- Whether a scratchpad address lies in a slice of the east die. -/
def eastAddr (a : Nat) : Bool := eastBay (a / 0x200000)

/-! ### Recorded inputs -/

/-- The payload of a logged write, types 1 and 2 (R343): a word of what VALUE has no room for, then the data padded to whole
8-byte words. The word holds the offset in [31:0], the length in [47:32] and FN + 1 of an atomic in [52:48].
(Log entry 64, DESIGN CHOICE) -/
def writePayload (off : Nat) (data : List Byte) (atom : Option (BitVec 4)) : List Byte :=
  let fn := match atom with
    | some f => f.toNat + 1
    | none => 0
  bytesOfNat 8 (off % 2 ^ 32 + 2 ^ 32 * (data.length % 65536) + 2 ^ 48 * fn) ++ data ++ zeroBytes ((8 - data.length % 8) % 8)

/-- An entry as it stands in the log: its 32-byte header and its payload (R343). -/
def InputEntry.bytes (e : InputEntry) : List Byte :=
  [e.type, 0] ++ bytesOfNat 2 e.payload.length ++ bytesOfNat 4 e.unit.toNat ++ bytesOfNat 8 e.key.toNat ++
    bytesOfNat 8 e.seq.toNat ++ bytesOfNat 8 e.value.toNat ++ e.payload

/-- The entries of a log's bytes from their start, by fuel, to the first header of no type of R343. -/
def parseInputs : Nat → List Byte → List InputEntry
  | 0, _ => []
  | fuel + 1, b =>
    let type := fieldAt b 0 1
    let n := fieldAt b 2 2
    if b.length < 32 + n || type == 0 || 5 < type then []
    else
      { type := BitVec.ofNat 8 type, unit := BitVec.ofNat 32 (fieldAt b 4 4), key := BitVec.ofNat 64 (fieldAt b 8 8)
        seq := BitVec.ofNat 64 (fieldAt b 0x10 8), value := BitVec.ofNat 64 (fieldAt b 0x18 8), payload := bytesAt b 32 n }
        :: parseInputs fuel (b.drop (32 + n))

/-- The entries that stand in a log's extent (R343, R344). -/
def InputLog.entries (l : InputLog) (m : Mem) : List InputEntry := parseInputs (l.used / 32) (memRead m.hbm l.base l.used)

/-- An input of a region appended to its log extent (R343); when the extent is full, recording stops.
(Log entry 64, DESIGN CHOICE) -/
def appendInput (h : W32) (e : InputEntry) (s : State) : State :=
  let put := fun (f : InputLog → InputLog) (s : State) =>
    onFw (fun w => { w with inputs := w.inputs.map (fun l => if l.region == h then f l else l) }) s
  match s.fw.inputs.find? (·.region == h) with
  | none => s
  | some l =>
    if l.full then s
    else if l.used + e.bytes.length ≤ l.size then
      put (fun l => { l with used := l.used + e.bytes.length })
        (onMem (fun m => { m with hbm := memWrite m.hbm (l.base + l.used) e.bytes }) s)
    else put (fun l => { l with full := true }) s

/-- An input that arrives for a region, recorded while its effective REC is 1 (R343). -/
def recordInput (h : W32) (e : InputEntry) (s : State) : State :=
  match nodeOf s.fw h with
  | some n => if effRec s.fw n && !effRpl s.fw n then appendInput h e s else s
  | none => s

/-- The KEY of the running unit's inputs: queue and record number of its launch (R343). -/
def inputKey (s : State) : W64 :=
  match s.seq.unit with
  | some u =>
    match s.disp.units.find? (·.key == u) with
    | some r =>
      match s.disp.launches.find? (·.key == r.launch) with
      | some l => (l.number <<< 12) ||| ((l.queue.getD 0).setWidth 64)
      | none => 0
    | none => 0
  | none => 0

/-- An input of the running unit: logged when it was placed in record mode, and numbered in either case (R343, R292).
(Log entry 53, DEDUCED) -/
def unitInput (type : Byte) (value : W64) (payload : List Byte) (s : State) : State :=
  let e : InputEntry := { type := type, unit := s.seq.unitIdx.setWidth 32, key := inputKey s, seq := s.seq.inputSeq,
                          value := value, payload := payload }
  onSeq (fun q => { q with inputSeq := q.inputSeq + 1 }) 
    (if s.seq.recording && !s.seq.replay then appendInput s.regionHandle e s else s)

/-- Whether the running unit was placed in replay mode (R344, R292).
(Log entry 53, DEDUCED) -/
def replaying (s : State) : Bool := s.seq.replay

/-- The input in the region's log that the running unit's next input of a type takes in replay mode (R344). -/
def replayEntry (type : Byte) (s : State) : Option InputEntry :=
  match s.fw.inputs.find? (·.region == s.regionHandle) with
  | some l => (l.entries s.mem).find? (fun e => e.type == type && e.unit == s.seq.unitIdx.setWidth 32 && e.key == inputKey s &&
      e.seq == s.seq.inputSeq)
  | none => none

end Sys2Proof.Machine
end

