-- ==== Sys2Proof/Machine/Reflect.lean ====
section
/-! DEFINITION. The reflection unit (R239 to R253): posting writes into transmit windows, paths and their sequence numbers,
applying arriving writes to receive windows, reduction, acknowledgement, retransmission, plane loss and path death. -/

namespace Sys2Proof.Machine

/-! ### The sender -/

/-- The sender's end of a path, set up at number 0 when first used (R246). -/
def sendPath (r : Reflect) (dst : BitVec 12) (vc : BitVec 4) : SendPath :=
  (r.send.find? (fun p => p.dst == dst && p.vc == vc)).getD
    { dst := dst, vc := vc, next := 0, unacked := [], dead := false, lost := 0, lostBy := [] }

/-- The sender's end of a path changed. -/
def onSendPath (dst : BitVec 12) (vc : BitVec 4) (f : SendPath → SendPath) (r : Reflect) : Reflect :=
  if r.send.any (fun p => p.dst == dst && p.vc == vc) then
    { r with send := r.send.map (fun p => if p.dst == dst && p.vc == vc then f p else p) }
  else { r with send := r.send ++ [f (sendPath r dst vc)] }

/-- One posted write on one path, with the number it has on this chip; it is dropped on a dead path (R247). -/
def postTo (w : TxWindow) (chip rxid : BitVec 12) (off : Nat) (data : List Byte) (atom : Option (BitVec 4))
    (agent : BitVec 9) (serial : Nat) (now : W64) (r : Reflect) : Reflect :=
  onSendPath chip w.vc (fun p =>
    if p.dead then { p with lostBy := p.lostBy ++ [(agent, w.id)] }
    else { p with next := p.next + 1,
                  unacked := p.unacked ++ [{ serial := serial, window := w.id, rxid := rxid, seq := p.next, off := off,
                                             data := data, atom := atom, agent := agent, sends := 1, sentAt := now }] }) r

/-- A write joins a list unless the list holds it already, posted to another target. -/
def addSerial (acc : List Posted) (x : Posted) : List Posted :=
  if acc.any (·.serial == x.serial) then acc else x :: acc

/-- Bytes of a window that some target has not acknowledged, each write counted once (R240); a loop-back delivery as a path of
the chip to itself is waited for as a target is.
(Log entry 119, DESIGN CHOICE) -/
def outstanding (r : Reflect) (w : TxWindow) : Nat :=
  ((((r.send.map (fun p => p.unacked.filter (·.window == w.id))).flatten.foldl addSerial []).map (·.data.length))).foldl
    (· + ·) 0

/-- ALLOW of a window in bytes (R239). -/
def TxWindow.allowance (w : TxWindow) : Nat := if w.allow == 0 then 65536 else w.allow.toNat

/-- Whether n bytes fit in a window's allowance (R240).
(Log entry 62, DEDUCED) -/
def hasRoom (r : Reflect) (w : TxWindow) (n : Nat) : Bool := n + outstanding r w ≤ w.allowance

/-- A write posted into a transmit window (R240, R244): loop-back first or as a path of the chip to itself, then each
target in order. `applyHere` applies a LOCAL-FIRST delivery, which stands outside every path and is given number 0; where it
cannot be applied yet, nothing is posted.
(Log entries 98 DEDUCED, 118 DESIGN CHOICE) -/
def postWith (applyHere : Arrival → State → Option State) (w : TxWindow) (off : Nat) (data : List Byte)
    (atom : Option (BitVec 4)) (agent : BitVec 9) (s : State) : Option State :=
  let self := s.seq.chipId
  let k := s.refl.nextSerial
  let s := onRefl (fun r => { r with nextSerial := k + 1 }) s
  let here := if w.loop == 1 then
      applyHere { src := self, vc := w.vc, seq := 0, rxid := w.id, off := off, data := data, atom := atom } s
    else some s
  here.map (fun s =>
    let post := fun (chip rxid : BitVec 12) => onRefl (postTo w chip rxid off data atom agent k s.clock.time)
    let s := if w.loop == 2 then post self w.id s else s
    w.targets.foldl (fun s t => post t.1 t.2 s) s)

/-! ### Receive windows -/

/-- The agent that applies writes backed at an address: the reflection unit of the die that holds it (R209). -/
def reflectAgent (back : Nat) : BitVec 9 := if eastAddr back then 321 else 320

/-- The receive window of an id. -/
def rxById (r : Reflect) (id : BitVec 12) : Option RxWindow := r.rx.find? (·.id == id)

/-- A receive window replaced. -/
def setRx (x : RxWindow) (s : State) : State :=
  onRefl (fun r => { r with rx := r.rx.map (fun y => if y.id == x.id then x else y) }) s

/-- The sender slot that admits a chip (R243). -/
def senderSlot (x : RxWindow) (chip : BitVec 12) : Option Nat :=
  (List.range x.senders.length).find? (fun i => x.senders.getD i 0 == chip && x.mask.getLsbD i)

/-- A counter of a status area advanced, saturating (R242). -/
def statBump (a : Nat) (m : Mem) : Mem := setSpadWord m a 4 (min (spadWord m a 4 + 1) 0xFFFFFFFF)

/-- A cause of class 9 in a window: CAUSE of the status area if none is recorded, and the bits and CAUSE of SYNC (R243,
R253). -/
def markWindow (x : RxWindow) (bits : W32) (c : BitVec 10) (m : Mem) : Mem :=
  let st := x.stat.toNat
  let m := if spadWord m (st + 12) 4 == 0 then setSpadWord m (st + 12) 4 c.toNat else m
  syncMark m x.sync.toNat bits c

/-- A refusal (R243): counted, its cause recorded if none is, SYNC marked. -/
def refuseWrite (x : RxWindow) (c : BitVec 10) (s : State) : State :=
  onMem (fun m => markWindow x 1 c (statBump (x.stat.toNat + 4) m)) s

/-- FLAGS of a status area, and OVF of the sync word on an overflow (R242, R250). -/
def orStatFlags (x : RxWindow) (f : Flags) (ovf : Bool) (m : Mem) : Mem :=
  let st := x.stat.toNat
  let m := setSpadWord m st 4 ((BitVec.ofNat 32 (spadWord m st 4)) ||| f.setWidth 32).toNat
  if ovf then
    let a := x.sync.toNat
    setSpadWord m (a + 12) 4 (syncStatus m a ||| 0x20).toNat
  else m

/-- Element bytes of a reduce type (R241).
(Log entry 61, DEDUCED) -/
def redBytes (t : BitVec 2) : Nat := if t == 2 then 2 else 4

/-- One reduction of a float sum that overflows from finite operands (R250). -/
def addOverflows (a b : Num) (infinite : Bool) : Bool :=
  match a, b with
  | .fin .., .fin .. => infinite
  | _, _ => false

/-- b combined with x by the reduce op of a type (R250): value, flags, overflow.
(Log entry 61, DEDUCED) -/
def combineElem (op : BitVec 4) (ty : BitVec 2) (b x : W32) : W32 × Flags × Bool :=
  if ty == 3 then
    match op.toNat with
    | 1 =>
      let e := b.toInt + x.toInt
      let r := satI32 e
      (BitVec.ofInt 32 r, if r == e then 0 else flagOF, r != e)
    | 2 => (if b.toInt ≤ x.toInt then b else x, 0, false)
    | 3 => (if b.toInt ≤ x.toInt then x else b, 0, false)
    | 4 => (b &&& x, 0, false)
    | 5 => (b ||| x, 0, false)
    | _ => (b ^^^ x, 0, false)
  else if ty == 2 then
    let nb := decodeBf16 (b.setWidth 16)
    let nx := decodeBf16 (x.setWidth 16)
    let e := Num.add nb nx
    let r := toBf16 false e.val
    (r.val, r.flags ||| e.flags, addOverflows nb nx (r.val.toNat % 0x8000 == 0x7F80))
  else
    match op.toNat with
    | 1 =>
      let r := addF32 b x
      (r.val, r.flags, addOverflows (decodeF32 b) (decodeF32 x) (r.val.toNat % 0x80000000 == 0x7F800000))
    | 2 => (minF32 b x, 0, false)
    | _ => (maxF32 b x, 0, false)

/-- Bytes combined element by element (R250). -/
def combineBytes (op : BitVec 4) (ty : BitVec 2) (b x : List Byte) : List Byte × Flags × Bool :=
  let n := redBytes ty
  (List.range (x.length / n)).foldl (fun acc i =>
    let r := combineElem op ty (BitVec.ofNat 32 (fieldAt b (n * i) n)) (BitVec.ofNat 32 (fieldAt x (n * i) n))
    (acc.1 ++ bytesOfNat n r.1.toNat, acc.2.1 ||| r.2.1, acc.2.2 || r.2.2)) ([], 0, false)

/-- Contributions combined into the backing (R250); ownership is neither checked nor changed (R209). -/
def combineAt (x : RxWindow) (off : Nat) (data : List Byte) (s : State) : State :=
  let w := regionWho s (reflectAgent x.back.toNat) x.region
  let a := x.back.toNat + off
  let r := combineBytes x.redOp x.redType (readMem s.mem w a data.length) data
  onMem (fun m => orStatFlags x r.2.1 r.2.2 (writeMem m w a r.1)) s

/-- LAST and NAPP of a sender slot (R242). -/
def noteApplied (x : RxWindow) (slot : Nat) (seq : W32) (s : State) : State :=
  onMem (fun m =>
    let a := x.stat.toNat + 16 + 8 * slot
    setSpadWord (setSpadWord m a 4 seq.toNat) (a + 4) 4 (spadWord m (a + 4) 4 + 1)) s

/-- The lateness of an application in a deadline window (R252). -/
def noteLate (x : RxWindow) (s : State) : State :=
  let g := (syncGen s.mem x.sync.toNat).toNat
  if x.dln && s.clock.time.toNat > x.dbase.toNat + (g + 1) * x.dper.toNat then
    onMem (fun m =>
      let m := statBump (x.stat.toNat + 8) m
      let a := x.sync.toNat
      setSpadWord m (a + 12) 4 (syncStatus m a ||| 4).toNat) s
  else s

/-- The granules that a window's writes have had counted become PUB, for every window on a sync word whose generation has
advanced (R192, R208). -/
def publishCounted (a : Nat) (s : State) : State :=
  let on := fun (x : RxWindow) => x.sync.toNat == a
  onRefl (fun r => { r with rx := r.rx.map (fun x => if on x then { x with unpublished := [] } else x) })
    (onMem (fun m => (s.refl.rx.filter on).foldl (fun m x =>
      x.unpublished.foldl (fun m g => publishRange m (reflectAgent x.back.toNat) (64 * g) 64) m) m) s)

/-- An arrival of n bytes on a sync word, by any agent (R192). -/
def countArrival (a n : Nat) (s : State) : State :=
  let r := syncArrive s.mem a n
  let s := onMem (fun _ => r.1) s
  if r.2 then publishCounted a s else s

/-- The arrival that advances GEN by exactly one (R262, R309). -/
def advanceGen (a : Nat) (s : State) : State := countArrival a (syncTarget s.mem a - syncCount s.mem a) s

/-- An engine of a region reads scratchpad at a word with an uncorrectable error (R334): it takes no value from it, and the
machine check follows at the end of the cycle.
(Log entries 78 DESIGN CHOICE, 95 DESIGN CHOICE) -/
def unlessDamaged (h : W32) (bad : Bool) (f : State → State) (s : State) : State := if bad then alarm h s else f s

/-- Whether any of some scratchpad ranges holds an uncorrectable error (R334). -/
def anyDamaged (m : Mem) (rs : List (Nat × Nat)) : Bool := rs.any (fun r => (m.badByte r.1 r.2).isSome)

/-- The number of admitted senders (R251). -/
def senderCount (x : RxWindow) : Nat :=
  ((List.range x.senders.length).filter (fun i => x.mask.getLsbD i)).length

/-- A sender's progress in an ordered window (R251). -/
def progressOf (x : RxWindow) (slot : Nat) : SenderCount :=
  (x.counts.find? (·.slot == slot)).getD { slot := slot, arrived := 0, combined := 0 }

/-- A sender's progress replaced. -/
def setProgress (x : RxWindow) (c : SenderCount) : RxWindow :=
  { x with counts := x.counts.filter (·.slot != c.slot) ++ [c] }

/-- The slot whose turn it is: the lowest admitted slot that has not given its share of the generation being formed
(R251).
(Log entry 62, DEDUCED) -/
def turnOf (x : RxWindow) (share : Nat) : Option Nat :=
  let slots := (List.range x.senders.length).filter (fun i => x.mask.getLsbD i)
  let gen := slots.foldl (fun g i => min g ((progressOf x i).combined / share)) ((progressOf x (slots.headD 0)).combined / share)
  slots.find? (fun i => (progressOf x i).combined < (gen + 1) * share)

/-- A write cut where its sender's bytes pass from one generation to the next (R251). -/
def sharePieces (share : Nat) (w : Arrival) (slot : Nat) : Nat → Nat → Nat → List Byte → List HeldWrite
  | 0, _, _, _ => []
  | fuel + 1, at_, off, data =>
    let k := share - at_ % share
    if data.length ≤ k then [{ slot := slot, seq := w.seq, off := off, data := data, last := true, whole := w }]
    else { slot := slot, seq := w.seq, off := off, data := data.take k, last := false, whole := w } ::
      sharePieces share w slot fuel (at_ + k) (off + k) (data.drop k)

/-- Held writes combined while the turn is that of a slot that has one (R251); a root forwards each write once its last
part is combined (R249), and goes no further while it cannot. -/
def drainHeld (forward : RxWindow → Arrival → State → Option State) (share : Nat) : Nat → BitVec 12 → State → State
  | 0, _, s => s
  | fuel + 1, id, s =>
    match rxById s.refl id with
    | none => s
    | some x =>
      match turnOf x share with
      | none => s
      | some slot =>
        match x.held.find? (·.slot == slot) with
        | none => s
        | some h =>
          if anyDamaged s.mem [(x.back.toNat + h.off, h.data.length)] then alarm x.region s else
          let p := progressOf x slot
          let x' := setProgress { x with held := x.held.erase h } { p with combined := p.combined + h.data.length }
          let s1 := combineAt x h.off h.data (setRx x' s)
          if h.last then
            match forward x h.whole (countArrival x.sync.toNat h.data.length (noteLate x' (noteApplied x' slot h.seq s1))) with
            | some s2 => drainHeld forward share fuel id s2
            | none => s
          else drainHeld forward share fuel id (countArrival x.sync.toNat h.data.length s1)

/-- Bytes waiting in the hold area (R251). -/
def heldBytes (x : RxWindow) : Nat := (x.held.map (·.data.length)).foldl (· + ·) 0

/-- Bytes that a window's hold area has room for: none where HOLD is 0 (R241).
(Log entry 99, DESIGN CHOICE) -/
def holdRoom (x : RxWindow) : Nat := if x.hold == 0 then 0 else x.hlen.toNat

/-- The parts held stand one after another in the hold area (R251), as far as it has room; the rest of a write that has begun
to combine is kept by the unit.
(Log entries 99 DESIGN CHOICE, 122 DESIGN CHOICE) -/
def keepHeld (id : BitVec 12) (s : State) : State :=
  match rxById s.refl id with
  | none => s
  | some x =>
    if x.held.isEmpty then s else onMem (fun m => m.putSpad x.hold.toNat ((x.held.map (·.data)).flatten.take (holdRoom x))) s

/-- The tile that a run of arrived bytes, its start and length, holds whole: at the run's first 256-byte-aligned offset.
(Log entry 100, DESIGN CHOICE) -/
def tileIn (x : RxWindow) (run : Nat × Nat) : Option Nat :=
  let o := (run.1 + 255) / 256 * 256
  if o + tileBytes x.ckt ≤ run.1 + run.2 && o + tileBytes x.ckt ≤ x.len.toNat then some o else none

/-- A range of bytes added to runs of arrived bytes: it joins the runs it meets or touches. -/
def addRun (a n : Nat) (runs : List (Nat × Nat)) : List (Nat × Nat) :=
  let meets := fun (r : Nat × Nat) => decide (r.1 ≤ a + n) && decide (a ≤ r.1 + r.2)
  let lo := (runs.filter meets).foldl (fun m r => min m r.1) a
  let hi := (runs.filter meets).foldl (fun m r => max m (r.1 + r.2)) (a + n)
  runs.filter (fun r => !meets r) ++ [(lo, hi - lo)]

/-- The bytes from o on, n of them, taken out of a run. -/
def cutRun (o n : Nat) (runs : List (Nat × Nat)) : List (Nat × Nat) :=
  (runs.map (fun r =>
    if r.1 ≤ o && o + n ≤ r.1 + r.2 then [(r.1, o - r.1), (o + n, r.1 + r.2 - (o + n))] else [r])).flatten.filter (·.2 != 0)

/-- Whether the checked tile at an address passes the verification of R58; a scale byte 0xFF of an MX format fails it.
(Log entry 87, DESIGN CHOICE) -/
def tilePasses (m : Mem) (w : Who) (ckt : BitVec 4) (a : Nat) : Bool :=
  let bs := readMem m w a (tileBytes ckt)
  let rows := (List.range 64).map (fun m => bytesAt bs (m * rowBytes ckt) (rowBytes ckt))
  let t := parseTile ckt rows (bs.drop (dataBytes ckt)) (bs.drop (dataBytes ckt + trailerBytes ckt))
  let v := verifySums ckt (tileValues ckt (scalable ckt) t.data t.scales) { rows := t.rows, cols := t.cols }
  v.rows.isEmpty && v.cols.isEmpty && t.badScale.isNone

/-- What becomes of a tile that has wholly arrived at offset o of a CKT window (R243, R72): one that stands off a 256-byte
boundary is not read (R56), one that passes is counted, and one that fails stays EXCL of the reflection unit. A window whose
TARGET is 0 counts nothing, and nothing of it is published (R192, R208).
(Log entries 95 DESIGN CHOICE, 120 DESIGN CHOICE) -/
def countTile (x : RxWindow) (o : Nat) (s : State) : State :=
  let size := tileBytes x.ckt
  let back := x.back.toNat + o
  if back % 256 != 0 then onMem (markWindow x 1 (causeOf 5 0x08)) s
  else unlessDamaged x.region (back < 0x14000000 && anyDamaged s.mem [(back, size)]) (fun s =>
    if tilePasses s.mem (regionWho s (reflectAgent x.back.toNat) x.region) x.ckt back then
      let new := if back < 0x14000000 && syncTarget s.mem x.sync.toNat != 0 then granulesOf back size else []
      countArrival x.sync.toNat size (setRx { x with unpublished := (x.unpublished ++ new).dedup } s)
    else onMem (markWindow x 3 (causeOf 9 0x05)) s) s

/-- The tiles of a CKT window that have wholly arrived and are not yet counted, each in its turn (R243). -/
def countTiles : Nat → BitVec 12 → State → State
  | 0, _, s => s
  | fuel + 1, id, s =>
    match rxById s.refl id with
    | none => s
    | some x =>
      match x.arrived.findSome? (tileIn x) with
      | none => s
      | some o =>
        let y := { x with arrived := cutRun o (tileBytes x.ckt) x.arrived }
        countTiles fuel id (countTile y o (setRx y s))

/-- The value that an atomic leaves in the backing of a window, and its flags (R147, R243). -/
def atomAt (x : RxWindow) (fn : BitVec 4) (w : Arrival) (s : State) : Nat × Flags :=
  let n := w.data.length
  let old := readWord s.mem (regionWho s (reflectAgent x.back.toNat) x.region) (x.back.toNat + w.off) n
  let op := natOfBytes w.data
  if n == 8 then
    let r := atomicOp fn 64 (BitVec.ofNat 64 old) (BitVec.ofNat 64 op) 0
    (r.val.toNat, r.flags)
  else
    let r := atomicOp fn 32 (BitVec.ofNat 32 old) (BitVec.ofNat 32 op) 0
    (r.val.toNat, r.flags)

/-- A plain write or an atomic applied to the backing (R243, R209); none when ownership forbids the write. A window whose
TARGET is 0 counts nothing, and nothing of it is published (R192, R208). The bytes of an atomic are no bytes of a checked tile.
(Log entries 62 DEDUCED, 120 DESIGN CHOICE) -/
def applyPlain (x : RxWindow) (w : Arrival) (s : State) : Option State :=
  let ag := reflectAgent x.back.toNat
  let who := regionWho s ag x.region
  let a := x.back.toNat + w.off
  let n := w.data.length
  match w.atom with
  | some fn =>
    let r := atomAt x fn w s
    some (onMem (fun m => orStatFlags x r.2 false (writeWord m who a (if n == 8 then 8 else 4) r.1)) s)
  | none =>
    match raceOf s.mem ag true a n with
    | some _ => none
    | none =>
      let spad := decide (a < 0x14000000)
      let counts := syncTarget s.mem x.sync.toNat != 0
      let s := onMem (fun m =>
        let m := writeMem m who a w.data
        if spad then ownRange m ag a n else m) s
      some (setRx { x with
        unpublished := if spad && x.ckt == 0 && counts then (x.unpublished ++ granulesOf a n).dedup else x.unpublished,
        arrived := if x.ckt == 0 then [] else addRun w.off n x.arrived } s)

/-- The cause for which a window refuses a write before anything of it is applied (R243, R251). A window reserved to the
collective engine admits no sender.
(Log entry 105, DEDUCED) -/
def refusalOf (x : RxWindow) (w : Arrival) (s : State) : Option (BitVec 10) :=
  let n := w.data.length
  if (senderSlot x w.src).isNone || x.engine then some (causeOf 9 0x03)
  else if w.off + n > x.len.toNat then some (causeOf 9 0x04)
  else if x.redOp != 0 && (w.off % redBytes x.redType != 0 || n % redBytes x.redType != 0 || w.atom.isSome) then
    some (causeOf 9 0x06)
  else if x.redOp != 0 && !x.free && syncTarget s.mem x.sync.toNat % senderCount x != 0 then some (causeOf 9 0x06)
  else none

/-- The scratchpad that the unit reads to apply a write (R243, R250, R251): the window's sync word and status area, the backing
where it combines, and what it holds. -/
def readsOf (x : RxWindow) (w : Arrival) : List (Nat × Nat) :=
  let back := x.back.toNat + w.off
  [(x.sync.toNat, 16), (x.stat.toNat, 144)] ++
    (if w.atom.isSome || (x.redOp != 0 && x.free) then [(back, if back < 0x14000000 then w.data.length else 0)] else []) ++
    (if x.held.isEmpty then [] else [(x.hold.toNat, heldBytes x)])

/-- The depth to which rooted windows forward one write: through each window of the chip once. -/
def forwardDepth (s : State) : Nat := s.refl.rx.length + 1

/-- A recorded reflected write (R343 type 2). -/
def recordArrival (w : Arrival) (s : State) : State :=
  match rxById s.refl w.rxid with
  | none => s
  | some x =>
    match s.fw.inputs.find? (·.region == x.region) with
    | none => s
    | some l =>
      let e : InputEntry :=
        { type := 2, unit := 0, key := 0, seq := l.order
          value := w.seq.setWidth 64 ||| (w.src.setWidth 64 <<< 32) ||| (w.vc.setWidth 64 <<< 44) ||| (w.rxid.setWidth 64 <<< 48)
          payload := writePayload w.off w.data w.atom }
      onFw (fun f => { f with inputs := f.inputs.map (fun l =>
        if l.region == x.region then { l with order := l.order + 1 } else l) }) (recordInput x.region e s)

/-- Whether the window a write names belongs to a region in replay mode, whose live writes are refused (R344).
(Log entry 63, DEDUCED) -/
def replayRefuses (w : Arrival) (s : State) : Bool :=
  match rxById s.refl w.rxid with
  | some x => match nodeOf s.fw x.region with
    | some n => effRpl s.fw n
    | none => false
  | none => false

/-- A live write, arriving or delivered on its own chip, applied and recorded as an input; without effect for a region in replay
mode (R343, R344).
(Log entry 63, DEDUCED) -/
def applyLive (apply : Arrival → State → Option State) (w : Arrival) (s : State) : Option State :=
  if replayRefuses w s then some s else (apply w s).map (recordArrival w)

/-- A write whose number is due, handled as R243 gives; none when an ordered window has no room to hold it, so that it
is discarded unacknowledged (R251), unless its first part has been combined. Forwarding of a rooted window (R249) recurses by
fuel, which only a ring of windows that forward to one another uses up: its write waits.
(Log entries 95 DESIGN CHOICE, 105 DEDUCED, 121 DESIGN CHOICE, 122 DESIGN CHOICE) -/
def applyWrite : Nat → Arrival → State → Option State
  | 0, _, _ => none
  | fuel + 1, w, s =>
    match rxById s.refl w.rxid with
    | none =>
      some (onRefl (fun r => { r with errors := r.errors ++
        [{ src := w.src, vc := w.vc, rxid := w.rxid, seq := w.seq, cause := causeOf 9 0x04 }] }) s)
    | some x =>
      if anyDamaged s.mem (readsOf x w) then some (alarm x.region s)
      else match refusalOf x w s with
      | some c => some (refuseWrite x c s)
      | none =>
        let slot := (senderSlot x w.src).getD 0
        let n := w.data.length
        let target := syncTarget s.mem x.sync.toNat
        let forward := fun (x : RxWindow) (w : Arrival) (s : State) =>
          match x.fwd with
          | some f =>
            match s.refl.tx.find? (fun t => t.id == f && t.region == x.region) with
            | some t => postWith (applyLive (applyWrite fuel)) t w.off w.data w.atom (reflectAgent x.back.toNat) s
            | none => some s
          | none => some s
        if x.redOp != 0 && !x.free && target != 0 then
          let share := target / senderCount x
          let p := progressOf x slot
          let parts := sharePieces share w slot (n / share + 2) p.arrived w.off w.data
          let x1 := setProgress { x with held := x.held ++ parts } { p with arrived := p.arrived + n }
          let s1 := drainHeld forward share (x1.held.length + 1) x.id (setRx x1 s)
          match rxById s1.refl x.id with
          | some x2 =>
            if heldBytes x2 > holdRoom x2 && parts.all x2.held.contains then none else some (keepHeld x.id s1)
          | none => some s1
        else if x.redOp != 0 then
          forward x w (countArrival x.sync.toNat n (noteLate x (noteApplied x slot w.seq (combineAt x w.off w.data s))))
        else
          match applyPlain x w s with
          | none => some (refuseWrite x (causeOf 7 0x05) s)
          | some s =>
            let s := noteLate x (noteApplied x slot w.seq s)
            forward x w (if x.ckt == 0 then countArrival x.sync.toNat n s
              else countTiles (x.len.toNat / tileBytes x.ckt + 1) x.id s)

/-- The flags that an atomic brings from its application on its own chip (R149): none where it is not applied. -/
def atomFlagsHere (w : Arrival) (s : State) : Flags :=
  match rxById s.refl w.rxid, w.atom with
  | some x, some fn =>
    if replayRefuses w s || anyDamaged s.mem (readsOf x w) || (refusalOf x w s).isSome then 0 else (atomAt x fn w s).2
  | _, _ => 0

/-- A write posted into a transmit window by an agent (R240, R244), or none while its LOCAL-FIRST delivery cannot be
applied.
(Log entry 98, DEDUCED) -/
def tryPost (w : TxWindow) (off : Nat) (data : List Byte) (atom : Option (BitVec 4)) (agent : BitVec 9) (s : State) :
    Option State := postWith (applyLive (applyWrite (forwardDepth s))) w off data atom agent s

/-- Data divided at every 256-byte boundary of the window offset, each piece one write (R240). -/
def tryPieces (w : TxWindow) (off : Nat) (data : List Byte) (agent : BitVec 9) (s : State) : Option State :=
  (cutsFrom 256 (data.length / 256 + 2) off data.length).foldl (fun s p =>
    s.bind (tryPost w p.1 (bytesAt data (p.1 - off) p.2) none agent)) (some s)

/-! ### Paths at the receiver -/

/-- The receiver's end of a path, set up at number 0 when first used (R246). -/
def recvPath (r : Reflect) (src : BitVec 12) (vc : BitVec 4) : RecvPath :=
  (r.recv.find? (fun p => p.src == src && p.vc == vc)).getD
    { src := src, vc := vc, next := 0, waiting := [], unreturned := 0, dead := false }

/-- The receiver's end of a path changed. -/
def onRecvPath (src : BitVec 12) (vc : BitVec 4) (f : RecvPath → RecvPath) (r : Reflect) : Reflect :=
  if r.recv.any (fun p => p.src == src && p.vc == vc) then
    { r with recv := r.recv.map (fun p => if p.src == src && p.vc == vc then f p else p) }
  else { r with recv := r.recv ++ [f (recvPath r src vc)] }

/-- H returned to the sender (R246). -/
def returnAck (src : BitVec 12) (vc : BitVec 4) (r : Reflect) : Reflect :=
  { onRecvPath src vc (fun p => { p with unreturned := 0 }) r with
    acks := r.acks ++ [(src, vc, (recvPath r src vc).next - 1)] }

/-- A write applied on its path: H advances, and a copy of it that waits is discarded; H is returned after every 32 (R246). -/
def advancePath (src : BitVec 12) (vc : BitVec 4) (r : Reflect) : Reflect :=
  let r := onRecvPath src vc (fun p =>
    { p with next := p.next + 1, unreturned := p.unreturned + 1,
             waiting := p.waiting.filter (fun w => w.seq != p.next) }) r
  if (recvPath r src vc).unreturned ≥ 32 then returnAck src vc r else r

/-- A write that is next on its path: applied, and H advances; unapplied when an ordered window cannot hold it.
(Log entry 82, DEDUCED) -/
def applyDue (w : Arrival) (s : State) : Option State :=
  (applyLive (applyWrite (forwardDepth s)) w s).map (onRefl (advancePath w.src w.vc))

/-- Waiting writes of a path applied while the next number is among them (R246); one that an ordered window cannot hold is
discarded (R251). -/
def drainWaiting : Nat → BitVec 12 → BitVec 4 → State → State
  | 0, _, _, s => s
  | fuel + 1, src, vc, s =>
    let p := recvPath s.refl src vc
    match p.waiting.find? (·.seq == p.next) with
    | none => s
    | some w =>
      match applyDue w s with
      | none => onRefl (onRecvPath src vc (fun p => { p with waiting := p.waiting.erase w })) s
      | some s' => drainWaiting fuel src vc s'

/-- An arriving write: resequenced, then applied when its number is due (R246). -/
def arriveWrite (w : Arrival) (s : State) : State :=
  let p := recvPath s.refl w.src w.vc
  let d := (w.seq - p.next).toNat
  if p.dead then s
  else if d == 0 then
    match applyDue w s with
    | some s' => drainWaiting (p.waiting.length + 1) w.src w.vc s'
    | none => s
  else if d ≥ 2 ^ 31 then onRefl (returnAck w.src w.vc) s
  else if p.waiting.any (·.seq == w.seq) || p.waiting.length ≥ Config.resequenceRoom then s
  else onRefl (onRecvPath w.src w.vc (fun p => { p with waiting := p.waiting ++ [w] })) s

/-! ### Acknowledgement, retransmission, loss and death -/

/-- An acknowledgement at the sender retires the writes it covers (R246). -/
def ackReceive (dst : BitVec 12) (vc : BitVec 4) (high : W32) (r : Reflect) : Reflect :=
  onSendPath dst vc (fun p => { p with unacked := p.unacked.filter (fun w => (high - w.seq).toNat ≥ 2 ^ 31) }) r

/-- Whether an arriving H means anything at the sender: no path is set up by an acknowledgement. -/
def knownPath (r : Reflect) (dst : BitVec 12) (vc : BitVec 4) : Bool := r.send.any (fun p => p.dst == dst && p.vc == vc)

/-- The writes of a path that have gone unacknowledged for 4 µs since they were sent are sent again, on the planes still up
(R246). -/
def retransmit (dst : BitVec 12) (vc : BitVec 4) (now : W64) (r : Reflect) : Reflect :=
  let p := sendPath r dst vc
  let late := fun (w : Posted) => decide (w.sentAt.toNat + 4000 ≤ now.toNat)
  if p.dead || r.planes == 0 || !p.unacked.any late then r
  else { onSendPath dst vc (fun p => { p with unacked := p.unacked.map (fun w =>
           if late w then { w with sends := w.sends + 1, sentAt := now } else w) }) r with
         retransmissions := r.retransmissions + (p.unacked.filter late).length }

/-- Path death at the sender (R247). -/
def killSend (dst : BitVec 12) (vc : BitVec 4) (r : Reflect) : Reflect :=
  onSendPath dst vc (fun p =>
    if p.dead then p
    else { p with dead := true, unacked := []
                  lost := match p.unacked with
                    | w :: _ => w.seq
                    | [] => p.next
                  lostBy := p.unacked.map (fun w => (w.agent, w.window)) }) r

/-- Path death at the receiver (R247): DEAD and FLT in every window whose admitted senders name the source. -/
def killRecv (src : BitVec 12) (vc : BitVec 4) (s : State) : State :=
  let s := onRefl (onRecvPath src vc (fun p => { p with dead := true, waiting := [] })) s
  onMem (fun m => s.refl.rx.foldl (fun m x =>
    if (senderSlot x src).isSome then markWindow x 9 (causeOf 9 0x07) m else m) m) s

/-- The paths that no plane carries any more (R247): those to the targets of every transmit window and from the senders of
every receive window, but for a chip's path to itself. -/
def endPaths (s : State) : State :=
  let self := s.seq.chipId
  let out := (s.refl.tx.map (fun w => w.targets.map (fun t => (t.1, w.vc)))).flatten ++ s.refl.send.map (fun p => (p.dst, p.vc))
  let chips := (s.refl.rx.map (fun x => (x.senders.zipIdx.filter (fun y => x.mask.getLsbD y.2)).map (·.1))).flatten
  let inn := (chips.map (fun c => (List.range 16).map (fun v => (c, BitVec.ofNat 4 v)))).flatten ++
    s.refl.recv.map (fun p => (p.src, p.vc))
  let s := (out.filter (·.1 != self)).foldl (fun s p => onRefl (killSend p.1 p.2) s) s
  (inn.filter (fun p => p.1 != self && !(recvPath s.refl p.1 p.2).dead)).foldl (fun s p => killRecv p.1 p.2 s) s

/-- A plane lost (R246): it leaves the spray, and unacknowledged writes go again on the others; with no plane left every
path dies (R247). -/
def losePlane (plane : BitVec 3) (s : State) : State :=
  if !s.refl.planes.getLsbD plane.toNat then s
  else
    let s := onRefl (fun r => { r with planes := r.planes &&& ~~~((1 : Byte) <<< plane.toNat) }) s
    if s.refl.planes == 0 then endPaths s
    else
      onRefl (fun r => { r with
        send := r.send.map (fun p => { p with unacked := p.unacked.map (fun w =>
          { w with sends := w.sends + 1, sentAt := s.clock.time }) }),
        retransmissions := r.retransmissions + (r.send.map (·.unacked.length)).foldl (· + ·) 0 }) s

/-- Firmware resets both ends of a path with a chip; numbering restarts at 0 (R247). A path that no plane carries stays
dead. -/
def resetPath (chip : BitVec 12) (vc : BitVec 4) (s : State) : State :=
  if s.refl.planes == 0 && chip != s.seq.chipId then s
  else onRefl (fun r => { r with send := r.send.filter (fun p => !(p.dst == chip && p.vc == vc))
                                 recv := r.recv.filter (fun p => !(p.src == chip && p.vc == vc)) }) s

/-- The flags of an atomic's application on its own chip reach the word that waits for it (R149). -/
def noteAtomFlags (serial : Nat) (f : Flags) (s : State) : State :=
  onSeq (fun q => { q with sb := q.sb.map (fun p => match p.hold with
    | some (.applied k _) => if k == serial then { p with atomFlags := p.atomFlags ||| f } else p
    | _ => p) }) s

/-- The next loop-back write of a chip's path to itself on a channel: it arrives, and its acknowledgement returns (R244). -/
def deliverOn (vc : BitVec 4) (s : State) : State :=
  let self := s.seq.chipId
  match (sendPath s.refl self vc).unacked with
  | [] => s
  | w :: _ =>
    let a : Arrival := { src := self, vc := vc, seq := w.seq, rxid := w.rxid, off := w.off, data := w.data, atom := w.atom }
    let s' := arriveWrite a s
    let q := recvPath s'.refl self vc
    let s' := onRefl (ackReceive self vc (q.next - 1)) s'
    if q.next == (recvPath s.refl self vc).next then s' else noteAtomFlags w.serial (atomFlagsHere a s) s'

/-- The next loop-back write of each of a chip's paths to itself, which have no order among them (R244, R245). -/
def deliverSelf (s : State) : State :=
  ((s.refl.send.filter (fun p => p.dst == s.seq.chipId && !p.unacked.isEmpty)).map (·.vc)).foldl (fun s vc => deliverOn vc s) s

/-- Reflected writes that an `rfence` of the bay covers (R198): its sequencer's and its copy engine's.
(Log entry 77, DEDUCED) -/
def coversFence (s : State) (window : Option (BitVec 12)) (agent : BitVec 9) (id : BitVec 12) : Bool :=
  (agent == s.agent || agent == s.copyAgent) && (match window with
    | some w => id == w
    | none => true)

/-- Every covered write has been applied at every live target (R248). -/
def allApplied (s : State) (window : Option (BitVec 12)) : Bool :=
  s.refl.send.all (fun p => p.dead || p.unacked.all (fun w => !coversFence s window w.agent w.window))

/-- A covered write was lost on a dead path (R247). -/
def anyLost (s : State) (window : Option (BitVec 12)) : Bool :=
  s.refl.send.any (fun p => p.dead && p.lostBy.any (fun x => coversFence s window x.1 x.2))

/-- `wstat` of a window (R198). -/
def windowStatus (r : Reflect) (w : TxWindow) : W64 :=
  let ps := w.targets.map (fun t => sendPath r t.1 w.vc)
  let deadMask := maskOfList (ps.map (·.dead))
  let first := fun (p : SendPath) => if p.dead then p.lost else
    match p.unacked with
    | u :: _ => u.seq
    | [] => p.next
  let pick := match ps.find? (·.dead) with
    | some p => first p
    | none => match ps with
      | p :: _ => first p
      | [] => 0
  let busy := ps.any (fun p => p.unacked.any (·.window == w.id))
  pick.setWidth 64 ||| ((deadMask &&& 0xFFFF) <<< 32) ||| (if deadMask == 0 then 0 else 1 <<< 48) |||
    (if busy then 1 <<< 49 else 0)

/-! ### Window tables -/

/-- A transmit-window entry from its 128 bytes, or none when a field is reserved or out of range, or a
target chip lies outside the reflection domain (R239). -/
def parseTx (domain : List (BitVec 12)) (id : BitVec 12) (region : W32) (b : List Byte) : Option TxWindow :=
  let n := fieldAt b 0x18 1
  let base := fieldAt b 0 8
  let len := fieldAt b 8 8
  let tg := (List.range n).map (fun i => fieldAt b (0x40 + 4 * i) 4)
  let ok := b.length == 128 && base % 4096 == 0 && len % 4096 == 0 && len != 0 && 0x10000000000 ≤ base &&
    base + len ≤ 0x20000000000 && fieldAt b 0x10 4 % 4096 == 0 && fieldAt b 0x10 4 ≤ 0x100000 && fieldAt b 0x14 1 < 16 &&
    fieldAt b 0x15 1 ≤ 2 && fieldAt b 0x16 2 < 8192 && 1 ≤ n && n ≤ 16 && fieldAt b 0x19 1 ≤ 1 &&
    (fieldAt b 0x19 1 == 0 || n == 1) && (bytesAt b 0x1A 38).all (· == 0) && 
    tg.all (fun t => t < 2 ^ 24 && domain.contains (BitVec.ofNat 12 t)) &&
    (b.drop (0x40 + 4 * n)).all (· == 0)
  if ok then
    some { id := id, region := region, base := BitVec.ofNat 64 base, len := BitVec.ofNat 64 len,
           allow := BitVec.ofNat 32 (fieldAt b 0x10 4), vc := BitVec.ofNat 4 (fieldAt b 0x14 1),
           loop := BitVec.ofNat 8 (fieldAt b 0x15 1), ops := BitVec.ofNat 13 (fieldAt b 0x16 2),
           rooted := fieldAt b 0x19 1 == 1,
           targets := tg.map (fun t => (BitVec.ofNat 12 t, BitVec.ofNat 12 (t / 4096))) }
  else none

/-- Whether two ranges meet. -/
def rangesMeet (a n b m : Nat) : Bool := a < b + m && b < a + n

/-- A receive-table entry from its 128 bytes, or none when it breaks R241. `target` is the sync word's TARGET.
(Log entry 61, DEDUCED) -/
def parseRx (id : BitVec 12) (region : W32) (target : Nat → Nat) (b : List Byte) : Option RxWindow :=
  let red := fieldAt b 0x20 1
  let op := red % 16
  let ty := red / 16 % 4
  let free := red / 64 % 2 == 1
  let dln := red / 128 % 2 == 1
  let ckt := fieldAt b 0x21 1
  let mask : BitVec 16 := BitVec.ofNat 16 (fieldAt b 0x22 2)
  let fwd := fieldAt b 0x24 2
  let snd := (List.range 16).map (fun i => fieldAt b (0x28 + 2 * i) 2)
  let named := (snd.zipIdx.filter (fun x => mask.getLsbD x.2)).map (·.1)
  let back := fieldAt b 0 8
  let sync := fieldAt b 0x10 8
  let stat := fieldAt b 0x18 8
  let hold := fieldAt b 0x48 8
  let hlen := fieldAt b 0x50 4
  let ok := b.length == 128 && back % 64 == 0 && fieldAt b 8 4 % 64 == 0 && fieldAt b 8 4 != 0 && fieldAt b 12 4 == 0 &&
    stat % 16 == 0 && stat + 144 ≤ 0x14000000 && syncPlaced sync && op ≤ 6 && (op == 0 || ty != 0) && ckt ≤ 10 &&
    (op < 4 || ty == 3) && !(ty == 2 && (op == 2 || op == 3)) && (op == 0 || ckt == 0) &&
    (op == 0 || free || target sync ≤ hlen) && (!dln || fieldAt b 0x54 4 != 0) && (named.dedup.length == named.length) &&
    fwd / 4096 % 8 == 0 && fieldAt b 0x26 2 == 0 && snd.all (· < 4096) && (b.drop 0x60).all (· == 0) &&
    (hold == 0 || hold + hlen ≤ 0x14000000)
  if ok then
    some { id := id, region := region, back := BitVec.ofNat 64 back, len := BitVec.ofNat 32 (fieldAt b 8 4),
           sync := BitVec.ofNat 64 sync, stat := BitVec.ofNat 64 stat, redOp := BitVec.ofNat 4 op,
           redType := BitVec.ofNat 2 ty, free := free, dln := dln, ckt := BitVec.ofNat 4 ckt, mask := mask,
           fwd := if fwd / 32768 == 1 then some (BitVec.ofNat 12 fwd) else none,
           senders := snd.map (BitVec.ofNat 12), hold := BitVec.ofNat 64 hold,
           hlen := BitVec.ofNat 32 hlen, dper := BitVec.ofNat 32 (fieldAt b 0x54 4),
           dbase := BitVec.ofNat 64 (fieldAt b 0x58 8), engine := false, counts := [], held := [], arrived := [], unpublished := [] }
  else none

/-- BACK of a receive window lies in scratchpad, or in extent space with right W (R241). -/
def backOk (s : State) (x : RxWindow) : Bool :=
  let a := x.back.toNat
  a + x.len.toNat ≤ 0x14000000 ||
    (pageParts a x.len.toNat).all (fun p =>
      (rowOf p.1).map (·.1) == some .extent &&
        match coverOf s.mem (regionWho s (reflectAgent a) x.region) p.1 with
        | some e => rightsOk .store e
        | none => false)

/-- The partition of a region, by its handle. -/
def partOf (f : Firmware) (h : W32) : Option Nat := (nodeOf f h).map (·.part)

/-- Whether an entry that a region holds may be given to another: only within one partition (R294).
(Log entry 90, DEDUCED) -/
def sharesPart (s : State) (old new : W32) : Bool := partOf s.fw old == partOf s.fw new || (partOf s.fw old).isNone

/-- A receive window installed for a region: its table entry, reserved to the collective engine or not. -/
def installRx (engine : Bool) (id : BitVec 12) (region : W32) (b : List Byte) (s : State) : State :=
  match parseRx id region (syncTarget s.mem) b with
  | some w =>
    if backOk s w && (s.refl.rx.filter (·.id == id)).all (fun x => sharesPart s x.region region) then
      onRefl (fun r => { r with rx := r.rx.filter (·.id != id) ++ [{ w with engine := engine }] }) s
    else logEntry .refusedInstall s
  | none => logEntry .refusedInstall s

/-- Firmware installs a window entry or a gang-start group, or refuses it (R239, R241, R256, R267, R294). A gang-start
group's members are chips of the domain, this one among them, and its windows are entries of its region.
(Log entries 83 DESIGN CHOICE, 90 DEDUCED, 105 DEDUCED, 124 DESIGN CHOICE) -/
def installWindow (kind : WindowKind) (id : BitVec 12) (region : W32) (b : List Byte) (s : State) : State :=
  match kind with
  | .tx =>
    match parseTx s.refl.domain id region b with
    | some w =>
      if s.refl.tx.any (fun x => x.region == region && x.id != id &&
          rangesMeet x.base.toNat x.len.toNat w.base.toNat w.len.toNat) ||
          s.refl.tx.any (fun x => x.id == id && !sharesPart s x.region region) then logEntry .refusedInstall s
      else
        let s := onRefl (fun r => { r with tx := r.tx.filter (·.id != id) ++ [w] }) s
        if s.refl.planes == 0 then endPaths s else s
    | none => logEntry .refusedInstall s
  | .rx => installRx false id region b s
  | .collective => installRx true id region b s
  | .start g =>
    if g.members.contains s.seq.chipId && g.members.all s.refl.domain.contains &&
        s.refl.tx.any (fun w => w.id == g.tx && w.region == region) &&
        s.refl.rx.any (fun w => w.id == g.rx && w.region == region) then
      onFw (fun f => { f with startGroups := f.startGroups.filter (·.id != g.id) ++ [g] }) s
    else logEntry .refusedInstall s

end Sys2Proof.Machine
end

