-- ==== Sys2Proof/Machine/Copy.lean ====
section
/-! DEFINITION. The bay's copy engine (R184 to R190): descriptors, the queue and the armed table, the start test of a
lock-step copy, moving 256 bytes a step, completion and faults. -/

namespace Sys2Proof.Machine

/-! ### Descriptors -/

/-- A copy descriptor's 64 bytes (R184). -/
structure CopyDesc where
  src : Nat
  dst : Nat
  len : Nat
  rows : Nat
  spitch : Nat
  dpitch : Nat
  sync : Nat
  trig : Nat
  tgen : Nat
  flags : Nat
  rest : Nat
  deriving DecidableEq, Repr

/-- The fields of a copy descriptor (R184). -/
def parseCopyDesc (b : List Byte) : CopyDesc :=
  { src := fieldAt b 0 8, dst := fieldAt b 8 8, len := fieldAt b 0x10 4, rows := fieldAt b 0x14 4,
    spitch := fieldAt b 0x18 4, dpitch := fieldAt b 0x1C 4, sync := fieldAt b 0x20 8, trig := fieldAt b 0x28 8,
    tgen := fieldAt b 0x30 4, flags := fieldAt b 0x34 4, rest := fieldAt b 0x38 8 }

/-- FMT of a descriptor. -/
def CopyDesc.fmt (d : CopyDesc) : BitVec 4 := BitVec.ofNat 4 d.flags
/-- SCB of a descriptor. -/
def CopyDesc.scb (d : CopyDesc) : Bool := d.flags / 16 % 2 == 1
/-- DCB of a descriptor. -/
def CopyDesc.dcb (d : CopyDesc) : Bool := d.flags / 32 % 2 == 1

/-- Bytes of one row on either side, for the kind that FMT selects (R185). -/
def CopyDesc.rowLen (d : CopyDesc) (tile : Bool) : Nat := if tile then d.len * tileBytes d.fmt else d.len

/-- Bytes from the first of the first row to the last of the last (R185). -/
def CopyDesc.reach (d : CopyDesc) (tile : Bool) (pitch : Nat) : Nat :=
  if d.rows == 0 || d.rowLen tile == 0 then 0 else (d.rows - 1) * pitch + d.rowLen tile

/-- Whether a side lies in one of the spaces its kind allows (R185, R203). -/
def sideIn (spaces : List Space) (a n : Nat) : Bool :=
  match rowOf a with
  | some (sp, hi) => spaces.contains sp && a + n ≤ hi
  | none => false

/-- A side that moves nothing touches no byte, so its address is not judged. -/
def sideOk (spaces : List Space) (a n : Nat) : Bool := n == 0 || sideIn spaces a n

/-- Whether a descriptor keeps R184 and R185 for an op: 0 `cpy`, 1 `cpyt`, 2 `cpya`, 3 `cpyc`. The addresses are those after
the offset and the alias have been applied; `elems` is what a `cpyc` moves on its memory side. A slot number beyond 15 is no
value of SRC or DST.
(Log entries 94 DESIGN CHOICE, 102 DEDUCED) -/
def CopyDesc.ok (d : CopyDesc) (op elems : Nat) : Bool :=
  let tile := d.fmt != 0
  let fmtOk := d.fmt.toNat ≤ 10
  let plain := d.rest == 0 && d.flags < 64 && fmtOk
  match op with
  | 3 =>
    plain && d.fmt == 0 && (d.scb || d.dcb) && d.len == 0 && d.rows == 0 &&
      (if d.scb then d.src < 16 else sideIn [.scratchpad, .extent] d.src elems) &&
      (if d.dcb then d.dst < 16 else sideIn [.scratchpad, .extent] d.dst elems)
  | _ =>
    plain && !d.scb && !d.dcb && (op != 0 || !tile) && (op != 1 || tile) &&
      sideOk [.scratchpad, .extent] d.src (d.reach tile d.spitch) &&
      (if tile then
        d.src % 256 == 0 && d.dst % 256 == 0 && sideOk [.scratchpad, .extent, .window] d.dst (d.reach tile d.dpitch)
       else sideOk [.scratchpad, .extent, .window, .host] d.dst (d.reach tile d.dpitch))

/-- The operation that a descriptor gives, with its start delay. -/
def CopyDesc.toOp (d : CopyDesc) (op : Nat) (descAddr : Nat) (delay : BitVec 6) : CopyOp :=
  let tile := d.fmt != 0
  { kind := if op == 3 then .lockstep else if tile then .tile else .row
    armed := op == 2, descAddr := BitVec.ofNat 64 descAddr, src := BitVec.ofNat 64 d.src, dst := BitVec.ofNat 64 d.dst,
    len := BitVec.ofNat 32 d.len, rows := BitVec.ofNat 32 d.rows, spitch := BitVec.ofNat 32 d.spitch,
    dpitch := BitVec.ofNat 32 d.dpitch, sync := BitVec.ofNat 64 d.sync, trig := BitVec.ofNat 64 d.trig,
    tgen := BitVec.ofNat 32 d.tgen, fmt := d.fmt, scb := d.scb, dcb := d.dcb, delay := delay, left := delay.toNat,
    started := false, done := 0, total := if op == 3 then 0 else d.rows * d.rowLen tile, waiting := false, ahead := [] }

/-! ### The rows of an operation -/

/-- The buffer bound to a slot, as the engine sees it. -/
def slotAt (s : State) (i : Nat) : CbSlot := s.seq.slots.toList.getD (i % 16) CbSlot.unbound

/-- The buffer of a slot side. -/
def sideDesc (s : State) (slot : W64) : CbDesc := cbRead s.mem (slotAt s slot.toNat).desc.toNat

/-- The slot of a `cpyc` that says what it moves: its source's, or else its destination's. -/
def CopyDesc.sizeSlot (d : CopyDesc) (s : State) : CbSlot := slotAt s (if d.scb then d.src else d.dst)

/-- The bytes that a `cpyc` moves on its memory side: QUANT elements of the buffer of its slot side, or one byte where the slot
is not bound, which its start test finds.
(Log entry 102, DEDUCED) -/
def CopyDesc.elements (d : CopyDesc) (s : State) : Nat :=
  let slot := d.sizeSlot s
  let b := cbRead s.mem slot.desc.toNat
  if slot.bound then max 1 (b.quant * b.esize) else 1

/-- Bytes of one unit of an operation: a row, a tile, or an element (R185). -/
def CopyOp.unitLen (op : CopyOp) (s : State) : Nat :=
  match op.kind with
  | .row => op.len.toNat
  | .tile => tileBytes op.fmt
  | .lockstep => (sideDesc s (if op.scb then op.src else op.dst)).esize

/-- Address of unit k at the source. -/
def CopyOp.srcAt (op : CopyOp) (s : State) (k : Nat) : Nat :=
  match op.kind with
  | .row => op.src.toNat + k * op.spitch.toNat
  | .tile => op.src.toNat + k / op.len.toNat * op.spitch.toNat + k % op.len.toNat * tileBytes op.fmt
  | .lockstep =>
    if op.scb then
      let d := sideDesc s op.src
      d.elem (d.ccnt + k)
    else op.src.toNat + k * op.unitLen s

/-- Address of unit k at the destination. -/
def CopyOp.dstAt (op : CopyOp) (s : State) (k : Nat) : Nat :=
  match op.kind with
  | .row => op.dst.toNat + k * op.dpitch.toNat
  | .tile => op.dst.toNat + k / op.len.toNat * op.dpitch.toNat + k % op.len.toNat * tileBytes op.fmt
  | .lockstep =>
    if op.dcb then
      let d := sideDesc s op.dst
      d.elem (d.pcnt + k)
    else op.dst.toNat + k * op.unitLen s

/-! ### Checks of a row -/

/-- A failure of the engine without an address. -/
def engineFail (cls : BitVec 4) (detail : BitVec 6) (a : Nat) : Failure := failAt cls detail a 0

/-- The checks of an engine's access (R135, R189, R208): the map, rights, coverage and residency, ownership. -/
def checkAgent (s : State) (w : Who) (write : Bool) (a n : Nat) : Option Failure :=
  let p : Part := { lane := 0, addr := a, len := n }
  (checkMap p).or ((checkRights s.mem w (if write then .store else .load) p).or
    ((checkExtent s.mem w .store p).or (checkOwner s.mem w.agent (if write then .store else .load) p)))

/-- The checks of one side of a unit (R189): those of any engine, with windows and host translation for a destination. -/
def checkSide (s : State) (write : Bool) (a n : Nat) : Option Failure :=
  let p : Part := { lane := 0, addr := a, len := n }
  (if write then (checkWindow s p).or (checkHost s p) else none).or (checkAgent s (copyWho s) write a n)

/-- The verification of a tile that the engine reads (R71), with EINFO as every detail of class 4 has it (R68). A scale byte
0xFF of an MX format is no match either.
(Log entries 86 DEDUCED, 87 DESIGN CHOICE) -/
def checkCopyTile (s : State) (fmt : BitVec 4) (a : Nat) : Option Failure :=
  let bs := readMem s.mem (copyWho s) a (tileBytes fmt)
  let rows := (List.range 64).map (fun m => bytesAt bs (m * rowBytes fmt) (rowBytes fmt))
  let t := parseTile fmt rows (bs.drop (dataBytes fmt)) (bs.drop (dataBytes fmt + trailerBytes fmt))
  let v := verifySums fmt (tileValues fmt (scalable fmt) t.data t.scales) { rows := t.rows, cols := t.cols }
  if v.rows.isEmpty && v.cols.isEmpty && t.badScale.isNone then none
  else
    let f := engineFail 4 0x10 a
    some { f with trap := { f.trap with einfo := sumInfo v.rows v.cols 0 } }

/-- The checks of unit k as the engine reaches it (R189). -/
def checkUnit (s : State) (op : CopyOp) (k : Nat) : Option Failure :=
  let n := op.unitLen s
  let a := op.srcAt s k
  let b := op.dstAt s k
  let align := if op.kind == .tile && (a % 256 != 0 || b % 256 != 0) then
      some (engineFail 5 0x08 (if a % 256 != 0 then a else b)) else none
  align.or ((checkSide s false a n).or
    ((if op.kind == .tile then checkCopyTile s op.fmt a else none).or (checkSide s true b n)))

/-- The checks of what is still to move of unit k when x of its bytes are done, r of them read and p of them written (R189):
the whole unit as the engine reaches it, and at each later step what is still to be read and to be written, since a page, a
translation or an owner may have changed (R206, R207, R208).
(Log entry 125, DEDUCED) -/
def checkRest (s : State) (op : CopyOp) (k x r p : Nat) : Option Failure :=
  if x == 0 then checkUnit s op k
  else
    let n := op.unitLen s
    (if r < n then checkSide s false (op.srcAt s k + r) (n - r) else none).or
      (checkSide s true (op.dstAt s k + p) (n - p))

/-! ### Moving bytes -/

/-- The end of what has been handed on of a unit at address b when x of its n bytes are moved: pieces end at multiples of g,
or at the unit's end. -/
def cutAt (g b n x : Nat) : Nat := if n ≤ x then n else x - min x ((b + x) % g)

/-- Where the reading of a unit of n bytes at address a stands when its first q bytes are written: an aligned word of the
source is read whole (R214).
(Log entry 103, DEDUCED) -/
def readTo (a n q : Nat) : Nat := if q == 0 then 0 else min n (q + (8 - (a + q) % 8) % 8)

/-- How a step of the engine goes on: the part moved, a wait with the bytes moved so far, or a fault at a unit. -/
inductive CopyRun where
  | moved (s : State)
  | waits (s : State) (done : Nat) (budget : Bool)
  | faults (s : State) (unit : Nat) (f : Failure)
  deriving DecidableEq, Repr

/-- The division of a destination's writes: 256 bytes of a window's offset (R240), else aligned 8-byte words (R185). -/
def grainOf (b : Nat) : Nat :=
  match rowOf b with
  | some (.window, _) => 256
  | _ => 8

/-- The running operation keeps what it has read and not yet written. -/
def keepAhead (bs : List Byte) (s : State) : State :=
  onCopy (fun c => { c with queue := match c.queue with
    | [] => []
    | op :: rest => { op with ahead := bs } :: rest }) s

/-- The bytes [x, y) of unit k handed on: read from the source and written, posted or stored (R186, R207, R240). A source
word with an uncorrectable error is not used (R334). A host store waits for the translation of its own bytes alone. Each row
ends its own last write into a window, also where the next row goes on in the same 256 bytes.
(Log entry 119, DESIGN CHOICE) -/
def movePart (op : CopyOp) (k x y : Nat) (s : State) : CopyRun :=
  let n := op.unitLen s
  let a := op.srcAt s k
  let b := op.dstAt s k
  let wait := fun s budget => CopyRun.waits s (k * n + x) budget
  let g := grainOf b
  let p := cutAt g b n x
  let had := ((s.copy.queue.head?.map (·.ahead)).getD []).take (n - p)
  let lo := p + had.length
  match checkRest s op k x lo p with
  | some f => .faults (if f.trap.cls == 6 && f.trap.detail == 3 then dropRefused b n s else s) k f
  | none =>
    let q := cutAt g b n y
    let hi := max lo (readTo a n q)
    let cost := hbmAccesses [{ lane := 0, addr := a + lo, len := hi - lo }, { lane := 0, addr := b + p, len := q - p }]
    let held := had ++ readMem s.mem (copyWho s) (a + lo) (hi - lo)
    let data := held.take (q - p)
    let moved := fun s => CopyRun.moved (keepAhead (held.drop (q - p)) (charge s.east s.regionHandle 0 cost s))
    if (s.mem.badByte (a + lo) (hi - lo)).isSome then wait s false
    else if cost != 0 && !admitted s s.east s.regionHandle 0 then wait s true
    else match rowOf b with
      | some (.window, _) =>
        (match txWindowAt s.refl s.regionHandle (b + p) with
        | some w =>
          if q ≤ p then moved s
          else if !admitted s s.east s.regionHandle 2 then wait s true
          else if !hasRoom s.refl w (q - p) then wait s false
          else (match tryPieces w (b + p - w.base.toNat) data s.copyAgent s with
            | some s => moved (charge s.east s.regionHandle 2 (q - p) s)
            | none => wait s false)
        | none => moved s)
      | some (.host, _) =>
        if !hostReady s (b + p) (q - p) then wait (askHost (b + p) (q - p) s) false
        else moved (postHost s.copyAgent (b + p) data s)
      | some (.scratchpad, _) =>
        moved (onCopy (fun c => { c with written := (c.written ++ granulesOf (b + p) (q - p)).dedup })
          (onMem (fun m => ownRange (writeMem m (copyWho s) (b + p) data) s.copyAgent (b + p) (q - p)) s))
      | _ => moved (onMem (fun m => writeMem m (copyWho s) (b + p) data) s)

/-- The parts of units that bytes [lo, hi) of an operation fall in: unit, first and last byte. -/
def unitParts (n lo hi : Nat) : List (Nat × Nat × Nat) :=
  if n == 0 || hi ≤ lo then []
  else (List.range ((hi - 1) / n - lo / n + 1)).map (fun i =>
    let k := lo / n + i
    (k, max lo (k * n) - k * n, min hi (k * n + n) - k * n))

/-- Parts moved in order until one waits or faults. -/
def moveParts (op : CopyOp) : List (Nat × Nat × Nat) → State → CopyRun
  | [], s => .moved s
  | (k, x, y) :: ps, s =>
    match movePart op k x y s with
    | .moved s' => moveParts op ps s'
    | r => r

/-! ### Faults and completion -/

/-- The head operation replaced. -/
def setHead (op : CopyOp) (s : State) : State :=
  onCopy (fun c => { c with queue := match c.queue with
    | [] => []
    | _ :: rest => op :: rest }) s

/-- SOURCE of a copy engine's fault (R26): 4 when a partner left the buffer ended, FAULTED or BROKEN, else 1.
(Log entry 29, DEDUCED) -/
def faultSource (t : TrapInfo) : Byte :=
  if t.cls == 8 && (t.detail == 6 || t.detail == 7 || t.detail == 8) then 4 else 1

/-- An engine fault of the head operation with k units whole (R189): the prefix published and counted, the remainder OPEN,
later operations discarded, the fault held for the next group boundary. The prefix of a `cpyc` is its whole elements. EINFO is
R189's but for class 4, whose details R68 lays out for the copy engine too.
(Log entries 29 DEDUCED, 86 DEDUCED, 115 DESIGN CHOICE) -/
def copyFault (op : CopyOp) (k : Nat) (f : Failure) (s : State) : State :=
  let n := op.unitLen s
  let prefixG := ((List.range k).map (fun i => granulesOf (op.dstAt s i) n)).flatten
  let keep := s.copy.written.filter (prefixG.contains ·)
  let drop := s.copy.written.filter (fun g => !prefixG.contains g)
  let later := s.copy.queue.length - 1
  let c := causeOf f.trap.cls f.trap.detail
  let s := onMem (fun m =>
    let m := keep.foldl (fun m g => publishRange m s.copyAgent (64 * g) 64) m
    drop.foldl (fun m g => setOwner m g none) m) s
  let s := if op.sync == 0 then s
    else onMem (fun m => syncMark m op.sync.toNat 1 c) (if k == 0 then s else countArrival op.sync.toNat (k * n) s)
  let s := onCopy (fun c => { c with queue := [], written := [] }) s
  onSeq (fun q => { q with
    raceinfo := f.race.getD q.raceinfo
    cpycHold := false
    engineFaults := q.engineFaults ++ [{ f.trap with
      einfo := if f.trap.cls == 4 then f.trap.einfo
        else (op.descAddr &&& 0xFFFFFFFFFFFF) ||| (BitVec.ofNat 64 later <<< 48),
      source := faultSource f.trap }] }) s

/-- The head operation completes (R186): publication, buffer counts, its bytes on SYNC. -/
def copyComplete (op : CopyOp) (s : State) : State :=
  let n := op.unitLen s
  let cnt := if n == 0 then 0 else op.total / n
  let s := onMem (fun m => s.copy.written.foldl (fun m g => publishRange m s.copyAgent (64 * g) 64) m) s
  let took := if op.kind == .lockstep && op.scb then
      let d := sideDesc s op.src
      relGranules s.mem s.copyAgent none (cbGranules d d.ccnt cnt)
    else (s.mem, none)
  match took.2 with
  | some r => copyFault op cnt { (engineFail 7 r.detail r.addr) with race := some r.info } { s with mem := took.1 }
  | none =>
    let s := { s with mem := took.1 }
    let s := if op.kind == .lockstep && op.scb then
        onMem (fun m => cbAddC m (slotAt s op.src.toNat).desc.toNat cnt) s else s
    let s := if op.kind == .lockstep && op.dcb then
        let d := sideDesc s op.dst
        onMem (fun m => cbAddP (relGranules m s.copyAgent (some .pub) (cbGranules d d.pcnt cnt)).1
          (slotAt s op.dst.toNat).desc.toNat cnt) s else s
    let s := if op.sync == 0 then s else countArrival op.sync.toNat op.total s
    onCopy (fun c => { c with queue := c.queue.tail, doneCount := c.doneCount + 1, written := [] }) s

/-- The start test of a lock-step copy (R187): a fault, or whether the count condition holds with the bytes to move. -/
def lockstepTest (op : CopyOp) (s : State) : Failure ⊕ Option Nat :=
  let src := slotAt s op.src.toNat
  let dst := slotAt s op.dst.toNat
  let sd := sideDesc s op.src
  let dd := sideDesc s op.dst
  let sa := src.desc.toNat
  let da := dst.desc.toNat
  let quant := if op.scb then sd.quant else dd.quant
  let esize := if op.scb then sd.esize else dd.esize
  if (op.scb && !src.bound) || (op.dcb && !dst.bound) then .inl (engineFail 8 0x01 0)
  else if op.scb && (src.producer || !src.engine) then .inl (engineFail 8 0x09 sa)
  else if op.dcb && (!dst.producer || !dst.engine) then .inl (engineFail 8 0x09 da)
  else if op.scb && op.dcb && (sd.esize != dd.esize || sd.quant != dd.quant) then .inl (engineFail 8 0x05 sa)
  else if op.scb && sd.state == 3 then .inl (engineFail 8 0x07 sa)
  else if op.scb && sd.state == 4 then .inl (engineFail 8 0x08 sa)
  else if op.scb && sd.state != 0 && sd.avail < quant then .inl (engineFail 8 0x06 sa)
  else if op.dcb && dd.state != 0 then .inl (engineFail 8 0x0A da)
  else if (op.scb && sd.avail < quant) || (op.dcb && dd.room < quant) then .inr none
  else .inr (some (quant * esize))

/-- Whether the engine's next reads of buffer descriptors and of the head operation's sync word meet an uncorrectable error
(R334). -/
def headDamaged (s : State) : Bool :=
  match s.copy.queue with
  | [] => false
  | op :: _ =>
    let side : Bool → W64 → List (Nat × Nat) := fun on slot => if on then [((slotAt s slot.toNat).desc.toNat, 64)] else []
    (op.started || op.left == 0) && anyDamaged s.mem ((if op.kind == .lockstep then side op.scb op.src ++ side op.dcb op.dst else []) ++
      (if op.sync == 0 then [] else [(op.sync.toNat, 16)]))

/-- Whether a trigger of an armed copy holds an uncorrectable error (R334). -/
def triggerDamaged (s : State) : Bool := anyDamaged s.mem (s.copy.armed.map (fun op => (op.trig.toNat, 16)))

/-- Whether the budget admits a copy's start: the engine's earlier starts were in earlier cycles (R296). -/
def startAdmitted (s : State) : Bool := admitted (onFw settleCharges s) s.east s.regionHandle 3

/-- The start of a lock-step copy is withdrawn: from the delivery of a hard request or of an engine's fault until the unit
resumes (R187).
(Log entry 101, DEDUCED) -/
def startWithdrawn (s : State) : Bool :=
  s.seq.supervisor || s.seq.preempt == some .hard || !s.seq.engineFaults.isEmpty

/-- The start of a due head operation (R186, R187, R295): a lock-step copy passes its test or holds the clamp; the bytes of
the operation are charged whole. A start that is withdrawn is tested again when the unit resumes, not while its handler runs.
A `cpyc` without delay whose test fails in the step that accepts it cannot hold back that step: the clamp is held from the
next cycle, and the copy starts one step later.
(Log entry 135, DESIGN CHOICE) -/
def copyStart (s : State) : State :=
  match s.copy.queue with
  | [] => s
  | op :: _ =>
    if op.started || op.left != 0 || (op.kind == .lockstep && startWithdrawn s) || headDamaged s then s
    else
      let test : Failure ⊕ Option Nat := if op.kind == .lockstep then lockstepTest op s else .inr (some op.total)
      match test with
      | .inl f => copyFault op 0 f s
      | .inr none => onSeq (fun q => { q with cpycHold := true }) s
      | .inr (some total) =>
        let s := onSeq (fun q => { q with cpycHold := false }) s
        if startAdmitted s then
          charge s.east s.regionHandle 3 total (setHead { op with started := true, total := total, waiting := false } s)
        else if op.waiting then s
        else countStall s.east s.regionHandle (setHead { op with waiting := true } s)

/-- The bytes that a step moves: up to the operation's next 256-byte boundary (R186, R326). -/
def stepBytes (s : State) : Nat :=
  match s.copy.queue with
  | op :: _ => 256 - op.done % 256
  | [] => 0

/-- The engine stands at a 256-byte boundary of its running operation, where a save can capture it (R326). -/
def atBoundary (s : State) : Bool :=
  match s.copy.queue with
  | op :: _ => !op.started || op.done % 256 == 0
  | [] => true

/-- The running operation moves up to n bytes, and completes with its last. -/
def copyMove (n : Nat) (s : State) : State :=
  match s.copy.queue with
  | [] => s
  | op :: _ =>
    if !op.started || headDamaged s then s
    else
      let hi := min (op.done + n) op.total
      match moveParts op (unitParts (op.unitLen s) op.done hi) s with
      | .moved s =>
        let op := { op with done := hi, waiting := false, ahead := (s.copy.queue.head?.map (·.ahead)).getD [] }
        if hi == op.total then copyComplete op (setHead op s) else setHead op s
      | .waits s done budget =>
        let s := if budget && !op.waiting then countStall s.east s.regionHandle s else s
        setHead { op with done := done, waiting := budget, ahead := (s.copy.queue.head?.map (·.ahead)).getD [] } s
      | .faults s k f => copyFault op k f s

/-- Whether the engine has come to a word of a slice with an uncorrectable error (R334): of a source, a descriptor, a sync word
or a trigger. -/
def copyDamaged (s : State) : Bool :=
  headDamaged s || triggerDamaged s || match s.copy.queue with
  | [] => false
  | op :: _ => op.started &&
    match unitParts (op.unitLen s) op.done (min (op.done + 256) op.total) with
    | (k, x, y) :: _ => (s.mem.badByte (op.srcAt s k + x) (y - x)).isSome
    | [] => false

/-- Start delays one step shorter.
(Log entry 76, DEDUCED) -/
def delayDown (op : CopyOp) : CopyOp := { op with left := op.left - 1 }

/-- Fired copies enter the queue while it has room (R188).
(Log entry 76, DEDUCED) -/
def enterFired (c : Copy) : Copy :=
  let room := 16 - c.queue.length
  { c with queue := c.queue ++ c.fired.take room, fired := c.fired.drop room }

/-- Armed copies whose triggers have reached their generation leave the table in arming order (R188). -/
def fireArmed (s : State) : State :=
  if triggerDamaged s then s else
  let hit := fun (op : CopyOp) => syncReached s.mem op.trig.toNat op.tgen
  onCopy (fun c => { c with armed := c.armed.filter (fun op => !hit op), fired := c.fired ++ c.armed.filter hit }) s

/-- A lock-step copy that falls due in the next cycle is tested before it, so that the clamp is held from that cycle
(R187). -/
def testAhead (s : State) : State :=
  match s.copy.queue with
  | op :: _ => if op.kind == .lockstep then copyStart s else s
  | [] => s

/-- The copy engine's part of a step (R186 to R188). It stands still once CTXCMD has captured it (R326).
(Log entry 82, DEDUCED) -/
def copyStep (s : State) : State :=
  if s.seq.saved then s
  else
    let s := (fun s => copyMove (stepBytes s) s) (copyStart s)
    let s := onCopy (fun c => { c with queue := c.queue.map delayDown, armed := c.armed.map delayDown,
                                       fired := c.fired.map delayDown }) s
    testAhead (onCopy enterFired (fireArmed s))

/-- Bytes that the head operation has moved, with the length of its queue. -/
def copyProgress (s : State) : Nat × Nat := (s.copy.queue.length, (s.copy.queue.head?.map (·.done)).getD 0)

/-- The running operation moves on, a cycle's bytes at a time, by fuel, until it ends or cannot go on. -/
def copyRun : Nat → State → State
  | 0, s => s
  | fuel + 1, s =>
    let s' := copyMove (stepBytes s) (onFw settleCharges s)
    if (copyProgress s').1 == (copyProgress s).1 && (copyProgress s).2 < (copyProgress s').2 then copyRun fuel s' else s'

/-- The running operation run to its end. -/
def copyFinish (s : State) : State :=
  match s.copy.queue with
  | op :: _ => if op.started then copyRun (op.total / 256 + 2) s else s
  | [] => s

/-- A held lock-step start is tested again, each cycle of the hold (R187). -/
def copyRetest (s : State) : State := if s.seq.cpycHold then copyStart s else s

/-- `cpyst` (R190). -/
def copyStatus (s : State) : W64 :=
  let c := s.copy
  let busy := c.queue.any (·.started)
  (c.doneCount.setWidth 64 <<< 32) ||| (if busy then 0x10000 else 0) |||
    (BitVec.ofNat 64 (c.armed.length + c.fired.length) <<< 8) ||| BitVec.ofNat 64 c.queue.length

end Sys2Proof.Machine
end

