-- ==== Sys2Proof/Machine/Router.lean ====
section
/-! DEFINITION. The die's stage router (R219 to R236): stage sets, the records in flight, routing by lottery or in fixed
order, retirement, statistics, and the records of stations that trap or are pre-empted. -/

namespace Sys2Proof.Machine

/-! ### Stage sets -/

/-- The agent id of a die's router (R220). -/
def routerAgent (east : Bool) : BitVec 9 := if east then 325 else 324

/-- The router acting for a set. -/
def routerWho (t : StageSet) : Who := { agent := routerAgent t.east, xtbl := t.xtbl, sup := false }

/-- The set entry of a die. -/
def setEntry (s : State) (east : Bool) (idx : BitVec 4) : Option StageSet :=
  s.sets.find? (fun t => t.east == east && t.idx == idx)

/-- The set that a REC word of the running unit names (R220). -/
def setFor (s : State) (idx : BitVec 4) : Option StageSet :=
  match setEntry s s.east idx with
  | some t => if t.region == s.regionHandle then some t else none
  | none => none

/-- A set entry changed. -/
def onSet (east : Bool) (idx : BitVec 4) (f : StageSet → StageSet) (s : State) : State :=
  { s with sets := s.sets.map (fun t => if t.east == east && t.idx == idx then f t else t) }

/-- A bay's index on its die (R219). -/
def dieIndex (bay : Nat) : Nat := bay / 20 * 10 + bay % 10

/-- Stage g of a set. -/
def StageSet.stage? (t : StageSet) (g : Nat) : Option Stage := t.stages[g]?

/-- Stage g of a set changed. -/
def onStage (g : Nat) (f : Stage → Stage) (t : StageSet) : StageSet :=
  { t with stages := t.stages.zipIdx.map (fun x => if x.2 == g then f x.1 else x.1) }

/-- A record of a set. -/
def StageSet.rec? (t : StageSet) (n : BitVec 48) : Option Rec := t.recs.find? (·.rnum == n)

/-- A record of a set changed. -/
def onRec (n : BitVec 48) (f : Rec → Rec) (t : StageSet) : StageSet :=
  { t with recs := t.recs.map (fun r => if r.rnum == n then f r else r) }

/-- DONE with every stage's bit set. -/
def StageSet.allDone (t : StageSet) : Byte := BitVec.ofNat 8 (2 ^ t.stages.length - 1)

/-! ### Installation and removal -/

/-- Stage g of a descriptor (R219). -/
def parseStage (b : List Byte) (g : Nat) : Stage :=
  let o := 0x40 + 24 * g
  { pool := BitVec.ofNat 80 (fieldAt b o 10), fofs := fieldAt b (o + 0xA) 2, flen := fieldAt b (o + 0xC) 2,
    qdepth := fieldAt b (o + 0xE) 2, hint := max 1 (fieldAt b (o + 0x10) 4), queue := [], tickets := 64, n := 0,
    passes := 0, cost := 0 }

/-- A stage entry that keeps R219 and R220. -/
def stageOk (b : List Byte) (rsize g : Nat) : Bool :=
  let t := parseStage b g
  t.pool != 0 && 16 ≤ t.fofs && t.fofs ≤ rsize && t.fofs % 8 == 0 && t.flen % 8 == 0 && t.fofs + t.flen ≤ rsize &&
    1 ≤ t.qdepth && t.qdepth ≤ 1024 && fieldAt b (0x40 + 24 * g + 0x14) 4 == 0

/-- Whether no two field ranges overlap. -/
def rangesApart (ts : List Stage) : Bool :=
  ts.zipIdx.all (fun x => ts.zipIdx.all (fun y => x.2 == y.2 || x.1.flen == 0 || y.1.flen == 0 ||
    !rangesMeet x.1.fofs x.1.flen y.1.fofs y.1.flen))

/-- Whether an area lies within one 2 MiB block of scratchpad, or of extents with right W (R220). -/
def storeOk (m : Mem) (w : Who) (a n : Nat) : Bool :=
  a / 0x200000 == (a + n - 1) / 0x200000 &&
  (match rowOf a with
  | some (.scratchpad, hi) => a + n ≤ hi
  | some (.extent, hi) => a + n ≤ hi && (pageParts a n).all (fun p =>
      match coverOf m w p.1 with
      | some e => e.attr.getLsbD 2
      | none => false)
  | _ => false)

/-- The set that a descriptor gives, or none when firmware refuses it (R219, R220). -/
def parseSet (m : Mem) (east : Bool) (idx : BitVec 4) (region : W32) (xtbl : W64) (b : List Byte) : Option StageSet :=
  let n := fieldAt b 0 1
  let rsize := fieldAt b 4 2
  let store := fieldAt b 8 8
  let sink := fieldAt b 0x10 8
  let stats := fieldAt b 0x20 8
  let stages := (List.range n).map (parseStage b)
  let d := cbRead m sink
  let w : Who := { agent := routerAgent east, xtbl := xtbl, sup := false }
  let ok := b.length == 256 && 1 ≤ n && n ≤ 8 && fieldAt b 1 1 ≤ 1 && 6 ≤ fieldAt b 2 1 && fieldAt b 2 1 ≤ 16 &&
    fieldAt b 3 1 == 0 && 64 ≤ rsize && rsize ≤ 512 && rsize % 64 == 0 && fieldAt b 6 2 != 0 && store % 64 == 0 &&
    fieldAt b 0x18 8 < 2 ^ 48 && stats % 16 == 0 && (bytesAt b 0x28 24).all (· == 0) &&
    (List.range n).all (stageOk b rsize) && (b.drop (0x40 + 24 * n)).all (· == 0) && rangesApart stages &&
    storeOk m w store (1024 * (rsize + 128 * n)) && d.ok sink && d.esize == rsize && d.pagent == 0x1FF
  if ok then
    some { east := east, idx := idx, region := region, xtbl := xtbl, fixed := fieldAt b 1 1 == 1, lwin := fieldAt b 2 1,
           rsize := rsize, store := BitVec.ofNat 64 store, sink := BitVec.ofNat 64 sink,
           limit := BitVec.ofNat 48 (fieldAt b 0x18 8), stats := BitVec.ofNat 64 stats,
           lfsr := BitVec.ofNat 16 (fieldAt b 6 2), stages := stages, next := 0, retired := 0, recs := [], route := [],
           windows := 0, flags := 0, isRetired := false, broken := false, waiting := [] }
  else none

/-- Firmware installs a stage set, or refuses it (R220): the router becomes the sink's producer, which makes the descriptor's
granule PUB (R179), and scratchpad of the store is its own. An entry whose set is neither retired nor broken is in use.
(Log entry 83, DESIGN CHOICE) -/
def installSet (east : Bool) (idx : BitVec 4) (region : W32) (desc : List Byte) (s : State) : State :=
  let inUse := match setEntry s east idx with
    | some t => !(t.isRetired || t.broken)
    | none => false
  match parseSet s.mem east idx region (regionXtbl s region) desc with
  | some t =>
    if inUse then logEntry .refusedInstall s
    else
      let n := 1024 * (t.rsize + 128 * t.stages.length)
      let s := onMem (fun m =>
        let m := setSpadWord m (t.sink.toNat + 32) 2 (routerAgent east).toNat
        let m := setOwner m (t.sink.toNat / 64) (some .pub)
        if t.store.toNat < 0x14000000 then ownRange m (routerAgent east) t.store.toNat n else m) s
      { s with sets := s.sets.filter (fun x => !(x.east == east && x.idx == idx)) ++ [t] }
  | none => logEntry .refusedInstall s

/-- A set becomes broken (R233): its records are discarded and its sink is BROKEN. -/
def breakSet (east : Bool) (idx : BitVec 4) (s : State) : State :=
  match setEntry s east idx with
  | none => s
  | some t =>
    onMem (fun m => cbEnd m t.sink.toNat 4)
      (onSet east idx (fun t => { t with broken := true, recs := [], route := [],
                                         stages := t.stages.map (fun x => { x with queue := [] }) }) s)

/-- Firmware removes a stage set: one in use becomes broken, and the entry of a retired or broken set is emptied (R233).
(Log entry 136, DESIGN CHOICE) -/
def removeSet (east : Bool) (idx : BitVec 4) (s : State) : State :=
  match setEntry s east idx with
  | some t =>
    if t.isRetired || t.broken then { s with sets := s.sets.filter (fun x => !(x.east == east && x.idx == idx)) }
    else breakSet east idx s
  | none => s

/-! ### Records -/

/-- The header of R221. -/
def recordHeader (n : BitVec 48) (done status : Byte) : List Byte :=
  bytesOfNat 6 n.toNat ++ [done, status] ++ zeroBytes 8

/-- Bytes [o, o + n) of a string replaced. -/
def replaceAt (b : List Byte) (o : Nat) (x : List Byte) : List Byte := b.take o ++ x ++ b.drop (o + x.length)

/-- STATUS of a record (R221). -/
def RecStatus.code : RecStatus → Byte
  | .inFlight => 0
  | .passed => 1
  | .dropped => 2
  | .faulted => 3

/-- Bytes of a store entry: the record, and 8 side entries of 16 bytes for each stage (R220).
(Log entry 58, DEDUCED) -/
def StageSet.entryLen (t : StageSet) : Nat := t.rsize + 128 * t.stages.length

/-- The address of a record's store entry, RNUM mod 1,024 (R222). -/
def StageSet.entryAt (t : StageSet) (n : BitVec 48) : Nat := t.store.toNat + n.toNat % 1024 * t.entryLen

/-- A record as its store entry holds it: composed, then each stage's side entries (R222, R227).
(Log entry 58, DEDUCED) -/
def entryBytesOf (t : StageSet) (r : Rec) : List Byte :=
  replaceAt r.composed 0 (recordHeader r.rnum r.done r.status.code) ++
    ((List.range t.stages.length).map (fun g =>
      let es := ((r.sides.filter (·.1 == g)).map (fun e =>
        bytesOfNat 8 (e.2.2.1.toNat + e.2.1.toNat) ++ bytesOfNat 8 e.2.2.2.toNat)).flatten
      es ++ zeroBytes (128 - es.length))).flatten

/-- A record of a set written to its store entry (R222). -/
def keepRecord (east : Bool) (idx : BitVec 4) (n : BitVec 48) (s : State) : State :=
  match setEntry s east idx with
  | none => s
  | some t => match t.rec? n with
    | none => s
    | some r => onMem (fun m => writeMem m (routerWho t) (t.entryAt n) (entryBytesOf t r)) s

/-- The 64-byte HBM accesses of a write to a store entry (R295). -/
def entryLines (t : StageSet) (n : BitVec 48) : Nat :=
  hbmAccesses [{ lane := 0, addr := t.entryAt n, len := t.entryLen }]

/-- An activity of a set: carried out when its region's budget admits it, else it waits, counted once (R296). -/
def setMetered (t : StageSet) (act cost : Nat) (f : State → State) (s : State) : State :=
  if cost == 0 then f s
  else if admitted s t.east t.region act then
    f (charge t.east t.region act cost (onSet t.east t.idx (fun t => { t with waiting := t.waiting.filter (· != act) }) s))
  else if t.waiting.contains act then s
  else countStall t.east t.region (onSet t.east t.idx (fun t => { t with waiting := t.waiting ++ [act] }) s)

/-- Records of a set in flight (R228). -/
def StageSet.inFlight (t : StageSet) : Nat := t.recs.length

/-- A record submitted: the record's number is `t.next` (R224). -/
def submitRecord (bytes : List Byte) (t : StageSet) : StageSet :=
  let b := replaceAt bytes 0 (recordHeader t.next 0 0)
  { t with next := t.next + 1, route := t.route ++ [t.next],
           recs := t.recs ++ [{ rnum := t.next, submitted := b, composed := b, done := 0, status := .inFlight, sides := [] }] }

/-- The private copy of a record for stage g (R222). -/
def privateCopy (t : StageSet) (g : Nat) (r : Rec) : List Byte :=
  t.stages.zipIdx.foldl (fun b x => if x.2 == g then b else replaceAt b x.1.fofs (zeroBytes x.1.flen)) r.submitted

/-- The front record of stage g's queue removed (R225). -/
def takeFront (g : Nat) (t : StageSet) : StageSet := onStage g (fun x => { x with queue := x.queue.tail }) t

/-- One completion of a stage counted (R226, R230). -/
def countCompletion (g cost : Nat) (passed : Bool) (t : StageSet) : StageSet :=
  onStage g (fun x => { x with n := x.n + 1, passes := x.passes + passed.toNat, cost := x.cost + cost }) t

/-- `rpass` of a record by stage g with its field bytes and side entries (R226).
(Log entry 39, DEDUCED) -/
def passRecord (n : BitVec 48) (g : Nat) (field : List Byte) (sides : List (BitVec 3 × W64 × W64)) (t : StageSet) :
    StageSet :=
  match t.rec? n, t.stage? g with
  | some r, some st =>
    let done := r.done ||| (1 <<< g)
    let r' : Rec := { r with composed := replaceAt r.composed st.fofs field, done := done,
                             status := if done == t.allDone then .passed else .inFlight,
                             sides := r.sides ++ sides.map (fun e => (g, e)) }
    let t := onRec n (fun _ => r') t
    if done == t.allDone then t else { t with route := t.route ++ [n] }
  | _, _ => t

/-- A record finished without passing: dropped or faulted; all its side entries go (R226, R232). -/
def finishRecord (n : BitVec 48) (st : RecStatus) (t : StageSet) : StageSet :=
  onRec n (fun r => { r with status := st, sides := [] }) t

/-- The held record returns to the front of its stage's queue (R234). -/
def returnRecord (h : Held) (t : StageSet) : StageSet :=
  if (t.rec? h.rnum).isSome then onStage h.stage.toNat (fun x => { x with queue := h.rnum :: x.queue }) t else t

/-- The station's record returned at a pre-emption (R234).
(Log entry 58, DEDUCED) -/
def returnHeld (s : State) : State :=
  match s.seq.held with
  | some h => onSeq (fun q => { q with held := none }) (onSet s.east h.idx (returnRecord h) s)
  | none => s

/-- A record of a set written to its store entry by a step that no budget holds back (R222, R295).
(Log entry 48, DEDUCED) -/
def keepCharged (east : Bool) (idx : BitVec 4) (n : BitVec 48) (s : State) : State :=
  match setEntry s east idx with
  | none => s
  | some t => charge east t.region 0 (entryLines t n) (keepRecord east idx n s)

/-- The station's record finished as faulted at a trap (R234). -/
def faultHeld (s : State) : State :=
  match s.seq.held with
  | some h => onSeq (fun q => { q with held := none })
      (keepCharged s.east h.idx h.rnum (onSet s.east h.idx (finishRecord h.rnum .faulted) s))
  | none => s

/-! ### Routing -/

/-- Ticket counts at a draw (R230). -/
def ticketsNow (t : StageSet) (r : Rec) : List Nat :=
  t.stages.zipIdx.map (fun x =>
    if r.done.getLsbD x.2 || x.1.qdepth ≤ x.1.queue.length then 0
    else if 4 * x.1.queue.length > 3 * x.1.qdepth then (x.1.tickets + 3) / 4
    else x.1.tickets)

/-- The lottery register after a draw (R231). -/
def lfsrNext (l : BitVec 16) : BitVec 16 := if l.getLsbD 0 then (l >>> 1) ^^^ 0xB400 else l >>> 1

/-- The least stage whose cumulative count exceeds r (R231). -/
def drawStage : List Nat → Nat → Nat → Nat
  | [], _, g => g
  | c :: cs, r, g => if r < c then g else drawStage cs (r - c) (g + 1)

/-- The stage that the record at the front goes to, with the lottery register after it; none while it stays (R229, R231). -/
def chooseStage (t : StageSet) (r : Rec) : Option (Nat × BitVec 16) :=
  if t.fixed then
    match (List.range t.stages.length).find? (fun g => !r.done.getLsbD g) with
    | some g => match t.stage? g with
      | some st => if st.queue.length < st.qdepth then some (g, t.lfsr) else none
      | none => none
    | none => none
  else
    let c := ticketsNow t r
    let live := (List.range c.length).filter (fun g => c.getD g 0 != 0)
    match live with
    | [] => none
    | [g] => some (g, t.lfsr)
    | _ =>
      let l := lfsrNext t.lfsr
      some (drawStage c (l.toNat * c.foldl (· + ·) 0 / 65536) 0, l)

/-- One routing (R229); an exhausted router budget delays it (R295, R296). -/
def routeOne (east : Bool) (idx : BitVec 4) (s : State) : State :=
  match setEntry s east idx with
  | none => s
  | some t =>
    match t.route with
    | [] => s
    | n :: rest =>
      match t.rec? n with
      | none => s
      | some r =>
        match chooseStage t r with
        | none => s
        | some (g, l) =>
          setMetered t 4 1 (onSet east idx (fun t => onStage g (fun x => { x with queue := x.queue ++ [n] })
            { t with route := rest, lfsr := l })) s

/-! ### Retirement -/

/-- A side entry applied (R227, R232), with the flags of op 2.
(Log entry 59, DEDUCED) -/
def applySide (w : Who) (m : Mem) (op : BitVec 3) (addr value : W64) : Mem × Flags :=
  let a := addr.toNat
  match op.toNat with
  | 0 => (writeWord m w a 8 value.toNat, 0)
  | 1 => (writeWord m w a 8 ((readWord m w a 8 + value.toNat) % 2 ^ 64), 0)
  | _ =>
    let r := addF32 (BitVec.ofNat 32 (readWord m w a 4)) (value.setWidth 32)
    (writeWord m w a 4 r.val.toNat, r.flags)

/-- A record's side entries in declared stage order, in emission order within a stage (R232). -/
def sidesInOrder (t : StageSet) (r : Rec) : List (BitVec 3 × W64 × W64) :=
  ((List.range t.stages.length).map (fun g => (r.sides.filter (·.1 == g)).map (·.2))).flatten

/-- Memory and a set's flags after the side entries of a record (R232). -/
def sidesDone (t : StageSet) (r : Rec) (m : Mem) : Mem × Flags :=
  (sidesInOrder t r).foldl (fun (acc : Mem × Flags) e =>
    let y := applySide (routerWho t) acc.1 e.1 e.2.1 e.2.2
    (y.1, acc.2 ||| y.2)) (m, t.flags)

/-- The side entries of a passed record applied; their flags reach the statistics area (R232, R236). -/
def applySides (t : StageSet) (r : Rec) (s : State) : State :=
  let x := sidesDone t r s.mem
  let s := { s with mem := x.1 }
  if t.stats == 0 then s
  else
    onMem (fun m => if x.2 == t.flags then m else writeWord m (routerWho t) (t.stats.toNat + 8) 4 x.2.toNat)
      (onSet t.east t.idx (fun t => { t with flags := x.2 }) s)

/-- Base ticket counts at the close of a window (R230), over a common denominator n_g of each stage. -/
def closeTickets (ts : List Stage) : List Nat :=
  -- cost of one completion as a fraction: (numerator, denominator)
  let c := ts.map (fun x => if x.n == 0 then (x.hint, 1) else (x.cost, x.n))
  let least := c.foldl (fun b y => if y.1 * b.2 < b.1 * y.2 then y else b) (c.headD (1, 1))
  (ts.zip c).map (fun y =>
    let n := max 1 y.1.n
    -- 4096 (1 - k/n) (least.1 / least.2) / (c.1 / c.2) + 1
    4096 * (n - (if y.1.n == 0 then 0 else y.1.passes)) * least.1 * y.2.2 / (n * least.2 * y.2.1) + 1)

/-- The statistics area of R236.
(Log entry 59, DEDUCED) -/
def statsBytes (windows : W64) (flags : Flags) (ts : List Stage) (tick : List Nat) : List Byte :=
  bytesOfNat 8 windows.toNat ++ bytesOfNat 4 flags.toNat ++ zeroBytes 4 ++
    ((ts.zip tick).map (fun x => bytesOfNat 4 x.1.n ++ bytesOfNat 4 x.1.passes ++ bytesOfNat 4 (min x.1.cost 0xFFFFFFFF) ++
      bytesOfNat 2 x.2 ++ zeroBytes 2)).flatten

/-- A statistics window closes (R230, R236). Its write checks no owner and changes none.
(Log entries 59 DEDUCED, 137 DESIGN CHOICE) -/
def closeWindow (east : Bool) (idx : BitVec 4) (s : State) : State :=
  match setEntry s east idx with
  | none => s
  | some t =>
    let tick := closeTickets t.stages
    let s := onSet east idx (fun t => { t with
      windows := t.windows + 1
      stages := (t.stages.zip tick).map (fun x => { x.1 with tickets := x.2, n := 0, passes := 0, cost := 0 }) }) s
    if t.stats == 0 then s
    else onMem (fun m => writeMem m (routerWho t) t.stats.toNat (statsBytes (t.windows + 1) t.flags t.stages tick)) s

/-- The sink element of a finished record (R232). -/
def sinkElement (t : StageSet) (r : Rec) : List Byte :=
  match r.status with
  | .passed => replaceAt r.composed 0 (recordHeader r.rnum t.allDone 1)
  | .dropped => replaceAt r.submitted 0 (recordHeader r.rnum 0 2)
  | _ => replaceAt r.submitted 0 (recordHeader r.rnum 0 3)

/-- The set retires with the retirement of record LIMIT - 1 (R233). -/
def retireSet (east : Bool) (idx : BitVec 4) (s : State) : State :=
  match setEntry s east idx with
  | none => s
  | some t => onMem (fun m => cbEnd m t.sink.toNat 1) (onSet east idx (fun t => { t with isRetired := true }) s)

/-- The 64-byte HBM accesses of a record's side entries, and of the FLAGS word where they change it (R295).
(Log entry 48, DEDUCED) -/
def sideLines (t : StageSet) (r : Rec) (m : Mem) : Nat :=
  hbmAccesses (r.sides.map (fun e => { lane := 0, addr := e.2.2.1.toNat, len := if e.2.1.toNat == 2 then 4 else 8 })) +
    (if t.stats == 0 || (sidesDone t r m).2 == t.flags then 0
     else hbmAccesses [{ lane := 0, addr := t.stats.toNat + 8, len := 4 }])

/-- The 64-byte HBM accesses of a record's publication: its store entry read, and the statistics area when its window closes
(R295).
(Log entry 48, DEDUCED) -/
def retireLines (t : StageSet) (r : Rec) : Nat :=
  entryLines t r.rnum +
    (if (r.rnum.toNat + 1) % 2 ^ t.lwin == 0 && t.stats != 0 then
      hbmAccesses [{ lane := 0, addr := t.stats.toNat, len := 16 + 16 * t.stages.length }] else 0)

/-- Whether a record's store entry holds an uncorrectable error (R334). -/
def entryDamaged (m : Mem) (t : StageSet) (n : BitVec 48) : Bool := anyDamaged m [(t.entryAt n, t.entryLen)]

/-- The side entries of a finished record applied, once (R232). -/
def retireSides (t : StageSet) (r : Rec) (s : State) : State :=
  let reads := (r.sides.filter (·.2.1 != 0)).map (fun e => (e.2.2.1.toNat, if e.2.1.toNat == 2 then 4 else 8))
  if r.sides.isEmpty then s
  else unlessDamaged t.region (anyDamaged s.mem reads) (setMetered t 0 (sideLines t r s.mem) (fun s =>
    onSet t.east t.idx (onRec r.rnum (fun r => { r with sides := [] })) (applySides t r s))) s

/-- A finished record whose side entries are applied published in the sink, counted and freed (R232). A sink that its consumer
sees as ended is written as any other.
(Log entry 116, DESIGN CHOICE) -/
def publishRecord (t : StageSet) (r : Rec) (s : State) : State :=
  let d := cbRead s.mem t.sink.toNat
  let a := d.elem d.pcnt
  let ag := routerAgent t.east
  match (granuleParts a t.rsize).findSome? (fun p => writeRaceAt s.mem ag p.1) with
  | some _ => breakSet t.east t.idx s
  | none =>
    let s := onMem (fun m =>
      let m := m.putSpad a (sinkElement t r)
      cbAddP (publishRange m ag a t.rsize) t.sink.toNat 1) s
    let s := onSet t.east t.idx (fun t => { t with retired := t.retired + 1, recs := t.recs.filter (·.rnum != r.rnum) }) s
    let s := if (r.rnum.toNat + 1) % 2 ^ t.lwin == 0 then closeWindow t.east t.idx s else s
    if t.limit != 0 && r.rnum + 1 == t.limit then retireSet t.east t.idx s else s

/-- The retirement of the next record, if it is finished (R232). While the sink is full it waits, its side entries
applied, and nothing more is charged. -/
def retireOne (east : Bool) (idx : BitVec 4) (s : State) : State :=
  match setEntry s east idx with
  | none => s
  | some t =>
    match t.rec? t.retired with
    | none => s
    | some r =>
      if r.status == .inFlight || t.broken then s
      else
        let s := retireSides t r s
        match (setEntry s east idx).bind (·.rec? t.retired) with
        | none => s
        | some r =>
          if !r.sides.isEmpty then s
          else unlessDamaged t.region (anyDamaged s.mem [(t.sink.toNat, 64)] || entryDamaged s.mem t r.rnum) (fun s =>
            if (cbRead s.mem t.sink.toNat).room == 0 then s
            else setMetered t 0 (retireLines t r) (publishRecord t r) s) s

end Sys2Proof.Machine
end

