-- ==== Sys2Proof/Machine/Collective.lean ====
section
/-! DEFINITION. The collective engines of the two dies (R255 to R264): parameter blocks, matching, chunks, reduction in a
carry format, and the end of a call. What peers send arrives with the events that carry it. -/

namespace Sys2Proof.Machine

/-! ### Parameter blocks -/

/-- A parameter block with its group table (R255, R256). -/
structure CollBlock where
  pkt : FirstPacket
  alg : Nat
  prio : Nat
  vc : BitVec 4
  clog : Nat
  send : Nat
  recv : Nat
  cscr : Nat
  sync : Nat
  gtab : Nat
  t1 : Nat
  t2 : Nat
  deriving DecidableEq, Repr

/-- The fields of a parameter block (R255). -/
def parseColl (b : List Byte) : CollBlock :=
  let w0 := fieldAt b 0 8
  let w1 := fieldAt b 8 8
  { pkt := { group := BitVec.ofNat 16 (w0 / 2 ^ 24), cseq := BitVec.ofNat 32 w1, op := BitVec.ofNat 8 w0,
             rop := BitVec.ofNat 4 (w0 / 2 ^ 8), dtype := BitVec.ofNat 4 (w0 / 2 ^ 12), carry := BitVec.ofNat 4 (w0 / 2 ^ 16),
             ord := w0 / 2 ^ 40 % 2 == 1, ckt := w0 / 2 ^ 41 % 2 == 1, count := BitVec.ofNat 64 (fieldAt b 0x10 8),
             root := BitVec.ofNat 16 (fieldAt b 0x48 2) }
    alg := w0 / 2 ^ 20 % 16, prio := w1 / 2 ^ 32 % 32, vc := BitVec.ofNat 4 (w1 / 2 ^ 40), clog := w1 / 2 ^ 48 % 32,
    send := fieldAt b 0x18 8, recv := fieldAt b 0x20 8, cscr := fieldAt b 0x28 8, sync := fieldAt b 0x30 8,
    gtab := fieldAt b 0x38 8, t1 := fieldAt b 0x40 4, t2 := fieldAt b 0x44 4 }

/-- Whether an operation reduces (R259). -/
def isReduction (op : Byte) : Bool := op == 0 || op == 1 || op == 4

/-- Bits of one element in memory. -/
def elementBits (dtype : BitVec 4) : Nat :=
  match dtype.toNat with
  | 1 | 3 => 32
  | 2 => 16
  | 8 => 4
  | 10 => 6
  | _ => 8

/-- Bytes of COUNT elements, or of COUNT tiles (R255). -/
def countBytes (p : FirstPacket) : Nat :=
  if p.ckt then p.count.toNat * tileBytes p.dtype else (p.count.toNat * elementBits p.dtype + 7) / 8

/-- Bytes of SEND that a rank needs (R259). -/
def sendBytes (p : FirstPacket) (g rank : Nat) : Nat :=
  match p.op.toNat with
  | 1 | 6 => g * countBytes p
  | 3 => if rank == p.root.toNat then countBytes p else 0
  | 5 => 0
  | _ => countBytes p

/-- Bytes of RECV that a rank's call completes (R259). -/
def recvBytes (p : FirstPacket) (g rank : Nat) : Nat :=
  match p.op.toNat with
  | 2 | 6 => g * countBytes p
  | 4 => if rank == p.root.toNat then countBytes p else 0
  | 5 => 0
  | _ => countBytes p

/-- The format that combining uses (R260). -/
def carryOf (p : FirstPacket) : BitVec 4 :=
  if p.dtype == 3 then 3 else if p.carry == 0 then 1 else p.carry

/-- Bytes of the carry scratch (R255). -/
def scratchBytes (b : CollBlock) : Nat :=
  if isReduction b.pkt.op then 2 ^ ((if b.clog == 0 then 15 else b.clog) + 1) * elementBits (carryOf b.pkt) / elementBits b.pkt.dtype
  else 0

/-- A buffer wholly in scratchpad, or wholly in covered extents with the rights of its use (R257). -/
def bufferOk (m : Mem) (w : Who) (a n : Nat) (needR needW : Bool) : Bool :=
  n == 0 ||
  (match rowOf a with
  | some (.scratchpad, hi) => a + n ≤ hi
  | some (.extent, hi) => a + n ≤ hi && (pageParts a n).all (fun p =>
      match coverOf m w p.1 with
      | some e => (!needR || e.attr.getLsbD 1) && (!needW || e.attr.getLsbD 2)
      | none => false)
  | _ => false)

/-- The engine acting for a region. -/
def collAgent (east : Bool) : BitVec 9 := if east then 323 else 322

/-- The group table read whole: group size, own rank, first window and the members' chips (R256). -/
structure GroupTable where
  g : Nat
  rank : Nat
  rw : BitVec 12
  chips : List (BitVec 12)
  ok : Bool
  deriving DecidableEq, Repr

/-- The group table at an address (R256). -/
def readGroup (m : Mem) (w : Who) (a : Nat) : GroupTable :=
  let h := readMem m w a 16
  let g := fieldAt h 0 2
  let inReach := bufferOk m w a (16 + 2 * g) true false
  { g := g, rank := fieldAt h 2 2, rw := BitVec.ofNat 12 (fieldAt h 4 2),
    chips := (List.range g).map (fun r => BitVec.ofNat 12 (readWord m w (a + 16 + 2 * r) 2)),
    ok := a % 16 == 0 && 1 ≤ g && g ≤ 4096 && inReach && fieldAt h 4 2 + 3 < 4096 && (bytesAt h 6 10).all (· == 0) }

/-- Whether a power of two. -/
def isPow2 (n : Nat) : Bool := n != 0 && 2 ^ n.log2 == n

/-- Whether a carry format is allowed for a data type (R260): the default alone for a type that R260 does not name.
(Log entry 40, DEDUCED) -/
def carryOk (p : FirstPacket) : Bool :=
  p.carry == 0 ||
    (if p.dtype == 3 then p.carry == 3 else (p.dtype == 1 || p.dtype == 2) && (p.carry == 1 || p.carry == 2))

/-- The checks of R257 on a block, its group table and the communicators already in use.
(Log entry 40, DEDUCED) -/
def collOk (s : State) (w : Who) (b : CollBlock) (t : GroupTable) : Bool :=
  let p := b.pkt
  let align := if p.ckt then 256 else 64
  let red := isReduction p.op
  p.op.toNat ≤ 6 && p.dtype.toNat ≤ 10 && b.alg ≤ 4 &&
    (!red || ((p.dtype == 1 || p.dtype == 2 || p.dtype == 3) && p.rop.toNat ≤ 5 && (p.rop.toNat < 3 || p.dtype == 3))) &&
    carryOk p &&
    (!p.ckt || (p.dtype != 0 && (!red || p.dtype == 1 || p.dtype == 3))) && t.ok && (b.alg != 3 || isPow2 t.g) &&
    (b.clog == 0 || (12 ≤ b.clog && b.clog ≤ 20)) && b.prio ≤ 23 && t.rank < t.g && p.root.toNat < t.g &&
    b.send % align == 0 && b.recv % align == 0 && b.cscr % align == 0 &&
    bufferOk s.mem w b.send (sendBytes p t.g t.rank) true false &&
    bufferOk s.mem w b.recv (recvBytes p t.g t.rank) false true && bufferOk s.mem w b.cscr (scratchBytes b) true true &&
    !s.coll.comms.any (fun c => c.region == s.regionHandle && c.group != p.group &&
      (c.vc == b.vc || rangesMeet c.rw.toNat 4 t.rw.toNat 4))

/-! ### Calls -/

/-- The call of a block (R195).
(Log entry 60, DEDUCED) -/
def callOf (s : State) (block : W64) : Option Call := s.coll.calls.find? (·.block == block)

/-- A call changed. -/
def onCall (block : W64) (f : Call → Call) (s : State) : State :=
  onColl (fun c => { c with calls := c.calls.map (fun x => if x.block == block then f x else x) }) s

/-- STATE of a block written by the engine (R255). -/
def setCallState (block : W64) (n : Nat) (s : State) : State := onMem (fun m => setSpadWord m (block.toNat + 0x50) 4 n) s

/-- A call accepted (R195, R258): it enters matching, or runs at once when it has no peer. -/
def acceptCall (block : Nat) (b : CollBlock) (t : GroupTable) (s : State) : State :=
  let c : Call :=
    { block := BitVec.ofNat 64 block, east := s.east, region := s.regionHandle, unit := s.seq.unit, pkt := b.pkt,
      prio := b.prio, vc := b.vc, clog := if b.clog == 0 then 15 else b.clog, send := BitVec.ofNat 64 b.send,
      recv := BitVec.ofNat 64 b.recv, cscr := BitVec.ofNat 64 b.cscr, sync := BitVec.ofNat 64 b.sync,
      t1 := BitVec.ofNat 32 b.t1, t2 := BitVec.ofNat 32 b.t2, g := t.g, rank := t.rank, rw := t.rw, chips := t.chips,
      state := if t.g == 1 then .running else .matching, since := s.clock.time, packets := [], chunk := 0, bdone := 0,
      flags := 0, overflow := none, evicted := false, waiting := false, ending := none }
  let comm : Communicator := { region := s.regionHandle, group := b.pkt.group, vc := b.vc, rw := t.rw }
  let s := onColl (fun e => { e with
    calls := e.calls ++ [c]
    comms := e.comms.filter (fun x => !(x.region == comm.region && x.group == comm.group)) ++ [comm] }) s
  setCallState (BitVec.ofNat 64 block) (if t.g == 1 then 2 else 1)
    (onMem (fun m => ownRange m (collAgent s.east) block 128) s)

/-- A call is to end in a state with a cause and PEER; the first reason stands. -/
def endCall (block : W64) (st : Byte) (cause : BitVec 10) (peer : BitVec 16) (s : State) : State :=
  onCall block (fun c => { c with ending := c.ending.or (some (st, cause, peer)) }) s

/-- An abort sent to every peer of a call, naming this rank (R258, R264). -/
def sendAborts (c : Call) (s : State) : State := onColl (fun e => { e with aborts := e.aborts ++ [(c.block, c.rank)] }) s

/-- `cabort`, or the eviction of the call's region (R195, R264): the call ends aborted with this rank named. -/
def abortCall (block : W64) (s : State) : State :=
  match callOf s block with
  | some c => if c.ending.isSome then s else endCall block 4 0 (BitVec.ofNat 16 c.rank) (sendAborts c s)
  | none => s

/-- A first packet of a peer arrives (R258): a disagreement ends the call, with PEER the lowest rank that disagrees.
(Log entry 60, DEDUCED) -/
def firstPacket (block : W64) (rank : Nat) (p : FirstPacket) (s : State) : State :=
  match callOf s block with
  | none => s
  | some c =>
    let disagrees := c.ending.any (fun e => e.2.1 == causeOf 10 0x04)
    if c.state != .matching || (c.ending.isSome && !disagrees) || c.g ≤ rank || rank == c.rank ||
        c.packets.any (·.1 == rank) then s
    else
      let ps := c.packets ++ [(rank, p)]
      let s := onCall block (fun c => { c with packets := ps }) s
      match (List.range c.g).find? (fun r => ps.any (fun x => x.1 == r && x.2 != c.pkt)) with
      | some r =>
        let s := if disagrees then s else sendAborts c s
        onCall block (fun c => { c with ending := some (5, causeOf 10 0x04, BitVec.ofNat 16 r) }) s
      | none =>
        if ps.length + 1 == c.g then
          setCallState block 2 (onCall block (fun c => { c with state := .running, since := s.clock.time }) s)
        else s

/-- The first-packet timeout (R258): PEER is the lowest missing rank.
(Log entry 60, DEDUCED) -/
def matchTimeout (block : W64) (s : State) : State :=
  match callOf s block with
  | none => s
  | some c =>
    let t1 := if c.t1 == 0 then 10000 else c.t1.toNat
    if c.state == .matching && c.ending.isNone && t1 * 1000 ≤ (s.clock.time - c.since).toNat then
      match (List.range c.g).find? (fun r => r != c.rank && !c.packets.any (·.1 == r)) with
      | some r => endCall block 5 (causeOf 10 0x05) (BitVec.ofNat 16 r) s
      | none => s
    else s

/-- The inter-chunk timeout (R258). The manual names no PEER for it. -/
def chunkTimeout (block : W64) (s : State) : State :=
  match callOf s block with
  | none => s
  | some c =>
    let t2 := if c.t2 == 0 then 1000 else c.t2.toNat
    if c.state == .running && c.ending.isNone && t2 * 1000 ≤ (s.clock.time - c.since).toNat then
      let v := takeFree s
      endCall block 5 (causeOf 10 0x06) (v.1.setWidth 16) v.2
    else s

/-- An abort of a peer arrives (R258, R264). -/
def abortReceived (block : W64) (rank : Nat) (s : State) : State := endCall block 4 0 (BitVec.ofNat 16 rank) s

/-- The death of a path to a peer ends the calls that use it (R265 detail 0x07). -/
def pathDied (chip : BitVec 12) (vc : BitVec 4) (s : State) : State :=
  s.coll.calls.foldl (fun s c =>
    match (List.range c.g).find? (fun r => r != c.rank && c.chips.getD r 0 == chip) with
    | some r => if c.vc == vc then endCall c.block 5 (causeOf 10 0x07) (BitVec.ofNat 16 r) s else s
    | none => s) s

/-! ### Reduction -/

/-- One combining step's outcome: the word, its flags, and the step at which it first overflowed. -/
structure Combined where
  val : W32
  flags : Flags
  hop : Option Nat
  deriving DecidableEq, Repr

/-- The type code of R241 for a format. -/
def redTypeOf (fmt : BitVec 4) : BitVec 2 := if fmt == 3 then 3 else if fmt == 2 then 2 else 1

/-- One combining step (R250, R260); minimum and maximum of bf16 words compare them as binary32. -/
def combineStep (rop : BitVec 4) (fmt : BitVec 4) (a b : W32) : W32 × Flags × Bool :=
  if fmt == 2 && (rop == 1 || rop == 2) then
    let r := combineElem (rop + 1) 1 (a <<< 16) (b <<< 16)
    (r.1 >>> 16, r.2.1, r.2.2)
  else combineElem (rop + 1) (redTypeOf fmt) a b

/-- A word of one format converted to another by RNE (R47, R260), and whether a finite value overflowed. -/
def convertCarry (src dst : BitVec 4) (x : W32) : W32 × Flags × Bool :=
  if src == dst then (x, 0, false)
  else if dst == 2 then
    let r := toBf16 false (decodeF32 x)
    (r.val, r.flags, r.flags &&& flagOF != 0)
  else (x <<< 16, 0, false)

/-- Contributions combined in rank order (R259): step q takes the contribution of rank q. -/
def foldRanks (rop fmt : BitVec 4) : Nat → Combined → List Combined → Combined
  | _, acc, [] => acc
  | q, acc, x :: xs =>
    let r := combineStep rop fmt acc.val x.val
    foldRanks rop fmt (q + 1)
      { val := r.1, flags := acc.flags ||| x.flags ||| r.2.1,
        hop := acc.hop.or (if x.hop.isSome || r.2.2 then some q else none) } xs

/-- Contributions combined along some binary tree (R259 without ORD): the two taken at each step are free choices. -/
def foldTree (rop fmt : BitVec 4) (key : Nat) : Nat → Nat → List Combined → Option Combined
  | 0, _, xs => xs.head?
  | fuel + 1, q, xs =>
    if xs.length ≤ 1 then xs.head?
    else
      let i := Config.combineChoice key (2 * q) xs.length % xs.length
      let rest := xs.eraseIdx i
      let j := Config.combineChoice key (2 * q + 1) rest.length % rest.length
      match xs[i]?, rest[j]? with
      | some a, some b =>
        let r := combineStep rop fmt a.val b.val
        foldTree rop fmt key fuel (q + 1)
          ({ val := r.1, flags := a.flags ||| b.flags ||| r.2.1,
             hop := a.hop.or (b.hop.or (if r.2.2 then some q else none)) } :: rest.eraseIdx j)
      | _, _ => none

/-- RED of one element from every rank's word (R259, R260). `key` selects the tree when the call has no ORD. -/
def reduceWord (p : FirstPacket) (g key : Nat) (xs : List W32) : Combined :=
  let cf := carryOf p
  let cs := xs.zipIdx.map (fun x =>
    let r := convertCarry p.dtype cf x.1
    ({ val := r.1, flags := r.2.1, hop := if r.2.2 then some x.2 else none } : Combined))
  let acc := if p.ord then
      match cs with
      | [] => { val := 0, flags := 0, hop := none }
      | c :: rest => foldRanks p.rop cf 1 c rest
    else (foldTree p.rop cf key g 1 cs).getD { val := 0, flags := 0, hop := none }
  let r := convertCarry cf p.dtype acc.val
  { val := r.1, flags := acc.flags ||| r.2.1, hop := acc.hop.or (if r.2.2 then some g else none) }

/-- RED of equal byte strings, element by element (R259): the bytes, the flags and the first overflowing step. -/
def reduceBytes (p : FirstPacket) (g key : Nat) (xs : List (List Byte)) : List Byte × Flags × Option Nat :=
  let n := elementBits p.dtype / 8
  let len := (xs.headD []).length
  (List.range (len / n)).foldl (fun acc i =>
    let r := reduceWord p g key (xs.map (fun b => BitVec.ofNat 32 (fieldAt b (n * i) n)))
    (acc.1 ++ bytesOfNat n r.val.toNat, acc.2.1 ||| r.flags, acc.2.2.or r.hop)) ([], 0, none)

/-- The contents of a tile in memory. -/
def tileOf (fmt : BitVec 4) (bs : List Byte) : MemTile :=
  parseTile fmt ((List.range 64).map (fun m => bytesAt bs (m * rowBytes fmt) (rowBytes fmt))) (bs.drop (dataBytes fmt))
    (bs.drop (dataBytes fmt + trailerBytes fmt))

/-- The values of a tile in memory. -/
def MemTile.values (fmt : BitVec 4) (t : MemTile) : List (List Num) := tileValues fmt (scalable fmt) t.data t.scales

/-- A tile verified by R58 (R261 for operations that move). -/
def tileVerifies (fmt : BitVec 4) (bs : List Byte) : Bool :=
  let t := tileOf fmt bs
  let v := verifySums fmt (t.values fmt) { rows := t.rows, cols := t.cols }
  v.rows.isEmpty && v.cols.isEmpty && t.badScale.isNone

/-- Whether stored sums lie within 2^-22 (g + 4) M of recomputed ones (R72). -/
def sumsWithin (fmt : BitVec 4) (k : Nat) (stored fresh mags : List W32) : Bool :=
  (stored.zip (fresh.zip mags)).all (fun y =>
    y.1 == y.2.1 || (!isIntFmt fmt && finiteF32 y.1 && finiteF32 y.2.1 &&
      numWithin (decodeF32 y.2.1) (decodeF32 y.1) (tolerance k y.2.2)))

/-- The final verification of a reduced tile with the magnitudes carried beside it (R72, R261). -/
def reducedVerifies (p : FirstPacket) (g key : Nat) (parts : List (List Byte)) (res : List Byte) : Bool :=
  let t := tileOf p.dtype res
  let fresh := formSums p.dtype (t.values p.dtype)
  let mags := parts.map (fun b =>
    let m := formMags p.dtype ((tileOf p.dtype b).values p.dtype)
    m.rows ++ m.cols)
  let fp := { p with dtype := 1, carry := if p.dtype == 3 then 0 else p.carry }
  let m := (List.range ((mags.headD []).length)).map (fun i => (reduceWord fp g key (mags.map (fun x => x.getD i 0))).val)
  sumsWithin p.dtype (g + 4) (t.rows ++ t.cols) (fresh.rows ++ fresh.cols) m

/-! ### Chunks -/

/-- Bytes of one chunk (R255 CLOG): whole tiles when the elements are tiles. -/
def Call.chunkBytes (c : Call) : Nat :=
  if c.pkt.ckt then max 1 (2 ^ c.clog / tileBytes c.pkt.dtype) * tileBytes c.pkt.dtype else 2 ^ c.clog

/-- Blocks of COUNT elements that a call's chunks step through (R259): of SEND for a reduce-scatter or an all-to-all, of RECV
for an all-gather. -/
def Call.blocks (c : Call) : Nat :=
  if c.pkt.op == 5 then 0 else if c.pkt.op == 1 || c.pkt.op == 2 || c.pkt.op == 6 then c.g else 1

/-- Chunks of one block. -/
def Call.perBlock (c : Call) : Nat := (countBytes c.pkt + c.chunkBytes - 1) / c.chunkBytes

/-- Chunks of a call. -/
def Call.chunks (c : Call) : Nat := c.blocks * c.perBlock

/-- The block of a call's next chunk: a reduce-scatter starts with the block after the rank's own, which comes last (R284).
(Log entry 82, DEDUCED) -/
def Call.chunkBlock (c : Call) : Nat :=
  let i := c.chunk / max 1 c.perBlock
  if c.pkt.op == 1 then (c.rank + 1 + i) % max 1 c.g else i

/-- The bytes of its block that a call's next chunk covers: offset and length. -/
def Call.span (c : Call) : Nat × Nat :=
  let lo := c.chunk % max 1 c.perBlock * c.chunkBytes
  (lo, min c.chunkBytes (countBytes c.pkt - lo))

/-- A span of block j. -/
def Call.inBlock (c : Call) (j : Nat) : Nat × Nat := (j * countBytes c.pkt + c.span.1, c.span.2)

/-- Where rank r's SEND holds what the next chunk adds to this rank's RECV: offset and length (R259). -/
def Call.sendRange (c : Call) (r : Nat) : Nat × Nat :=
  let j := c.chunkBlock
  match c.pkt.op.toNat with
  | 1 => if j == c.rank then c.inBlock c.rank else (0, 0)
  | 2 => if r == j then c.span else (0, 0)
  | 3 => if r == c.pkt.root.toNat then c.span else (0, 0)
  | 4 => if c.rank == c.pkt.root.toNat then c.span else (0, 0)
  | 6 => if r == j then c.inBlock c.rank else (0, 0)
  | _ => c.span

/-- The bytes of this rank's SEND that the next chunk reads, for its own RECV or to send (R259). -/
def Call.readRange (c : Call) : Nat × Nat :=
  let j := c.chunkBlock
  match c.pkt.op.toNat with
  | 1 | 6 => c.inBlock j
  | 2 => if j == c.rank then c.span else (0, 0)
  | 3 => if c.rank == c.pkt.root.toNat then c.span else (0, 0)
  | _ => c.span

/-- Where the next chunk falls in this rank's RECV, if it writes there: offset and length (R259). -/
def Call.recvRange (c : Call) : Nat × Nat :=
  let j := c.chunkBlock
  match c.pkt.op.toNat with
  | 1 => if j == c.rank then c.span else (0, 0)
  | 2 | 6 => c.inBlock j
  | 3 => if c.rank == c.pkt.root.toNat && c.recv == c.send then (0, 0) else c.span
  | 4 => if c.rank == c.pkt.root.toNat then c.span else (0, 0)
  | _ => c.span

/-- Bytes of the carry scratch that a chunk of n result bytes uses (R255). -/
def Call.scratch (c : Call) (n : Nat) : Nat :=
  if isReduction c.pkt.op then n * elementBits (carryOf c.pkt) / max 1 (elementBits c.pkt.dtype) else 0

/-- Effective priority of a call (R263). -/
def Call.effPrio (c : Call) (now : W64) : Nat :=
  if c.prio ≥ 20 then c.prio else max c.prio (min 19 (c.prio + min 3 ((now - c.since).toNat / 50000)))

/-- The call of highest effective priority among those of a list, the earliest accepted on a tie (R263). -/
def bestCall (now : W64) (cs : List Call) : Option Call :=
  cs.foldl (fun b c => match b with
    | some x => if c.effPrio now > x.effPrio now then some c else some x
    | none => some c) none

/-- A fault of the engine on SEND, RECV or CSCR (R262): the call ends with its cause, aborts leave, and it is raised at the issuing
unit if it is still placed. -/
def callFault (c : Call) (f : Failure) (s : State) : State :=
  let s := endCall c.block 5 (causeOf f.trap.cls f.trap.detail) (BitVec.ofNat 16 c.rank) (sendAborts c s)
  if c.unit.isSome && s.seq.unit == c.unit then
    onSeq (fun q => { q with raceinfo := f.race.getD q.raceinfo
                             engineFaults := q.engineFaults ++ [{ f.trap with source := 3 }] }) s
  else s

/-- The engine as it accesses memory for a call. -/
def callWho (s : State) (c : Call) : Who := regionWho s (collAgent c.east) c.region

/-- The engine's own use of the carry scratch for n result bytes (R255, R259): the manual does not give what it holds.
(Log entry 108, DESIGN CHOICE) -/
def useScratch (c : Call) (w : Who) (n : Nat) (s : State) : State :=
  if c.scratch n == 0 then s
  else
    let a := c.cscr.toNat
    onMem (fun m =>
      let m := writeMem m w a ((List.range (c.scratch n)).map (Config.scratchByte s.freeCount))
      if a < 0x14000000 then ownRange m w.agent a (c.scratch n) else m) { s with freeCount := s.freeCount + 1 }

/-- The 64-byte HBM accesses that a call's next chunk reads, and those of its carry scratch (R295). -/
def Call.readLines (c : Call) : Nat :=
  hbmAccesses [{ lane := 0, addr := c.send.toNat + c.readRange.1, len := c.readRange.2 },
    { lane := 0, addr := c.cscr.toNat, len := c.scratch c.recvRange.2 }]

/-- The 64-byte HBM accesses that a call's next chunk writes into RECV (R295). -/
def Call.writeLines (c : Call) : Nat :=
  hbmAccesses [{ lane := 0, addr := c.recv.toNat + c.recvRange.1, len := c.recvRange.2 }]

/-- The 64-byte HBM accesses of a call's next chunk (R295). -/
def Call.lines (c : Call) : Nat := c.readLines + c.writeLines

/-- Whether the other ranks' bytes are those that a call's next chunk takes of them (R259 to R261). -/
def Call.fits (c : Call) (peers : List (List Byte)) : Bool :=
  (List.range c.g).all (fun r => r == c.rank || (peers.getD r []).length == (c.sendRange r).2)

/-- One chunk of a call (R259 to R261), with the bytes of the other ranks that it takes, once they are there. It is charged as it
starts, and its accesses as they are made (R295). BDONE counts the bytes of RECV written.
(Log entry 82, DEDUCED) -/
def runChunk (c : Call) (peers : List (List Byte)) (s : State) : State :=
  if !c.fits peers then s else
  let w := callWho s c
  let own := c.readRange
  let take := c.sendRange c.rank
  let into := c.recvRange
  let scratch := c.scratch into.2
  let s := charge c.east c.region 5 1 (onCall c.block (fun x => { x with waiting := false }) s)
  match (if own.2 == 0 then none else checkAgent s w false (c.send.toNat + own.1) own.2).or
      (if scratch == 0 then none else checkAgent s w true c.cscr.toNat scratch) with
  | some f => callFault c f s
  | none =>
    let mine := readMem s.mem w (c.send.toNat + take.1) take.2
    let parts := (List.range c.g).map (fun r => if r == c.rank then mine else peers.getD r [])
    let s := charge c.east c.region 0 c.readLines s
    let red := isReduction c.pkt.op && into.2 != 0
    let res : List Byte × Flags × Option Nat :=
      if red then reduceBytes c.pkt c.g s.freeCount parts else (parts.flatten, 0, none)
    let size := tileBytes c.pkt.dtype
    let tiles := if c.pkt.ckt then List.range (into.2 / size) else []
    let bad := tiles.find? (fun k =>
      let t := bytesAt res.1 (k * size) size
      if red then !reducedVerifies c.pkt c.g s.freeCount (parts.map (fun b => bytesAt b (k * size) size)) t
      else !tileVerifies c.pkt.dtype t)
    let s := useScratch c w into.2 (if red && !c.pkt.ord then { s with freeCount := s.freeCount + 1 } else s)
    let s := onCall c.block (fun x => { x with flags := x.flags ||| res.2.1, overflow := x.overflow.or res.2.2,
                                               since := s.clock.time }) s
    match bad with
    | some _ =>
      let v := takeFree s
      let peer : BitVec 16 := if red then v.1.setWidth 16
        else BitVec.ofNat 16 (if c.pkt.op == 3 then c.pkt.root.toNat else c.chunkBlock)
      endCall c.block 5 (causeOf 10 0x08) peer (if red then v.2 else s)
    | none =>
      match (if into.2 == 0 then none else checkAgent s w true (c.recv.toNat + into.1) into.2) with
      | some f => callFault c f s
      | none =>
        let s := charge c.east c.region 0 c.writeLines s
        let s := if into.2 == 0 then s
          else onMem (fun m =>
              let m := writeMem m w (c.recv.toNat + into.1) res.1
              if c.recv.toNat < 0x14000000 then ownRange m w.agent (c.recv.toNat + into.1) into.2 else m) s
        onCall c.block (fun x => { x with chunk := x.chunk + 1, bdone := x.bdone + into.2 }) s

/-- Whether a call still has a chunk to run. -/
def Call.hasChunk (c : Call) : Bool := c.state == .running && c.ending.isNone && c.chunk < c.chunks

/-- Whether a call's next chunk meets an uncorrectable error in the slice that holds SEND (R334). -/
def chunkDamaged (s : State) (c : Call) : Bool := anyDamaged s.mem [(c.send.toNat + c.readRange.1, c.readRange.2)]

/-- Whether a call's next chunk is admitted by its region's budget (R295, R296). -/
def chunkAdmitted (s : State) (c : Call) : Bool :=
  admitted s c.east c.region 5 && (c.lines == 0 || admitted s c.east c.region 0)

/-- The calls of a die that have a chunk to run and whose peers have credited space. -/
def readyCalls (s : State) (east : Bool) (credited : List W64) : List Call :=
  s.coll.calls.filter (fun c => c.east == east && c.hasChunk && credited.contains c.block)

/-- The ready calls of a list that their regions' budgets hold back while one that goes after them starts, or none does (R296). -/
def heldCalls (s : State) (cs : List Call) : List Call :=
  let next := bestCall s.clock.time (cs.filter (chunkAdmitted s))
  cs.filter (fun c => !chunkAdmitted s c && (match next with
    | some x => ((bestCall s.clock.time (cs.filter (fun y => y.block == c.block || y.block == x.block))).map (·.block)) == some c.block
    | none => true))

/-- The start of a call's budget wait is counted, once (R296). -/
def noteHeld (c : Call) (s : State) : State :=
  if c.waiting then s else countStall c.east c.region (onCall c.block (fun x => { x with waiting := true }) s)

/-- One chunk started on a die (R263): among the running calls whose peers have credited space, the one of highest effective
priority whose region's budget admits it. -/
def chunkStart (east : Bool) (credited : List W64) (peers : List (List Byte)) (s : State) : State :=
  let cs := readyCalls s east credited
  let s' := (heldCalls s cs).foldl (fun s c => noteHeld c s) s
  match bestCall s.clock.time (cs.filter (chunkAdmitted s)) with
  | some c =>
    runChunk c peers s'
  | none => s'

/-! ### The end of a call -/

/-- How a call ends now, if it does: by its ending, or done when every chunk has run (R262). -/
def Call.outcome (c : Call) : Option (Byte × BitVec 10 × BitVec 16) :=
  match c.ending with
  | some e => some e
  | none => if c.state == .running && c.chunks ≤ c.chunk then some (3, 0, 0) else none

/-- The word at 0x60 of a block (R255). -/
def Call.flagsWord (c : Call) : Nat :=
  c.overflow.isSome.toNat + 16 * c.flags.toNat + 65536 * (c.overflow.getD 0)

/-- A call ends (R262): its fields, the publication of RECV and the block, and one arrival that advances SYNC by one, unless the
sync word holds an uncorrectable error (R334). -/
def finishCall (block : W64) (s : State) : State :=
  match callOf s block with
  | none => s
  | some c =>
    match c.outcome with
    | none => s
    | some (st, cause, peer) =>
      let a := block.toNat
      let ag := collAgent c.east
      let y := c.sync.toNat
      let bits : W32 := (if st == 4 then 16 else 0) ||| (if st == 5 then 1 else 0) ||| (if c.overflow.isSome then 0x20 else 0)
      let n := if c.recv.toNat < 0x14000000 then recvBytes c.pkt c.g c.rank else 0
      let s := onMem (fun m =>
        let m := setSpadWord m (a + 0x50) 4 st.toNat
        let m := setSpadWord m (a + 0x58) 8 c.bdone
        let m := setSpadWord m (a + 0x60) 4 c.flagsWord
        let m := setSpadWord m (a + 0x68) 4 cause.toNat
        let m := setSpadWord m (a + 0x6C) 2 peer.toNat
        let m := publishRange (publishRange m ag c.recv.toNat n) ag a 128
        if bits == 0 then m else if st == 5 then syncMark m y bits cause
          else setSpadWord m (y + 12) 4 (syncStatus m y ||| bits).toNat) s
      let s := unlessDamaged c.region (anyDamaged s.mem [(y, 16)]) (advanceGen y) s
      let s := if syncTarget s.mem y == 0 then logEntry (.badSync c.sync) s else s
      onColl (fun e => { e with calls := e.calls.filter (·.block != block) }) s

/-- `cwait` and `cstat` from a block whose call is not in flight (R195). -/
def blockStatus (m : Mem) (block : Nat) : W64 :=
  match spadWord m (block + 0x50) 4 with
  | 3 => 0
  | 4 => BitVec.ofInt 64 (-6)
  | _ => BitVec.ofInt 64 (-7)

end Sys2Proof.Machine
end

