-- ==== Sys2Proof/Machine/Unit.lean ====
section
/-! DEFINITION. Units and launches as the bay and dispatch keep them (R17 to R20, R309): what a unit's end does to buffers,
ownership and its launch, the killing of regions (R293), machine checks (R325) and the delivery of traps (R316, R234). -/

namespace Sys2Proof.Machine

/-! ### Units and launches -/

/-- A unit that dispatch keeps. -/
def unitOf (s : State) (k : Nat) : Option UnitRec := s.disp.units.find? (·.key == k)

/-- A unit's record changed. -/
def onUnit (k : Nat) (f : UnitRec → UnitRec) (s : State) : State :=
  onDisp (fun d => { d with units := d.units.map (fun u => if u.key == k then f u else u) }) s

/-- A launch that dispatch keeps. -/
def launchOf (s : State) (k : Nat) : Option Launch := s.disp.launches.find? (·.key == k)

/-- A launch changed. -/
def onLaunch (k : Nat) (f : Launch → Launch) (s : State) : State :=
  onDisp (fun d => { d with launches := d.launches.map (fun l => if l.key == k then f l else l) }) s

/-- The bay's own placed unit. -/
def placedUnit (s : State) : Option UnitRec :=
  match s.seq.unit with
  | some k => unitOf s k
  | none => none

/-- A unit that has not ended. -/
def UnitRec.live (u : UnitRec) : Bool := u.phase != .ended

/-- A unit that stands on its bay. -/
def UnitRec.onBay (u : UnitRec) : Bool := u.phase == .placed

/-! ### What a unit leaves behind -/

/-- The agents of a bay: its sequencer and its copy engine. -/
def bayAgents (bay : Nat) : List (BitVec 9) := [BitVec.ofNat 9 bay, BitVec.ofNat 9 (160 + bay)]

/-- Every granule held EXCL by a bay's agents returns to OPEN (R210). -/
def releaseBay (bay : Nat) (m : Mem) : Mem :=
  { m with owner := m.owner.filter (fun c => match c.2 with
      | .excl a => !(bayAgents bay).contains a
      | .pub => true) }

/-- The base of a unit's save slot (R329). -/
def slotBase (s : State) (u : UnitRec) : Nat :=
  match nodeOf s.fw u.region with
  | some n => n.save.toNat + 0x400000 * u.slot
  | none => 0

/-- The supervisor's access to a region's memory. -/
def regionSup (s : State) (h : W32) : Who := { regionWho s s.agent h with sup := true }

/-- Where a unit's slice image holds an address of its slice (R328). -/
def imageAt (s : State) (u : UnitRec) (a : Nat) : Nat := slotBase s u + 0x100000 + a % 0x200000

/-- The units whose saved slice image holds a descriptor with given agents, by PAGENT and CAGENT (R328). -/
def imagesOf (s : State) (judge : Nat → Nat → Bool) (a : Nat) : List UnitRec :=
  s.disp.units.filter (fun u => u.live && u.slice && u.bay == a / 0x200000 &&
    (let b := readMem s.mem (regionSup s u.region) (imageAt s u a) 64
     judge (fieldAt b 32 2) (fieldAt b 34 2)))

/-- The descriptor at an offset of a unit's slice image ends in a STATE, from OPEN only (R183). -/
def endImage (st a : Nat) (u : UnitRec) (s : State) : State :=
  let w := regionSup s u.region
  if readWord s.mem w (imageAt s u a + 15) 1 == 0 then onMem (fun m => writeWord m w (imageAt s u a + 15) 1 st) s else s

/-- A buffer with given agents ends in a STATE (R183): in the saved images that hold its descriptor, or else in its slice.
(Log entry 138, DEDUCED) -/
def endBuffer (st : Nat) (judge : Nat → Nat → Bool) (s : State) (a : W64) : State :=
  match imagesOf s judge a.toNat with
  | [] => onMem (fun m =>
      let d := cbRead m a.toNat
      if judge d.pagent d.cagent then cbEnd m a.toNat st else m) s
  | us => us.foldl (fun s u => endImage st a.toNat u s) s

/-- Whether a number of an agent names one of a bay's. -/
def isOfBay (bay agent : Nat) : Bool := (bayAgents bay).contains (BitVec.ofNat 9 agent)

/-- Buffers among a list whose producer is an agent of a bay end in a STATE (R183). -/
def endProduced (bay st : Nat) (bufs : List W64) (s : State) : State :=
  bufs.foldl (endBuffer st (fun p _ => isOfBay bay p)) s

/-- Buffers among a list with an agent of a bay on either side become BROKEN (R183, R293). -/
def breakBuffers (bay : Nat) (bufs : List W64) (s : State) : State :=
  bufs.foldl (endBuffer 4 (fun p c => isOfBay bay p || isOfBay bay c)) s

/-- The bay's copy engine with nothing queued or armed. -/
def Copy.idle : Copy := { queue := [], armed := [], fired := [], doneCount := 0, written := [] }

/-- The bay without a unit: engine and slots as at a unit's start, nothing waiting (R180, R188). -/
def vacate (s : State) : State :=
  onCopy (fun _ => Copy.idle)
    (onSeq (fun q => { q with unit := none, slots := Vector.replicate 16 CbSlot.unbound, buffers := [], held := none,
                              wait := none, preempt := none, engineFaults := [], ifq := [], sb := [], cpycHold := false,
                              resumeDone := 0, group := Group.closed }) s)

/-- The members of an instance. -/
def instanceOf (s : State) (launch idx : Nat) : List UnitRec :=
  s.disp.units.filter (fun u => u.launch == launch && u.idx == idx)

/-- An instance all of whose members have ended is counted, as completed or as ended by a fault (R20, R309). -/
def countInstance (launch idx : Nat) (s : State) : State :=
  let ms := instanceOf s launch idx
  if ms.all (fun u => u.phase == .ended) then
    onLaunch launch (fun l =>
      if ms.all (fun u => u.cause == 0) then { l with ndone := l.ndone + 1 } else { l with ended := l.ended + 1 }) s
  else s

/-- The reply of a fault handler at its end: the REPLY field of the record it served (R27). -/
def postReply (faulted : Nat) (s : State) : State :=
  match unitOf s faulted with
  | none => s
  | some u =>
    match u.record with
    | none => s
    | some a =>
      let w := regionWho s s.agent u.region
      let r := readWord s.mem { w with sup := true } (a.toNat + 0x78) 8
      onDisp (fun d => { d with replies := d.replies ++
        [{ unit := faulted, action := BitVec.ofNat 8 r, tile := BitVec.ofNat 4 (r / 256) }] }) s

/-- What the completion of a placed unit does (R19, R183, R210): its buffers end EXITED, its granules are released, its launch
counts it, and a fault handler task gives its reply. -/
def endUnit (u : UnitRec) (bufs : List W64) (s : State) : State :=
  let s := onMem (releaseBay u.bay) (endProduced u.bay 2 bufs s)
  let s := onUnit u.key (fun u => { u with phase := .ended, cause := 0 }) s
  let s := countInstance u.launch u.idx s
  match launchOf s u.launch with
  | some l => match l.handles with
    | some f => postReply f s
    | none => s
  | none => s

/-- The placed unit completes, and its bay is free (R19). -/
def completeUnit (s : State) : State :=
  match placedUnit s with
  | none => s
  | some u => onSeq (fun q => { q with last := none }) (vacate (endUnit u s.seq.buffers s))

/-- The unit last descheduled on a bay, if it stands there still (R210). -/
def lastOn (s : State) (bay : Nat) : Option Nat :=
  if bay == s.seq.bayId.toNat then s.seq.last else (s.disp.retained.find? (·.1 == bay)).map (·.2)

/-- The unit last descheduled on a bay noted. -/
def setLast (bay : Nat) (k : Option Nat) (s : State) : State :=
  if bay == s.seq.bayId.toNat then onSeq (fun q => { q with last := k }) s
  else onDisp (fun d => { d with retained := d.retained.filter (·.1 != bay) ++ (k.toList.map (fun k => (bay, k))) }) s

/-- Whether a bay's loop-back writes have been applied where its chip sees them (R212). -/
def loopbackDrained (s : State) (bay : Nat) : Bool :=
  s.refl.send.all (fun p => p.dst != s.seq.chipId || p.dead || p.unacked.all (fun w => !(bayAgents bay).contains w.agent))

/-- A saved or faulted unit's task ends by action 0 of R27: buffers FAULTED, ownership released where R210 still holds it. -/
def abortUnit (k : Nat) (s : State) : State :=
  match unitOf s k with
  | none => s
  | some u =>
    let here := lastOn s u.bay == some k
    let s := onMem (fun m => if here then releaseBay u.bay m else m) (endProduced u.bay 3 u.buffers s)
    let s := if here then setLast u.bay none s else s
    countInstance u.launch u.idx (onUnit k (fun u => { u with phase := .ended, queue := [], armed := [], frozen := [] }) s)

/-! ### Completion of launches -/

/-- The cause recorded for an outcome (R309). -/
def outcomeCause (l : Launch) (outc : Nat) : BitVec 10 :=
  match outc with
  | 2 => causeOf 12 0x0A
  | 3 => causeOf 12 0x0B
  | 4 => l.fcause.getD 0
  | 5 => causeOf 12 0x0C
  | _ => causeOf 13 0x01

/-- The end of a launch with an outcome (R309): its block's fields, the marks on SYNC, and the arrival. -/
def completeBlock (l : Launch) (outc : Nat) (s : State) : State :=
  let a := l.csync.toNat
  if l.csync == 0 then s
  else if a % 32 != 0 || a + 32 > 0x14000000 then logEntry (.badSync l.csync) s
  else
    let s := onMem (fun m =>
      let m := setSpadWord m (a + 0x10) 4 outc
      let m := setSpadWord m (a + 0x14) 4 l.ndone
      let m := setSpadWord m (a + 0x18) 4 l.skip
      let m := setSpadWord m (a + 0x1C) 4 (l.fcause.getD 0).toNat
      publishRange (if 2 ≤ outc then syncMark m a 1 (outcomeCause l outc) else m) 0x1FF a 32) s
    let s := unlessDamaged l.region (anyDamaged s.mem [(a, 16)]) (advanceGen a) s
    if syncTarget s.mem a == 0 then logEntry (.badSync l.csync) s else s

/-- A killed region whose launches have not all completed yet. -/
def isBreaking (s : State) (h : W32) : Bool := s.disp.breaking.any (·.1 == h)

/-- A launch completes with an outcome; one of a killed region, with BROKEN alone (R293). -/
def completeLaunch (key outc : Nat) (s : State) : State :=
  match launchOf s key with
  | none => s
  | some l =>
    if l.phase == .ended || (isBreaking s l.region && outc != 5) then s
    else onLaunch key (fun l => { l with phase := .ended, outcome := BitVec.ofNat 32 outc }) (completeBlock l outc s)

/-! ### Killing a region -/

/-- The buffers that are known to have a side bound by a unit on its bay, or that a unit off it has bound a side of. -/
def knownBuffers (s : State) (u : UnitRec) : List W64 :=
  if u.onBay then
    let others := s.disp.units.filter (fun x => x.live && (x.bay != u.bay || x.key == u.key))
    let mine := match placedUnit s with
      | some p => if p.bay != u.bay || p.key == u.key then s.seq.buffers else []
      | none => []
    (mine ++ (others.map (·.buffers)).flatten).dedup
  else u.buffers

/-- A region's units stop (R293): their buffers become BROKEN, and the bay's own unit leaves it with its engine's work. -/
def stopUnits (h : W32) (s : State) : State :=
  let us := s.disp.units.filter (fun u => u.region == h && u.live)
  let mine := match placedUnit s with
    | some u => u.region == h
    | none => false
  let s' := us.foldl (fun s' u => breakBuffers u.bay (knownBuffers s u) s') s
  let s' := if mine then vacate s' else s'
  onDisp (fun d => { d with units := d.units.map (fun u =>
    if u.region == h then { u with phase := .ended, queue := [], armed := [], frozen := [] } else u) }) s'

/-- The slices of bays return to OPEN and empty (R146, R210, R293). -/
def clearSlices (bays : List Nat) (m : Mem) : Mem :=
  bays.foldl (fun m b =>
    { m with owner := m.owner.filter (fun c => c.1 / 32768 != b), full := m.full.filter (fun w => w / 262144 != b) }) m

/-- Bytes of record j of a queue (R301). -/
def queueRecord (s : State) (q : Queue) (j : Nat) : List Byte :=
  readMem s.mem (regionWho s s.agent q.region) (q.ring.toNat + 64 * (j % 2 ^ q.log2n)) 64

/-- The records of a killed region's queue that were never taken complete BROKEN (R293). -/
def breakQueue (q : Queue) (s : State) : State :=
  (List.range (q.tail - q.head).toNat).foldl (fun s i =>
    let b := queueRecord s q (q.head.toNat + i)
    let l : Launch :=
      { key := 0, queue := some q.idx, number := q.head + BitVec.ofNat 64 i, handles := none, region := q.region, task := 0,
        kind := 0, recAddr := 0, bmin := 0, bmax := 0, gang := 0, units := 0, argp := 0,
        csync := BitVec.ofNat 64 (fieldAt b 0x20 8), dsync := 0, dgen := 0, dep := false, tt := false, period := 0,
        tstart := 0, skip := 0, members := [], pipes := [], prio := 0, phase := .ready, placed := 0, ndone := 0,
        ended := 0, fcause := none, outcome := 0, waitSince := 0, readyAt := 0, aged := 0, released := [], stamps := [], refusing := false }
    completeBlock l 5 s) s

/-- The launches of a killed region's queues and its other launches complete BROKEN, in queue order (R293). -/
def breakLaunches (h : W32) (s : State) : State :=
  let s := (s.disp.queues.filter (·.region == h)).foldl (fun s q =>
    let taken := s.disp.launches.filter (fun l => l.queue == some q.idx && l.phase != .ended)
    breakQueue q (taken.foldl (fun s l => completeLaunch l.key 5 s) s)) s
  let s := (s.disp.launches.filter (fun l => l.region == h && l.phase != .ended)).foldl (fun s l => completeLaunch l.key 5 s) s
  onDisp (fun d => { d with
    queues := d.queues.map (fun q => if q.region == h then { q with head := q.tail } else q)
    breaking := d.breaking.filter (·.1 != h) }) s

/-- The launches of killed regions complete once the loop-back writes of their bays have been applied (R212, R293).
(Log entry 55, DEDUCED) -/
def finishBreaks (s : State) : State :=
  (s.disp.breaking.filter (fun x => x.2.all (loopbackDrained s))).foldl (fun s x => breakLaunches x.1 s) s

/-- A region killed (R293), in the order of that rule; its launches complete once the writes that its units made have been applied
(R212), its queues refusing meanwhile.
(Log entries 55 DEDUCED, 78 DESIGN CHOICE) -/
def killRegion (h : W32) (s : State) : State :=
  let bays := (s.disp.occupants.filter (·.2 == h)).map (·.1)
  let wrote := (bays ++ (s.disp.units.filter (fun u => u.region == h && u.live)).map (·.bay) ++
    ((s.disp.breaking.filter (·.1 == h)).map (·.2)).flatten).dedup
  let s := stopUnits h s
  let s := (s.coll.calls.filter (·.region == h)).foldl (fun s c => abortCall c.block s) s
  let s := (s.sets.filter (·.region == h)).foldl (fun s t => breakSet t.east t.idx s) s
  let s := onRefl (fun r => { r with tx := r.tx.filter (·.region != h), rx := r.rx.filter (·.region != h) }) s
  let s := onDisp (fun d => { d with occupants := d.occupants.filter (·.2 != h) }) (onMem (clearSlices bays) s)
  let s := onDisp (fun d => { d with
    queues := d.queues.map (fun q => if q.region == h then { q with valid := false } else q)
    breaking := d.breaking.filter (·.1 != h) ++ [(h, wrote)]
    replies := d.replies.filter (fun r => match d.units.find? (·.key == r.unit) with
      | some u => u.region != h
      | none => true) }) s
  finishBreaks
    (onFw (fun f => { f with nodes := f.nodes.map (fun n => if n.handle == h then { n with killed := true } else n) }) s)

/-- Whether node n stands at or below the node at an address. -/
def isBeneath (f : Firmware) (top : W64) : Nat → Rcb → Bool
  | 0, n => n.addr == top
  | fuel + 1, n => n.addr == top || (match nodeAt f n.parent with
      | some p => isBeneath f top fuel p
      | none => false)

/-- The fault domain of a node (R293): itself or the nearest ancestor whose effective FD is 1. -/
def domainOf (f : Firmware) : Nat → Rcb → Rcb
  | 0, n => n
  | fuel + 1, n =>
    if effFd f n then n
    else match nodeAt f n.parent with
      | some p => domainOf f fuel p
      | none => n

/-- Every region beneath a node killed. -/
def killBeneath (top : W64) (s : State) : State :=
  (s.fw.nodes.filter (fun x => x.kind == 2 && isBeneath s.fw top 3 x)).foldl (fun s x => killRegion x.handle s) s

/-- The fault domain of a region killed: every region beneath it (R293). -/
def killDomain (h : W32) (s : State) : State :=
  match nodeOf s.fw h with
  | none => killRegion h s
  | some n => killBeneath (domainOf s.fw 3 n).addr s

/-! ### The clamp -/

/-- Whether a holder holds the clamp (R8). -/
def clampHeld (s : State) : Bool := !s.seq.corrections.isEmpty || s.seq.residue != 0 || s.seq.cpycHold

/-- Whether nothing in the bay advances: the clamp is held, or the bay has stopped with it (R8, R325). -/
def frozen (s : State) : Bool := clampHeld s || s.seq.stopped

/-! ### Machine checks -/

/-- The unit whose region's fault domain a machine check on the bay kills (R325). -/
def checkUnitOf (s : State) : Option UnitRec :=
  match placedUnit s with
  | some u => some u
  | none =>
    match s.seq.last with
    | some k => match unitOf s k with
      | some u => if u.live then some u else none
      | none => none
    | none => none

/-- A machine check on the bay (R325): the bay halts with the clamp held, firmware logs it, the fault domain that the unit
was placed with is killed (R292).
(Log entry 78, DESIGN CHOICE) -/
def machineCheck (detail : BitVec 6) (einfo : W64) (s : State) : State :=
  let unit := checkUnitOf s
  let s := onFw (fun f => { f with checks := f.checks ++
    [{ detail := detail, bay := s.seq.bayId, epc := s.seq.epc, einfo := einfo }] }) s
  let s := onSeq (fun q => { q with stopped := true, group := Group.closed }) s
  match unit with
  | some u => if u.domain == 0 then killDomain u.region s else killBeneath u.domain s
  | none => s

/-- A machine check on another bay (R325): that bay stops, firmware logs it, and the fault domain of the unit last descheduled
there is killed. Its EPC is not the model's to know.
(Log entries 4 DESIGN CHOICE, 78 DESIGN CHOICE) -/
def otherCheck (bay : Nat) (detail : BitVec 6) (u : UnitRec) (s : State) : State :=
  let f := takeFree s
  let s := onFw (fun w => { w with checks := w.checks ++
    [{ detail := detail, bay := BitVec.ofNat 8 bay, epc := f.1.setWidth 40, einfo := 0 }] }) f.2
  let s := onDisp (fun d => { d with stoppedBays := d.stoppedBays ++ [bay] }) s
  if u.domain == 0 then killDomain u.region s else killBeneath u.domain s

/-- A machine check raised by a shared engine (R325): it kills the domain of the region whose operation met the error. -/
def engineCheck (h : W32) (detail : BitVec 6) (einfo : W64) (s : State) : State :=
  killDomain h (onFw (fun f => { f with checks := f.checks ++
    [{ detail := detail, bay := s.seq.bayId, epc := s.seq.epc, einfo := einfo }] }) s)

/-- The machine checks that engines have come to in this cycle, in the order met (R324, R334). -/
def takeAlarms (s : State) : State :=
  s.fw.alarms.foldl (fun s h => engineCheck h 0x04 0 s) (onFw (fun f => { f with alarms := [] }) s)

/-- A synchronous cause in supervisor mode (R321, R322): a double fault. -/
def doubleFault (t : TrapInfo) (s : State) : State :=
  machineCheck 0x01 (s.seq.ecause.setWidth 64 ||| ((causeCode t).setWidth 64 <<< 16)) s

/-! ### Delivery of traps -/

/-- A trap delivered at a group boundary (R316, R318, R321): entry from user mode, with the station's record finished or
returned (R234) and a held lock-step start withdrawn (R187); in supervisor mode a double fault.
(Log entry 18, DEDUCED) -/
def deliverTrap (t : TrapInfo) (done : BitVec 3) (s : State) : State :=
  if s.seq.supervisor then doubleFault t s
  else
    let preempted := t.cls == 12 && t.detail == 0x20
    let s := enterTrap t done s
    let s := if preempted then returnHeld s else faultHeld s
    onSeq (fun q => { q with cpycHold := false }) s

end Sys2Proof.Machine
end

