-- ==== Sys2Proof/Machine/Image.lean ====
section
/-! DEFINITION. The images that traps and saves write and read: the snapshot (R319), the context save area (R327, R330) and
the slice image (R328). -/

namespace Sys2Proof.Machine

/-- A byte string padded with zeros to a length. -/
def padTo (n : Nat) (b : List Byte) : List Byte := b ++ zeroBytes (n - b.length)

/-- The bytes of a bit vector. -/
def bytesOfBits {w : Nat} (x : BitVec w) : List Byte := bytesOfNat (w / 8) x.toNat

/-- A bit vector from its bytes. -/
def bitsOfBytes (w : Nat) (b : List Byte) : BitVec w := BitVec.ofNat w (natOfBytes b)

/-! ### The snapshot -/

/-- A loop-stack entry as LSTK holds it (R319). -/
def loopBytes (e : LoopEntry) : List Byte :=
  bytesOfNat 8 e.start.toNat ++ bytesOfNat 8 e.stop.toNat ++ bytesOfNat 4 e.remain.toNat ++ bytesOfNat 4 e.index.toNat

/-- The loop stack as LSTK (R319). -/
def loopsBytes (es : List LoopEntry) : List Byte := padTo 144 ((es.map loopBytes).flatten)

/-- The first n entries of an LSTK. -/
def parseLoops (b : List Byte) (n : Nat) : List LoopEntry :=
  (List.range n).map (fun i =>
    { start := BitVec.ofNat 40 (fieldAt b (24 * i) 8), stop := BitVec.ofNat 40 (fieldAt b (24 * i + 8) 8),
      remain := BitVec.ofNat 32 (fieldAt b (24 * i + 16) 4), index := BitVec.ofNat 32 (fieldAt b (24 * i + 20) 4) })

/-- DKIND (R319). -/
def DKind.code : DKind → Nat
  | .scalar => 0
  | .predicate => 1
  | .vector => 2

/-- An in-flight entry's 320 bytes (R319). -/
def inFlightBytes (e : InFlight) : List Byte :=
  [BitVec.ofNat 8 e.kind.code, e.reg.setWidth 8, BitVec.ofNat 8 e.remain, e.flags.setWidth 8, e.tag, e.emask] ++
    zeroBytes 2 ++ bytesOfBits e.lmask ++ zeroBytes 48 ++ bytesOfBits e.value

/-- An in-flight entry from its 320 bytes; SC is clear in a vector register's tag (R40). -/
def parseInFlight (b : List Byte) : InFlight :=
  let k : DKind := match fieldAt b 0 1 with
    | 0 => .scalar
    | 1 => .predicate
    | _ => .vector
  { kind := k, reg := BitVec.ofNat 5 (fieldAt b 1 1), remain := fieldAt b 2 1, flags := BitVec.ofNat 4 (fieldAt b 3 1),
    tag := BitVec.ofNat 8 (fieldAt b 4 1) &&& 0x2F, setsTag := k == .vector, emask := BitVec.ofNat 8 (fieldAt b 5 1),
    lmask := BitVec.ofNat 64 (fieldAt b 8 8), value := BitVec.ofNat 2048 (fieldAt b 0x40 256) }

/-- The 8,192 bytes of a snapshot (R319). -/
def snapshotBytes (n : Snapshot) : List Byte :=
  let header := bytesOfNat 8 n.epc.toNat ++ bytesOfNat 2 n.cause.toNat ++ bytesOfNat 1 n.done.toNat ++
    bytesOfNat 1 n.ifq.length ++ bytesOfNat 1 n.pmode.toNat ++ [n.source] ++ bytesOfNat 1 n.loops.length ++ zeroBytes 1 ++
    bytesOfBits n.eaddr ++ bytesOfBits n.einfo ++ bytesOfBits n.steps ++ loopsBytes n.loops
  padTo 8192 (padTo 512 header ++ (n.ifq.map inFlightBytes).flatten)

/-- Whether an in-flight entry keeps R319 and R320. -/
def inFlightOk (b : List Byte) : Bool :=
  fieldAt b 0 1 ≤ 2 && fieldAt b 1 1 < 32 && 1 ≤ fieldAt b 2 1 && fieldAt b 2 1 ≤ 6 && fieldAt b 3 1 < 16 &&
    fieldAt b 6 2 == 0 && (bytesAt b 0x10 48).all (· == 0)

/-- Whether 8,192 bytes are a well-formed snapshot (R320). -/
def snapshotOk (b : List Byte) : Bool :=
  let nifq := fieldAt b 0xB 1
  let depth := fieldAt b 0xE 1
  fieldAt b 0 8 < 2 ^ 40 && fieldAt b 8 2 < 1024 && fieldAt b 0xA 1 < 8 && nifq ≤ 24 && fieldAt b 0xC 1 ≤ 1 && depth ≤ 6 &&
    fieldAt b 0xF 1 == 0 && (List.range depth).all (fun i =>
      fieldAt b (0x28 + 24 * i) 8 < 2 ^ 40 && fieldAt b (0x30 + 24 * i) 8 < 2 ^ 40) &&
    (bytesAt b (0x28 + 24 * depth) (0x1D8 - 24 * depth)).all (· == 0) &&
    (List.range nifq).all (fun i => inFlightOk (bytesAt b (0x200 + 320 * i) 320)) &&
    (b.drop (0x200 + 320 * nifq)).all (· == 0)

/-- An in-flight entry of an image, with what the image has no place for from the entry it was written from: whether the word
writes its destination's tag (R121). An entry that none of the snapshot replaced knows lands as one that writes its tag.
(Log entry 114, DESIGN CHOICE) -/
def knownInFlight (old : Option InFlight) (e : InFlight) : InFlight :=
  match old with
  | some o => if o.kind == e.kind && o.reg == e.reg then { e with setsTag := o.setsTag } else e
  | none => e

/-- The snapshot that 8,192 bytes hold. What the image has no place for is kept from the snapshot it replaces: the position of
the group when the packet is the same one, and what the fault record reports. -/
def parseSnapshot (old : Snapshot) (b : List Byte) : Snapshot :=
  let epc : BitVec 40 := BitVec.ofNat 40 (fieldAt b 0 8)
  let same := epc == old.epc
  { old with
    epc := epc, cause := BitVec.ofNat 10 (fieldAt b 8 2), done := BitVec.ofNat 3 (fieldAt b 0xA 1),
    pmode := fieldAt b 0xC 1 == 1, source := BitVec.ofNat 8 (fieldAt b 0xD 1),
    loops := parseLoops (b.drop 0x28) (fieldAt b 0xE 1), eaddr := BitVec.ofNat 64 (fieldAt b 0x10 8),
    einfo := BitVec.ofNat 64 (fieldAt b 0x18 8), steps := BitVec.ofNat 64 (fieldAt b 0x20 8),
    ifq := (List.range (fieldAt b 0xB 1)).map (fun i =>
      knownInFlight old.ifq[i]? (parseInFlight (bytesAt b (0x200 + 320 * i) 320))),
    gpos := if same then old.gpos else 0, landed1 := if same then old.landed1 else 0,
    landed2 := if same then old.landed2 else 0 }

/-! ### Blocks of the save area -/

/-- The kind of a save (R327). -/
inductive SaveKind where
  | node | iteration | hard
  deriving DecidableEq, Repr

/-- KIND (R327). -/
def SaveKind.code : SaveKind → Nat
  | .node => 0
  | .iteration => 1
  | .hard => 2

/-- What the header and scalar block holds (R327). -/
structure HeaderBlock where
  kind : SaveKind
  slice : Bool
  gpos : Nat
  task : W64
  cmdp : W64
  pc : BitVec 40
  s : List W64
  p : List W64
  loops : List LoopEntry
  /-- FSTAT, VTAG, CKCTL, CKCNT, CKLOG, CKLOG2, RACEINFO, STEPS, ITER. -/
  special : List W64
  vtags : List Byte
  k : List W64
  deriving DecidableEq, Repr

/-- The header and scalar block (R327). -/
def HeaderBlock.bytes (h : HeaderBlock) : List Byte :=
  let words := fun (n : Nat) (xs : List W64) => padTo (8 * n) ((xs.map bytesOfBits).flatten)
  padTo 4096 (bytesOfNat 8 (h.kind.code + 256 * h.slice.toNat + 512 * h.gpos) ++ bytesOfBits h.task ++ bytesOfBits h.cmdp ++
    bytesOfNat 8 h.pc.toNat ++ words 32 h.s ++ words 16 h.p ++ bytesOfNat 8 h.loops.length ++ loopsBytes h.loops ++
    words 9 h.special ++ padTo 32 h.vtags ++ words 8 h.k)

/-- The header and scalar block from its bytes; SC is clear in a vector register's tag (R40). -/
def parseHeader (b : List Byte) : HeaderBlock :=
  let words := fun (o n : Nat) => (List.range n).map (fun i => (BitVec.ofNat 64 (fieldAt b (o + 8 * i) 8) : W64))
  let w := fieldAt b 0 8
  { kind := match w % 4 with
      | 0 => .node
      | 1 => .iteration
      | _ => .hard
    slice := w / 256 % 2 == 1, gpos := w / 512 % 4, task := BitVec.ofNat 64 (fieldAt b 8 8),
    cmdp := BitVec.ofNat 64 (fieldAt b 0x10 8), pc := BitVec.ofNat 40 (fieldAt b 0x18 8), s := words 0x20 32,
    p := words 0x120 16, loops := parseLoops (bytesAt b 0x1A8 144) (min 6 (fieldAt b 0x1A0 8)), special := words 0x238 9,
    vtags := (bytesAt b 0x280 32).map (· &&& 0x2F), k := words 0x2A0 8 }

/-- The special registers of the header block, in its order. -/
def specialsOf (q : Seq) : List W64 :=
  [q.fstat, q.vtag.setWidth 64, q.ckctl.setWidth 64, q.ckcnt.setWidth 64, q.cklog, q.cklog2.setWidth 64, q.raceinfo, q.steps,
   q.iter.setWidth 64]

/-- A copy operation as the engine block holds it (R327). -/
def copyOpBytes (op : CopyOp) : List Byte :=
  let code := match op.kind with
    | .lockstep => 3
    | .row => if op.armed then 2 else 0
    | .tile => if op.armed then 2 else 1
  bytesOfBits op.src ++ bytesOfBits op.dst ++ bytesOfBits op.len ++ bytesOfBits op.rows ++ bytesOfBits op.spitch ++
    bytesOfBits op.dpitch ++ bytesOfBits op.sync ++ bytesOfBits op.trig ++ bytesOfBits op.tgen ++
    bytesOfNat 4 (op.fmt.toNat + 16 * op.scb.toNat + 32 * op.dcb.toNat) ++
    bytesOfNat 8 (op.delay.toNat + 64 * code + 65536 * op.left)

/-- A copy operation from its entry, or none for an unused one: an entry of zeros where none is known. The descriptor's own
address has no place in the image and comes from the operation known beside it. -/
def parseCopyOp (known : Option CopyOp) (b : List Byte) : Option CopyOp :=
  if known.isNone && b.all (· == 0) then none
  else
    let d := parseCopyDesc b
    let w := fieldAt b 0x38 8
    let a : W64 := match known with
      | some op => op.descAddr
      | none => 0
    some { ({ d with rest := 0 } : CopyDesc).toOp (w / 64 % 8) a.toNat (BitVec.ofNat 6 w) with left := w / 65536 % 65536 }

/-- A slot of the engine block (R327). -/
def slotBytes (c : CbSlot) : List Byte :=
  bytesOfNat 8 (c.desc.toNat % 2 ^ 48 + 2 ^ 48 * c.producer.toNat + 2 ^ 49 * c.engine.toNat + 2 ^ 50 * c.bound.toNat) ++
    zeroBytes 8

/-- A slot from its entry. -/
def parseSlot (b : List Byte) : CbSlot :=
  let w := fieldAt b 0 8
  { desc := BitVec.ofNat 64 (w % 2 ^ 48), producer := w / 2 ^ 48 % 2 == 1, engine := w / 2 ^ 49 % 2 == 1,
    bound := w / 2 ^ 50 % 2 == 1 }

/-- The engine block (R327). Copies that have fired and not yet entered the queue stand in the armed table. -/
def engineBytes (s : State) : List Byte :=
  padTo 4096 (padTo 1024 ((s.copy.queue.map copyOpBytes).flatten) ++
    padTo 1024 (((s.copy.fired ++ s.copy.armed).map copyOpBytes).flatten) ++
    bytesOfNat 8 (match s.copy.queue with
      | op :: _ => op.done
      | [] => 0) ++ bytesOfNat 8 s.copy.doneCount.toNat ++ (s.seq.slots.toList.map slotBytes).flatten)

/-- A tile image (R327), with its write and read busy bits. -/
def tileImage (t : Tile) (wb rb : Bool) : List Byte :=
  padTo 24576 (padTo 0x4D20 (bytesOfBits t.data ++ bytesOfBits t.rowSum ++ bytesOfBits t.colSum ++ bytesOfBits t.scales ++
    bytesOfNat 8 (t.tag.toNat + 256 * wb.toNat + 512 * rb.toNat)) ++ bytesOfBits t.status)

/-- The defined bits of a tile status word (R12). -/
def statusMask : BitVec 256 := ~~~(0x8E0000 : BitVec 256)

/-- A tile from its image; reserved bits of its tag and status read as zero (R4, R11, R12). -/
def parseTileImage (b : List Byte) : Tile :=
  { data := bitsOfBytes _ (bytesAt b 0 16384), rowSum := bitsOfBytes _ (bytesAt b 0x4000 256),
    colSum := bitsOfBytes _ (bytesAt b 0x4100 2048), scales := bitsOfBytes _ (bytesAt b 0x4900 1024),
    tag := BitVec.ofNat 8 (fieldAt b 0x4D00 1) &&& 0x3F, status := bitsOfBytes _ (bytesAt b 0x4D20 32) &&& statusMask }

/-- The logical row that a physical row of the array holds under a spare mapping (R330, R341). -/
def logicalRow (rowmap : W64) (c : Nat) : Option Nat :=
  let r0 := rowmap.toNat % 64
  let r1 := rowmap.toNat / 256 % 64
  let u0 := rowmap.getLsbD 6
  let u1 := rowmap.getLsbD 14
  if c == 64 then (if u0 then some r0 else none)
  else if c == 65 then (if u1 then some r1 else none)
  else if (u0 && c == r0) || (u1 && c == r1) then none
  else some c

/-- The row control at the head of a chain (R330): the logical row that physical row c holds in [15:0], all ones for none, and
the spare mapping above it.
(Log entry 104, DESIGN CHOICE) -/
def rowControl (c : Nat) (rowmap : W64) : BitVec 80 :=
  BitVec.ofNat 80 ((logicalRow rowmap c).getD 0xFFFF + 65536 * rowmap.toNat)

/-- One chain of the scan image (R330): row control, then 65 cells of 128 bits. -/
def chainBytes (key : Nat) (rowmap : W64) (w w' : BitVec 131072) (c : Nat) : List Byte :=
  let cell := fun (n : Nat) =>
    let st := Config.cellState key (65 * c + n)
    match logicalRow rowmap c with
    | some m =>
      if n < 64 then (lane w (64 * m + n)).toNat + 2 ^ 32 * (lane w' (64 * m + n)).toNat + 2 ^ 64 * st.toNat
      else (Config.cellState (key + 1) c).toNat + 2 ^ 64 * st.toNat
    | none => (Config.cellState (key + 1) (66 + 65 * c + n)).toNat + 2 ^ 64 * st.toNat
  padTo 2048 (bytesOfBits (rowControl c rowmap) ++
    ((List.range 65).map (fun n => bytesOfNat 16 (cell n))).flatten)

/-- Slot (m, n) of W or W' in a scan image, at physical row c. -/
def chainSlot (b : List Byte) (c n : Nat) (shadow : Bool) : W32 :=
  BitVec.ofNat 32 (fieldAt b (2048 * c + 10 + 16 * n + (if shadow then 4 else 0)) 4)

/-- A plane's data from a scan image (R330). -/
def scanPlane (rowmap : W64) (b : List Byte) (shadow : Bool) : BitVec 131072 :=
  ofWords 131072 ((List.range 4096).map (fun i =>
    match (List.range 66).find? (fun c => logicalRow rowmap c == some (i / 64)) with
    | some c => chainSlot b c (i % 64) shadow
    | none => 0))

/-- Whether the row control of a scan image is that of the present mapping (R330). -/
def scanMatches (rowmap : W64) (b : List Byte) : Bool :=
  (List.range 66).all (fun c => bytesAt b (2048 * c) 10 == bytesOfBits (rowControl c rowmap))

/-- The plane and unit block (R327). -/
def planeBytes (key : Nat) (w w' : Plane) : List Byte :=
  padTo 0x4000 (bytesOfBits w.csw ++ bytesOfBits w.acsw ++ bytesOfBits w'.csw ++ bytesOfBits w'.acsw) ++
    bytesOfBits w.scales ++ bytesOfBits w'.scales ++ bytesOfNat 8 (w.tag.toNat + 256 * w'.tag.toNat) ++
    (List.range 43000).map (Config.unitStateByte key)

/-- The planes from their block and the scan image. -/
def parsePlanes (rowmap : W64) (scan b : List Byte) : Plane × Plane :=
  ({ data := scanPlane rowmap scan false, csw := bitsOfBytes _ (bytesAt b 0 2048), acsw := bitsOfBytes _ (bytesAt b 2048 2048),
     scales := bitsOfBytes _ (bytesAt b 0x4000 1024), tag := BitVec.ofNat 8 (fieldAt b 0x4800 1) &&& 0x3F },
   { data := scanPlane rowmap scan true, csw := bitsOfBytes _ (bytesAt b 4096 2048), acsw := bitsOfBytes _ (bytesAt b 6144 2048),
     scales := bitsOfBytes _ (bytesAt b 0x4400 1024), tag := BitVec.ofNat 8 (fieldAt b 0x4801 1) &&& 0x3F })

/-! ### The slice image -/

/-- A granule's two bytes of ownership (R328). -/
def ownerCode (o : Option Owner) : Nat :=
  match o with
  | none => 0
  | some (.excl a) => 1 + 4 * a.toNat
  | some .pub => 2

/-- The slice image of a bay (R328): data, full/empty bits, ownership. -/
def sliceBytes (m : Mem) (bay : Nat) : List Byte :=
  memRead m.spad (0x200000 * bay) 0x200000 ++
    (List.range 32768).map (fun i => BitVec.ofNat 8
      ((List.range 8).foldr (fun j acc => (isFull m (262144 * bay + 8 * i + j)).toNat + 2 * acc) 0)) ++
    ((List.range 32768).map (fun g => bytesOfNat 2 (ownerCode (ownerOf m (32768 * bay + g))))).flatten

/-- A slice restored from its image (R328). -/
def restoreSlice (m : Mem) (bay : Nat) (b : List Byte) : Mem :=
  let m := m.putSpad (0x200000 * bay) (b.take 0x200000)
  let m := (List.range 262144).foldl (fun m w =>
    setFull m (262144 * bay + w) ((b.getD (0x200000 + w / 8) 0).getLsbD (w % 8))) m
  (List.range 32768).foldl (fun m g =>
    let c := fieldAt b (0x208000 + 2 * g) 2
    setOwner m (32768 * bay + g) (match c % 4 with
      | 1 => some (.excl (BitVec.ofNat 9 (c / 4)))
      | 2 => some .pub
      | _ => none)) m

end Sys2Proof.Machine
end

