-- ==== Sys2Proof/Machine/Context.lean ====
section
/-! DEFINITION. Context: the start of units and sections (R18, R19), CTXCMD (R326), restores (R331), retry from a mark (R73),
soft pre-emption (R332) and the sequence of sections, iterations and records that a unit runs. -/

namespace Sys2Proof.Machine

/-! ### Save slots -/

/-- Bytes of a context save area (R327).
(Log entry 56, DEDUCED) -/
def saveAreaSize : Nat := 614400

/-- The supervisor on the bay as an accessing agent. -/
def supWho (s : State) : Who := { agent := s.agent, xtbl := s.seq.xtbl, sup := true }

/-- Whether an area can be written, or read (R324 detail 14/0x05): it lies in extent space (R327), and its checks pass. What is
read back there needs no right but the one that the area has (R327).
(Log entry 56, DEDUCED) -/
def areaOk (s : State) (a n : Nat) : Bool :=
  (match rowOf a with
  | some (.extent, hi) => a + n ≤ hi
  | _ => false) && (checkAgent s (supWho s) true a n).isNone

/-- A byte string written into a save area. -/
def putArea (s : State) (a : Nat) (b : List Byte) (m : Mem) : Mem := writeMem m (supWho s) a b

/-- The accesses of a save or a restore for a region, charged on the die of a bay, which no budget holds back (R295).
(Log entry 48, DEDUCED) -/
def chargeArea (bay : Nat) (h : W32) (a n : Nat) (s : State) : State :=
  charge (eastBay bay) h 0 (hbmAccesses [{ lane := 0, addr := a, len := n }]) s

/-- The present spare mapping of the bay (R341). -/
def rowmapOf (s : State) : W64 := errmapWord s.fw s.seq.bayId.toNat 132

/-! ### Registers at the start of a unit -/

/-- Every register as at the start of a unit (R19). -/
def clearRegisters (q : Seq) : Seq :=
  { q with s := Vector.replicate 32 0, p := Vector.replicate 16 0, v := Vector.replicate 32 VReg.zero,
           t := Vector.replicate 16 Tile.zero, w := Plane.zero, w' := Plane.zero, k := Vector.replicate 8 0, fstat := 0,
           vtag := 0, ckctl := 5, ckcnt := 0, cklog := 0, cklog2 := 0, raceinfo := 0, steps := 0, iter := 0, loops := [],
           ifq := [], sb := [], landed1 := 0, landed2 := 0, gpos := 0, resumeDone := 0, wait := none, group := Group.closed }

/-- What dispatch loads for a unit at placement (R13, R289, R292, R329). -/
def loadIdentity (u : UnitRec) (l : Launch) (s : State) : State :=
  let node := nodeOf s.fw u.region
  let ctx := match node with
    | some n => contextOf s.fw n
    | none => none
  onSeq (fun q => { q with
    unit := some u.key, unitIdx := BitVec.ofNat 24 u.idx, nunits := BitVec.ofNat 25 l.units, region := u.region.setWidth 64,
    task := l.task, member := BitVec.ofNat 3 u.member, supervisor := false, prevSupervisor := false, masked := false,
    debug := match node with
      | some n => effDbg s.fw n
      | none => false
    xtbl := match ctx with
      | some c => c.xtab
      | none => 0
    pasid := match ctx with
      | some c => c.pasid
      | none => 0
    rcbp := match node with
      | some n => n.addr
      | none => 0
    recording := match node with
      | some n => effRec s.fw n
      | none => false
    replay := match node with
      | some n => effRpl s.fw n
      | none => false
    saveptr := BitVec.ofNat 64 (slotBase s u), preempt := none, inputSeq := u.inputSeq }) s

/-! ### Loop records and sections -/

/-- A loop record from its 64 bytes (R18).
(Log entry 46, DEDUCED) -/
def parseLoopRecord (addr : W64) (b : List Byte) : LoopRecord :=
  let pro := fieldAt b 0 8
  let ker := fieldAt b 8 8
  let epi := fieldAt b 0x10 8
  let trip := fieldAt b 0x18 4
  let carry := fieldAt b 0x28 8
  { addr := addr, prologue := BitVec.ofNat 64 pro, kernel := BitVec.ofNat 64 ker, epilogue := BitVec.ofNat 64 epi,
    trip := BitVec.ofNat 32 trip, argp := BitVec.ofNat 64 (fieldAt b 0x20 8), carry := BitVec.ofNat 64 carry,
    malformed := fieldAt b 0x1C 4 != 0 || (bytesAt b 0x30 16).any (· != 0) || carry / 2 ^ 49 != 0 || pro % 12 != 0 ||
      ker % 12 != 0 || epi % 12 != 0 || (ker == 0 && trip != 0) }

/-- The packet at a section's byte address; an address past every packet index gives the last index, which lies in no extent,
so that its first fetch traps (R18, R203).
(Log entry 46, DEDUCED) -/
def sectionPacket (a : W64) : BitVec 40 := BitVec.ofNat 40 (min (a.toNat / 12) (2 ^ 40 - 1))

/-- The section at a byte address starts: loop stack empty, PC at its address (R19). -/
def enterSection (sec : Section) (a : W64) (q : Seq) : Seq :=
  { q with sect := sec, pc := sectionPacket a, gpos := 0, loops := [] }

/-- The section that a record begins with, or none when it has nothing to run (R19). -/
def firstSection (r : LoopRecord) : Option (Section × W64) :=
  if r.prologue != 0 then some (.prologue, r.prologue)
  else if r.trip != 0 then some (.kernel, r.kernel)
  else if r.epilogue != 0 then some (.epilogue, r.epilogue)
  else none

/-- A record starts on registers already set up: its first section, or a malformed record to trap at its first step, at the packet
of its first section or, with none, at packet 0.
(Log entry 132, DESIGN CHOICE) -/
def beginRecord (r : LoopRecord) (q : Seq) : Seq :=
  let q := { q with record := r, trip := r.trip, iter := 0, steps := 0 }
  match firstSection r with
  | some (sec, a) => enterSection sec a q
  | none => { q with sect := .epilogue, pc := 0, gpos := 0, loops := [] }

/-- Whether a record gives a unit anything to do. -/
def runsSomething (r : LoopRecord) : Bool := r.malformed || (firstSection r).isSome

/-- The loop record at an address, as the placed unit's region reads it.
(Log entry 46, DEDUCED) -/
def recordAt (a : W64) (s : State) : LoopRecord := parseLoopRecord a (readMem s.mem (coreWho s) a.toNat 64)

/-- The entry of a command list at an address, 0 at its end (R307). -/
def commandAt (p : W64) (s : State) : W64 := BitVec.ofNat 64 (readWord s.mem (coreWho s) p.toNat 8)

/-- Entries that the placed unit's command list may still hold from an address on: a list has at most 4,096 (R307). -/
def entriesLeft (p : W64) (s : State) : Nat :=
  match placedUnit s with
  | some u => match launchOf s u.launch with
    | some l => 4096 - (p - l.recAddr).toNat / 8
    | none => 0
  | none => 0

/-- The next record of a command list that has something to run, and the address of the entry after it (R307). -/
def nextRecord (s : State) : Nat → W64 → Option (LoopRecord × W64)
  | 0, _ => none
  | fuel + 1, p =>
    if p == 0 then none
    else
      let a := commandAt p s
      if a == 0 then none
      else
        let r := recordAt a s
        if runsSomething r then some (r, p + 8) else nextRecord s fuel (p + 8)

/-- A record starts with the registers of R19 and given scalars; `cmdp` names the entry after it. -/
def startWith (r : LoopRecord) (cmdp : W64) (scalars : Vector W64 32) (s : State) : State :=
  onSeq (fun q => beginRecord r { clearRegisters q with cmdp := cmdp, s := scalars }) s

/-- s1 to s7, which carry from one record to the next (R307). -/
def carriedScalars (old : Vector W64 32) : Vector W64 32 :=
  Vector.ofFn (fun (i : Fin 32) => if 1 ≤ i.val && i.val ≤ 7 then old[i] else 0)

/-- The command list goes on at its next record; with none left the unit completes (R19, R307). -/
def nextCommand (scalars : Vector W64 32) (s : State) : State :=
  match nextRecord s (entriesLeft s.seq.cmdp s) s.seq.cmdp with
  | none => completeUnit s
  | some (r, p) => startWith r p (carriedScalars scalars) s

/-- The placed unit starts (R19): s1 is the launch's argument pointer, or else that of its first record, which the command list
at `cmdp` names, or `first`.
(Log entry 46, DEDUCED) -/
def startUnit (list : Bool) (first cmdp argp : W64) (s : State) : State :=
  let a := if list then commandAt cmdp s else first
  if list && a == 0 then completeUnit s
  else
    let r := recordAt a s
    let scalars : Vector W64 32 := (Vector.replicate 32 0).set 1 (if argp == 0 then r.argp else argp)
    let p := if list then cmdp + 8 else 0
    if runsSomething r then startWith r p scalars s
    else nextCommand scalars (onSeq (fun q => { q with cmdp := p }) s)

/-! ### Saves -/

/-- A pending X result that the trap froze (R316). -/
def isFrozen (p : Pending) : Bool := p.kind == .array && !p.sup

/-- Whether a tile stands in a list of pending work as a destination, or as a source (R155). -/
def tileBusy (sb : List Pending) (t : Reg4) : Bool × Bool :=
  (sb.any (fun p => p.tiles.any (·.1 == t)), sb.any (fun p => p.reads.contains t))

/-- The registers and planes that a save keeps (R21, R22). -/
structure Kept where
  v : Nat → Bool
  t : Nat → Bool
  planes : Bool
  k : Bool

/-- Everything is kept (R22, hard). -/
def Kept.all : Kept := { v := fun _ => true, t := fun _ => true, planes := true, k := true }

/-- What a carry mask keeps (R21). -/
def Kept.ofMask (c : W64) : Kept :=
  { v := fun i => c.getLsbD (16 + i), t := fun i => c.getLsbD i, planes := c.getLsbD 48, k := false }

/-- A save area written at an address, the snapshot apart (R326, R327). -/
def writeContext (kind : SaveKind) (keep : Kept) (a : Nat) (s : State) : State :=
  let q := s.seq
  let soft := kind == .iteration
  let h : HeaderBlock :=
    { kind := kind, slice := false, gpos := if soft then q.gpos else 0, task := q.task, cmdp := 0,
      pc := if soft then q.pc else 0, s := q.s.toList, p := q.p.toList, loops := if soft then q.loops else [],
      special := specialsOf q,
      vtags := q.v.toList.zipIdx.map (fun x => if keep.v x.2 then x.1.tag else 0)
      k := if keep.k then q.k.toList else [] }
  let vs := (q.v.toList.zipIdx.map (fun x => if keep.v x.2 then bytesOfBits x.1.data else zeroBytes 256)).flatten
  let ts := (q.t.toList.zipIdx.map (fun x =>
    if keep.t x.2 then
      let b := tileBusy q.sb (BitVec.ofNat 4 x.2)
      tileImage x.1 b.1 b.2
    else zeroBytes 24576)).flatten
  let scan := if keep.planes then
      ((List.range 66).map (chainBytes s.freeCount (rowmapOf s) q.w.data q.w'.data)).flatten
    else zeroBytes 135168
  let pl := if keep.planes then planeBytes s.freeCount q.w q.w' else zeroBytes 61440
  let body := h.bytes ++ engineBytes s ++ vs ++ ts ++ scan ++ padTo 61440 pl
  let s' := onMem (putArea s (a + 0x2000) body) { s with freeCount := s.freeCount + 2 }
  if kind == .hard then s' else onMem (putArea s a (zeroBytes 0x2000)) s'

/-- A scan-out or scan-in whose chain check fails (R324, R330). -/
def chainCheck (einfo : W64) (s : State) : State := machineCheck 0x06 einfo (onSeq (fun q => { q with chainFails := false }) s)

/-- Op 0 of CTXCMD waits for the budget of its unit's region (R296). -/
def saveHeld (s : State) : Bool := areaOk s s.seq.saveptr.toNat saveAreaSize && !admitted s s.east s.regionHandle 0

/-- Op 0 of CTXCMD (R326): the save area at SAVEPTR, the engine stopped, the array scanned out.
(Log entries 44 DEDUCED, 56 DEDUCED, 95 DESIGN CHOICE) -/
def contextSave (s : State) : State :=
  let a := s.seq.saveptr.toNat
  if !areaOk s a saveAreaSize then machineCheck 0x05 s.seq.einfo s
  else if s.seq.chainFails then chainCheck s.seq.einfo s
  else
    charge s.east s.regionHandle 0 (hbmAccesses [{ lane := 0, addr := a + 0x2000, len := saveAreaSize - 0x2000 }])
      (onSeq (fun q => { q with saved := true }) (writeContext .hard Kept.all a s))

/-- The placed unit leaves the bay: what its record keeps beside the image, and the bay free for dispatch. -/
def leaveBay (phase : UnitPhase) (waiting : Option (W64 × W32)) (s : State) : State :=
  match placedUnit s with
  | none => s
  | some u =>
    let q := s.seq
    let s := onUnit u.key (fun u => { u with
      phase := phase, cmdp := q.cmdp, faults := q.engineFaults, loopRecord := q.record, sect := q.sect, buffers := q.buffers,
      frozen := q.sb.filter isFrozen, planes := some (q.w, q.w'), queue := s.copy.queue,
      armed := s.copy.fired ++ s.copy.armed, held := none, snapshot := some q.snapshot, since := s.clock.time, aged := 0,
      inputSeq := q.inputSeq, waiting := waiting, readyAt := none, retry := none, debug := q.debug }) s
    let s := returnHeld s
    onSeq (fun q => { q with last := some u.key, saved := false }) (vacate s)

/-- What a placed unit has been asked, on whichever bay it stands. -/
def askedOf (s : State) (u : UnitRec) : Option Preempt :=
  if s.seq.unit == some u.key then s.seq.preempt else u.asked

/-- A placed unit asked to leave its bay (R311, R318): the bay's own by a request, another bay's by the note that dispatch
keeps of it. A hard request replaces a soft one, and it ends the hold of a lock-step start at once (R187); a soft one is met at
a soft point, which a held bay does not reach.
(Log entry 123, DEDUCED) -/
def askUnit (kind : Preempt) (u : UnitRec) (s : State) : State :=
  let newer := fun (old : Option Preempt) => if old.isNone || kind == .hard then some kind else old
  let now := s.clock.time
  let s := if (askedOf s u).isNone then onUnit u.key (fun u => { u with askedAt := now }) s else s
  if s.seq.unit == some u.key then
    onSeq (fun q => { q with preempt := newer q.preempt, cpycHold := q.cpycHold && kind != .hard }) s
  else onUnit u.key (fun u => { u with asked := newer u.asked }) s

/-- The other members of a gang instance are taken with the one that leaves its bay (R23), each at its own point. -/
def takeGang (launch idx : Nat) (kind : Preempt) (s : State) : State :=
  ((instanceOf s launch idx).filter (·.phase == .placed)).foldl (fun s u => askUnit kind u s) s

/-- Op 1 of CTXCMD (R326): descheduled as hard-pre-empted. -/
def contextRelease (s : State) : State :=
  match placedUnit s with
  | none => s
  | some u => takeGang u.launch u.idx .hard (leaveBay .savedHard none s)

/-- The 128 bytes of a fault record (R26); CTX is SAVEPTR (R326). -/
def faultRecordBytes (n : Snapshot) (q : Seq) (seq : W64) : List Byte :=
  bytesOfBits q.task ++ bytesOfBits q.region ++ bytesOfNat 4 q.unitIdx.toNat ++ bytesOfNat 2 n.cause.toNat ++ [n.source] ++
    bytesOfNat 1 n.faultDone.toNat ++ bytesOfNat 8 n.faultPc.toNat ++ bytesOfBits n.eaddr ++ bytesOfBits n.einfo ++
    bytesOfNat 2 q.bayId.toNat ++ bytesOfNat 2 q.chipId.toNat ++ bytesOfNat 1 q.member.toNat ++ bytesOfNat 1 n.faultDepth ++
    zeroBytes 2 ++ bytesOfBits n.steps ++ bytesOfBits n.faultTime ++ bytesOfBits q.iter ++ bytesOfBits n.faultCkcnt ++
    bytesOfBits q.saveptr ++ bytesOfBits n.faultCklog ++ bytesOfBits n.faultRace ++ bytesOfBits seq ++ zeroBytes 8 ++
    zeroBytes 8

/-- A launch of the region's fault handler task for a faulted unit (R25).
(Log entries 47 DESIGN CHOICE, 54 DEDUCED) -/
def spawnHandler (u : UnitRec) (n : Rcb) (record : W64) (s : State) : State :=
  let task := Config.handlerHandle ((launchOf s u.launch).map (·.task) |>.getD 0) u.idx u.member u.faultCount
  let l : Launch :=
    { key := s.disp.fresh, queue := none, number := 0, handles := some u.key, region := u.region, task := task, kind := 0,
      recAddr := u.fhrec, bmin := 1, bmax := 0, gang := 0, units := 1, argp := record, csync := 0, dsync := 0,
      dgen := 0, dep := false, tt := false, period := 0, tstart := 0, skip := 0, members := [], pipes := [],
      prio := effPrio s.fw n, phase := .ready, placed := 0, ndone := 0, ended := 0, fcause := none, outcome := 0,
      waitSince := s.clock.time, readyAt := s.clock.time, aged := 0, released := [], stamps := [], refusing := false }
  onDisp (fun d => { d with launches := d.launches ++ [l], fresh := d.fresh + 1 }) s

/-- Whether a unit is a fault handler task's. -/
def isHandler (s : State) (u : UnitRec) : Bool :=
  match launchOf s u.launch with
  | some l => l.handles.isSome
  | none => false

/-- The fault record of op 2 (R326, R26), written into the next slot of the region's fault area; without a fault area (FAREA 0)
none is written. The second part is the record's address.
(Log entry 54, DEDUCED) -/
def forwardRecord (s : State) (u : UnitRec) (s1 : State) : State × Option W64 :=
  match nodeOf s.fw u.region with
  | none => (s1, none)
  | some r =>
    if u.farea == 0 then (s1, none)
    else
      let a := u.farea + 128 * BitVec.ofNat 64 (r.faults.toNat % 64)
      let s1 := chargeArea s.seq.bayId.toNat u.region a.toNat 128
        (onMem (putArea s a.toNat (faultRecordBytes s.seq.snapshot s.seq r.faults)) s1)
      let s1 := onFw (fun f => { f with nodes := f.nodes.map (fun x =>
        if x.addr == r.addr then { x with faults := x.faults + 1 } else x) }) s1
      (onUnit u.key (fun u => { u with record := some a }) s1, some a)

/-! ### Soft pre-emption -/

/-- Whether nothing is in flight and the X resources are idle (R332). -/
def quiet (s : State) : Bool := s.seq.ifq.isEmpty && s.seq.sb.isEmpty

/-- Whether an iteration save can be made now: nothing is in flight, and the copy engine stands at a 256-byte boundary of its
running operation (R332). -/
def saveReady (s : State) : Bool := quiet s && atBoundary s

/-- An iteration save (R332, R22): at an iteration boundary, a `yield` or a `swait.y`. A station's context goes back to its
take point (R234).
(Log entry 95, DESIGN CHOICE) -/
def iterationSave (waiting : Option (W64 × W32)) (s : State) : State :=
  match placedUnit s with
  | none => s
  | some u =>
    let s := match s.seq.held with
      | some h => onSeq (fun q => { q with pc := h.pc, gpos := h.gpos, loops := h.loops }) s
      | none => s
    let a := slotBase s u
    let keep := Kept.ofMask s.seq.record.carry
    if !areaOk s a saveAreaSize then machineCheck 0x05 0 s
    else if keep.planes && s.seq.chainFails then chainCheck 0 s
    else
      takeGang u.launch u.idx .soft (leaveBay .savedIteration waiting
        (chargeArea s.seq.bayId.toNat u.region a saveAreaSize (writeContext .iteration keep a s)))

/-- A node save (R22, R332), made between two records: the command pointer and s1 to s7; armed copies are discarded. -/
def nodeSave (s : State) : State :=
  match placedUnit s with
  | none => s
  | some u =>
    let q := s.seq
    let h : HeaderBlock :=
      { kind := .node, slice := false, gpos := 0, task := q.task, cmdp := q.cmdp, pc := q.pc,
        s := (List.range 32).map (fun i => if 1 ≤ i && i ≤ 7 then q.s.toList.getD i 0 else 0), p := [], loops := [],
        special := [], vtags := [], k := [] }
    let a := slotBase s u
    if areaOk s a saveAreaSize then
      let s := onMem (fun m => putArea s (a + 0x2000) (padTo (saveAreaSize - 0x2000) h.bytes) (putArea s a (zeroBytes 0x2000) m))
        (chargeArea s.seq.bayId.toNat u.region a saveAreaSize s)
      let s := onCopy (fun c => { c with armed := [], fired := [] }) s
      takeGang u.launch u.idx .soft (leaveBay .savedNode none s)
    else machineCheck 0x05 0 s

/-! ### Retry from a mark -/

/-- A tile zeroed as `tzero` does in a format, its mark kept (R73, R168). -/
def zeroTile (fmt : BitVec 4) (old : Tile) : Tile :=
  { data := 0, rowSum := 0, colSum := 0, scales := 0, tag := mkTag fmt false true, status := setNacc old.status 0 }

/-- MK of a tile status word (R12). -/
def markSet (st : BitVec 256) : Bool := st.getLsbD 16
/-- MDEPTH. -/
def markDepth (st : BitVec 256) : Nat := (st.extractLsb' 20 3).toNat
/-- MPC. -/
def markPc (st : BitVec 256) : BitVec 40 := st.extractLsb' 24 40
/-- MLC of level j, innermost first. -/
def markCount (st : BitVec 256) (j : Nat) : W32 := st.extractLsb' (64 + 32 * j) 32

/-- The loop stack of a mark rebuilt from the stack at trap entry, or none when it cannot be (R73). Both lists run innermost
first. -/
def rebuildLoops (st : BitVec 256) (stack : List LoopEntry) : Option (List LoopEntry) :=
  let d := markDepth st
  if stack.length < d then none
  else
    let kept := stack.drop (stack.length - d)
    let es := kept.zipIdx.map (fun x =>
      let n := markCount st x.2
      ({ x.1 with remain := n, index := x.1.index + x.1.remain - n }, decide (n.toNat ≤ x.1.index.toNat + x.1.remain.toNat)))
    if es.all (·.2) then some (es.map (·.1)) else none

/-- The status word of a tile in a unit's saved image. -/
def savedStatus (s : State) (u : UnitRec) (t : Reg4) : BitVec 256 :=
  bitsOfBytes _ (readMem s.mem (supWho s) (slotBase s u + 0x6000 + 24576 * t.toNat + 0x4D20) 32)

/-- The loop stack of a unit's saved snapshot. -/
def savedLoops (s : State) (u : UnitRec) : List LoopEntry :=
  let b := readMem s.mem (supWho s) (slotBase s u) 512
  parseLoops (b.drop 0x28) (min 6 (fieldAt b 0xE 1))

/-- Whether a retry of a tile can be made (R27, R73). -/
def canRetry (s : State) (u : UnitRec) (t : Reg4) : Bool :=
  markSet (savedStatus s u t) && (rebuildLoops (savedStatus s u t) (savedLoops s u)).isSome

/-- A restored context sent back to a tile's mark (R73, R331), or, when it faulted as a station with a record, to its take
point (R234). -/
def retryFromMark (t : Reg4) (s : State) : State :=
  let old := readT s t
  onSeq (fun q =>
    match rebuildLoops old.status q.snapshot.loops with
    | none => q
    | some loops =>
      let n := { q.snapshot with done := 0, ifq := [], landed1 := 0, landed2 := 0 }
      { (q.setT t (zeroTile (tagFmt old.tag) old)) with
        snapshot := if n.source == 2 then n else { n with epc := markPc old.status, gpos := 0, loops := loops }
        sb := q.sb.filter (fun p => !p.tiles.any (·.1 == t)) }) s

/-! ### Restores -/

/-- The scalar state of a header block put back. -/
def putHeader (h : HeaderBlock) (withK : Bool) (q : Seq) : Seq :=
  let sp := fun i => h.special.getD i 0
  { q with s := Vector.ofFn (fun (i : Fin 32) => h.s.getD i.val 0), p := Vector.ofFn (fun (i : Fin 16) => h.p.getD i.val 0),
           fstat := sp 0 &&& 0xF0F, vtag := (sp 1).setWidth 8 &&& 0x3F, ckctl := (sp 2).setWidth 3, ckcnt := (sp 3).setWidth 32,
           cklog := sp 4 &&& 0xFFFFFFF, cklog2 := (sp 5).setWidth 32, raceinfo := sp 6 &&& 0x80000FFFFFFFFFFF, steps := sp 7,
           iter := (sp 8).setWidth 32,
           k := if withK then Vector.ofFn (fun (i : Fin 8) => h.k.getD i.val 0) else q.k }

/-- The copy engine and slots of an engine block put back (R326, R327, R332). -/
def restoreEngine (u : UnitRec) (b : List Byte) (s : State) : State :=
  let entry := fun (o : Nat) (known : List CopyOp) (i : Nat) => parseCopyOp known[i]? (bytesAt b (o + 64 * i) 64)
  let queue := (List.range 16).filterMap (entry 0 u.queue)
  let armed := (List.range 16).filterMap (entry 0x400 u.armed)
  let done := fieldAt b 0x800 8
  let s := onSeq (fun q => { q with
    slots := Vector.ofFn (fun (i : Fin 16) => parseSlot (bytesAt b (0x810 + 16 * i.val) 16)), buffers := u.buffers }) s
  let queue := match queue with
    | op :: rest =>
      let total := match op.kind with
        | .lockstep =>
          let d := sideDesc s (if op.scb then op.src else op.dst)
          d.quant * d.esize
        | _ => op.total
      { op with done := done, started := done != 0, total := if done == 0 then op.total else total,
                ahead := match u.queue with
                  | old :: _ => if old.done == done then old.ahead else []
                  | [] => [] } :: rest
    | [] => []
  let written := match queue with
    | op :: _ => ((unitParts (op.unitLen s) 0 op.done).map (fun x =>
        granulesOf (op.dstAt s x.1) x.2.2)).flatten.dedup.filter (· < 0x500000)
    | [] => []
  onCopy (fun _ => { queue := queue, armed := armed, fired := [], doneCount := BitVec.ofNat 32 (fieldAt b 0x808 8),
                     written := written }) s

/-- The registers and planes of a save area put back (R331).
(Log entry 43, DEDUCED) -/
def restoreRegisters (keep : Kept) (a : Nat) (h : HeaderBlock) (s : State) : State :=
  let w := supWho s
  let scan := if keep.planes then readMem s.mem w (a + 0x66000) 135168 else []
  let planes := if keep.planes then parsePlanes (rowmapOf s) scan (readMem s.mem w (a + 0x87000) 61440)
    else (Plane.zero, Plane.zero)
  onSeq (fun q => { putHeader h keep.k q with
    v := Vector.ofFn (fun (i : Fin 32) => if keep.v i.val then
        { data := bitsOfBytes _ (readMem s.mem w (a + 0x4000 + 256 * i.val) 256), tag := h.vtags.getD i.val 0 }
      else VReg.zero),
    t := Vector.ofFn (fun (i : Fin 16) => if keep.t i.val then
        parseTileImage (readMem s.mem w (a + 0x6000 + 24576 * i.val) 24576) else Tile.zero),
    w := planes.1, w' := planes.2 }) s

/-- What a unit's record keeps beside its image, back on the bay. -/
def restoreBeside (u : UnitRec) (s : State) : State :=
  onSeq (fun q => { clearRegisters q with cmdp := u.cmdp, record := u.loopRecord, sect := u.sect,
                                          trip := u.loopRecord.trip, engineFaults := u.faults, buffers := u.buffers }) s

/-- A hard context restored (R331): as `snapld` of its snapshot and `eret`. -/
def restoreHard (u : UnitRec) (a : Nat) (s : State) : State :=
  let w := supWho s
  let snap := readMem s.mem w a 8192
  let h := parseHeader (readMem s.mem w (a + 0x2000) 4096)
  if !snapshotOk snap then doubleFault (cause 12 0x07 (BitVec.ofNat 64 a) 0) s
  else if s.seq.chainFails || !scanMatches (rowmapOf s) (readMem s.mem w (a + 0x66000) 135168) then chainCheck 0 s
  else
    let old := u.snapshot.getD Snapshot.empty
    let s := restoreRegisters Kept.all a h (restoreBeside u s)
    let s := restoreEngine u (readMem s.mem w (a + 0x3000) 4096) s
    let s := onSeq (fun q => { q with sb := u.frozen, snapshot := parseSnapshot old snap, prevSupervisor := false }) s
    let s := match u.retry with
      | some t => retryFromMark t s
      | none => s
    returnFromTrap s

/-- An iteration context restored (R22, R331). -/
def restoreIteration (u : UnitRec) (a : Nat) (s : State) : State :=
  let w := supWho s
  let h := parseHeader (readMem s.mem w (a + 0x2000) 4096)
  let keep := Kept.ofMask u.loopRecord.carry
  if keep.planes && (s.seq.chainFails || !scanMatches (rowmapOf s) (readMem s.mem w (a + 0x66000) 135168)) then
    chainCheck 0 s
  else
    let s := restoreRegisters keep a h (restoreBeside u s)
    let s := restoreEngine u (readMem s.mem w (a + 0x3000) 4096) s
    onSeq (fun q => { q with pc := h.pc, gpos := h.gpos, loops := h.loops }) s

/-- A node context restored (R22): the command list goes on at CMDP with s1 to s7. -/
def restoreNode (u : UnitRec) (a : Nat) (s : State) : State :=
  let h := parseHeader (readMem s.mem (supWho s) (a + 0x2000) 4096)
  nextCommand (Vector.ofFn (fun (i : Fin 32) => h.s.getD i.val 0))
    (onSeq (fun q => { q with cmdp := h.cmdp, buffers := u.buffers, engineFaults := u.faults }) s)

/-- A step taken with the extent table of a region in place of the bay's. -/
def asRegion (h : W32) (f : State → State) (s : State) : State :=
  let old := s.seq.xtbl
  onSeq (fun q => { q with xtbl := old }) (f (onSeq (fun q => { q with xtbl := regionXtbl s h }) s))

/-- The retained slice of a unit saved or faulted, written to its slot before another unit issues on its bay (R328); the SLICE bit
of the header is the modelled bay's to set. A slice that holds an uncorrectable error is not copied: it is a machine check
(R334). -/
def saveSlice (bay k : Nat) (s : State) : State :=
  match unitOf s k with
  | none => s
  | some u =>
    let keeps := u.phase == .savedHard || u.phase == .savedIteration || u.phase == .faulted
    let own := bay == s.seq.bayId.toNat
    let a := slotBase s u
    if !keeps || u.slice then s
    else if (s.mem.badByte (0x200000 * bay) 0x200000).isSome then
      if own then machineCheck 0x04 0 s else otherCheck bay 0x04 u s
    else asRegion u.region (fun s =>
      if areaOk s (a + 0x100000) 2195456 && areaOk s a saveAreaSize then
        let s := onMem (putArea s (a + 0x100000) (sliceBytes s.mem bay)) s
        let s := if own then
            onMem (putArea s (a + 0x2001) [BitVec.ofNat 8 (readWord s.mem (supWho s) (a + 0x2001) 1 / 2 * 2 + 1)]) s
          else s
        chargeArea bay u.region (a + 0x100000) 2195456 (onUnit k (fun u => { u with slice := true }) s)
      else if own then machineCheck 0x05 0 s else otherCheck bay 0x05 u s) s

/-- Whether a machine check has stopped a bay (R325). -/
def bayStopped (s : State) (b : Nat) : Bool :=
  if b == s.seq.bayId.toNat then s.seq.stopped else s.disp.stoppedBays.contains b

/-- A unit that has a saved context returns to the bay (R328, R331): the header's KIND says which blocks are put back, and
SLICE whether the slice is. -/
def resumeUnit (u : UnitRec) (s : State) : State :=
  let a := slotBase s u
  if !areaOk s a saveAreaSize then machineCheck 0x05 0 s
  else
    let h := parseHeader (readMem s.mem (supWho s) (a + 0x2000) 4096)
    if h.slice && !areaOk s (a + 0x100000) 2195456 then machineCheck 0x05 0 s
    else
      let s := chargeArea s.seq.bayId.toNat u.region a saveAreaSize s
      let s := onUnit u.key (fun u => { u with slice := false }) (if h.slice then
          chargeArea s.seq.bayId.toNat u.region (a + 0x100000) 2195456
            (onMem (fun m => restoreSlice m s.seq.bayId.toNat (readMem m (supWho s) (a + 0x100000) 2195456)) s)
        else s)
      match h.kind with
      | .iteration => restoreIteration u a s
      | .node => restoreNode u a s
      | .hard => restoreHard u a s

/-- A bay made ready for a unit other than the one last descheduled on it: a retained slice is saved, ownership is released,
and the slice is cleared for another region (R146, R210, R328).
(Log entry 96, DESIGN CHOICE) -/
def prepareBay (bay : Nat) (region : W32) (s : State) : State :=
  let s := match lastOn s bay with
    | some k => saveSlice bay k s
    | none => s
  if bayStopped s bay then s
  else
    let other := s.disp.occupants.any (fun x => x.1 == bay && x.2 != region)
    let s := onMem (fun m =>
      let m := releaseBay bay m
      if other then clearSlices [bay] m else m) s
    let s := setLast bay none s
    if bay == s.seq.bayId.toNat then onSeq (fun q => { q with icache := [] }) s else s

/-- The region of the unit that now stands on a bay (R210). -/
def occupy (bay : Nat) (region : W32) (s : State) : State :=
  onDisp (fun d => { d with occupants := d.occupants.filter (·.1 != bay) ++ [(bay, region)] }) s

/-- What dispatch keeps of a unit from its placement on a bay: the effective values that it is placed with (R292). -/
def placeRecord (f : Firmware) (bay : Nat) (now : W64) (u : UnitRec) : UnitRec :=
  let node := nodeOf f u.region
  { u with phase := .placed, bay := bay, since := now, aged := 0, waiting := none, asked := none, readyAt := none, retry := none, cause := 0,
           domain := (node.map (fun n => (domainOf f 3 n).addr)).getD 0,
           farea := (node.map (effFarea f)).getD 0, fhrec := (node.map (effFhrec f)).getD 0 }

/-- A unit placed on the bay (R19, R210, R310, R313): the bay is made ready for it, then it starts or resumes. -/
def putOnBay (k : Nat) (s : State) : State :=
  match unitOf s k with
  | none => s
  | some u =>
    match launchOf s u.launch with
    | none => s
    | some l =>
      let s := if s.seq.last == some k then s else prepareBay s.seq.bayId.toNat u.region s
      if s.seq.stopped then s
      else
        let s := onSeq (fun q => { q with last := none }) (loadIdentity u l s)
        let s := occupy s.seq.bayId.toNat u.region (onUnit k (placeRecord s.fw s.seq.bayId.toNat s.clock.time) s)
        match u.phase with
        | .savedHard | .savedIteration | .savedNode | .faulted => resumeUnit u s
        | _ => startUnit (l.kind == 1) u.first u.cmdp l.argp s

/-! ### A task that ends by a fault -/

/-- The operations of a queue run to their ends, by fuel, until one cannot go on. -/
def drainQueue : Nat → State → State
  | 0, s => s
  | fuel + 1, s =>
    if s.copy.queue.isEmpty then s
    else
      let s' := copyFinish (copyStart (onCopy (fun c => { c with queue := match c.queue with
        | [] => []
        | op :: rest => { op with left := 0 } :: rest }) s))
      if s'.copy.queue.length < s.copy.queue.length then drainQueue fuel s' else s'

/-- The copies that a unit off its bay still has in its saved queue, run to their end with the unit's own slots and tables
(R183, R190, R309); none while one of them cannot go on.
(Log entry 109, DESIGN CHOICE) -/
def drainSaved (u : UnitRec) (s : State) : Option State :=
  if u.queue.isEmpty || u.bay != s.seq.bayId.toNat then some s
  else
    let node := nodeOf s.fw u.region
    let ctx := match node with
      | some n => contextOf s.fw n
      | none => none
    let as := onSeq (fun q => { q with
      region := u.region.setWidth 64, supervisor := false, preempt := none, engineFaults := []
      xtbl := (ctx.map (·.xtab)).getD 0, pasid := (ctx.map (·.pasid)).getD 0 }) s
    let s' := restoreEngine u (readMem s.mem (supWho as) (slotBase s u + 0x3000) 4096) as
    let s' := drainQueue (s'.copy.queue.length + 1) s'
    if s'.copy.queue.isEmpty then some { s' with seq := s.seq, copy := s.copy } else none

/-- The task of a unit off its bay ends by a fault once its copies have drained and its loop-back writes have been applied (R190,
R212); until then the reply that ends it stands. -/
def endByFault (k : Nat) (s : State) : State :=
  match unitOf s k with
  | none => s
  | some u =>
    let later := onDisp (fun d => { d with replies := d.replies ++ [{ unit := k, action := 0, tile := 0 }] })
    match drainSaved u s with
    | some s' => if loopbackDrained s' u.bay then abortUnit k s' else later s'
    | none => later s

/-- Op 2 of CTXCMD (R326, R25): release, the fault record, and the handler task. A fault inside a handler task kills the
region; without a record or a handler the task ends as by action 0. The launch keeps the first cause that is forwarded (R309).
(Log entries 54 DEDUCED, 134 DEDUCED) -/
def contextForward (s : State) : State :=
  match placedUnit s with
  | none => s
  | some u =>
    let cause := s.seq.snapshot.cause
    let s1 := takeGang u.launch u.idx .hard (leaveBay .faulted none s)
    let s1 := onLaunch u.launch (fun l => { l with fcause := l.fcause.or (some cause) })
      (onUnit u.key (fun x => { x with cause := cause, faultCount := x.faultCount + 1 }) s1)
    let r := forwardRecord s u s1
    if isHandler s u then killRegion u.region r.1
    else
      match r.2, nodeOf s.fw u.region with
      | some a, some n => if u.fhrec == 0 then endByFault u.key r.1 else spawnHandler u n a r.1
      | _, _ => endByFault u.key r.1

/-! ### The sequence of sections -/

/-- The results still in flight land, each after its own number of issuing steps (R85, R317). -/
def landAll (q : Seq) : Seq := (List.range 8).foldl (fun q _ => landDue (countDown q)) q

/-- The scoreboarded results of the last group land (R84). -/
def landScoreboard (q : Seq) : Seq := { q.sb.foldl (fun q p => landPending p q) q with sb := [] }

/-- Whether a soft pre-emption is asked for.
(Log entry 45, DEDUCED) -/
def softAsked (s : State) : Bool := s.seq.preempt == some .soft

/-- The end of a section (R19): the next iteration, the epilogue, the next record of a command list, or the unit's
completion. Iteration and node pre-emption points lie here (R22, R332); results of the last group that are still in flight
land before the one, and before the next record takes over the registers.
(Log entry 20, DEDUCED) -/
def endSection (s : State) : State :=
  let q := s.seq
  let r := q.record
  let boundary := fun (s : State) =>
    if !softAsked s then s
    else if saveReady s then iterationSave none s
    else onSeq (fun q => { q with preempt := some .saving }) s
  let finish := fun (s : State) =>
    let s := onSeq (fun q => landScoreboard (landAll q)) s
    if softAsked s && s.copy.queue.isEmpty && s.copy.fired.isEmpty &&
        (nextRecord s (entriesLeft s.seq.cmdp s) s.seq.cmdp).isSome then nodeSave s
    else nextCommand s.seq.s s
  let epilogue := fun (s : State) =>
    if r.epilogue != 0 then onSeq (enterSection .epilogue r.epilogue) s else finish s
  match q.sect with
  | .prologue => if r.trip != 0 then onSeq (enterSection .kernel r.kernel) s else epilogue s
  | .kernel =>
    if q.iter.toNat + 1 < r.trip.toNat then
      boundary (onSeq (fun q => enterSection .kernel r.kernel { q with iter := q.iter + 1 }) s)
    else epilogue s
  | .epilogue => finish s

/-- Whether the section now ending is the unit's last, so that its copies must drain first (R19, R190). -/
def lastSection (s : State) : Bool :=
  let q := s.seq
  let r := q.record
  (nextRecord s (entriesLeft q.cmdp s) q.cmdp).isNone && (match q.sect with
    | .prologue => r.trip == 0 && r.epilogue == 0
    | .kernel => q.iter.toNat + 1 ≥ r.trip.toNat && r.epilogue == 0
    | .epilogue => true)

end Sys2Proof.Machine
end

