-- ==== Sys2Proof/Machine/Launch.lean ====
section
/-! DEFINITION. Queues and dispatch (R301 to R315): tail writes, taking and judging launch records, placement by priority,
pre-emption for a higher priority, gangs, time-triggered starts, launch completion, and the replies of fault handlers (R27). -/

namespace Sys2Proof.Machine

/-! ### Queues -/

/-- A user queue. -/
def queueOf (s : State) (q : BitVec 12) : Option Queue := s.disp.queues.find? (·.idx == q)

/-- A user queue changed. -/
def onQueue (q : BitVec 12) (f : Queue → Queue) (s : State) : State :=
  onDisp (fun d => { d with queues := d.queues.map (fun x => if x.idx == q then f x else x) }) s

/-- The slot-table entry that binds a queue (R304). -/
def boundBy (d : Dispatch) (q : BitVec 12) : Option W64 :=
  (d.slotTable.find? (fun e => e.2.getLsbD 12 && e.2.setWidth 12 == q)).map (·.2)

/-- Whether a queue is bound. -/
def isBound (d : Dispatch) (q : BitVec 12) : Bool := (boundBy d q).isSome

/-- A queue that has advanced: dispatch is triggered when it is bound; otherwise its activity bit is set (R305). -/
def noteActivity (q : BitVec 12) (s : State) : State :=
  if isBound s.disp q then s else onDisp (fun d => { d with bitmap := d.bitmap ||| (1 <<< q.toNat) }) s

/-- Whether a PCIe function reaches what belongs to a region: PF0 reaches all, VF p + 1 partition p (R294). -/
def functionOwns (s : State) (fn : Nat) (h : W32) : Bool := fn == 0 || partOf s.fw h == some (fn - 1) && fn ≤ 8

/-- A mailbox error in the log of its function, which holds the newest 64 (R208, R302, R345).
(Log entry 107, DESIGN CHOICE) -/
def mailboxError (fn addr : Nat) (s : State) : State :=
  onHost (fun h => { h with mailboxErrors := vecModify h.mailboxErrors fn (fun l =>
    (l ++ [(⟨BitVec.ofNat 64 addr⟩ : MailboxError)]).drop (l.length + 1 - 64)) }) s

/-- A write to a doorbell page (R302). -/
def tailWrite (fn queue off : Nat) (data : List Byte) (s : State) : State :=
  let refuse := mailboxError fn (4096 * queue + off) s
  match queueOf s (BitVec.ofNat 12 queue) with
  | none => refuse
  | some q =>
    let t := natOfBytes data
    if queue < 4096 && off == 0 && data.length == 8 && q.valid && !q.device && functionOwns s fn q.region &&
        q.tail.toNat ≤ t && t ≤ q.head.toNat + 2 ^ q.log2n then
      if t == q.tail.toNat then s
      else noteActivity q.idx (onQueue q.idx (fun q => { q with tail := BitVec.ofNat 64 t }) s)
    else refuse

/-- `launch` (R196, R314): its status, and the queue with the record appended. -/
def appendLaunch (q : BitVec 12) (record : List Byte) (s : State) : W64 × State :=
  match queueOf s q with
  | none => (BitVec.ofInt 64 (-8), s)
  | some x =>
    if !x.valid || x.region != s.regionHandle || !x.device then (BitVec.ofInt 64 (-8), s)
    else if (x.tail - x.head).toNat ≥ 2 ^ x.log2n then (BitVec.ofInt 64 (-4), s)
    else
      let a := x.ring.toNat + 64 * (x.tail.toNat % 2 ^ x.log2n)
      (0, noteActivity q (onQueue q (fun x => { x with tail := x.tail + 1 })
        (onMem (fun m => writeMem m (regionWho s s.agent x.region) a record) s)))

/-- `lstat` (R196, R314): a queue whose entry was never written is empty. -/
def queueStatus (q : BitVec 12) (s : State) : W64 :=
  (match queueOf s q with
    | none => 0
    | some x => (x.tail - x.head) &&& 0xFFFF) ||| (if isBound s.disp q then 1 <<< 32 else 0)

/-- Whether a range lies in extent space. -/
def inExtents (a n : Nat) : Bool :=
  match rowOf a with
  | some (.extent, hi) => a + n ≤ hi
  | _ => false

/-- A queue-table entry from its 64 bytes, or none when it breaks R301.
(Log entry 55, DEDUCED) -/
def parseQueue (s : State) (idx : BitVec 12) (b : List Byte) : Option Queue :=
  let h : W32 := BitVec.ofNat 32 (fieldAt b 0x20 4)
  let prio := fieldAt b 0x25 1
  let flags := fieldAt b 0x26 1
  let within := match nodeOf s.fw h with
    | some n => n.kind == 2 && !n.killed && prio ≤ effPrio s.fw n
    | none => false
  let ring := fieldAt b 0 8
  let mirror := fieldAt b 0x18 8
  let placed := ring % 64 == 0 && inExtents ring (64 * 2 ^ min 16 (fieldAt b 0x24 1)) && mirror % 8 == 0 &&
    (mirror == 0 || inExtents mirror 8 || (match rowOf mirror with
      | some (.host, hi) => mirror + 8 ≤ hi
      | _ => false))
  let ok := b.length == 64 && placed && 4 ≤ fieldAt b 0x24 1 && fieldAt b 0x24 1 ≤ 16 && prio ≤ 23 &&
    flags < 4 && (b.drop 0x27).all (· == 0) && within
  if ok || flags % 2 == 0 then
    some { idx := idx, ring := BitVec.ofNat 64 (fieldAt b 0 8), head := BitVec.ofNat 64 (fieldAt b 8 8),
           tail := BitVec.ofNat 64 (fieldAt b 0x10 8), hmirr := BitVec.ofNat 64 (fieldAt b 0x18 8), region := h,
           log2n := min 16 (fieldAt b 0x24 1), prio := prio, valid := flags % 2 == 1, device := flags / 2 % 2 == 1,
           mirrored := none, due := false, epoch := 0 }
  else none

/-- Firmware writes a queue-table entry (R301); a valid queue is not given to a region of another partition (R294), and one of
a killed region is written once that region's launches have completed (R293).
(Log entry 55, DEDUCED) -/
def writeQueue (idx : BitVec 12) (b : List Byte) (s : State) : State :=
  match parseQueue s idx b with
  | some q =>
    let old := s.disp.queues.find? (·.idx == idx)
    if (old.map (fun x => isBreaking s x.region)).getD false then s
    else if s.disp.queues.any (fun x => x.idx == idx && x.valid && !sharesPart s x.region q.region) then logEntry .refusedInstall s
    else onDisp (fun d => { d with queues := d.queues.filter (·.idx != idx) ++
      [{ q with epoch := (old.map (·.epoch + 1)).getD 0 }] }) s
  | none => logEntry .refusedInstall s

/-- A step taken with a region's PASID in place of the running one. -/
def withPasid (p : BitVec 20) (f : State → State) (s : State) : State :=
  let old := s.seq.pasid
  onSeq (fun q => { q with pasid := old }) (f (onSeq (fun q => { q with pasid := p }) s))

/-- The store of HEAD to a queue's head mirror (R303): at most once a microsecond, but at once when the queue is empty. -/
def mirrorHead (idx : BitVec 12) (s : State) : State :=
  match queueOf s idx with
  | none => s
  | some q =>
    let now := s.clock.time
    let free := match q.mirrored with
      | some t => 1000 ≤ (now - t).toNat || q.head == q.tail
      | none => true
    let a := q.hmirr.toNat
    let stored := onQueue idx (fun q => { q with mirrored := some now, due := false })
    if !q.due || !free || a == 0 then s
    else match rowOf a with
      | some (.host, _) =>
        let pasid := match nodeOf s.fw q.region with
          | some n => match contextOf s.fw n with
            | some c => c.pasid
            | none => 0
          | none => 0
        withPasid pasid (fun s =>
          if (hostParts a 8).any (fun p => checkHostPage s p.1 == .refused) then
            stored (logEntry (.mirrorRefused idx) (dropRefused a 8 s))
          else if hostReady s a 8 then stored (postHost 0x1FF a (bytesOfBits q.head) s)
          else askHost a 8 s) s
      | _ => stored (onMem (fun m => writeMem m (regionWho s 0x1FF q.region) a (bytesOfBits q.head)) s)

/-! ### Launch records -/

/-- Pipe i of a gang descriptor (R312). -/
def parsePipe (b : List Byte) (i : Nat) : GangPipe :=
  let w := fieldAt b (0x80 + 16 * i) 8
  { prod := w % 8, cons := w / 8 % 8, slot := BitVec.ofNat 4 (w / 64), lsize := w / 1024 % 32, esize := w / 2 ^ 16 % 65536 * 64,
    quant := w / 2 ^ 32 % 65536, ofs := w / 2 ^ 48 % 65536 * 64, hash := BitVec.ofNat 64 (fieldAt b (0x88 + 16 * i) 8) }

/-- Whether a pipe keeps R179 and R312 on its own. -/
def pipeOk (nmemb : Nat) (p : GangPipe) : Bool :=
  p.prod != p.cons && p.prod < nmemb && p.cons < nmemb && 6 ≤ p.lsize && p.lsize ≤ 21 && p.esize != 0 &&
    p.esize ≤ 2 ^ p.lsize && 1 ≤ p.quant && p.quant ≤ 2 ^ p.lsize / p.esize && p.hash != 0 &&
    p.ofs + 64 + 2 ^ p.lsize ≤ 0x200000

/-- Whether two pipes of a gang go together (R312). -/
def pipesApart (p q : GangPipe) : Bool :=
  !(p.slot == q.slot && (p.prod == q.prod || p.prod == q.cons || p.cons == q.prod || p.cons == q.cons)) &&
    !(p.cons == q.cons && rangesMeet p.ofs (64 + 2 ^ p.lsize) q.ofs (64 + 2 ^ q.lsize))

/-- A gang descriptor: its members' records and its pipes, or none when it is malformed (R312).
(Log entry 74, DEDUCED) -/
def parseGang (b : List Byte) : Option (List W64 × List GangPipe) :=
  let n := fieldAt b 0 1
  let np := fieldAt b 1 1
  let pipes := (List.range np).map (parsePipe b)
  let ok := 1 ≤ n && n ≤ 8 && np ≤ 16 && (bytesAt b 2 6).all (· == 0) &&
    (bytesAt b (8 + 8 * n) (0x78 - 8 * n)).all (· == 0) &&
    (List.range np).all (fun i => (parsePipe b i).lsize < 32 && fieldAt b (0x80 + 16 * i) 8 / 32768 % 2 == 0) &&
    pipes.all (pipeOk n) &&
    pipes.zipIdx.all (fun x => pipes.zipIdx.all (fun y => x.2 == y.2 || pipesApart x.1 y.1))
  if ok then some ((List.range n).map (fun i => BitVec.ofNat 64 (fieldAt b (8 + 8 * i) 8)), pipes) else none

/-- How many bays a mask admits. -/
def bayCount (b : BitVec 160) : Nat := ((List.range 160).filter (b.getLsbD ·)).length

/-- BMIN as it is read (R307). -/
def bminOf (b : List Byte) : Nat := min (max 1 (fieldAt b 2 1)) (fieldAt b 0xC 4)

/-- Whether a launch record is malformed, and the members and pipes of a gang's (R308). What a unit runs is read when it
runs: a launch that waits for its dependency acquires what the record names.
(Log entry 74, DEDUCED) -/
def judgeRecord (s : State) (q : Queue) (b : List Byte) : Bool × List W64 × List GangPipe :=
  let kind := fieldAt b 0 1
  let flags := fieldAt b 1 1
  let bmax := fieldAt b 3 1
  let recAddr := fieldAt b 0x10 8
  let w := regionWho s s.agent q.region
  let gang := if kind == 2 then parseGang (readMem s.mem w recAddr 384) else none
  let members := match gang with
    | some g => g.1.length
    | none => 1
  let bays := match nodeOf s.fw q.region with
    | some n => bayCount (effBays s.fw n)
    | none => 0
  let bad := 2 < kind || 4 ≤ flags || fieldAt b 6 2 != 0 || fieldAt b 8 4 != q.region.toNat ||
    (bmax != 0 && bmax < bminOf b) || bays < bminOf b * members || (flags / 2 % 2 == 1 && fieldAt b 0x34 4 == 0) ||
    (flags / 2 % 2 == 0 && fieldAt b 4 2 != 0) || (kind == 2 && gang.isNone)
  (bad, (gang.map (·.1)).getD [], (gang.map (·.2)).getD [])

/-- Dispatch takes a queue's next record and judges it (R307, R308).
(Log entry 47, DESIGN CHOICE) -/
def takeRecord (idx : BitVec 12) (s : State) : State :=
  match queueOf s idx with
  | none => s
  | some q =>
    let waits := s.disp.launches.any (fun l => l.queue == some idx &&
      (l.phase == .dependency || l.phase == .timed || l.phase == .ready))
    if !q.valid || !isBound s.disp idx || q.tail.toNat ≤ q.head.toNat || waits then s
    else
      let b := queueRecord s q q.head.toNat
      let j := judgeRecord s q b
      let units := fieldAt b 0xC 4
      let flags := fieldAt b 1 1
      let l : Launch :=
        { key := s.disp.fresh, queue := some idx, number := q.head, handles := none, region := q.region,
          task := Config.taskHandle idx q.epoch q.head,
          kind := BitVec.ofNat 8 (fieldAt b 0 1), recAddr := BitVec.ofNat 64 (fieldAt b 0x10 8), bmin := bminOf b,
          bmax := fieldAt b 3 1, gang := BitVec.ofNat 16 (fieldAt b 4 2), units := units,
          argp := BitVec.ofNat 64 (fieldAt b 0x18 8), csync := BitVec.ofNat 64 (fieldAt b 0x20 8),
          dsync := BitVec.ofNat 64 (fieldAt b 0x28 8), dgen := BitVec.ofNat 32 (fieldAt b 0x30 4), dep := flags % 2 == 1,
          tt := flags / 2 % 2 == 1, period := BitVec.ofNat 32 (fieldAt b 0x34 4), tstart := BitVec.ofNat 64 (fieldAt b 0x38 8),
          skip := 0, members := j.2.1, pipes := j.2.2, prio := q.prio,
          phase := if flags % 2 == 1 then .dependency else if flags / 2 % 2 == 1 then .timed else .ready,
          placed := 0, ndone := 0, ended := 0, fcause := none, outcome := 0, waitSince := s.clock.time,
          readyAt := s.clock.time, aged := 0, released := [], stamps := [], refusing := false }
      let s := onDisp (fun d => { d with launches := d.launches ++ [l], fresh := d.fresh + 1 }) s
      let s := onQueue idx (fun q => { q with head := q.head + 1, due := q.hmirr != 0 }) s
      if j.1 then completeLaunch l.key 3 s
      else if 2 ^ 24 < units then completeLaunch l.key 2 s
      else if units == 0 then completeLaunch l.key 1 s
      else s

/-- A launch's dependency is met (R308); no value is taken from a sync word with an uncorrectable error (R334). -/
def meetDependency (key : Nat) (s : State) : State :=
  match launchOf s key with
  | none => s
  | some l =>
    if l.phase == .dependency && syncPlaced l.dsync.toNat then
      unlessDamaged l.region (anyDamaged s.mem [(l.dsync.toNat, 16)]) (fun s =>
        if syncReached s.mem l.dsync.toNat l.dgen then
          onLaunch key (fun l => { l with phase := if l.tt then .timed else .ready, waitSince := s.clock.time,
                                          readyAt := s.clock.time }) s
        else s) s
    else s

/-- A launch completes when every unit or instance has completed or ended (R309). -/
def launchEnd (key : Nat) (s : State) : State :=
  match launchOf s key with
  | none => s
  | some l =>
    if l.phase == .started && l.ndone + l.ended == l.units then completeLaunch key (if l.ended == 0 then 0 else 4) s else s

/-! ### Placement -/

/-- A base priority with its levels of ageing (R310). -/
def agedPrio (base levels : Nat) : Nat := if 20 ≤ base then base else max base (min 19 (base + min 3 levels))

/-- The bay of a number is free: no unit stands on it, and neither a machine check nor a `halt`, which only firmware ends, has
stopped it (R325, R200). -/
def bayFree (s : State) (b : Nat) : Bool :=
  !s.disp.units.any (fun u => u.bay == b && u.phase == .placed) && !bayStopped s b &&
    (b != s.seq.bayId.toNat || (s.seq.unit.isNone && !s.seq.halted))

/-- A save slot of a region that no live unit holds (R329). -/
def freeSlot (s : State) (h : W32) : Option Nat :=
  match nodeOf s.fw h with
  | some n => (List.range n.saven).find? (fun i => !s.disp.units.any (fun u => u.region == h && u.live && u.slot == i))
  | none => none

/-- How many save slots of a region are free. -/
def freeSlots (s : State) (h : W32) : Nat :=
  match nodeOf s.fw h with
  | some n => n.saven - (s.disp.units.filter (fun u => u.region == h && u.live)).length
  | none => 0

/-- Whether a region may be placed on a bay: admitted by its effective BAYS, with a counter slot on the die, which the entry
that binds its queue names as valid (R295, R304). -/
def admitsBay (s : State) (h : W32) (queue : Option (BitVec 12)) (b : Nat) : Bool :=
  match nodeOf s.fw h with
  | none => false
  | some n =>
    let entry := match queue with
      | some q => boundBy s.disp q
      | none => none
    b < 160 && !n.killed && (effBays s.fw n).getLsbD b && (slotIndex s.fw (eastBay b) h).isSome &&
      (match entry with
        | some e => e.getLsbD (if eastBay b then 39 else 32) &&
          ((slotsOf s.fw (eastBay b)).toList[e.toNat / (if eastBay b then 2 ^ 33 else 2 ^ 26) % 64]?.map (·.handle)) == some h
        | none => true)

/-- The bays that admit a region's units from a queue. -/
def admittedBays (s : State) (h : W32) (queue : Option (BitVec 12)) : List Nat :=
  (List.range 160).filter (admitsBay s h queue)

/-- The free bays that admit a launch. -/
def freeBays (s : State) (l : Launch) : List Nat := (admittedBays s l.region l.queue).filter (bayFree s)

/-- Units (instances) of a launch that stand on bays, which BMAX caps (R307). -/
def placedNow (s : State) (key : Nat) : Nat :=
  ((s.disp.units.filter (fun u => u.launch == key && u.phase == .placed)).map (·.idx)).dedup.length

/-- Whether BMAX of a launch admits one more unit (instance) on its bays (R307). -/
def underCap (s : State) (l : Launch) : Bool := l.bmax == 0 || placedNow s l.key < l.bmax

/-- Members of one instance: 1 but for a gang. -/
def Launch.size (l : Launch) : Nat := if l.kind == 2 then l.members.length else 1

/-- Units (instances) that are placed or have been, without those taken off again before the start (R315). -/
def Launch.standing (l : Launch) : Nat := l.placed - l.released.length

/-- The unit (instance) placed next: the lowest one taken off, or else the next in order (R310, R315). -/
def Launch.nextIdx (l : Launch) : Nat := l.released.foldl min l.placed

/-- The margin of a launch's gang-start group (R315). -/
def marginOf (s : State) (l : Launch) : Nat :=
  match s.fw.startGroups.find? (·.id == l.gang) with
  | some g => if l.gang == 0 then 0 else g.delta
  | none => 0

/-- Whether a launch has a unit (instance) that may be placed now (R307 to R310, R315, R25, R329). -/
def launchReady (s : State) (l : Launch) : Bool :=
  let early := match l.handles with
    | some _ => s.disp.launches.any (fun x => x.handles.isSome && x.region == l.region && x.key < l.key && x.phase != .ended)
    | none => false
  let timed := l.phase == .timed && l.tstart.toNat ≤ s.clock.time.toNat + marginOf s l + 10000 && l.standing < l.bmin
  (l.phase == .ready || l.phase == .started || timed) && l.nextIdx < l.units && underCap s l &&
    (if l.standing == 0 then l.bmin else 1) * l.size ≤ freeSlots s l.region && !early

/-- The regions of units saved at `swait.y` whose sync words hold an uncorrectable error where dispatch looks (R24, R334). -/
def damagedWaits (s : State) : List W32 :=
  (s.disp.units.filter (fun u => u.phase == .savedIteration && u.readyAt.isNone && (match u.waiting with
    | some (a, _) => anyDamaged s.mem [(a.toNat, 16)]
    | none => false))).map (·.region)

/-- Dispatch looks at the sync words of units saved at `swait.y`: a machine check where one holds an uncorrectable error (R334).
(Log entries 78 DESIGN CHOICE, 95 DESIGN CHOICE) -/
def checkWaits (s : State) : State := (damagedWaits s).dedup.foldl (fun s h => alarm h s) s

/-- Whether a saved unit may resume, its bay apart (R22, R24). -/
def unitReady (s : State) (u : UnitRec) : Bool :=
  match u.phase with
  | .savedHard | .savedNode => true
  | .savedIteration =>
    (match u.waiting with
    | some (a, g) => u.readyAt.isSome || (!anyDamaged s.mem [(a.toNat, 16)] && syncGen s.mem a.toNat != g)
    | none => true)
  | _ => false

/-- The moment when a unit saved at `swait.y` is seen to have become ready (R24, R310). -/
def noteReady (s : State) : State :=
  let now := s.clock.time
  onDisp (fun d => { d with units := d.units.map (fun u =>
    if u.phase == .savedIteration && u.readyAt.isNone && unitReady s u then { u with readyAt := some now } else u) }) s

/-- The members of a unit's instance that have not ended: they leave and return together (R23). -/
def membersOf (s : State) (u : UnitRec) : List UnitRec := (instanceOf s u.launch u.idx).filter (·.live)

/-- The queue of a unit's launch. -/
def queueOfUnit (s : State) (u : UnitRec) : Option (BitVec 12) := (launchOf s u.launch).bind (·.queue)

/-- The bays on which a saved unit may resume (R22): the one it left, or, after a node save of the modelled bay's unit, every
one that admits it. A node save made on another bay is not in the model's memory and resumes on another bay.
(Log entry 4, DESIGN CHOICE) -/
def resumeBays (s : State) (u : UnitRec) : List Nat :=
  (admittedBays s u.region (queueOfUnit s u)).filter (fun b =>
    if u.phase == .savedNode then u.bay == s.seq.bayId.toNat || b != s.seq.bayId.toNat else b == u.bay)

/-- Whether a saved instance may resume: every member is ready, and BMAX admits it (R23, R307). -/
def instanceReady (s : State) (u : UnitRec) : Bool :=
  (membersOf s u).all (unitReady s) && (match launchOf s u.launch with
    | some l => underCap s l
    | none => false)

/-- What dispatch may place on a bay: a launch's next unit or instance, or a saved unit with its instance. -/
inductive Candidate where
  | fresh (l : Launch)
  | saved (u : UnitRec)
  deriving DecidableEq, Repr

/-- Levels of priority gained by waiting from one TIME to another (R310). -/
def levelsAt (now since : W64) : Nat := min 3 ((now.toNat - since.toNat) / 50000)

/-- The TIME from which a launch waits or is ready: a timed one not before it may be placed for its next start (R310, R315). -/
def waitFrom (s : State) (l : Launch) (t : W64) : W64 :=
  if l.phase == .timed then BitVec.ofNat 64 (max t.toNat (l.tstart.toNat - (marginOf s l + 10000))) else t

/-- Waiting counted into levels of priority, for the launches and saved units of a launch key, or of every one (R310). -/
def ageWaiting (key : Option Nat) (s : State) : State :=
  let now := s.clock.time
  onDisp (fun d => { d with
    launches := d.launches.map (fun l =>
      if key.isNone || key == some l.key then { l with aged := levelsAt now (waitFrom s l l.waitSince) } else l)
    units := d.units.map (fun u =>
      if (key.isNone || key == some u.launch) && u.live && u.phase != .placed then { u with aged := levelsAt now u.since }
      else u) }) s

/-- A candidate's effective priority (R310). -/
def Candidate.prio : Candidate → Nat
  | .fresh l => agedPrio l.prio l.aged
  | .saved u => agedPrio u.prio u.aged

/-- When a candidate became ready (R310). -/
def Candidate.since (s : State) : Candidate → Nat
  | .fresh l => (waitFrom s l l.readyAt).toNat
  | .saved u => (u.readyAt.getD u.since).toNat

/-- Whether a candidate is a fault handler task, which goes before user launches of its priority (R25). -/
def Candidate.handler (s : State) : Candidate → Bool
  | .fresh l => l.handles.isSome
  | .saved u => isHandler s u

/-- Whether candidate a goes before candidate b (R310, R25).
(Log entry 75, DESIGN CHOICE) -/
def goesBefore (s : State) (a b : Candidate) : Bool :=
  if a.prio != b.prio then b.prio < a.prio
  else if a.handler s != b.handler s then a.handler s
  else a.since s < b.since s

/-- The candidates for a bay (R310). -/
def candidatesFor (s : State) (b : Nat) : List Candidate :=
  (s.disp.units.filter (fun u => unitReady s u && (resumeBays s u).contains b && instanceReady s u)).map .saved ++
  (s.disp.launches.filter (fun l => launchReady s l && admitsBay s l.region l.queue b)).map .fresh

/-- The candidate that dispatch decides for first (R310).
(Log entry 75, DESIGN CHOICE) -/
def bestCandidate (s : State) (cs : List Candidate) : Option Candidate :=
  cs.foldl (fun b c => match b with
    | some x => if goesBefore s c x then some c else some x
    | none => some c) none

/-- The bays that a candidate needs free together, in groups: how many, out of which (R307, R311, R313). -/
def Candidate.needs (s : State) : Candidate → List (Nat × List Nat)
  | .fresh l => [((if l.standing == 0 then l.bmin else 1) * l.size, admittedBays s l.region l.queue)]
  | .saved u =>
    let ms := membersOf s u
    let anywhere := ms.filter (·.phase == .savedNode)
    (ms.filter (·.phase != .savedNode)).map (fun x => (1, [x.bay])) ++
      (if anywhere.isEmpty then [] else [(anywhere.length, resumeBays s u)])

/-- Whether the bays that a candidate needs are free. -/
def canPlace (s : State) (c : Candidate) : Bool :=
  (c.needs s).all (fun n => n.1 ≤ (n.2.filter (bayFree s)).length)

/-! ### Placing -/

/-- The buffers of the pipes to which a member of an instance is a party (R313). -/
def pipeDescs (l : Launch) (bays : List Nat) (member : Nat) : List W64 :=
  (l.pipes.filter (fun p => p.prod == member || p.cons == member)).map (fun p =>
    BitVec.ofNat 64 (0x200000 * bays.getD p.cons 0 + p.ofs))

/-- A new unit of a launch: a member of an instance on its bay.
(Log entry 53, DEDUCED) -/
def newUnit (s : State) (l : Launch) (idx : Nat) (bays : List Nat) (member slot : Nat) : UnitRec :=
  let u : UnitRec :=
    { key := s.disp.fresh, launch := l.key, idx := idx, member := member, region := l.region, bay := 0, slot := slot,
      phase := .placed, first := if l.kind == 2 then l.members.getD member 0 else l.recAddr,
      cmdp := if l.kind == 1 then l.recAddr else 0, loopRecord := LoopRecord.empty, sect := .prologue,
      buffers := pipeDescs l bays member, frozen := [], planes := none, queue := [], armed := [], held := none, snapshot := none,
      record := none, cause := 0, faultCount := 0, slice := false, waiting := none, retry := none, debug := false, faults := [], asked := none,
      askedAt := 0, readyAt := none, domain := 0, farea := 0, fhrec := 0, prio := l.prio, since := 0, aged := 0, inputSeq := 0 }
  placeRecord s.fw (bays.getD member 0) s.clock.time u

/-- A launch has placed one more unit or instance; a launch that is not timed has then started (R308, R310). -/
def notePlaced (key idx : Nat) (s : State) : State :=
  onLaunch key (fun l => { l with placed := if l.released.contains idx then l.placed else l.placed + 1,
                                  released := l.released.filter (· != idx), waitSince := s.clock.time, aged := 0,
                                  phase := if l.phase == .ready then .started else l.phase }) s

/-- A pipe's descriptor in the consumer's slice, before any member issues (R313). -/
def initPipe (p : GangPipe) (prodBay consBay : Nat) (m : Mem) : Mem :=
  let a := 0x200000 * consBay + p.ofs
  let b := bytesOfNat 8 (a + 64) ++ bytesOfNat 4 p.esize ++ bytesOfNat 2 p.quant ++ bytesOfNat 1 p.lsize ++ zeroBytes 17 ++
    bytesOfNat 2 prodBay ++ bytesOfNat 2 consBay ++ zeroBytes 4 ++ bytesOfNat 8 p.hash.toNat ++ zeroBytes 16
  let m := m.putSpad a b
  openRange (setOwner m (a / 64) (some .pub)) (a + 64) (2 ^ p.lsize)

/-- The slot of a pipe bound in the bay's own member (R180, R313). -/
def bindPipe (p : GangPipe) (bays : List Nat) (member : Nat) (s : State) : State :=
  let a := BitVec.ofNat 64 (0x200000 * bays.getD p.cons 0 + p.ofs)
  if p.prod == member || p.cons == member then
    onSeq (fun q => { q with slots := q.slots.set p.slot.toNat { bound := true, desc := a, producer := p.prod == member,
                                                                 engine := false } p.slot.isLt
                             buffers := q.buffers ++ [a] }) s
  else s

/-- The next unit of a launch, or all members of its next instance at once, placed on free bays (R310, R313): the bays are made
ready, the pipes are written, every member stands, and then the modelled bay's own member starts. -/
def placeInstance (l : Launch) (bays : List Nat) (s : State) : State :=
  let own := s.seq.bayId.toNat
  let s := bays.foldl (fun s b => prepareBay b l.region s) s
  if bays.any (bayStopped s) then s
  else
    let idx := l.nextIdx
    let s := onMem (fun m => l.pipes.foldl (fun m p => initPipe p (bays.getD p.prod 0) (bays.getD p.cons 0) m) m) s
    let s := (List.range bays.length).foldl (fun s j =>
      match freeSlot s l.region with
      | some i =>
        onDisp (fun d => { d with units := d.units ++ [newUnit s l idx bays j i], fresh := d.fresh + 1 })
          (occupy (bays.getD j 0) l.region s)
      | none => s) s
    let s := notePlaced l.key idx s
    match (instanceOf s l.key idx).find? (·.bay == own) with
    | some u => putOnBay u.key (l.pipes.foldl (fun s p => bindPipe p bays u.member s) s)
    | none => s

/-- The bays on which the members of a saved instance resume: those that must, on their own; the others on free ones. -/
def assignBays (s : State) (us : List UnitRec) (b : Nat) : List (Nat × Nat) :=
  us.foldl (fun done u =>
    if u.phase != .savedNode then done ++ [(u.key, u.bay)]
    else
      let taken := done.map (·.2) ++ (us.filter (·.phase != .savedNode)).map (·.bay)
      match (b :: (resumeBays s u).filter (bayFree s)).find? (fun x => (resumeBays s u).contains x && !taken.contains x) with
      | some x => done ++ [(u.key, x)]
      | none => done) []

/-- A saved unit placed again on a bay other than the modelled one: unless it is the one last descheduled there, the bay is made
ready, and its slice is put back (R22, R210, R328). -/
def placeOther (k bay : Nat) (region : W32) (s : State) : State :=
  let s := if lastOn s bay == some k then setLast bay none s else prepareBay bay region s
  match unitOf s k with
  | none => s
  | some u =>
    if bayStopped s bay then s
    else
      let s := if u.slice then asRegion region (fun s =>
          chargeArea bay region (slotBase s u + 0x100000) 2195456
            (onMem (fun m => restoreSlice m bay (readMem m (supWho s) (slotBase s u + 0x100000) 2195456)) s)) s
        else s
      occupy bay region (onUnit k (fun u => { placeRecord s.fw bay s.clock.time u with slice := false }) s)

/-- A saved instance placed again, every member at once (R23). -/
def placeSaved (u : UnitRec) (b : Nat) (s : State) : State :=
  let own := s.seq.bayId.toNat
  let places := assignBays s (membersOf s u) b
  let s := (places.filter (·.2 != own)).foldl (fun s x => placeOther x.1 x.2 u.region s) s
  match places.find? (·.2 == own) with
  | some x => putOnBay x.1 s
  | none => s

/-- A candidate placed on a free bay, a gang's other members on others, when its bays are free. -/
def placeCandidate (c : Candidate) (b : Nat) (s : State) : Option State :=
  if !bayFree s b || !canPlace s c then none
  else match c with
    | .fresh l =>
      some (placeInstance l ((b :: (freeBays s l).filter (· != b)).take l.size) s)
    | .saved u => some (placeSaved u b s)

/-! ### Freeing bays -/

/-- A unit or instance of a timed launch that holds its first issue taken from its bays, to be placed again (R315). -/
def unplaceHeld (u : UnitRec) (s : State) : State :=
  let gone := fun (x : UnitRec) => x.launch == u.launch && x.idx == u.idx
  let mine := match placedUnit s with
    | some x => gone x
    | none => false
  let s := if mine then vacate s else s
  onLaunch u.launch (fun l => { l with released := u.idx :: l.released.filter (· != u.idx) })
    (onDisp (fun d => { d with units := d.units.filter (fun x => !gone x) }) s)

/-- Whether the bay's own unit waits at `swait.y` in user mode, with what it waits for (R178, R311, R322). -/
def waitsAtYield (s : State) : Option (W64 × W32) :=
  match s.seq.wait with
  | some (.sync a g true) => if s.seq.supervisor then none else some (a, g)
  | _ => none

/-- What a placed unit waits for at `swait.y`; of a unit on another bay the event says so. -/
def yieldWait (s : State) (waiting : List (Nat × W64 × W32)) (u : UnitRec) : Option (W64 × W32) :=
  if s.seq.unit == some u.key then waitsAtYield s
  else if u.bay == s.seq.bayId.toNat then none
  else ((waiting.find? (fun x => x.1 == u.bay && syncGen s.mem x.2.1.toNat == x.2.2)).map (·.2))

/-- Whether a placed unit's launch has not started, so that it holds its first issue (R315). -/
def holdsIssue (s : State) (u : UnitRec) : Bool :=
  match launchOf s u.launch with
  | some l => l.phase == .timed
  | none => false

/-- Whether a placed unit is on its way off its bay, for a request of a priority: a soft request does not count for 20 to 23,
which pre-empts hard at once (R311). -/
def leaving (s : State) (prio : Nat) (u : UnitRec) : Bool :=
  match askedOf s u with
  | none => false
  | some k => k == .hard || prio < 20

/-- Whether unit a is a victim before unit b (R311): one that waits at `swait.y`, then the lowest priority, then the one placed
most recently. -/
def victimBefore (s : State) (waiting : List (Nat × W64 × W32)) (a b : UnitRec) : Bool :=
  let wa := (yieldWait s waiting a).isSome
  let wb := (yieldWait s waiting b).isSome
  if wa != wb then wa
  else if a.prio != b.prio then a.prio < b.prio
  else b.since.toNat ≤ a.since.toNat

/-- The victims that free n bays among some units, or none when there are too few; an instance is taken whole (R311, R23). -/
def pickVictims (s : State) (waiting : List (Nat × W64 × W32)) : Nat → Nat → List UnitRec → Option (List UnitRec)
  | _, 0, _ => some []
  | 0, _ + 1, _ => none
  | fuel + 1, n + 1, us =>
    match us.foldl (fun b u => match b with
        | some x => if victimBefore s waiting u x then some u else some x
        | none => some u) none with
    | none => none
    | some u =>
      let together := us.filter (fun x => x.launch == u.launch && x.idx == u.idx)
      let rest := us.filter (fun x => !(x.launch == u.launch && x.idx == u.idx))
      (pickVictims s waiting fuel (n + 1 - together.length) rest).map (u :: ·)

/-- A unit on another bay leaves it by a save there, and its instance with it (R23). -/
def leaveOther (phase : UnitPhase) (waiting : Option (W64 × W32)) (u : UnitRec) (s : State) : State :=
  takeGang u.launch u.idx (if phase == .savedHard then .hard else .soft)
    (setLast u.bay (some u.key) (onUnit u.key (fun u => { u with
      phase := phase, asked := none, waiting := waiting, readyAt := none, since := s.clock.time, aged := 0 }) s))

/-- A victim taken for a priority, with its instance (R311): at once where it waits at `swait.y`, as an iteration pre-emption, or
has not begun; hard for 20 to 23, else at its next soft point. What is in flight, or the clamp, makes the save wait (R332, R8). -/
def takeVictim (prio : Nat) (waiting : List (Nat × W64 × W32)) (u : UnitRec) (s : State) : State :=
  if holdsIssue s u then unplaceHeld u s
  else match yieldWait s waiting u with
    | some w =>
      if s.seq.unit != some u.key then leaveOther .savedIteration (some w) u s
      else if saveReady s && !clampHeld s then iterationSave (some w) s else takeGang u.launch u.idx .soft s
    | none => takeGang u.launch u.idx (if 20 ≤ prio then .hard else .soft) s

/-- Bays freed for a candidate that does not find those it needs (R311): as many victims as it lacks, less those already on
their way; none when the bays hold too few.
(Log entries 4 DESIGN CHOICE, 75 DESIGN CHOICE) -/
def makeRoom (c : Candidate) (waiting : List (Nat × W64 × W32)) (s : State) : Option State :=
  (c.needs s).foldl (fun r n => r.bind (fun s =>
    let us := s.disp.units.filter (fun u => u.phase == .placed && n.2.contains u.bay)
    let free := (n.2.filter (bayFree s)).length
    let going := us.filter (leaving s c.prio)
    let open_ := us.filter (fun u => !leaving s c.prio u && (u.prio < c.prio || (yieldWait s waiting u).isSome))
    (pickVictims s waiting us.length (n.1 - free - going.length) open_).map (fun vs =>
      vs.foldl (fun s u => takeVictim c.prio waiting u s) s))) (some s)

/-- The decision for a bay among candidates, in their order (R310, R311): the first that is placed, or for which bays are being
freed, has it. -/
def decideBay (b : Nat) (waiting : List (Nat × W64 × W32)) : Nat → List Candidate → State → State
  | 0, _, s => s
  | fuel + 1, cs, s =>
    match bestCandidate s cs with
    | none => s
    | some c =>
      match placeCandidate c b s with
      | some s' => s'
      | none =>
        match makeRoom c waiting s with
        | some s' => s'
        | none => decideBay b waiting fuel (cs.erase c) s

/-- One decision of dispatch for a bay (R310, R311); `waiting` says which units on other bays wait at `swait.y`, and for what.
(Log entries 4 DESIGN CHOICE, 75 DESIGN CHOICE) -/
def placeOn (b : Nat) (waiting : List (Nat × W64 × W32)) (s : State) : State :=
  let s := ageWaiting none (noteReady s)
  let cs := candidatesFor s b
  decideBay b waiting cs.length cs s

/-! ### Gangs -/

/-- The next instance of a gang placed on the distinct bays that dispatch has chosen (R313), when no other candidate for them
goes before it (R310). -/
def placeGang (key : Nat) (bays : List Nat) (s : State) : State :=
  let s := ageWaiting none (noteReady s)
  match launchOf s key with
  | none => s
  | some l =>
    let c := Candidate.fresh l
    let last := bays.all (fun b => (candidatesFor s b).all (fun x =>
      !goesBefore s x c || !(canPlace s x || (makeRoom x [] s).isSome)))
    if l.kind == 2 && launchReady s l && bays.length == l.size && bays.dedup.length == l.size &&
        bays.all (fun b => bayFree s b && admitsBay s l.region l.queue b) && canPlace s c && last then placeInstance l bays s
    else s

/-! ### Units on other bays -/

/-- A unit on another bay completes (R19, R309); what it leaves in what the device shares ends with it.
(Log entry 4, DESIGN CHOICE) -/
def completeOther (s : State) (k : Nat) : State :=
  match unitOf s k with
  | none => s
  | some u =>
    if u.phase == .placed && u.bay != s.seq.bayId.toNat && !holdsIssue s u then endUnit u (knownBuffers s u) s else s

/-- A unit on another bay that has been asked to leave reaches such a point (R311, R318, R332).
(Log entry 4, DESIGN CHOICE) -/
def otherLeaves (kind : Preempt) (phase : UnitPhase) (k : Nat) (s : State) : State :=
  match unitOf s k with
  | none => s
  | some u =>
    let list := match launchOf s u.launch with
      | some l => l.kind == 1
      | none => false
    if u.phase == .placed && u.bay != s.seq.bayId.toNat && u.asked == some kind && (phase != .savedNode || list) then
      leaveOther phase none u s
    else s

/-- The end of a launch, after the units on other bays that have completed are counted (R309). -/
def launchDone (key : Nat) (done : List Nat) (s : State) : State :=
  launchEnd key ((done.filter (fun k => match unitOf s k with
    | some u => u.launch == key
    | none => false)).foldl completeOther s)

/-! ### Time-triggered starts -/

/-- A launch's units that stand on bays. -/
def placedOf (s : State) (key : Nat) : List UnitRec := s.disp.units.filter (fun u => u.launch == key && u.phase == .placed)

/-- Whether the chip had its BMIN units (instances) placed by a time (R315). -/
def placedBy (s : State) (l : Launch) (t : Nat) : Bool :=
  l.bmin ≤ l.standing && (placedOf s l.key).all (fun u => u.since.toNat ≤ t)

/-- At T - Δ a member that is neither late nor refusing reflects its ready word (R267, R315): T and its TIME, at 16 bytes
times its place in the group. A word that its window cannot take yet is not sent.
(Log entry 74, DEDUCED) -/
def sendReady (key : Nat) (s : State) : State :=
  match launchOf s key with
  | none => s
  | some l =>
    match s.fw.startGroups.find? (·.id == l.gang) with
    | none => s
    | some g =>
      let at_ := l.tstart.toNat - g.delta
      if l.phase != .timed || l.gang == 0 || s.clock.time.toNat < at_ || !l.stamps.isEmpty then s
      else if !s.clock.lock then onLaunch key (fun l => { l with refusing := true }) s
      else if !placedBy s l at_ || at_ < s.clock.time.toNat then onLaunch key (fun l => { l with refusing := false }) s
      else
        let s' := onLaunch key (fun l => { l with stamps := [s.clock.time], refusing := false }) s
        match s.refl.tx.find? (fun w => w.id == g.tx), (List.range g.members.length).find? (fun i =>
            g.members.getD i 0 == s.seq.chipId) with
        | some w, some i =>
          (tryPost w (16 * i) (bytesOfBits l.tstart ++ bytesOfBits s.clock.time) none 0x1FF s').getD s
        | _, _ => s'

/-- Whether a member's ready word for a start stands in the group's receive window, stamped in time (R267). -/
def readyFrom (s : State) (l : Launch) (g : StartGroup) (i : Nat) : Bool :=
  if g.members.getD i 0 == s.seq.chipId then l.stamps.any (fun t => t.toNat + g.delta ≤ l.tstart.toNat)
  else match rxById s.refl g.rx with
    | none => false
    | some x =>
      let w := regionWho s (reflectAgent x.back.toNat) x.region
      let a := x.back.toNat + 16 * i
      readWord s.mem w a 8 == l.tstart.toNat && readWord s.mem w (a + 8) 8 + g.delta ≤ l.tstart.toNat

/-- The attempt to start a time-triggered launch at T (R315). What it has waited counts on from the moment it could be placed
(R310). -/
def attemptStart (key : Nat) (s : State) : State :=
  match launchOf s key with
  | none => s
  | some l =>
    if l.phase != .timed || s.clock.time.toNat < l.tstart.toNat then s
    else
      let group := if l.gang == 0 then none else s.fw.startGroups.find? (·.id == l.gang)
      let refusing := if l.gang == 0 then !s.clock.lock else l.refusing
      let go := if l.gang == 0 then s.clock.lock && placedBy s l l.tstart.toNat
        else match group with
          | some g => (List.range g.members.length).all (readyFrom s l g)
          | none => false
      if go then
        onLaunch key (fun l => { l with
          phase := .started, waitSince := waitFrom s l l.waitSince
          readyAt := waitFrom s l l.readyAt }) s
      else
        let s := onLaunch key (fun l => { l with skip := l.skip + 1, tstart := l.tstart + l.period.setWidth 64, stamps := [],
                                                 refusing := refusing }) s
        if l.skip + 1 == 16 then
          completeLaunch key (if refusing then 6 else 7)
            ((placedOf s key).foldl (fun s u => unplaceHeld u s) s)
        else s

/-! ### Replies of fault handlers -/

/-- A reply of a handler for a unit whose action passes a test, taken from those waiting (R27). -/
def takeReply (unit : Nat) (test : Byte → Bool) (s : State) : Option (Reply × State) :=
  match s.disp.replies.find? (fun r => r.unit == unit && test r.action) with
  | some r => some (r, onDisp (fun d => { d with replies := d.replies.erase r }) s)
  | none => none

/-- A faulted unit made ready to resume: it became ready now, and has waited since its pre-emption completed (R310). -/
def readyAgain (k : Nat) (tile : Option Reg4) (s : State) : State :=
  let now := s.clock.time
  onUnit k (fun u => { u with phase := .savedHard, retry := tile, cause := 0, record := none, readyAt := some now }) s

/-- Action 0 (R27). -/
def replyAbort (k : Nat) (s : State) : State :=
  match takeReply k (· == 0) s with
  | some (_, s) => endByFault k s
  | none => s

/-- Action 1 (R27). -/
def replyResume (k : Nat) (s : State) : State :=
  match takeReply k (· == 1) s with
  | some (_, s) => readyAgain k none s
  | none => s

/-- Action 2 (R27, R73): a tile without a mark, or a stack that cannot be rebuilt, is action 0. -/
def replyRetry (k : Nat) (s : State) : State :=
  match takeReply k (· == 2) s with
  | some (r, s) =>
    match unitOf s k with
    | some u => if canRetry s u r.tile then readyAgain k (some r.tile) s else endByFault k s
    | none => s
  | none => s

/-- Action 3, and every higher one (R27). -/
def replyKill (k : Nat) (s : State) : State :=
  match takeReply k (3 ≤ ·) s with
  | some (_, s) => match unitOf s k with
    | some u => killRegion u.region s
    | none => s
  | none => s

end Sys2Proof.Machine
end

