-- ==== Sys2Proof/Machine/Special.lean ====
section
/-! DEFINITION. Special registers (R13 to R16, R118 to R120, R288, R289): what `srr` reads and what `srw` writes, with the
budget window (R297), the error-map window (R341) and the context command (R326). -/

namespace Sys2Proof.Machine

/-- TSTAT (R14). -/
def tstatWord (c : Clock) : W64 :=
  (c.ofs.setWidth 64 <<< 32) ||| (if c.hold then 2 else 0) ||| (if c.lock then 1 else 0)

/-- SSTAT (R288). -/
def sstatWord (q : Seq) : W64 :=
  (if q.debug then 8 else 0) ||| (if q.masked then 4 else 0) ||| (if q.prevSupervisor then 2 else 0) |||
    (if q.supervisor then 1 else 0)

/-- The completed iterations of loop level n, 0 beyond the stack (R13, R116). -/
def loopIndex (q : Seq) (n : Nat) : W64 :=
  match q.loops[n]? with
  | some e => e.index.setWidth 64
  | none => 0

/-- The remaining count of the innermost loop, 0 without one (R13). -/
def loopRemain (q : Seq) : W64 :=
  match q.loops with
  | e :: _ => e.remain.setWidth 64
  | [] => 0

/-! ### The budget window (R297) -/

/-- WORD of BUDGET. -/
def budgetWord (b : W64) : Nat := b.toNat / 256 % 16
/-- SLOT of BUDGET. -/
def budgetSlot (b : W64) : Nat := b.toNat % 64

/-- A word of a counter slot. -/
def readBudget (s : State) (b : W64) : W64 :=
  match (slotsOf s.fw s.east).toList[budgetSlot b]? with
  | none => 0
  | some c =>
    let w := budgetWord b
    if w == 0 then c.handle.setWidth 64
    else if w ≤ 6 then (c.limits.toList.getD (w - 1) 0).setWidth 64
    else if w ≤ 12 then BitVec.ofNat 64 (c.used.toList.getD (w - 7) 0)
    else if w == 13 then c.stalls
    else if w == 14 then c.periods
    else 0

/-- Six values of a function. -/
def sixOf {α : Type} (f : Nat → α) : Vector α 6 := Vector.ofFn (fun (i : Fin 6) => f i.val)

/-- HANDLE of a counter slot written: the slot is loaded with the region's effective limits and its counts are zeroed, or it
is freed. A handle that no region has loads limits of 0.
(Log entry 49, DEDUCED) -/
def loadSlot (east : Bool) (slot : Nat) (handle : W64) (s : State) : State :=
  let h : W32 := handle.setWidth 32
  let limits := match nodeOf s.fw h with
    | some n => sixOf (effLimit s.fw n)
    | none => Vector.replicate 6 0
  onSlot east slot (fun _ => if h == 0 then CounterSlot.free else
    { CounterSlot.free with handle := h, limits := limits }) s

/-- A limit of a counter slot written, for the current period. -/
def writeLimit (east : Bool) (slot act : Nat) (limit : W32) (s : State) : State :=
  onSlot east slot (fun c => { c with limits := vecModify c.limits act (fun _ => limit) }) s

/-- BUDGETD written. -/
def writeBudget (b x : W64) (s : State) : State :=
  let w := budgetWord b
  if w == 0 then loadSlot s.east (budgetSlot b) x s
  else if w ≤ 6 then writeLimit s.east (budgetSlot b) (w - 1) (x.setWidth 32) s
  else s

/-! ### The error-map window (R341) -/

/-- CLR: a counter word of the error map zeroed. ROWMAP is no counter word. -/
def clearErrmap (bay index : Nat) (s : State) : State :=
  if index == 132 then s else onFw (fun f => setErrmap f bay index 0) s

/-- ERRMAP written. -/
def writeErrmap (x : W64) (s : State) : State :=
  let s := onSeq (fun q => { q with errmap := x &&& 0xFFFF }) s
  if x.getLsbD 16 then clearErrmap (x.toNat % 256) (x.toNat / 256 % 256) s else s

/-! ### Reads -/

/-- The value of special register n at an issue step. -/
def specialWord (s : State) (n : BitVec 9) : W64 :=
  let q := s.seq
  match n.toNat with
  | 0x000 => q.bayId.setWidth 64
  | 0x001 => q.chipId.setWidth 64
  | 0x002 => q.unitIdx.setWidth 64
  | 0x003 => q.nunits.setWidth 64
  | 0x004 => q.region
  | 0x005 => q.task
  | 0x006 => s.clock.time
  | 0x007 => q.timef.setWidth 64
  | 0x008 => q.steps
  | 0x009 => tstatWord s.clock
  | 0x00A => q.iter.setWidth 64
  | 0x00B => q.trip.setWidth 64
  | 0x00C => q.member.setWidth 64
  | 0x010 => q.fstat
  | 0x011 => q.vtag.setWidth 64
  | 0x012 => q.ckctl.setWidth 64
  | 0x013 => q.ckcnt.setWidth 64
  | 0x014 => q.cklog
  | 0x015 => q.cklog2.setWidth 64
  | 0x018 => BitVec.ofNat 64 q.loops.length
  | 0x019 => loopIndex q 0
  | 0x01A => loopIndex q 1
  | 0x01B => loopIndex q 2
  | 0x01C => loopIndex q 3
  | 0x01D => loopIndex q 4
  | 0x01E => loopIndex q 5
  | 0x01F => loopRemain q
  | 0x020 => q.raceinfo
  | 0x100 => sstatWord q
  | 0x101 => q.evec.setWidth 64
  | 0x102 => q.epc.setWidth 64
  | 0x103 => q.ecause.setWidth 64
  | 0x104 => q.eaddr
  | 0x105 => q.einfo
  | 0x106 => q.saveptr
  | 0x110 => q.xtbl
  | 0x111 => q.pasid.setWidth 64
  | 0x112 => q.rcbp
  | 0x120 => q.budget
  | 0x121 => readBudget s q.budget
  | 0x130 => q.errmap
  | 0x131 => errmapWord s.fw (q.errmap.toNat % 256) (q.errmap.toNat / 256)
  | k => if 0x1F8 ≤ k then q.k.toList.getD (k - 0x1F8) 0 else 0

/-- A read of TIME latches its fraction in TIMEF (R14).
(Log entry 42, DEDUCED) -/
def latchTime (n : BitVec 9) (s : State) : State :=
  if n == 0x006 then onSeq (fun q => { q with timef := s.clock.frac }) s else s

/-! ### Writes -/

/-- XTBL written: the bay TLB's entries are dropped (R289). -/
def writeXtbl (x : W64) (s : State) : State :=
  onHost (fun h => { h with tlb := [] }) (onSeq (fun q => { q with xtbl := x &&& ~~~0x7FF, icache := [] }) s)

/-- PASID written: the bay TLB's entries are dropped (R289). -/
def writePasid (x : W64) (s : State) : State :=
  onHost (fun h => { h with tlb := [] }) (onSeq (fun q => { q with pasid := x.setWidth 20 }) s)

/-- A context command carried out, its conditions met (R326). -/
def contextCommand (x : W64) (s : State) : State :=
  match x.toNat % 8 with
  | 0 => contextSave s
  | 1 => contextRelease s
  | 2 => contextForward s
  | _ => s

/-- Special register n written (R119): only defined fields of RW registers change. `raised` holds the core flags that land
in the same step, ORed in after FSTAT is written (R15). -/
def writeSpecial (n : BitVec 9) (x : W64) (raised : BitVec 4) (s : State) : State :=
  match n.toNat with
  | 0x010 => onSeq (fun q => { q with fstat := (x &&& 0xF0F) ||| raised.setWidth 64 }) s
  | 0x011 => onSeq (fun q => { q with vtag := x.setWidth 8 &&& 0x3F }) s
  | 0x012 => onSeq (fun q => { q with ckctl := x.setWidth 3 }) s
  | 0x013 => onSeq (fun q => { q with ckcnt := x.setWidth 32 }) s
  | 0x014 => onSeq (fun q => { q with cklog := x &&& 0xFFFFFFF }) s
  | 0x015 => onSeq (fun q => { q with cklog2 := x.setWidth 32 }) s
  | 0x020 => onSeq (fun q => { q with raceinfo := x &&& 0x80000FFFFFFFFFFF }) s
  | 0x100 => onSeq (fun q => { q with prevSupervisor := x.getLsbD 1 }) s
  | 0x101 => onSeq (fun q => { q with evec := x.setWidth 40 }) s
  | 0x102 => onSeq (fun q => { q with epc := x.setWidth 40 }) s
  | 0x103 => onSeq (fun q => { q with ecause := x.setWidth 10 }) s
  | 0x104 => onSeq (fun q => { q with eaddr := x }) s
  | 0x105 => onSeq (fun q => { q with einfo := x }) s
  | 0x106 => onSeq (fun q => { q with saveptr := x &&& ~~~0xFF }) s
  | 0x107 => contextCommand x s
  | 0x110 => writeXtbl x s
  | 0x111 => writePasid x s
  | 0x120 => onSeq (fun q => { q with budget := x &&& 0xF3F }) s
  | 0x121 => writeBudget s.seq.budget x s
  | 0x130 => writeErrmap x s
  | k => if 0x1F8 ≤ k then onSeq (fun q => { q with k := vecModify q.k (k - 0x1F8) (fun _ => x) }) s else s

end Sys2Proof.Machine
end

