-- ==== Sys2Proof/Machine/Issue.lean ====
section
/-! DEFINITION. Issue groups: the registers a word names (R79), waits on them (R84, R155, R156), landings, the bay's own work
in a step, and the closing of a group: issued, trapped or stalled (R9, R78 to R86, R112 to R116, R316). -/

namespace Sys2Proof.Machine

/-! ### What a word names -/

/-- The pipes (R83); `nop` uses none. -/
inductive Pipe where
  | none | s | m | v | x | e
  deriving DecidableEq, Repr

/-- A register as R79 counts it. -/
inductive RegName where
  | s (r : Reg5)
  | p (r : Reg4)
  | v (r : Reg5)
  | t (r : Reg4)
  deriving DecidableEq, Repr

/-- How a word's results land (R83, R84). -/
inductive Timing where
  | exposed | scoreboarded
  deriving DecidableEq, Repr

/-- What a word waits for before its group issues, beside its operands: every result in flight (`exit`, `halt`, R200), every
result of supervisor code (`eret`, R320), every scoreboarded result that can land (CTXCMD, R326), the atomics before a word
that releases (R152, R176), or the reflected writes issued before it (`rfence` and `rfencew`, R198). -/
inductive Settle where
  | all | supervisor | scoreboard | atomics
  | reflected (window : Option Reg5)
  deriving DecidableEq, Repr

/-- What issue needs to know of a word. -/
structure Use where
  hd : Hdr
  pipe : Pipe
  timing : Timing
  reads : List RegName
  writes : List RegName
  /-- A branch word of R79. -/
  branch : Bool
  /-- A transfer word of R316. -/
  transfers : Bool
  /-- The accumulator of an accumulating `mma` (R155). -/
  acc : Option Reg4
  /-- A VRED word (R86, R131). -/
  reduces : Bool
  settle : Option Settle
  deriving DecidableEq, Repr

/-- A scalar register as R79 counts it: s0 takes no part. -/
def sName (r : Reg5) : List RegName := if r == 0 then [] else [.s r]

/-- The guard's register. -/
def Use.guardReg (u : Use) : List RegName := if u.hd.g then [.p u.hd.pg] else []

/-- The registers a word reads, its guard among them. -/
def Use.allReads (u : Use) : List RegName := u.guardReg ++ u.reads

/-- The registers a word names. -/
def Use.names (u : Use) : List RegName := u.allReads ++ u.writes

/-- Whether one of two words of a group writes a register that the other names (R79). -/
def Use.conflicts (u w : Use) : Bool :=
  u.writes.any (fun r => w.names.contains r) || w.writes.any (fun r => u.names.contains r)

/-! ### Landing -/

/-- Whether a pending result writes a register. -/
def Pending.writesReg (p : Pending) : RegName → Bool
  | .s r => p.sregs.any (·.1 == r)
  | .p r => p.pregs.any (·.1 == r)
  | .v r => p.vregs.any (·.1 == r)
  | .t r => p.tiles.any (·.1 == r)

/-- Whether an exposed result in flight writes a register. -/
def InFlight.writesReg (e : InFlight) : RegName → Bool
  | .s r => e.kind == .scalar && e.reg == r
  | .p r => e.kind == .predicate && e.reg.setWidth 4 == r
  | .v r => e.kind == .vector && e.reg == r
  | .t _ => false

/-- Whether one of some rows, n bytes each at a pitch from an address, meets the m bytes at b. -/
def rowMeets (a pitch rows n b m : Nat) : Bool :=
  let k := if b < a + n then 0 else if pitch == 0 then rows else (b - (a + n)) / pitch + 1
  n != 0 && k < rows && a + k * pitch < b + m

/-- Whether a copy writes into a transmit window, or into window space at all (R185). -/
def CopyOp.writesWindow (op : CopyOp) (w : Option TxWindow) : Bool :=
  let n := if op.kind == .tile then op.len.toNat * tileBytes op.fmt else op.len.toNat
  op.kind != .lockstep && (match w with
    | some w => rowMeets op.dst.toNat op.dpitch.toNat op.rows.toNat n w.base.toNat w.len.toNat
    | none => rowMeets op.dst.toNat op.dpitch.toNat op.rows.toNat n 0x10000000000 0x10000000000)

/-- Whether every reflected write that an `rfence` of the bay covers has been applied, those of copies that have been issued and
not made all their writes among them (R198, R248). A copy that is still armed has issued none.
(Log entry 77, DEDUCED) -/
def reflectionSettled (s : State) (window : Option (BitVec 12)) : Bool :=
  let w := window.bind (fun id => s.refl.tx.find? (·.id == id))
  allApplied s window && !(s.copy.queue ++ s.copy.fired).any (·.writesWindow w)

/-- Whether the accesses a fence orders have performed at its scope (R153), given the pending results before it. Of the copy
engine's stores to host space the fence covers those on its path (R207).
(Log entry 77, DEDUCED) -/
def fenceMet (s : State) (earlier : List Pending) (scope : BitVec 3) (mask : BitVec 6) : Bool :=
  (!mask.getLsbD 0 || !earlier.any (·.kind == .atomic)) &&
    (!(3 ≤ scope.toNat && mask.getLsbD 2) || reflectionSettled s none) &&
    (scope != 4 || !s.host.posted.any (fun p => p.agent == s.agent || (mask.getLsbD 1 && p.agent == s.copyAgent)))

/-- Whether what a pending result waits for has come about (R149, R153). -/
def holdMet (s : State) (earlier : List Pending) (p : Pending) : Bool :=
  match p.hold with
  | none => true
  | some (.fence scope mask) => fenceMet s earlier scope mask
  | some (.applied serial _) => s.refl.send.all (fun p => p.dead || p.unacked.all (·.serial != serial))

/-- Whether X work of the interrupted unit is frozen (R316). -/
def frozenNow (s : State) (p : Pending) : Bool := p.kind == .array && !p.sup && s.seq.supervisor

/-- Whether the k-th pending result can land: its word has started, its wait is over, it is not frozen, and no earlier result
for one of its tiles is pending (R155).
(Log entry 11, DESIGN CHOICE) -/
def canLand (s : State) (k : Nat) : Bool :=
  match s.seq.sb[k]? with
  | none => false
  | some p =>
    let earlier := s.seq.sb.take k
    p.started && !frozenNow s p && holdMet s earlier p && !earlier.any (fun e => e.tiles.any (fun t => p.tiles.any (·.1 == t.1)))

/-- Whether a pending result is a reflected atomic's, which lands with its acknowledgement (R149). -/
def Pending.awaitsAck (p : Pending) : Bool :=
  match p.hold with
  | some (.applied _ _) => true
  | _ => false

/-- Whether the k-th pending result can land without an acknowledgement. -/
def landsAlone (s : State) (k : Nat) : Bool :=
  canLand s k && !(match s.seq.sb[k]? with
    | some p => p.awaitsAck
    | none => false)

/-- The k-th pending result lands if it can (R84). -/
def landIf (k : Nat) (s : State) : State := if landsAlone s k then landNth k s else s

/-- The oldest pending result that can land lands.
(Log entry 11, DESIGN CHOICE) -/
def landOldest (s : State) : State :=
  match (List.range s.seq.sb.length).find? (landsAlone s) with
  | some k => landNth k s
  | none => s

/-- A pending `mma`, which holds the cells and the feed (R156). -/
def Pending.isMma (p : Pending) : Bool := p.kind == .array && !p.tiles.isEmpty
/-- A pending `tlds`, which holds the plane load path. -/
def Pending.isTlds (p : Pending) : Bool := p.kind == .array && p.tiles.isEmpty && !p.reads.isEmpty

/-- Whether an X word can start behind others: each has started, and its own resource is free; `tswap` waits for every
earlier `mma` and `tlds` (R156).
(Log entry 12, DESIGN CHOICE) -/
def resourceFree (earlier : List Pending) (p : Pending) : Bool :=
  earlier.all (fun e => e.kind != .array || e.started) && !earlier.any (fun e =>
    if p.isMma then e.isMma else if p.isTlds then e.isTlds else e.isMma || e.isTlds)

/-- Whether the k-th pending X word can start, and is not frozen (R156, R316). -/
def canStart (s : State) (k : Nat) : Bool :=
  match s.seq.sb[k]? with
  | some p => !p.started && !frozenNow s p && resourceFree (s.seq.sb.take k) p
  | none => false

/-- The X word that has issued and not started starts, if it can (R156).
(Log entry 12, DESIGN CHOICE) -/
def startNext (s : State) : State :=
  match (List.range s.seq.sb.length).find? (canStart s) with
  | some k =>
    onSeq (fun q => { q with sb := q.sb.zipIdx.map (fun x => if x.2 == k then { x.1 with started := true } else x.1) }) s
  | none => s

/-! ### The waits of issue -/

/-- Whether a register waits for a pending result. -/
def pendingReg (sb : List Pending) (r : RegName) : Bool := sb.any (·.writesReg r)

/-- Whether a tile is still read by an issued word (RB, R155). -/
def tileRead (sb : List Pending) (r : RegName) : Bool :=
  match r with
  | .t t => sb.any (fun p => p.reads.any (· == t))
  | _ => false

/-- Whether a word waits on a register, a tile, an X word's start, a fence or an atomic (R84, R152, R153, R155, R156). An
X word of supervisor code waits for its guard alone: where the guard passes it traps (R323). -/
def Use.waits (u : Use) (s : State) : Bool :=
  if u.pipe == .x && s.seq.supervisor then u.guardReg.any (pendingReg s.seq.sb)
  else
  let sb := s.seq.sb
  let exempt := fun (r : RegName) => match u.acc with
    | some t => r == .t t
    | none => false
  u.names.any (fun r => pendingReg sb r && !exempt r) || u.writes.any (tileRead sb) ||
    (u.pipe == .x && sb.any (fun p => !p.started)) ||
    ((u.pipe == .m || u.pipe == .e) && sb.any (fun p => match p.hold with
      | some (.fence _ _) => true
      | _ => false)) ||
    (u.pipe == .m && sb.any (·.kind == .atomic))

/-- Whether a scoreboarded word's destination has an exposed result in flight (R84). -/
def Use.drains (u : Use) (s : State) : Bool :=
  u.timing == .scoreboarded && u.writes.any (fun r => s.seq.ifq.any (·.writesReg r))

/-- An address as the bay accesses it (R134). -/
def placeOf (s : State) (a : W64) : Nat := unalias s.seq.bayId.toNat a.toNat

/-- The transmit window of the running region that holds an address. -/
def windowOf (s : State) (a : Nat) : Option TxWindow := txWindowAt s.refl s.regionHandle a

/-- Whether the wait of a word for results in flight applies: its guard passes, and is not pending (R81, R84). -/
def Use.settles (u : Use) (s : State) : Bool :=
  guardPass u.hd s && !u.guardReg.any (pendingReg s.seq.sb)

/-- Whether a word waits for exposed results to land (R200, R320). In user mode `halt` and `eret` wait like this before
they trap for want of privilege, an order that the manual leaves open.
(Log entry 89, DESIGN CHOICE) -/
def Use.settleDrains (u : Use) (s : State) : Bool :=
  (u.settle == some .all || u.settle == some .supervisor) && u.settles s && !s.seq.ifq.isEmpty

/-- The wait of a word for what is in flight before it, if any (R200, R320, R326, R176, R198). A context command waits until
its copy engine stands at a 256-byte boundary too, where op 0 stops it, in user mode before it traps for want of privilege. A
window address that no entry maps is not waited on: the word traps.
(Log entries 16 DEDUCED, 131 DESIGN CHOICE) -/
def Use.settleWait (u : Use) (s : State) : Option Wait :=
  if !u.settles s then none
  else
    let held := fun (b : Bool) => if b then some Wait.other else none
    match u.settle with
    | none => none
    | some .all => held (!s.seq.sb.isEmpty)
    | some .supervisor => held (s.seq.sb.any (·.sup))
    | some .scoreboard => held (s.seq.sb.any (fun p => !frozenNow s p) || !atBoundary s)
    | some .atomics => held (s.seq.sb.any (·.kind == .atomic))
    | some (.reflected none) => if reflectionSettled s none then none else some (.reflected none)
    | some (.reflected (some b)) =>
      match windowOf s (placeOf s (readS s b)) with
      | some w => if reflectionSettled s (some w.id) then none else some (.reflected (some w.id))
      | none => none

/-! ### A step of the bay -/

/-- TIME and its fraction after one bay cycle at a clock in MHz (R1, R14).
(Log entry 71, DEDUCED) -/
def advanceTime (mhz : Nat) (c : Clock) : Clock :=
  let f := c.frac.toNat + 65536000 / max 1 mhz
  { c with time := c.time + BitVec.ofNat 64 (f / 65536), frac := BitVec.ofNat 16 f, cycles := c.cycles + 1 }

/-- Cycles of a die off its budget period; with the last the boundary is due.
(Log entry 10, DESIGN CHOICE) -/
def countPeriod (east : Bool) (n : Nat) (s : State) : State :=
  let s := takeBoundary east s
  let left := periodLeft s.fw east
  if left < n then endPeriod east (4000 - (n - left)) s
  else onFw (fun w => if east then { w with periodEast := left - n } else { w with periodWest := left - n }) s

/-- A bay cycle counted off both dies' periods, the other die's by the ratio of the two clocks (R295). -/
def countPeriods (s : State) : State :=
  let f := s.fw
  let own := max 1 (if s.east then f.mhzEast else f.mhzWest)
  let other := f.cycleFrac + (if s.east then f.mhzWest else f.mhzEast)
  countPeriod (!s.east) (other / own) (countPeriod s.east 1
    (onFw (fun f => { settleCharges f with cycleFrac := other % own }) s))

/-- The oldest posted host store reaches the host's ordering point (R207).
(Log entry 67, DESIGN CHOICE) -/
def deliverHost (s : State) : State :=
  onHost (fun h => match h.posted with
    | [] => h
    | x :: rest => { h with posted := rest, delivered := h.delivered ++ [x] }) s

/-- A bay cycle's passing outside the clamp: time, budget periods, the reflection of a chip to itself, the posted stores, the
launches of killed regions (R293), the units that become ready (R24), and the machine checks of engines.
(Log entries 10 DESIGN CHOICE, 18 DEDUCED, 67 DESIGN CHOICE) -/
def passCycle (s : State) : State :=
  let mhz := if s.east then s.fw.mhzEast else s.fw.mhzWest
  takeAlarms (checkWaits (noteReady (onClock (advanceTime mhz) (finishBreaks (countPeriods (deliverSelf (deliverHost s)))))))

/-- What a bay's engine does, and the machine check of a word with an uncorrectable error that it comes to (R324, R334). -/
def checkedEngine (f : State → State) (s : State) : State :=
  let s := f s
  if copyDamaged s && !s.seq.stopped then machineCheck 0x04 0 s else s

/-- What the bay's engines do in a step (R9, R186). -/
def engineStep (s : State) : State := if s.seq.stopped then s else checkedEngine copyStep s

/-- What the bay's engines do in a step, and the cycle's passing. -/
def bayCycle (s : State) : State := passCycle (engineStep s)

/-- STEPS counts a step of the unit in user mode (R9, R323). -/
def countStep (s : State) : State :=
  if s.seq.supervisor then s else onSeq (fun q => { q with steps := q.steps + 1 }) s

/-! ### Closing a group -/

/-- Entries popped by a taken transfer from packet x to a target (R113). -/
def popFor (x target : BitVec 40) : List LoopEntry → List LoopEntry
  | [] => []
  | e :: es =>
    let has := fun (y : BitVec 40) => e.start.toNat ≤ y.toNat && y.toNat ≤ e.stop.toNat
    if has x && !has target then popFor x target es else e :: es

/-- End-of-body processing when packet x is left by falling through (R116): the stack and the next packet. An entry whose
remaining count is 0 is popped.
(Log entry 133, DESIGN CHOICE) -/
def endOfBody (x : BitVec 40) : List LoopEntry → List LoopEntry × BitVec 40
  | [] => ([], x + 1)
  | e :: es =>
    if e.stop == x then
      if 1 < e.remain.toNat then ({ e with remain := e.remain - 1, index := e.index + 1 } :: es, e.start)
      else endOfBody x es
    else (e :: es, x + 1)

/-- The group of n words passed without a transfer: the next group of the packet, or the next packet. -/
def fallThrough (n : Nat) (s : State) : State :=
  onSeq (fun q =>
    if q.gpos + n < 3 then { q with gpos := q.gpos + n }
    else
      let r := endOfBody q.pc q.loops
      { q with gpos := 0, loops := r.1, pc := r.2 }) s

/-- The next group issued is the first of a packet. -/
def goTo (target : BitVec 40) (s : State) : State := onSeq (fun q => { q with pc := target, gpos := 0 }) s

/-- The transfer of an issued group of n words (R80, R113 to R116, R200). -/
def applyTransfer (n : Nat) (t : Option Transfer) (s : State) : State :=
  match t with
  | none => fallThrough n s
  | some (.jump target) => goTo target s
  | some (.push e) => goTo (s.seq.pc + 1) (onSeq (fun q => { q with loops := e :: q.loops }) s)
  | some (.skip target) => goTo target s
  | some .endSection => endSection s
  | some .eret => returnFromTrap s
  | some .halt => onSeq (fun q => { q with halted := true }) (fallThrough n s)
  | some .descheduled => s

/-- The `srw` of a group takes effect after the group (R119). -/
def applySrw (g : Group) (s : State) : State :=
  match g.srw with
  | some (n, x) => writeSpecial n x g.raised s
  | none => s

/-- A group of n words has issued: its `srw`, the step's landings, STEPS, its transfer, and the cycle. -/
def issued (n : Nat) (s : State) : State :=
  let g := s.seq.group
  let s := applySrw g (onSeq (fun q => { q with group := Group.closed, wait := none, resumeDone := 0 }) s)
  if s.seq.stopped then passCycle s
  else bayCycle (applyTransfer n g.transfer (countStep (endIssuing s)))

/-- DONE of a trapping group: its words that completed, transfer words never (R316).
(Log entries 15 DEDUCED, 81 DEDUCED) -/
def doneBits (us : List Use) (first : Nat) (failed : List Nat) (already : BitVec 3) : BitVec 3 :=
  us.zipIdx.foldl (fun d x =>
    if x.1.transfers || failed.contains (first + x.2) then d else d ||| (1 <<< (first + x.2))) already

/-- A trap of the presented group (R316): not an issuing step; the words that completed have taken effect.
(Log entry 18, DEDUCED) -/
def trapped (us : List Use) (t : TrapInfo) (s : State) : State :=
  let g := s.seq.group
  let done := if t.cls == 0 then 0 else doneBits us s.seq.gpos g.failed s.seq.resumeDone
  let s := if t.cls == 0 then s else applySrw g s
  passCycle (deliverTrap t done (onSeq (fun q => { q with group := Group.closed }) s))

/-- An empty step (R9): nothing issues. `issuing` marks an empty issuing step. -/
def emptyStep (issuing : Bool) (s : State) : State :=
  let s := if issuing then endIssuing s else s
  bayCycle (countStep (startNext (landOldest s)))

/-- The activity that a wait names, if it is a budget's. -/
def Wait.activity : Wait → Option Nat
  | .budget a => some a
  | _ => none

/-- A presented group that waits (R9, R84, R178): the step, with the wait recorded. A wait for a budget is counted once
(R296). A wait at `swait.y` in user mode under a soft request is a pre-emption point (R332, R322).
(Log entries 11 DESIGN CHOICE, 17 DESIGN CHOICE) -/
def stalledStep (w : Wait) (drains : Bool) (s : State) : State :=
  let s := match w.activity with
    | some _ => if s.seq.wait == some w then s else countStall s.east s.regionHandle s
    | none => s
  let s := onSeq (fun q => { q with wait := some w }) s
  match w with
  | .sync a g true =>
    let asked := softAsked s && !s.seq.supervisor
    if asked && saveReady s then passCycle (iterationSave (some (a, g)) s)
    else emptyStep (drains || (asked && !s.seq.ifq.isEmpty)) s
  | _ => emptyStep drains s

/-- The closing of a group: `s0` is the state it was presented in, `s1` the state its words have left. A waiting word leaves
nothing of the group but the translations it has asked for. -/
def closeGroup (us : List Use) (n : Nat) (s0 s1 : State) : Host.Outcome State Fault Refusal :=
  let g := s1.seq.group
  match g.trap with
  | some (_, t) => .next (trapped us t s1)
  | none =>
    match g.stalled with
    | some w => .next (stalledStep w false (onHost (fun h => { h with requests := s1.host.requests }) s0))
    | none => .next (issued n s1)

/-- A group opened at the position of its first word. -/
def openGroup (s : State) : State :=
  onSeq (fun q => { q with group := { Group.closed with isOpen := true, pos := q.gpos } }) s

/-- A group of n words presented for issue (R84): its waits on operands, then its words and its closing.
(Log entry 14, DEDUCED) -/
def presentGroup (us : List Use) (n : Nat) (f : State → State) (s : State) : Host.Outcome State Fault Refusal :=
  if us.any (fun u => u.drains s || u.settleDrains s) then .next (stalledStep .other true s)
  else if us.any (·.waits s) then .next (stalledStep .other false s)
  else match us.findSome? (·.settleWait s) with
    | some w => .next (stalledStep w false s)
    | none => closeGroup us n s (f (openGroup s))

/-- A word: within an open group it acts and leaves the closing to the sequencer; by itself it is a group of one word. -/
def issue (u : Use) (f : State → State) (s : State) : Host.Outcome State Fault Refusal :=
  if s.seq.group.isOpen then .next (f s) else presentGroup [u] 1 f s

/-- A word whose guard tests lane 0 (R81): a failing guard leaves it without effect. -/
def guarded (hd : Hdr) (f : State → State) (s : State) : State := if guardPass hd s then f s else s

/-- An effect that a transfer word has only when no word of its group has trapped (R316).
(Log entry 15, DEDUCED) -/
def unlessTrapped (f : State → State) (s : State) : State := if s.seq.group.trap.isSome then s else f s

end Sys2Proof.Machine
end

