-- ==== Sys2Proof/Machine/Operands.lean ====
section
/-! DEFINITION. The operand forms: the registers that each format's words name (R79, R83, R87, R88), immediates, addresses
(R134) and the words that traps report (R290). -/

namespace Sys2Proof.Machine

/-! ### Registers named, by form -/

/-- A word that names registers and is no branch. -/
def useOf (hd : Hdr) (pipe : Pipe) (timing : Timing) (reads writes : List RegName) : Use :=
  { hd := hd, pipe := pipe, timing := timing, reads := reads, writes := writes, branch := false, transfers := false,
    acc := none, reduces := false, settle := none }

/-- `nop`, which names no register: not even its guard (R82). -/
def useNop (hd : Hdr) : Use := useOf { hd with g := false } .none .exposed [] []
/-- An S word from two scalars to a scalar. -/
def useS3 (hd : Hdr) (t : Timing) (a b x : Reg5) : Use := useOf hd .s t (sName b ++ sName x) (sName a)
/-- An S word from one scalar to a scalar. -/
def useS2 (hd : Hdr) (t : Timing) (a b : Reg5) : Use := useOf hd .s t (sName b) (sName a)
/-- `li`. -/
def useLi (hd : Hdr) (a : Reg5) : Use := useOf hd .s .exposed [] (sName a)
/-- `lsh`, which reads its destination. -/
def useLsh (hd : Hdr) (a : Reg5) : Use := useOf hd .s .exposed (sName a) (sName a)
/-- A scalar compare of two registers. -/
def useCmp (hd : Hdr) (a : Reg4) (b x : Reg5) : Use := useOf hd .s .exposed (sName b ++ sName x) [.p a]
/-- A scalar compare with an immediate. -/
def useCmpI (hd : Hdr) (a : Reg4) (b : Reg5) : Use := useOf hd .s .exposed (sName b) [.p a]
/-- A predicate word of two sources. -/
def useP3 (hd : Hdr) (a b x : Reg4) : Use := useOf hd .s .exposed [.p b, .p x] [.p a]
/-- A predicate word of one source. -/
def useP2 (hd : Hdr) (a b : Reg4) : Use := useOf hd .s .exposed [.p b] [.p a]
/-- `pset` and `pclr`. -/
def useP1 (hd : Hdr) (a : Reg4) : Use := useOf hd .s .exposed [] [.p a]
/-- `pcnt` and `pfirst`. -/
def usePS (hd : Hdr) (a : Reg5) (b : Reg4) : Use := useOf hd .s .exposed [.p b] (sName a)
/-- A branch word (R79). -/
def useBranch (hd : Hdr) (reads writes : List RegName) : Use :=
  { useOf hd .s .exposed reads writes with branch := true, transfers := true }
/-- `yield`, a transfer word of the E pipe (R316). -/
def useTransfer (hd : Hdr) : Use := { useOf hd .e .scoreboarded [] [] with transfers := true }
/-- `exit`, a transfer word that waits for every result in flight (R200, R316). -/
def useExit (hd : Hdr) : Use := { useTransfer hd with settle := some .all }
/-- `halt` and `eret`, which wait for results in flight (R200, R320). -/
def useSettle (hd : Hdr) (t : Settle) : Use := { useOf hd .e .scoreboarded [] [] with settle := some t }
/-- An E word. -/
def useE (hd : Hdr) (reads writes : List RegName) : Use := useOf hd .e .scoreboarded reads writes
/-- An E word with one output and one input. -/
def useEOut (hd : Hdr) (a b : Reg5) : Use := useE hd (sName b) (sName a)
/-- An E word with two inputs. -/
def useEIn (hd : Hdr) (a b : Reg5) : Use := useE hd (sName a ++ sName b) []
/-- An E word whose A is both input and output. -/
def useEBoth (hd : Hdr) (a b : Reg5) : Use := useE hd (sName a ++ sName b) (sName a)
/-- An E word that releases (R176). -/
def useRelease (u : Use) : Use := { u with settle := some .atomics }
/-- `srw`; a context command waits for the scoreboarded results (R326). -/
def useSrw (hd : Hdr) (a : Reg5) (k : BitVec 9) : Use :=
  { useE hd (sName a) [] with settle := if k == 0x107 then some .scoreboard else none }
/-- An M word. -/
def useM (hd : Hdr) (reads writes : List RegName) : Use := useOf hd .m .scoreboarded reads writes
/-- A scalar load, which also writes p15 (R138). -/
def useLoad (hd : Hdr) (a b : Reg5) : Use := useM hd (sName b) (sName a ++ [.p 15])
/-- A scalar store or a full/empty store. -/
def useStore (hd : Hdr) (a b : Reg5) : Use := useM hd (sName a ++ sName b) []
/-- A full/empty load. -/
def useFe (hd : Hdr) (a b : Reg5) : Use := useM hd (sName b) (sName a)
/-- A vector load, which also writes p15. -/
def useVload (hd : Hdr) (a b : Reg5) : Use := useM hd (sName b) [.v a, .p 15]
/-- A vector store. -/
def useVstore (hd : Hdr) (a b : Reg5) : Use := useM hd (.v a :: sName b) []
/-- A gather. -/
def useGather (hd : Hdr) (a b x : Reg5) (r : Reg4) : Use := useM hd (.v x :: sName b) [.v a, .p r]
/-- A scatter. -/
def useScatter (hd : Hdr) (a b x : Reg5) : Use := useM hd (.v a :: .v x :: sName b) []
/-- An atomic. -/
def useAtom (hd : Hdr) (a b x : Reg5) : Use := useM hd (sName b ++ sName x) (sName a)
/-- A compare-and-swap, which reads its destination (R147). -/
def useCas (hd : Hdr) (a b x : Reg5) : Use := useM hd (sName a ++ sName b ++ sName x) (sName a)
/-- `rel` and `ret`. -/
def useOwn (hd : Hdr) (b x : Reg5) : Use := useM hd (sName b ++ sName x) []
/-- A tile load, which also writes p15 (R159). -/
def useTld (hd : Hdr) (d : Reg4) (b st : Reg5) : Use := useM hd (sName b ++ sName st) [.t d, .p 15]
/-- A tile store. -/
def useTst (hd : Hdr) (d : Reg4) (b st : Reg5) : Use := useM hd (.t d :: sName b ++ sName st) []
/-- A V word. -/
def useV (hd : Hdr) (reads writes : List RegName) : Use := useOf hd .v .exposed reads writes
/-- A V word from two vectors to a vector. -/
def useV3 (hd : Hdr) (a b x : Reg5) : Use := useV hd [.v b, .v x] [.v a]
/-- A V word from a vector and a scalar to a vector. -/
def useVS (hd : Hdr) (a b x : Reg5) : Use := useV hd (.v b :: sName x) [.v a]
/-- A V word from one vector to a vector. -/
def useV2 (hd : Hdr) (a b : Reg5) : Use := useV hd [.v b] [.v a]
/-- A fused multiply-add, which reads its destination (R126). -/
def useFma (hd : Hdr) (a b x : Reg5) : Use := useV hd [.v a, .v b, .v x] [.v a]
/-- A vector compare. -/
def useVcmp (hd : Hdr) (a : Reg4) (b x : Reg5) : Use := useV hd [.v b, .v x] [.p a]
/-- A reduction (R131). -/
def useVred (hd : Hdr) (a b : Reg5) : Use := { useV hd [.v b] (sName a) with reduces := true }
/-- A V word that selects lanes by a predicate. -/
def useVP (hd : Hdr) (a b : Reg5) (x : Reg4) : Use := useV hd [.v b, .p x] [.v a]
/-- An X word. -/
def useX (hd : Hdr) (reads writes : List RegName) : Use := useOf hd .x .scoreboarded reads writes
/-- An `mma`; with its accumulate bit it enters behind earlier ones into the same tile (R155). -/
def useMma (hd : Hdr) (d : Reg4) (reads : List RegName) (acc : BitVec 1) : Use :=
  { useX hd reads [.t d] with acc := if acc == 1 then some d else none }

/-! ### Immediates and addresses -/

/-- A 9-bit immediate (R104). -/
def imm9 (i : BitVec 9) : W64 := i.signExtend 64
/-- A 14-bit signed immediate (R106). -/
def imm14 (i : BitVec 14) : W64 := i.signExtend 64

/-- The address of an F-M word (R134), before the alias is replaced. -/
def addrM (s : State) (b : Reg5) (d : BitVec 6) (scale : Nat) : W64 :=
  readS s b + d.signExtend 64 * BitVec.ofNat 64 scale

/-- The byte address of the packet being issued (R75). -/
def packetAddr (s : State) : W64 := BitVec.ofNat 64 (12 * s.seq.pc.toNat)

/-! ### Traps that words share -/

/-- A class 1 trap, with the offending word (R290).
(Log entries 25 DEDUCED, 79 DEDUCED) -/
def privilegeTrap (detail : BitVec 6) (w : W32) : TrapInfo := cause 1 detail 0 (w.setWidth 64 <<< 32)

/-- The class 1 trap of a user access to privileged control space: EADDR holds the address, as for every fault of an access
(R26, R290).
(Log entry 25, DEDUCED) -/
def controlTrap (addr : Nat) (w : W32) : TrapInfo := { privilegeTrap 0x02 w with eaddr := BitVec.ofNat 64 addr }

/-- A class 2 trap (R122): the tag found, the register and the field that holds it. -/
def tagTrap (found : Byte) (reg : Nat) (field : Nat) : TrapInfo :=
  cause 2 0x01 0 (BitVec.ofNat 64 (found.toNat * 65536 + reg * 256 + field))

/-- A class 12 trap of sequencing (R117).
(Log entry 79, DEDUCED) -/
def sequenceTrap (detail : BitVec 6) (einfo : W64) (s : State) : TrapInfo := cause 12 detail (packetAddr s) einfo

/-- A supervisor-only word: in user mode it traps (R90, R290). -/
def supervisorOnly (w : W32) (f : State → State) (s : State) : State :=
  if s.seq.supervisor then f s else raise (privilegeTrap 0x04 w) s

end Sys2Proof.Machine
end

