-- ==== Sys2Proof/Machine/Flags.lean ====
section
/-! DEFINITION. Flag computations (R15, R33, R121, R131): the flags of a lane-wise word over its active lanes, and of a
reduction's tree (R54, R55). -/

namespace Sys2Proof.Machine

/-- The flags of the lanes of a mask, ORed together (R121). -/
def laneFlags (mask : W64) (f : Nat → Flags) : Flags :=
  (List.range 64).foldl (fun acc i => if mask.getLsbD i then acc ||| f i else acc) 0

/-- One level of the pairwise tree of R54. -/
def treeLevel (op : W32 → W32 → Res W32) : List (Res W32) → List (Res W32)
  | a :: b :: rest =>
    let r := op a.val b.val
    { val := r.val, flags := a.flags ||| b.flags ||| r.flags } :: treeLevel op rest
  | rest => rest

/-- The pairwise tree of R54 over 64 values: six levels. -/
def treeOf (op : W32 → W32 → Res W32) (xs : List W32) : Res W32 :=
  let l := fun ys => treeLevel op ys
  match l (l (l (l (l (l (xs.map (fun x => { val := x, flags := 0 }))))))) with
  | r :: _ => r
  | [] => { val := 0, flags := 0 }

/-- An operation without flags. -/
def quietOp (f : W32 → W32 → W32) (a b : W32) : Res W32 := { val := f a b, flags := 0 }

/-- The atomic flags' place in FSTAT (R15): ATNV, ATOF, ATUF and ATNX in bits 11 to 8. -/
def atomicFlags (f : Flags) : W64 := f.setWidth 64 <<< 8

end Sys2Proof.Machine
end

