-- ==== Sys2Proof/Machine/Inputs.lean ====
section
/-! DEFINITION. The inputs of a unit that record mode logs and replay mode returns (R343, R344): TIME and STEPS reads and
residency answers. -/

namespace Sys2Proof.Machine

/-- The running region's replay has left its log (R344): its status reads DIVERGED, and the region is killed at the next
group boundary.
(Log entry 65, DEDUCED) -/
def diverge (s : State) : State :=
  onFw (fun f => { f with inputs := f.inputs.map (fun l =>
    if l.region == s.regionHandle then { l with diverged := true } else l) }) s

/-- Whether the running region's replay has left its log.
(Log entry 65, DEDUCED) -/
def hasDiverged (s : State) : Bool := s.fw.inputs.any (fun l => l.region == s.regionHandle && l.diverged)

/-- An input of the running unit: the live value and payload, or in replay mode those of the log; and the state after. What
supervisor code reads is no input of the region. -/
def takeInput (type : Byte) (value : W64) (payload : List Byte) (s : State) : (W64 × List Byte) × State :=
  if s.seq.supervisor then ((value, payload), s)
  else if replaying s then
    match replayEntry type s with
    | some e => ((e.value, e.payload), onSeq (fun q => { q with inputSeq := q.inputSeq + 1 }) s)
    | none => ((value, payload), diverge s)
  else ((value, payload), unitInput type value payload s)

/-- A read of TIME with its fraction and status (types 3): the three, and the state after.
(Log entry 42, DEDUCED) -/
def readTime (s : State) : (W64 × BitVec 16 × W64) × State :=
  let r := takeInput 3 s.clock.time (bytesOfNat 8 s.clock.frac.toNat ++ bytesOfNat 8 (tstatWord s.clock).toNat) s
  ((r.1.1, BitVec.ofNat 16 (fieldAt r.1.2 0 8), BitVec.ofNat 64 (fieldAt r.1.2 8 8)), r.2)

/-- The residency flags of a load of extent space, one a lane: an input of type 5 (R138, R343). -/
def residencyInput (addr : W64) (flags : W64) (s : State) : W64 × State :=
  let r := takeInput 5 addr (bytesOfNat 8 flags.toNat) s
  (BitVec.ofNat 64 (fieldAt r.1.2 0 8), r.2)

end Sys2Proof.Machine
end

