-- ==== Sys2Proof/Machine/MemWords.lean ====
section
/-! DEFINITION. Memory, atomic and ordering words (R134 to R154): the M pipe, tiles apart. -/

namespace Sys2Proof.Machine

/-! ### Checks of a word's access -/

/-- The first address of the row of the address map that holds an address. -/
def rowLow (a : Nat) : Nat :=
  match rowOf a with
  | some (.scratchpad, _) => 0
  | some (.extent, _) => 0x100000000
  | some (.window, _) => 0x10000000000
  | some (.control, _) => 0x20000000000
  | some (.host, _) => 0x8000000000000000
  | none => a

/-- Step 4.1 of R136 for an access of several parts: every byte lies in the row that holds its first byte. -/
def checkSameRow (parts : List Part) : Option Failure :=
  match parts with
  | [] => none
  | p :: _ =>
    match rowOf p.addr with
    | none => some (failAt 5 0x01 p.addr p.lane)
    | some (_, hi) => parts.findSome? (fun q =>
        if q.addr < rowLow p.addr || hi ≤ q.addr then some (failAt 5 0x01 q.addr q.lane)
        else if hi < q.addr + q.len then some (failAt 5 0x01 hi q.lane)
        else none)

/-- A failed access (R136, R339). -/
def failAccess (parts : List Part) (f : Failure) (s : State) : State :=
  let s := if f.trap.cls == 6 && f.trap.detail == 3 then parts.foldl (fun s p =>
      match rowOf p.addr with
      | some (.host, _) => dropRefused p.addr p.len s
      | _ => s) s
    else s
  fail f s

/-- An access of a word with its checks in the order of R136: privilege, then what the word checks before memory, then its
bytes; `whole` marks one access of several parts. -/
def checkedAccess (w : W32) (pre : State → Option TrapInfo) (whole : Bool) (acc : State → CoreAccess) (f : State → State)
    (s : State) : State :=
  let a := acc s
  match checkPrivilege s a.parts with
  | some c => raise (controlTrap c w) s
  | none =>
    match pre s with
    | some t => raise t s
    | none =>
      match (if whole then checkSameRow a.parts else none).or (checkAccess s a) with
      | some x => failAccess a.parts x s
      | none => f s

/-- What a word does with n bytes of a slice that it reads: data with an uncorrectable error raises 5/0x09 at the word (R136,
R334).
(Log entry 27, DEDUCED) -/
def unlessBad (a n : Nat) (f : State → State) (s : State) : State :=
  match s.mem.badByte a n with
  | some x => fail (failAt 5 0x09 x 0) s
  | none => f s

/-- Work metered by a budget (R296): admitted and charged, or a wait of the word.
(Log entry 48, DEDUCED) -/
def metered (act cost : Nat) (f : State → State) (s : State) : State :=
  if cost == 0 then f s
  else if admitted s s.east s.regionHandle act then f (charge s.east s.regionHandle act cost s)
  else stallOn (.budget act) s

/-- No check before memory's. -/
def noPre (_ : State) : Option TrapInfo := none

/-- The alignment failure of R134: the address must be a multiple of n. -/
def alignCheck (a n : Nat) : Option Failure := if a % n == 0 then none else some (failAt 5 0x02 a 0)

/-- One byte range as an access.
(Log entry 27, DEDUCED) -/
def rangeAccess (kind : AccessKind) (narrow : Bool) (a n align : Nat) : CoreAccess :=
  { kind := kind, narrow := narrow, fn := 0, parts := [{ lane := 0, addr := a, len := n }], align := alignCheck a align }

/-! ### Loads -/

/-- Whether a part of an access lies in a non-resident page of an extent (R138). -/
def partAbsent (s : State) (p : Part) : Bool :=
  match rowOf p.addr with
  | some (.extent, _) => (pageParts p.addr p.len).any (fun q =>
      match coverOf s.mem (coreWho s) q.1 with
      | some e => !isResident s.mem e q.1
      | none => false)
  | _ => false

/-- Whether an access reaches extent space. -/
def reachesExtent (parts : List Part) : Bool :=
  parts.any (fun p => match rowOf p.addr with
    | some (.extent, _) => true
    | _ => false)

/-- The residency flags of a load, as a mask over its parts' lanes, and the state after they are taken as an input (R343).
(Log entry 34, DEDUCED) -/
def absentMask (parts : List Part) (lanes : Part → W64) (s : State) : W64 × State :=
  let live := parts.foldl (fun m p => if partAbsent s p then m ||| lanes p else m) 0
  match parts with
  | p :: _ => if reachesExtent parts then residencyInput (BitVec.ofNat 64 p.addr) live s else (live, s)
  | [] => (live, s)

/-- The bytes of a part as a load reads them: privileged control space by its registers, anything else as memory.
(Log entry 34, DEDUCED) -/
def loadPart (a n : Nat) (s : State) : List Byte × State :=
  match rowOf a with
  | some (.control, _) =>
    let r := controlRead a s
    (bytesAt (bytesOfNat 8 r.1.toNat) (a % 8) n, r.2)
  | _ => (readMem s.mem (coreWho s) a n, s)

/-- A load's results: in the step of issue from scratchpad and control space, pending from an extent (R137).
(Log entry 34, DEDUCED) -/
def landLoad (extent : Bool) (p : Pending) (s : State) : State := if extent then pend p s else landNow p s

/-- A scalar load of n bytes with its extension (R138, R140).
(Log entry 30, DEDUCED) -/
def loadWord (n : Nat) (narrow : Bool) (ext : Nat → W64) (m : BitVec 3) (hd : Hdr) (a b : Reg5) (d : BitVec 6) (s : State) :
    Host.Outcome State Fault Refusal :=
  issue (useLoad hd a b) (guarded hd (fun s =>
    let addr := placeOf s (addrM s b d n)
    let acc := rangeAccess .load narrow addr n n
    checkedAccess (packWord hd 0x15 (packM a b d m)) noPre true (fun _ => acc) (metered 0 (hbmAccesses acc.parts) (fun s =>
      let f := absentMask acc.parts (fun _ => BitVec.allOnes 64) s
      let r := loadPart addr n f.2
      let v := if f.1 == 0 then ext (natOfBytes r.1) else 0
      landLoad (reachesExtent acc.parts) { Pending.none .memory with sregs := [(a, v)], pregs := [(15, f.1)] } r.2)) s)) s

/-- A value of n bytes zero-extended. -/
def zeroExt (v : Nat) : W64 := BitVec.ofNat 64 v
/-- A value of 8, 16 or 32 bits sign-extended. -/
def signExt (bits : Nat) (v : Nat) : W64 := (BitVec.ofNat bits v).signExtend 64

/-! ### Stores -/

/-- Bytes of a list of stores that go into a window. -/
def windowBytes (stores : List (Nat × List Byte)) (w : TxWindow) : Nat :=
  stores.foldl (fun n x => if w.base.toNat ≤ x.1 && x.1 < w.base.toNat + w.len.toNat then n + x.2.length else n) 0

/-- Bytes of a list of stores that leave by transmit windows. -/
def linkBytes (stores : List (Nat × List Byte)) : Nat :=
  stores.foldl (fun n x => match rowOf x.1 with
    | some (.window, _) => n + x.2.length
    | _ => n) 0

/-- A store into a transmit window, as one write (R240), or none where a LOCAL-FIRST delivery cannot be applied yet. An address
that no window holds has been refused before.
(Log entry 98, DEDUCED) -/
def windowStore (a : Nat) (bs : List Byte) (s : State) : Option State :=
  match windowOf s a with
  | some w => tryPost w (a - w.base.toNat) bs none s.agent s
  | none => some s

/-- The stores of a list that go into transmit windows. -/
def windowStores (stores : List (Nat × List Byte)) : List (Nat × List Byte) :=
  stores.filter (fun x => match rowOf x.1 with
    | some (.window, _) => true
    | _ => false)

/-- Whether the windows that a list of stores reaches can take it (R240). -/
def windowsReady (s : State) (stores : List (Nat × List Byte)) : Bool :=
  let ws := windowStores stores
  ws.all (fun x => match windowOf s x.1 with
      | some w => hasRoom s.refl w (windowBytes stores w)
      | none => true) &&
    (ws.foldl (fun r x => r.bind (windowStore x.1 x.2)) (some s)).isSome

/-- One store performed by the sequencer (R135, R139, R207). -/
def storePart (a : Nat) (bs : List Byte) (s : State) : State :=
  match rowOf a with
  | some (.scratchpad, _) => onMem (fun m => ownRange (writeMem m (coreWho s) a bs) s.agent a bs.length) s
  | some (.extent, _) => onMem (fun m => writeMem m (coreWho s) a bs) s
  | some (.window, _) => (windowStore a bs s).getD s
  | some (.control, _) => controlWrite a bs.length (BitVec.ofNat 64 (natOfBytes bs)) s
  | some (.host, _) => postHost s.agent a bs s
  | none => s

/-- The host ranges of a list of stores. -/
def hostStores (stores : List (Nat × List Byte)) : List (Nat × List Byte) :=
  stores.filter (fun x => match rowOf x.1 with
    | some (.host, _) => true
    | _ => false)

/-- Stores whose checks have passed: they wait for translation, for window room and for budgets, and are then performed in
order (R137). -/
def performStores (parts : List Part) (stores : List (Nat × List Byte)) (s : State) : State :=
  let hs := hostStores stores
  if !hs.all (fun x => hostReady s x.1 x.2.length) then
    stallOn .other (hs.foldl (fun s x => askHost x.1 x.2.length s) s)
  else if !windowsReady s stores then stallOn .other s
  else metered 2 (linkBytes stores) (metered 0 (hbmAccesses parts) (fun s =>
    stores.foldl (fun s x => storePart x.1 x.2 s) s)) s

/-- A scalar store of n bytes (R140).
(Log entry 6, DEDUCED) -/
def storeWord (n : Nat) (narrow : Bool) (m : BitVec 3) (hd : Hdr) (a b : Reg5) (d : BitVec 6) (s : State) :
    Host.Outcome State Fault Refusal :=
  issue (useStore hd a b) (guarded hd (fun s =>
    let addr := placeOf s (addrM s b d n)
    let acc := rangeAccess .store narrow addr n n
    checkedAccess (packWord hd 0x16 (packM a b d m)) noPre true (fun _ => acc)
      (performStores acc.parts [(addr, bytesOfNat n (readS s a).toNat)]) s)) s

/-! ### Full/empty words -/

/-- The read or write of a full/empty word and the change of its bit, as one action (R145); a word with an uncorrectable
error is not read (R136). -/
def feAct (addr : Nat) (load after : Bool) (a : Reg5) (s : State) : State :=
  if load then
    match s.mem.badByte addr 8 with
    | some x => fail (failAt 5 0x09 x 0) s
    | none => landNow { Pending.none .memory with sregs := [(a, BitVec.ofNat 64 (memWord s.mem.spad addr 8))] }
        (onMem (fun m => setFull m (addr / 8) after) s)
  else
    onMem (fun m => setFull (m.putSpad addr (bytesOfNat 8 (readS s a).toNat)) (addr / 8) after) s

/-- A full/empty word at its port (R145): it waits, or it is performed and leaves its bit. -/
def feWord (m : BitVec 3) (waitFor : Option Bool) (load : Bool) (after : Bool) (hd : Hdr) (a b : Reg5) (d : BitVec 6)
    (s : State) : Host.Outcome State Fault Refusal :=
  issue (if load then useFe hd a b else useStore hd a b) (guarded hd (fun s =>
    let addr := placeOf s (addrM s b d 8)
    checkedAccess (packWord hd 0x17 (packM a b d m)) noPre true (fun _ => rangeAccess .fullEmpty false addr 8 8) (fun s =>
      let full := isFull s.mem (addr / 8)
      match waitFor with
      | some want => if full != want then stallOn (.fullEmpty (BitVec.ofNat 64 addr) want) s else feAct addr load after a s
      | none => feAct addr load after a s) s)) s

/-! ### Vector loads and stores -/

/-- The parts of a vector access: 64 lanes of k bytes (R136). -/
def vectorParts (a k : Nat) : List Part := (List.range 64).map (fun i => { lane := i, addr := a + k * i, len := k })

/-- The alignment of a vector access of n bytes: 64, and within one 2 MiB block (R134). Either failure is reported at the
base, in lane 0.
(Log entry 92, DESIGN CHOICE) -/
def vectorAlign (a n : Nat) : Option Failure :=
  if a % 64 == 0 && a / 0x200000 == (a + n - 1) / 0x200000 then none else some (failAt 5 0x02 a 0)

/-- A vector access of 64 lanes of k bytes. -/
def vectorAccess (kind : AccessKind) (a k : Nat) : CoreAccess :=
  { kind := kind, narrow := false, fn := 0, parts := vectorParts a k, align := vectorAlign a (64 * k) }

/-- The trap of an encoding that is illegal by VTAG's format (R92). -/
def vtagTrap (w : W32) (s : State) : TrapInfo :=
  { cls := 0, detail := 0x09, eaddr := packetAddr s, source := 0,
    einfo := (w.setWidth 64 <<< 32) ||| BitVec.ofNat 64 s.seq.group.pos }

/-- The checks of VTAG at its use by a load into register a (R40, R92, R141, R143). -/
def vtagCheck (w : W32) (a : Reg5) (noHt6 : Bool) (s : State) : Option TrapInfo :=
  let t := s.seq.vtag
  if 10 < (tagFmt t).toNat then some (vtagTrap w s)
  else if tagSc t || (noHt6 && tagFmt t == 10) then some (tagTrap t a.toNat 0)
  else none

/-- The tag that a load mode gives (R141). -/
def loadTag (m : BitVec 3) (s : State) : BitVec 4 :=
  match m.toNat with
  | 0 => 0
  | 1 => 1
  | 2 => 2
  | 3 => 3
  | 4 => 4
  | 5 => 5
  | 6 => 9
  | _ => tagFmt s.seq.vtag

/-- A vector load (R138, R141). -/
def vloadWord (m : BitVec 3) (hd : Hdr) (a b : Reg5) (d : BitVec 6) (s : State) : Host.Outcome State Fault Refusal :=
  issue (useVload hd a b) (guarded hd (fun s =>
    let addr := placeOf s (addrM s b d 256)
    let w := packWord hd 0x18 (packM a b d m)
    let fmt := loadTag m s
    let ht6 := m == 7 && fmt == 10
    let acc := vectorAccess .load addr (if ht6 then 3 else 4)
    checkedAccess w (fun s => if m == 7 then vtagCheck w a false s else none) true (fun _ => acc)
      (metered 0 (hbmAccesses [{ lane := 0, addr := addr, len := if ht6 then 192 else 256 }]) (fun s =>
        let f := absentMask acc.parts (fun p => 1 <<< p.lane) s
        let live := lanesOfBytes ht6 (readMem f.2.mem (coreWho f.2) addr (if ht6 then 192 else 256))
        let data := if replaying s then vecOf (fun i => if f.1.getLsbD i then 0 else lane live i) else live
        landLoad (reachesExtent acc.parts)
          { Pending.none .memory with vregs := [(a, { data := data, tag := mkTag fmt false false })], pregs := [(15, f.1)] }
          f.2)) s)) s

/-- A vector store (R142); `ht6` packs 192 bytes. -/
def vstoreWord (ht6 : Bool) (hd : Hdr) (a b : Reg5) (d : BitVec 6) (s : State) : Host.Outcome State Fault Refusal :=
  issue (useVstore hd a b) (guarded hd (fun s =>
    let addr := placeOf s (addrM s b d 256)
    let t := (readV s a).tag
    let acc := vectorAccess .store addr (if ht6 then 3 else 4)
    checkedAccess (packWord hd 0x19 (packM a b d (if ht6 then 1 else 0)))
      (fun _ => if ht6 && tagFmt t != 10 then some (tagTrap t a.toNat 0) else none) true (fun _ => acc)
      (performStores [{ lane := 0, addr := addr, len := if ht6 then 192 else 256 }] [(addr, bytesOfLanes ht6 (readV s a).data)]) s)) s

/-! ### Gathers and scatters -/

/-- The address of lane i of a gather or scatter (R134). -/
def laneAddr (s : State) (b x : Reg5) (i : Nat) : Nat :=
  placeOf s (readS s b + (lane (readV s x).data i).signExtend 64)

/-- An access of 64 lanes of 4 bytes, each its own. -/
def laneAccess (kind : AccessKind) (b x : Reg5) (s : State) : CoreAccess :=
  let parts : List Part := (List.range 64).map (fun i => { lane := i, addr := laneAddr s b x i, len := 4 })
  { kind := kind, narrow := false, fn := 0, parts := parts,
    align := parts.findSome? (fun p => if p.addr % 4 == 0 then none else some (failAt 5 0x02 p.addr p.lane)) }

/-- The tag check of an index vector, in the Cc field. -/
def indexCheck (x : Reg5) (s : State) : Option TrapInfo :=
  let t := (readV s x).tag
  if tagFmt t == 3 || tagFmt t == 0 then none else some (tagTrap t x.toNat 2)

/-! ### Atomics -/

/-- An atomic's access (R134, R135): returning or not, of n bytes. -/
def atomAccess (fn : BitVec 4) (a : Reg5) (addr n : Nat) : CoreAccess :=
  { kind := if a == 0 then .atomicNon else .atomicRet, narrow := false, fn := fn,
    parts := [{ lane := 0, addr := addr, len := n }], align := alignCheck addr n }

/-- An atomic at its port (R147, R148), on a memory word of n bytes. -/
def atomPerform (fn : BitVec 4) (n : Nat) (a : Reg5) (op cmp : W64) (addr : Nat) (s : State) : State :=
  let w := coreWho s
  let bits := 8 * n
  let old : BitVec bits := BitVec.ofNat bits (readWord s.mem w addr n)
  let r := atomicOp fn bits old (op.setWidth bits) (cmp.setWidth bits)
  let s := onMem (fun m => writeWord m w addr n r.val.toNat) s
  pend { Pending.none .atomic with sregs := if a == 0 then [] else [(a, old.setWidth 64)], atomFlags := r.flags } s

/-- An atomic on a transmit window: posted, and acknowledged when it has been applied, with the flags of each application (R149).
A LOCAL-FIRST application brings its flags at once.
(Log entry 35, DEDUCED) -/
def atomPost (fn : BitVec 4) (n : Nat) (op : W64) (addr : Nat) (s : State) : State :=
  match windowOf s addr with
  | none => s
  | some w =>
    let post := tryPost w (addr - w.base.toNat) (bytesOfNat n op.toNat) (some fn) s.agent
    if !hasRoom s.refl w n || (post s).isNone then stallOn .other s
    else metered 2 n (fun s =>
      let here : Arrival := { src := s.seq.chipId, vc := w.vc, seq := 0, rxid := w.id, off := addr - w.base.toNat,
                              data := bytesOfNat n op.toNat, atom := some fn }
      pend { Pending.none .atomic with
        hold := some (.applied s.refl.nextSerial (w.targets.any (·.1 != s.seq.chipId)))
        atomFlags := if w.loop == 1 then atomFlagsHere here s else 0 } ((post s).getD s)) s

/-- An atomic word of n bytes (R147). -/
def atomWord (op : BitVec 6) (n : Nat) (fn : BitVec 4) (u : Use) (hd : Hdr) (a b x : Reg5) (s : State) :
    Host.Outcome State Fault Refusal :=
  issue u (guarded hd (fun s =>
    let addr := placeOf s (readS s b)
    let acc := atomAccess fn a addr n
    checkedAccess (packWord hd op (packR a b x fn)) noPre true (fun _ => acc) (fun s =>
      match rowOf addr with
      | some (.window, _) => atomPost fn n (readS s x) addr s
      | _ => metered 0 (hbmAccesses acc.parts) (atomPerform fn n a (readS s x) (readS s a) addr) s) s)) s

/-- The 16-byte update of `faddg` as one action (R150). -/
def faddgPerform (a : Reg5) (op : W64) (addr : Nat) (s : State) : State :=
  let w := coreWho s
  let next := readWord s.mem w addr 8
  let chunk := faddgChunk next (readWord s.mem w (addr + 8) 8) op
  let s := onMem (fun m => writeWord m w addr 8 (next + chunk)) s
  pend { Pending.none .atomic with
    sregs := if a == 0 then [] else [(a, BitVec.ofNat 64 (chunk * 2 ^ 40 + next % 2 ^ 40))] } s

/-! ### Ownership words and fences -/

/-- The checks of a `rel` or `ret` range (R135, R136, R151).
(Log entry 28, DEDUCED) -/
def checkRange (a n : Nat) : Option Failure :=
  if n == 0 then none
  else match checkMap { lane := 0, addr := a, len := n } with
    | some f => some f
    | none => match rowOf a with
      | some (.scratchpad, _) => none
      | _ => some (failAt 5 0x06 a 0)

/-- `rel` or `ret` (R151): granules change one at a time until one is held by another agent.
(Log entry 28, DEDUCED) -/
def ownWord (fn : BitVec 4) (own : Option Owner) (hd : Hdr) (b x : Reg5) (s : State) : Host.Outcome State Fault Refusal :=
  issue (useOwn hd b x) (guarded hd (fun s =>
    let a := placeOf s (readS s b)
    let n := (readS s x).toNat
    match (if n == 0 then none else checkPrivilege s [{ lane := 0, addr := a, len := n }]) with
    | some c => raise (controlTrap c (packWord hd 0x1F (packR 0 b x fn))) s
    | none => match checkRange a n with
      | some f => fail f s
      | none =>
        let r := relGranules s.mem s.agent own (granulesOf a n)
        let s := onMem (fun _ => r.1) s
        match r.2 with
        | some race => fail { (failAt 7 race.detail (max a race.addr) 0) with race := some race.info } s
        | none => s)) s

/-- A fence (R153): complete at once when what it orders has performed, pending until then otherwise. -/
def fenceAct (scope : BitVec 3) (mask : BitVec 6) (s : State) : State :=
  if fenceMet s s.seq.sb scope mask then s
  else pend { Pending.none .memory with hold := some (.fence scope mask) } s

/-! ### The words -/

/-- `ld8` (R140). -/
def execLd8 (hd : Hdr) (a b : Reg5) (d : BitVec 6) (s : State) : Host.Outcome State Fault Refusal :=
  loadWord 1 false (signExt 8) 0 hd a b d s

/-- `ld8u` (R140). -/
def execLd8u (hd : Hdr) (a b : Reg5) (d : BitVec 6) (s : State) : Host.Outcome State Fault Refusal :=
  loadWord 1 false zeroExt 1 hd a b d s

/-- `ld16` (R140). -/
def execLd16 (hd : Hdr) (a b : Reg5) (d : BitVec 6) (s : State) : Host.Outcome State Fault Refusal :=
  loadWord 2 false (signExt 16) 2 hd a b d s

/-- `ld16u` (R140). -/
def execLd16u (hd : Hdr) (a b : Reg5) (d : BitVec 6) (s : State) : Host.Outcome State Fault Refusal :=
  loadWord 2 false zeroExt 3 hd a b d s

/-- `ld32` (R140). -/
def execLd32 (hd : Hdr) (a b : Reg5) (d : BitVec 6) (s : State) : Host.Outcome State Fault Refusal :=
  loadWord 4 true (signExt 32) 4 hd a b d s

/-- `ld32u` (R140). -/
def execLd32u (hd : Hdr) (a b : Reg5) (d : BitVec 6) (s : State) : Host.Outcome State Fault Refusal :=
  loadWord 4 false zeroExt 5 hd a b d s

/-- `ld64` (R140). -/
def execLd64 (hd : Hdr) (a b : Reg5) (d : BitVec 6) (s : State) : Host.Outcome State Fault Refusal :=
  loadWord 8 true zeroExt 6 hd a b d s

/-- `st8` (R140). -/
def execSt8 (hd : Hdr) (a b : Reg5) (d : BitVec 6) (s : State) : Host.Outcome State Fault Refusal :=
  storeWord 1 false 0 hd a b d s

/-- `st16` (R140). -/
def execSt16 (hd : Hdr) (a b : Reg5) (d : BitVec 6) (s : State) : Host.Outcome State Fault Refusal :=
  storeWord 2 false 1 hd a b d s

/-- `st32` (R140). -/
def execSt32 (hd : Hdr) (a b : Reg5) (d : BitVec 6) (s : State) : Host.Outcome State Fault Refusal :=
  storeWord 4 true 2 hd a b d s

/-- `st64` (R140). -/
def execSt64 (hd : Hdr) (a b : Reg5) (d : BitVec 6) (s : State) : Host.Outcome State Fault Refusal :=
  storeWord 8 true 3 hd a b d s

/-- `ldf` (R145). -/
def execLdf (hd : Hdr) (a b : Reg5) (d : BitVec 6) (s : State) : Host.Outcome State Fault Refusal :=
  feWord 0 (some true) true true hd a b d s

/-- `lde` (R145). -/
def execLde (hd : Hdr) (a b : Reg5) (d : BitVec 6) (s : State) : Host.Outcome State Fault Refusal :=
  feWord 1 (some true) true false hd a b d s

/-- `stf` (R145). -/
def execStf (hd : Hdr) (a b : Reg5) (d : BitVec 6) (s : State) : Host.Outcome State Fault Refusal :=
  feWord 2 (some false) false true hd a b d s

/-- `stfo` (R145). -/
def execStfo (hd : Hdr) (a b : Reg5) (d : BitVec 6) (s : State) : Host.Outcome State Fault Refusal :=
  feWord 3 none false true hd a b d s

/-- `vld` mode 0 (R141). -/
def execVldRaw (hd : Hdr) (a b : Reg5) (d : BitVec 6) (s : State) : Host.Outcome State Fault Refusal :=
  vloadWord 0 hd a b d s

/-- `vld` mode 1 (R141). -/
def execVldF32 (hd : Hdr) (a b : Reg5) (d : BitVec 6) (s : State) : Host.Outcome State Fault Refusal :=
  vloadWord 1 hd a b d s

/-- `vld` mode 2 (R141). -/
def execVldBf16 (hd : Hdr) (a b : Reg5) (d : BitVec 6) (s : State) : Host.Outcome State Fault Refusal :=
  vloadWord 2 hd a b d s

/-- `vld` mode 3 (R141). -/
def execVldI32 (hd : Hdr) (a b : Reg5) (d : BitVec 6) (s : State) : Host.Outcome State Fault Refusal :=
  vloadWord 3 hd a b d s

/-- `vld` mode 4 (R141). -/
def execVldI8 (hd : Hdr) (a b : Reg5) (d : BitVec 6) (s : State) : Host.Outcome State Fault Refusal :=
  vloadWord 4 hd a b d s

/-- `vld` mode 5 (R141). -/
def execVldUi8 (hd : Hdr) (a b : Reg5) (d : BitVec 6) (s : State) : Host.Outcome State Fault Refusal :=
  vloadWord 5 hd a b d s

/-- `vld` mode 6 (R141). -/
def execVldHt8 (hd : Hdr) (a b : Reg5) (d : BitVec 6) (s : State) : Host.Outcome State Fault Refusal :=
  vloadWord 6 hd a b d s

/-- `vld` mode 7 (R141). -/
def execVldVtag (hd : Hdr) (a b : Reg5) (d : BitVec 6) (s : State) : Host.Outcome State Fault Refusal :=
  vloadWord 7 hd a b d s

/-- `vst` (R142). -/
def execVst (hd : Hdr) (a b : Reg5) (d : BitVec 6) (s : State) : Host.Outcome State Fault Refusal :=
  vstoreWord false hd a b d s

/-- `vst.ht6` (R142). -/
def execVstHt6 (hd : Hdr) (a b : Reg5) (d : BitVec 6) (s : State) : Host.Outcome State Fault Refusal :=
  vstoreWord true hd a b d s

/-- `vldg` (R143). -/
def execVldg (hd : Hdr) (a b x : Reg5) (r : Reg4) (s : State) : Host.Outcome State Fault Refusal :=
  issue (useGather hd a b x r) (guarded hd (fun s =>
    let w := packWord hd 0x1A (a ++ b ++ x ++ r)
    let acc := laneAccess .load b x s
    checkedAccess w (fun s => (vtagCheck w a true s).or (indexCheck x s)) false (fun _ => acc)
      (metered 0 (hbmAccesses acc.parts) (fun s =>
        let f := absentMask acc.parts (fun p => 1 <<< p.lane) s
        let data := vecOf (fun i =>
          if f.1.getLsbD i then 0 else BitVec.ofNat 32 (readWord f.2.mem (coreWho f.2) (laneAddr s b x i) 4))
        landLoad (reachesExtent acc.parts)
          { Pending.none .memory with vregs := [(a, { data := data, tag := mkTag (tagFmt s.seq.vtag) false false })],
                                      pregs := [(r, f.1)] } f.2)) s)) s

/-- `vsts` (R144). -/
def execVsts (hd : Hdr) (a b x : Reg5) (s : State) : Host.Outcome State Fault Refusal :=
  issue (useScatter hd a b x) (guarded hd (fun s =>
    let acc := laneAccess .store b x s
    checkedAccess (packWord hd 0x1B (packR a b x 0)) (indexCheck x) false (fun _ => acc)
      (performStores acc.parts ((List.range 64).map (fun i =>
        (laneAddr s b x i, bytesOfNat 4 (lane (readV s a).data i).toNat)))) s)) s

/-- `atom32.add` (R147). -/
def execAtom32Add (hd : Hdr) (a b x : Reg5) (s : State) : Host.Outcome State Fault Refusal :=
  atomWord 0x1C 4 0 (useAtom hd a b x) hd a b x s

/-- `atom32.and` (R147). -/
def execAtom32And (hd : Hdr) (a b x : Reg5) (s : State) : Host.Outcome State Fault Refusal :=
  atomWord 0x1C 4 1 (useAtom hd a b x) hd a b x s

/-- `atom32.or` (R147). -/
def execAtom32Or (hd : Hdr) (a b x : Reg5) (s : State) : Host.Outcome State Fault Refusal :=
  atomWord 0x1C 4 2 (useAtom hd a b x) hd a b x s

/-- `atom32.xor` (R147). -/
def execAtom32Xor (hd : Hdr) (a b x : Reg5) (s : State) : Host.Outcome State Fault Refusal :=
  atomWord 0x1C 4 3 (useAtom hd a b x) hd a b x s

/-- `atom32.min` (R147). -/
def execAtom32Min (hd : Hdr) (a b x : Reg5) (s : State) : Host.Outcome State Fault Refusal :=
  atomWord 0x1C 4 4 (useAtom hd a b x) hd a b x s

/-- `atom32.max` (R147). -/
def execAtom32Max (hd : Hdr) (a b x : Reg5) (s : State) : Host.Outcome State Fault Refusal :=
  atomWord 0x1C 4 5 (useAtom hd a b x) hd a b x s

/-- `atom32.minu` (R147). -/
def execAtom32Minu (hd : Hdr) (a b x : Reg5) (s : State) : Host.Outcome State Fault Refusal :=
  atomWord 0x1C 4 6 (useAtom hd a b x) hd a b x s

/-- `atom32.maxu` (R147). -/
def execAtom32Maxu (hd : Hdr) (a b x : Reg5) (s : State) : Host.Outcome State Fault Refusal :=
  atomWord 0x1C 4 7 (useAtom hd a b x) hd a b x s

/-- `atom32.swap` (R147). -/
def execAtom32Swap (hd : Hdr) (a b x : Reg5) (s : State) : Host.Outcome State Fault Refusal :=
  atomWord 0x1C 4 8 (useAtom hd a b x) hd a b x s

/-- `atom32.cas` (R147). -/
def execAtom32Cas (hd : Hdr) (a b x : Reg5) (s : State) : Host.Outcome State Fault Refusal :=
  atomWord 0x1C 4 9 (useCas hd a b x) hd a b x s

/-- `atom32.fadd` (R147). -/
def execAtom32Fadd (hd : Hdr) (a b x : Reg5) (s : State) : Host.Outcome State Fault Refusal :=
  atomWord 0x1C 4 10 (useAtom hd a b x) hd a b x s

/-- `atom32.fmin` (R147). -/
def execAtom32Fmin (hd : Hdr) (a b x : Reg5) (s : State) : Host.Outcome State Fault Refusal :=
  atomWord 0x1C 4 11 (useAtom hd a b x) hd a b x s

/-- `atom32.fmax` (R147). -/
def execAtom32Fmax (hd : Hdr) (a b x : Reg5) (s : State) : Host.Outcome State Fault Refusal :=
  atomWord 0x1C 4 12 (useAtom hd a b x) hd a b x s

/-- `atom64.add` (R147). -/
def execAtom64Add (hd : Hdr) (a b x : Reg5) (s : State) : Host.Outcome State Fault Refusal :=
  atomWord 0x1D 8 0 (useAtom hd a b x) hd a b x s

/-- `atom64.and` (R147). -/
def execAtom64And (hd : Hdr) (a b x : Reg5) (s : State) : Host.Outcome State Fault Refusal :=
  atomWord 0x1D 8 1 (useAtom hd a b x) hd a b x s

/-- `atom64.or` (R147). -/
def execAtom64Or (hd : Hdr) (a b x : Reg5) (s : State) : Host.Outcome State Fault Refusal :=
  atomWord 0x1D 8 2 (useAtom hd a b x) hd a b x s

/-- `atom64.xor` (R147). -/
def execAtom64Xor (hd : Hdr) (a b x : Reg5) (s : State) : Host.Outcome State Fault Refusal :=
  atomWord 0x1D 8 3 (useAtom hd a b x) hd a b x s

/-- `atom64.min` (R147). -/
def execAtom64Min (hd : Hdr) (a b x : Reg5) (s : State) : Host.Outcome State Fault Refusal :=
  atomWord 0x1D 8 4 (useAtom hd a b x) hd a b x s

/-- `atom64.max` (R147). -/
def execAtom64Max (hd : Hdr) (a b x : Reg5) (s : State) : Host.Outcome State Fault Refusal :=
  atomWord 0x1D 8 5 (useAtom hd a b x) hd a b x s

/-- `atom64.minu` (R147). -/
def execAtom64Minu (hd : Hdr) (a b x : Reg5) (s : State) : Host.Outcome State Fault Refusal :=
  atomWord 0x1D 8 6 (useAtom hd a b x) hd a b x s

/-- `atom64.maxu` (R147). -/
def execAtom64Maxu (hd : Hdr) (a b x : Reg5) (s : State) : Host.Outcome State Fault Refusal :=
  atomWord 0x1D 8 7 (useAtom hd a b x) hd a b x s

/-- `atom64.swap` (R147). -/
def execAtom64Swap (hd : Hdr) (a b x : Reg5) (s : State) : Host.Outcome State Fault Refusal :=
  atomWord 0x1D 8 8 (useAtom hd a b x) hd a b x s

/-- `atom64.cas` (R147). -/
def execAtom64Cas (hd : Hdr) (a b x : Reg5) (s : State) : Host.Outcome State Fault Refusal :=
  atomWord 0x1D 8 9 (useCas hd a b x) hd a b x s

/-- `atom64.faddg` (R150). -/
def execFaddg (hd : Hdr) (a b x : Reg5) (s : State) : Host.Outcome State Fault Refusal :=
  issue (useAtom hd a b x) (guarded hd (fun s =>
    let addr := placeOf s (readS s b)
    let acc := atomAccess 13 a addr 16
    checkedAccess (packWord hd 0x1D (packR a b x 13)) noPre true (fun _ => acc)
      (metered 0 (hbmAccesses acc.parts) (faddgPerform a (readS s x) addr)) s)) s

/-- `fence` (R153). -/
def execFence (hd : Hdr) (k : BitVec 3) (m : BitVec 6) (s : State) : Host.Outcome State Fault Refusal :=
  issue (useM hd [] []) (guarded hd (fenceAct k m)) s

/-- `rel` (R151). -/
def execRel (hd : Hdr) (b x : Reg5) (s : State) : Host.Outcome State Fault Refusal :=
  ownWord 0 (some .pub) hd b x s

/-- `ret` of OWN (R151). -/
def execOwnRet (hd : Hdr) (b x : Reg5) (s : State) : Host.Outcome State Fault Refusal :=
  ownWord 1 none hd b x s

end Sys2Proof.Machine
end

