-- ==== Sys2Proof/Machine/System.lean ====
section
/-! DEFINITION. The system group (R118 to R120, R200, R201, R320): special registers, traps, the snapshot words, the return
from a trap, and the ends of sections. -/

namespace Sys2Proof.Machine

/-- A SYS word of format F-E (R118, R200). -/
def sysWord (hd : Hdr) (a b : Reg5) (k : BitVec 9) : W32 := packWord hd 0x00 (packI a b k)

/-! ### Ends of sections -/

/-- Whether a unit's writes have been made where its chip can see them (R190, R212): its copies have drained, and its reflected
writes to its own chip have been applied. -/
def writesDrained (s : State) : Bool :=
  s.copy.queue.isEmpty && s.copy.fired.isEmpty && loopbackDrained s s.seq.bayId.toNat

/-- What `exit` does once nothing is in flight (R19, R117, R190, R200, R235): its traps, the wait of a unit's last section
for its copies and loop-back writes (R212), and the end of the section.
(Log entry 16, DEDUCED) -/
def exitAct (s : State) : State :=
  if !s.seq.loops.isEmpty then raise (sequenceTrap 0x09 (BitVec.ofNat 64 s.seq.loops.length) s) s
  else match s.seq.held with
    | some h => raise (cause 11 0x08 h.buffer (h.idx.setWidth 64)) s
    | none =>
      if lastSection s && !writesDrained s then stallOn .other s
      else unlessTrapped (transfer .endSection) s

/-- What `yield` does (R200, R332): under a soft request of dispatch it is the point of the save.
(Log entry 45, DEDUCED) -/
def yieldAct (s : State) : State :=
  if softAsked s && !s.seq.supervisor then unlessTrapped (onSeq (fun q => { q with preempt := some .saving })) s else s

/-- What `eret` does once nothing of supervisor code is in flight (R288, R320).
(Log entries 16 DEDUCED, 44 DEDUCED, 79 DEDUCED) -/
def eretAct (s : State) : State :=
  if s.seq.masked then raise (sequenceTrap 0x05 0 s) s else unlessTrapped (transfer .eret) s

/-! ### The snapshot -/

/-- The address of a snapshot word: sA, or SAVEPTR when A is s0 (R320). -/
def snapshotAddr (a : Reg5) (s : State) : Nat := placeOf s (if a == 0 then s.seq.saveptr else readS s a)

/-- A snapshot word's address: 256-byte aligned in scratchpad or in an extent, or it traps (R320). -/
def snapshotPlaced (a : Nat) (_ : State) : Option TrapInfo :=
  let placed := match rowOf a with
    | some (.scratchpad, _) => true
    | some (.extent, _) => true
    | _ => false
  if placed && a % 256 == 0 then none else some (failAt 5 0x02 a 0).trap

/-- A snapshot word's access: 8,192 bytes, 256-byte aligned (R320).
(Log entry 43, DEDUCED) -/
def snapshotAccess (kind : AccessKind) (a : Nat) : CoreAccess := rangeAccess kind false a 8192 256

/-- The live snapshot stored at an address (R320). -/
def snapstAct (addr : Nat) (s : State) : State :=
  performStores [{ lane := 0, addr := addr, len := 8192 }] [(addr, snapshotBytes s.seq.snapshot)] s

/-- The live snapshot replaced by the image at an address, unless it is malformed (R320).
(Log entry 43, DEDUCED) -/
def snapldAct (addr : Nat) (s : State) : State :=
  let b := readMem s.mem (coreWho s) addr 8192
  if snapshotOk b then onSeq (fun q => { q with snapshot := parseSnapshot q.snapshot b }) s
  else raise (sequenceTrap 0x07 0 s) s

/-! ### Special registers -/

/-- Whether a special-register number belongs to the supervisor (R13, R118). -/
def isSupervisorNumber (k : BitVec 9) : Bool := 0x100 ≤ k.toNat

/-- `srr` of a number it may read (R118, R119): TIME and STEPS are inputs of the unit (R343).
(Log entry 42, DEDUCED) -/
def srrAct (a : Reg5) (k : BitVec 9) (s : State) : State :=
  if k == 0x006 then
    let r := readTime s
    putS a r.1.1 (onSeq (fun q => { q with timef := r.1.2.1 }) r.2)
  else if k == 0x008 then
    let r := takeInput 4 s.seq.steps [] s
    putS a r.1.1 r.2
  else putS a (specialWord s k) s

/-- `srw` of a context command (R326): its conditions, the budget that a save waits for (R296), and what it does after its
group. -/
def contextWord (x : W64) (s : State) : State :=
  let op := x.toNat % 8
  if 2 < op || s.seq.masked || (op != 0 && !s.seq.saved) then raise (sequenceTrap 0x07 0 s) s
  else if op == 0 && saveHeld s then stallOn (.budget 0) s
  else
    let s := onGroup (fun g => { g with srw := some (0x107, x) }) s
    if op == 0 then s else transfer .descheduled s

/-- `srw` of a number it may write (R119): the write is made after the group. -/
def srwAct (k : BitVec 9) (x : W64) (s : State) : State :=
  if k == 0x107 then contextWord x s else onGroup (fun g => { g with srw := some (k, x) }) s

/-! ### The words -/

/-- `nop` (R82). -/
def execNop (hd : Hdr) (s : State) : Host.Outcome State Fault Refusal := issue (useNop hd) id s

/-- `halt` (R200). -/
def execHalt (hd : Hdr) (s : State) : Host.Outcome State Fault Refusal :=
  issue (useSettle hd .all) (guarded hd (supervisorOnly (sysWord hd 0 1 0) (unlessTrapped (transfer .halt)))) s

/-- `exit` (R19, R200). -/
def execExit (hd : Hdr) (s : State) : Host.Outcome State Fault Refusal := issue (useExit hd) (guarded hd exitAct) s

/-- `trap` (R200). -/
def execTrap (hd : Hdr) (k : BitVec 6) (s : State) : Host.Outcome State Fault Refusal :=
  issue (useE hd [] []) (guarded hd (raise (cause 15 k 0 0))) s

/-- `eret` (R320). -/
def execEret (hd : Hdr) (s : State) : Host.Outcome State Fault Refusal :=
  issue (useSettle hd .supervisor) (guarded hd (supervisorOnly (sysWord hd 0 4 0) eretAct)) s

/-- `snapst` (R320). -/
def execSnapst (hd : Hdr) (a : Reg5) (s : State) : Host.Outcome State Fault Refusal :=
  issue (useE hd (sName a) []) (guarded hd (supervisorOnly (sysWord hd a 5 0) (fun s =>
    let addr := snapshotAddr a s
    checkedAccess (sysWord hd a 5 0) (snapshotPlaced addr) true (fun _ => snapshotAccess .store addr) (snapstAct addr) s))) s

/-- `snapld` (R320). -/
def execSnapld (hd : Hdr) (a : Reg5) (s : State) : Host.Outcome State Fault Refusal :=
  issue (useE hd (sName a) []) (guarded hd (supervisorOnly (sysWord hd a 6 0) (fun s =>
    let addr := snapshotAddr a s
    let acc := snapshotAccess .load addr
    checkedAccess (sysWord hd a 6 0) (snapshotPlaced addr) true (fun _ => acc) (metered 0 (hbmAccesses acc.parts) (snapldAct addr)) s))) s

/-- `snaprel` (R201, R320). -/
def execSnaprel (hd : Hdr) (s : State) : Host.Outcome State Fault Refusal :=
  issue (useE hd [] []) (guarded hd (supervisorOnly (sysWord hd 0 7 0) (onSeq (fun q => { q with masked := false })))) s

/-- `yield` (R200, R332). -/
def execYield (hd : Hdr) (s : State) : Host.Outcome State Fault Refusal := issue (useTransfer hd) (guarded hd yieldAct) s

/-- `srr` (R118, R119). -/
def execSrr (hd : Hdr) (a : Reg5) (k : BitVec 9) (s : State) : Host.Outcome State Fault Refusal :=
  issue (useE hd [] (sName a)) (guarded hd (fun s =>
    if isSupervisorNumber k && !s.seq.supervisor then raise (privilegeTrap 0x01 (sysWord hd a 9 k)) s
    else srrAct a k s)) s

/-- `srw` (R118, R119). -/
def execSrw (hd : Hdr) (a : Reg5) (k : BitVec 9) (s : State) : Host.Outcome State Fault Refusal :=
  issue (useSrw hd a k) (guarded hd (fun s =>
    if isSupervisorNumber k && !s.seq.supervisor then raise (privilegeTrap 0x01 (sysWord hd a 10 k)) s
    else srwAct k (readS s a) s)) s

/-- `brk` (R200). -/
def execBrk (hd : Hdr) (k : BitVec 9) (s : State) : Host.Outcome State Fault Refusal :=
  issue (useE hd [] []) (guarded hd (fun s =>
    if s.seq.debug then raise (cause 12 0x10 0 (k.setWidth 64)) s else s)) s

end Sys2Proof.Machine
end

