-- ==== Sys2Proof/Machine/EngineWords.lean ====
section
/-! DEFINITION. Engine words (R176 to R199, R202): circular buffers, the copy engine, sync words, the stage router, the
collective engine, launches, time, windows and residency. -/

namespace Sys2Proof.Machine

/-! ### Statuses and traps -/

/-- A status of R177. -/
def status (n : Int) : W64 := BitVec.ofInt 64 n

/-- A trap of an engine word, with its address and EINFO (R202).
(Log entry 25, DEDUCED) -/
def engineTrap (cls : BitVec 4) (detail : BitVec 6) (addr einfo : Nat) : TrapInfo :=
  cause cls detail (BitVec.ofNat 64 addr) (BitVec.ofNat 64 einfo)

/-- An E word of format F-E whose major is op. -/
def engineWord (op : BitVec 6) (hd : Hdr) (a b : Reg5) (fn : BitVec 9) : W32 := packWord hd op (packI a b fn)

/-- A race that an engine word meets (R139, R181, R223). -/
def failRace (r : Race) (s : State) : State := fail { (failAt 7 r.detail r.addr 0) with race := some r.info } s

/-- A read of memory that an engine word's address operand names, with the checks of R135 and R136 (R176). -/
def descriptorRead (w : W32) (a n align : Nat) (f : List Byte → State → State) (s : State) : State :=
  let acc := rangeAccess .load false a n align
  checkedAccess w noPre true (fun _ => acc)
    (metered 0 (hbmAccesses acc.parts) (fun s => f (readMem s.mem (coreWho s) a n) s)) s

/-! ### Circular buffers -/

/-- What a CB word other than `cbdef` does with its slot (R180): sB names it, and it is bound. `f` takes the slot's number,
the slot and its descriptor. -/
def withSlot (b : Reg5) (f : Nat → CbSlot → CbDesc → State → State) (s : State) : State :=
  let x := (readS s b).toNat
  if 16 ≤ x then raise (engineTrap 8 0x02 0 (x % 16)) s
  else
    let c := slotAt s x
    if !c.bound then raise (engineTrap 8 0x01 0 x) s
    else unlessBad c.desc.toNat 64 (f x c (cbRead s.mem c.desc.toNat)) s

/-- A trap about a bound slot's buffer. -/
def slotTrap (detail : BitVec 6) (slot : Nat) (c : CbSlot) : TrapInfo := engineTrap 8 detail c.desc.toNat slot

/-- `cbdef` of a descriptor at an address (R179 to R181).
(Log entry 36, DEDUCED) -/
def cbdefAct (x : W64) (a : Nat) (s : State) : State :=
  let slot := x.toNat % 16
  let producer := x.getLsbD 4
  let engine := x.getLsbD 5
  let d := cbRead s.mem a
  let agent := if engine then s.copyAgent else s.agent
  let field := if producer then d.pagent else d.cagent
  if !d.ok a || 64 ≤ x.toNat then raise (engineTrap 8 0x02 a slot) s
  else if field != 0x1FF && field != agent.toNat then raise (engineTrap 8 0x09 a slot) s
  else
    let da := BitVec.ofNat 64 a
    onSeq (fun q => { q with
        slots := vecModify q.slots slot (fun _ => { bound := true, desc := da, producer := producer, engine := engine })
        buffers := if q.buffers.contains da then q.buffers else q.buffers ++ [da] })
      (onMem (fun m => setOwner (setSpadWord m (a + (if producer then 32 else 34)) 2 agent.toNat) (a / 64) (some .pub)) s)

/-- `cbput` of n elements (R181).
(Log entry 37, DEDUCED) -/
def cbputAct (n slot : Nat) (c : CbSlot) (d : CbDesc) (s : State) : State :=
  if !c.producer || c.engine then raise (slotTrap 0x09 slot c) s
  else if d.state != 0 then raise (slotTrap 0x0A slot c) s
  else if d.room < n then raise (slotTrap 0x03 slot c) s
  else
    let r := relGranules s.mem s.agent (some .pub) (cbGranules d d.pcnt n)
    let s := { s with mem := r.1 }
    match r.2 with
    | some race => failRace race s
    | none => onMem (fun m => cbAddP m c.desc.toNat n) s

/-- `cbtake` of n elements (R181).
(Log entry 37, DEDUCED) -/
def cbtakeAct (n slot : Nat) (c : CbSlot) (d : CbDesc) (s : State) : State :=
  if c.producer || c.engine then raise (slotTrap 0x09 slot c) s
  else if d.avail < n then raise (slotTrap 0x04 slot c) s
  else
    let r := relGranules s.mem s.agent none (cbGranules d d.ccnt n)
    let s := { s with mem := r.1 }
    match r.2 with
    | some race => failRace race s
    | none => onMem (fun m => cbAddC m c.desc.toNat n) s

/-- The answer of `cbwait`, or none while it waits (R182). -/
def cbAnswer (c : CbSlot) (d : CbDesc) : Option W64 :=
  let avail := if c.producer then d.room else d.avail
  match d.state with
  | 0 => if d.quant ≤ avail then some (BitVec.ofNat 64 avail) else none
  | 3 => some (status (-2))
  | 4 => some (status (-3))
  | _ => if !c.producer && 0 < avail then some (BitVec.ofNat 64 avail) else some (status (-1))

/-- The state of a bound slot that `cbst` returns (R181). -/
def cbStatus (c : CbSlot) (d : CbDesc) : W64 :=
  BitVec.ofNat 64 (d.avail % 2 ^ 32 + d.state * 2 ^ 32 + c.producer.toNat * 2 ^ 40 + c.engine.toNat * 2 ^ 41 + 2 ^ 42)

/-- `cbdef` (R181). -/
def execCbdef (hd : Hdr) (a b : Reg5) (s : State) : Host.Outcome State Fault Refusal :=
  issue (useEIn hd a b) (guarded hd (fun s =>
    let y := placeOf s (readS s b)
    unlessBad y 64 (cbdefAct (readS s a) y) s)) s

/-- `cbput` (R181). -/
def execCbput (hd : Hdr) (a b : Reg5) (s : State) : Host.Outcome State Fault Refusal :=
  issue (useRelease (useEIn hd a b)) (guarded hd (fun s => withSlot b (cbputAct ((readS s a).toNat % 2 ^ 32)) s)) s

/-- `cbwait` (R182).
(Log entry 36, DEDUCED) -/
def execCbwait (hd : Hdr) (a b : Reg5) (s : State) : Host.Outcome State Fault Refusal :=
  issue (useEOut hd a b) (guarded hd (withSlot b (fun slot c d s =>
    match cbAnswer c d with
    | some x => putS a x s
    | none => stallOn (.buffer (BitVec.ofNat 4 slot)) s))) s

/-- `cbtake` (R181). -/
def execCbtake (hd : Hdr) (a b : Reg5) (s : State) : Host.Outcome State Fault Refusal :=
  issue (useEIn hd a b) (guarded hd (fun s => withSlot b (cbtakeAct ((readS s a).toNat % 2 ^ 32)) s)) s

/-- `cbclose` (R181). -/
def execCbclose (hd : Hdr) (b : Reg5) (s : State) : Host.Outcome State Fault Refusal :=
  issue (useE hd (sName b) []) (guarded hd (withSlot b (fun slot c _ s =>
    if !c.producer then raise (slotTrap 0x09 slot c) s else onMem (fun m => cbEnd m c.desc.toNat 1) s))) s

/-- `cbst` (R181): an unbound slot reads as zero. -/
def execCbst (hd : Hdr) (a b : Reg5) (s : State) : Host.Outcome State Fault Refusal :=
  issue (useEOut hd a b) (guarded hd (fun s =>
    let x := (readS s b).toNat
    if 16 ≤ x then raise (engineTrap 8 0x02 0 (x % 16)) s
    else
      let c := slotAt s x
      if c.bound then unlessBad c.desc.toNat 64 (putS a (cbStatus c (cbRead s.mem c.desc.toNat))) s else putS a 0 s)) s

/-! ### The copy engine -/

/-- A copy descriptor as its word presents it (R185): the offset added to DST, or to the memory side of `cpyc`, and the alias
replaced in every address. -/
def placeDesc (s : State) (op : Nat) (off : W64) (d : CopyDesc) : CopyDesc :=
  let at_ := fun (x o : Nat) => placeOf s (BitVec.ofNat 64 (x + o))
  let o := off.toNat
  let d := if op != 3 then { d with src := at_ d.src 0, dst := at_ d.dst o }
    else { d with src := if d.scb then d.src else at_ d.src (if d.dcb then o else 0)
                  dst := if d.dcb then d.dst else at_ d.dst (if d.scb then o else 0) }
  { d with sync := at_ d.sync 0, trig := at_ d.trig 0 }

/-- The sync word that a descriptor misplaces, if any (R176, R191). -/
def badSyncOf (op : Nat) (d : CopyDesc) : Option Nat :=
  if d.sync != 0 && !syncPlaced d.sync then some d.sync
  else if op == 2 && !syncPlaced d.trig then some d.trig
  else none

/-- Whether the engine has room to accept an operation (R186, R188). -/
def copyRoom (c : Copy) (op : Nat) : Bool := if op == 2 then c.armed.length + c.fired.length < 16 else c.queue.length < 16

/-- A copy descriptor judged, and accepted when the engine has room (R185, R186, R188).
(Log entry 76, DEDUCED) -/
def copyJudged (op addr : Nat) (d : CopyDesc) (e : BitVec 6) (s : State) : State :=
  if !d.ok op (d.elements s) then raise (engineTrap 8 0x0B addr 0) s
  else match badSyncOf op d with
    | some y => raise (engineTrap 8 0x0C y 0) s
    | none =>
      if !copyRoom s.copy op then stallOn .other s
      else
        let x := d.toOp op addr e
        onCopy (fun c => if op == 2 then { c with armed := c.armed ++ [x] } else { c with queue := c.queue ++ [x] }) s

/-- A copy word with its descriptor read. A `cpyc` with one slot side reads QUANT and ESIZE of that slot's buffer, if it is bound, to
judge its memory side. -/
def copyAccept (op addr : Nat) (off : W64) (e : BitVec 6) (b : List Byte) (s : State) : State :=
  let d := placeDesc s op off (parseCopyDesc b)
  if op == 3 && d.scb != d.dcb && (d.sizeSlot s).bound then
    unlessBad (d.sizeSlot s).desc.toNat 64 (copyJudged op addr d e) s
  else copyJudged op addr d e s

/-- A copy word (R185). -/
def copyWord (op : Nat) (hd : Hdr) (a b : Reg5) (e : BitVec 6) (s : State) : Host.Outcome State Fault Refusal :=
  issue (useEIn hd a b) (guarded hd (fun s =>
    let addr := placeOf s (readS s a)
    descriptorRead (engineWord 0x31 hd a b (BitVec.ofNat 9 (64 * op + e.toNat))) addr 64 64
      (copyAccept op addr (readS s b) e) s)) s

/-- `cpy` (R185). -/
def execCpy (hd : Hdr) (a b : Reg5) (e : BitVec 6) (s : State) : Host.Outcome State Fault Refusal := copyWord 0 hd a b e s

/-- `cpyt` (R185). -/
def execCpyt (hd : Hdr) (a b : Reg5) (e : BitVec 6) (s : State) : Host.Outcome State Fault Refusal := copyWord 1 hd a b e s

/-- `cpya` (R185, R188). -/
def execCpya (hd : Hdr) (a b : Reg5) (e : BitVec 6) (s : State) : Host.Outcome State Fault Refusal := copyWord 2 hd a b e s

/-- `cpyc` (R185, R187). -/
def execCpyc (hd : Hdr) (a b : Reg5) (e : BitVec 6) (s : State) : Host.Outcome State Fault Refusal := copyWord 3 hd a b e s

/-- `cpyst` (R190). -/
def execCpyst (hd : Hdr) (a : Reg5) (s : State) : Host.Outcome State Fault Refusal :=
  issue (useE hd [] (sName a)) (guarded hd (fun s => putS a (copyStatus s) s)) s

/-! ### Sync words -/

/-- A SYNC word at its sync word: misplaced, it traps (R191). -/
def withSync (b : Reg5) (f : Nat → State → State) (s : State) : State :=
  let a := placeOf s (readS s b)
  if syncPlaced a then f a s else raise (engineTrap 8 0x0C a 0) s

/-- A word that reads its sync word, whose generation must be able to advance (R192). -/
def needsTarget (f : Nat → State → State) (a : Nat) (s : State) : State :=
  unlessBad a 16 (fun s => if syncTarget s.mem a == 0 then raise (engineTrap 8 0x0C a 0) s else f a s) s

/-- GEN and STATUS as the words return them (R193). -/
def syncWord (m : Mem) (a : Nat) : W64 := (syncGen m a).setWidth 64 ||| ((syncStatus m a).setWidth 64 <<< 32)

/-- A sync word set (R193).
(Log entry 37, DEDUCED) -/
def sinitAct (target : W32) (a : Nat) (s : State) : State :=
  if target == 0 then raise (engineTrap 8 0x0C a 0) s
  else onMem (fun m => m.putSpad a (bytesOfNat 4 target.toNat ++ zeroBytes 12)) s

/-- The wait of `swait` and `swait.y` (R178, R193). -/
def swaitAct (yields : Bool) (dst : Reg5) (gen : W32) (a : Nat) (s : State) : State :=
  if syncGen s.mem a == gen then stallOn (.sync (BitVec.ofNat 64 a) gen yields) s else putS dst (syncWord s.mem a) s

/-- `sinit` (R193). -/
def execSinit (hd : Hdr) (a b : Reg5) (s : State) : Host.Outcome State Fault Refusal :=
  issue (useRelease (useEIn hd a b)) (guarded hd (fun s => withSync b (sinitAct ((readS s a).setWidth 32)) s)) s

/-- `swait` (R193). -/
def execSwait (hd : Hdr) (a b : Reg5) (s : State) : Host.Outcome State Fault Refusal :=
  issue (useEBoth hd a b) (guarded hd (fun s => withSync b (needsTarget (swaitAct false a ((readS s a).setWidth 32))) s)) s

/-- `swait.y` (R193). -/
def execSwaitY (hd : Hdr) (a b : Reg5) (s : State) : Host.Outcome State Fault Refusal :=
  issue (useEBoth hd a b) (guarded hd (fun s => withSync b (needsTarget (swaitAct true a ((readS s a).setWidth 32))) s)) s

/-- `sadd` (R193): an addition of 0 has no effect. -/
def execSadd (hd : Hdr) (a b : Reg5) (s : State) : Host.Outcome State Fault Refusal :=
  issue (useRelease (useEIn hd a b)) (guarded hd (withSync b (needsTarget (fun y s =>
    let n := (readS s a).toNat % 2 ^ 32
    if n == 0 then s else countArrival y n s)))) s

/-- `sstat` (R193). -/
def execSstat (hd : Hdr) (a b : Reg5) (s : State) : Host.Outcome State Fault Refusal :=
  issue (useEOut hd a b) (guarded hd (withSync b (fun y s => unlessBad y 16 (putS a (syncWord s.mem y)) s))) s

/-! ### The stage router -/

/-- The set that sB[3:0] names.
(Log entry 38, DEDUCED) -/
def setNumber (x : W64) : BitVec 4 := x.setWidth 4
/-- The stage that sB[6:4] names. -/
def stageNumber (x : W64) : BitVec 3 := x.extractLsb' 4 3

/-- A record of `rsub` submitted (R224), its set neither retired nor broken. -/
def submitAct (t : StageSet) (dst : Reg5) (addr : Nat) (s : State) : State :=
  match raceOf s.mem s.agent false addr t.rsize with
  | some r => failRace r s
  | none =>
    if 1024 ≤ t.inFlight then stallOn (.submit t.idx) s
    else unlessBad addr t.rsize (metered 0 (entryLines t t.next) (fun s => putS dst (t.next.setWidth 64) (keepRecord t.east t.idx t.next
      (onSet t.east t.idx (submitRecord (memRead s.mem.spad addr t.rsize)) s)))) s

/-- `rsub` (R224).
(Log entry 38, DEDUCED) -/
def rsubAct (dst : Reg5) (x : W64) (s : State) : State :=
  let addr := placeOf s (x &&& ~~~0x3F)
  let set := (setNumber x).toNat
  match setFor s (setNumber x) with
  | none => raise (engineTrap 11 0x01 addr set) s
  | some t =>
    if x.extractLsb' 4 2 != 0 || 0x14000000 < addr + t.rsize then raise (engineTrap 11 0x07 addr set) s
    else if t.isRetired || (t.limit != 0 && t.next == t.limit) then putS dst (status (-1)) s
    else if t.broken then putS dst (status (-3)) s
    else submitAct t dst addr s

/-- The station takes the front record of a stage's queue (R225, R234). -/
def holdRecord (t : StageSet) (g : BitVec 3) (r : Rec) (dst : Reg5) (addr : Nat) (s : State) : State :=
  let s := onMem (fun m => ownRange (writeMem m (coreWho s) addr (privateCopy t g.toNat r)) s.agent addr t.rsize) s
  let s := onSet t.east t.idx (takeFront g.toNat) s
  putS dst (r.rnum.setWidth 64) (onSeq (fun q =>
    let h : Held := { idx := t.idx, stage := g, rnum := r.rnum, buffer := BitVec.ofNat 64 addr, pc := q.pc, gpos := q.gpos,
                      loops := q.loops, since := q.steps, sides := [] }
    { q with held := some h }) s)

/-- `rtake` once its checks have passed (R225): the router reads the record's store entry (R222, R295), and a machine check
follows where that holds an uncorrectable error (R334). -/
def takeAct (t : StageSet) (g : BitVec 3) (st : Stage) (dst : Reg5) (addr : Nat) (s : State) : State :=
  match st.queue with
  | [] =>
    if t.isRetired then putS dst (status (-1)) s
    else if t.broken then putS dst (status (-3)) s
    else stallOn (.take t.idx g) s
  | n :: _ =>
    match t.rec? n with
    | some r =>
      if entryDamaged s.mem t n then alarm t.region s
      else metered 0 (entryLines t n) (holdRecord t g r dst addr) s
    | none => s

/-- `rtake` (R225): its checks in their order.
(Log entry 39, DEDUCED) -/
def rtakeAct (dst : Reg5) (x : W64) (s : State) : State :=
  let addr := placeOf s (x &&& ~~~0x1FF)
  let set := (setNumber x).toNat
  let g := stageNumber x
  let bay := s.seq.bayId.toNat
  match setFor s (setNumber x) with
  | none => raise (engineTrap 11 0x01 addr set) s
  | some t =>
    match t.stage? g.toNat with
    | none => raise (engineTrap 11 0x02 addr set) s
    | some st =>
      if !st.pool.getLsbD (dieIndex bay) then raise (engineTrap 11 0x02 addr set) s
      else if s.seq.held.isSome then raise (engineTrap 11 0x03 addr set) s
      else if x.extractLsb' 7 2 != 0 || addr < 0x200000 * bay || 0x200000 * (bay + 1) < addr + t.rsize then
        raise (engineTrap 11 0x07 addr set) s
      else match raceOf s.mem s.agent true addr t.rsize with
        | some r => failRace r s
        | none => takeAct t g st dst addr s

/-- `rpass` and `rdrop` on the hold that sB names (R226): set, then set, stage and buffer. A hold stands for its set entry and
record number, whatever set the entry has come to hold.
(Log entry 117, DESIGN CHOICE) -/
def withHold (x : W64) (f : StageSet → Held → State → State) (s : State) : State :=
  let addr := placeOf s (x &&& ~~~0x1FF)
  let set := (setNumber x).toNat
  match setFor s (setNumber x) with
  | none => raise (engineTrap 11 0x01 addr set) s
  | some t =>
    match s.seq.held with
    | none => raise (engineTrap 11 0x04 addr set) s
    | some h =>
      if h.idx != t.idx || h.stage != stageNumber x || h.buffer != BitVec.ofNat 64 addr || x.extractLsb' 7 2 != 0 then
        raise (engineTrap 11 0x04 addr set) s
      else f t h s

/-- The steps that a hold has cost when its end issues: both ends counted (R230). -/
def holdCost (h : Held) (s : State) : Nat := (s.seq.steps - h.since).toNat + 1

/-- The hold ends, its completion counted (R226); the record's store entry shows how it stands (R222). -/
def endHold (t : StageSet) (h : Held) (passed : Bool) (f : StageSet → StageSet) (s : State) : State :=
  metered 0 (entryLines t h.rnum) (fun s => onSeq (fun q => { q with held := none })
    (keepRecord t.east t.idx h.rnum
      (onSet t.east t.idx (fun x => countCompletion h.stage.toNat (holdCost h s) passed (f x)) s))) s

/-- `rpass` of a hold (R223, R226).
(Log entry 39, DEDUCED) -/
def passAct (t : StageSet) (h : Held) (s : State) : State :=
  match t.stage? h.stage.toNat with
  | none => s
  | some st =>
    let a := h.buffer.toNat + st.fofs
    match (if st.flen == 0 then none else raceOf s.mem s.agent false a st.flen) with
    | some r => failRace r s
    | none => unlessBad a st.flen
        (endHold t h true (passRecord h.rnum h.stage.toNat (memRead s.mem.spad a st.flen) h.sides)) s

/-- The access check of a side entry's address, as a non-returning atomic (R227). -/
def sideAccess (op a : Nat) : CoreAccess :=
  { kind := .side, narrow := false, fn := 0, parts := [{ lane := 0, addr := a, len := if op == 2 then 4 else 8 }],
    align := none }

/-- `rside` (R227). Its traps of class 11 report the record held, where one is (R202). -/
def rsideAct (w : W32) (x value : W64) (s : State) : State :=
  let addr := placeOf s (x &&& ~~~7)
  match s.seq.held with
  | none => raise (engineTrap 11 0x04 addr 0) s
  | some h =>
    if 2 < x.toNat % 8 then raise (engineTrap 11 0x06 h.buffer.toNat h.idx.toNat) s
    else if 8 ≤ h.sides.length then raise (engineTrap 11 0x05 h.buffer.toNat h.idx.toNat) s
    else checkedAccess w noPre true (fun _ => sideAccess (x.toNat % 8) addr)
      (onSeq (fun q => { q with held := some { h with
        sides := h.sides ++ [(x.setWidth 3, BitVec.ofNat 64 addr, value)] } })) s

/-- `rsub` (R224). -/
def execRsub (hd : Hdr) (a b : Reg5) (s : State) : Host.Outcome State Fault Refusal :=
  issue (useRelease (useEOut hd a b)) (guarded hd (fun s => rsubAct a (readS s b) s)) s

/-- `rtake` (R225). -/
def execRtake (hd : Hdr) (a b : Reg5) (s : State) : Host.Outcome State Fault Refusal :=
  issue (useEOut hd a b) (guarded hd (fun s => rtakeAct a (readS s b) s)) s

/-- `rpass` (R226). -/
def execRpass (hd : Hdr) (b : Reg5) (s : State) : Host.Outcome State Fault Refusal :=
  issue (useRelease (useE hd (sName b) [])) (guarded hd (fun s => withHold (readS s b) passAct s)) s

/-- `rdrop` (R226). -/
def execRdrop (hd : Hdr) (b : Reg5) (s : State) : Host.Outcome State Fault Refusal :=
  issue (useRelease (useE hd (sName b) [])) (guarded hd (fun s =>
    withHold (readS s b) (fun t h s => endHold t h false (finishRecord h.rnum .dropped) s) s)) s

/-- `rside` (R227). -/
def execRside (hd : Hdr) (a b : Reg5) (s : State) : Host.Outcome State Fault Refusal :=
  issue (useEIn hd a b) (guarded hd (fun s => rsideAct (engineWord 0x33 hd a b 4) (readS s a) (readS s b) s)) s

/-- `rstat` (R228). -/
def execRstat (hd : Hdr) (a b : Reg5) (s : State) : Host.Outcome State Fault Refusal :=
  issue (useEOut hd a b) (guarded hd (fun s =>
    let x := readS s b
    match setFor s (setNumber x) with
    | none => raise (engineTrap 11 0x01 0 (setNumber x).toNat) s
    | some t => putS a (BitVec.ofNat 64 (t.inFlight % 2048 + t.retired.toNat % 2 ^ 32 * 2 ^ 32)) s)) s

/-! ### Collectives -/

/-- A COLL word at its parameter block: misplaced, it traps (R195, R265). -/
def withBlock (b : Reg5) (f : Nat → State → State) (s : State) : State :=
  let a := placeOf s (readS s b)
  if a % 128 == 0 && a + 128 ≤ 0x14000000 then f a s else raise (engineTrap 10 0x01 a 0) s

/-- Calls in flight on a die's engine. -/
def callsOn (s : State) (east : Bool) : Nat := (s.coll.calls.filter (·.east == east)).length

/-- `coll` (R195, R257): it never waits, so the read of its group table is charged and not held back (R295).
(Log entries 40 DEDUCED, 48 DEDUCED) -/
def collAct (dst : Reg5) (a : Nat) (s : State) : State :=
  if (callOf s (BitVec.ofNat 64 a)).isSome then raise (engineTrap 10 0x02 a 0) s
  else
    unlessBad a 128 (fun s =>
    let b := parseColl (memRead s.mem.spad a 128)
    let w := coreWho s
    let t := readGroup s.mem w b.gtab
    let lines := hbmAccesses [{ lane := 0, addr := b.gtab, len := 16 + 2 * t.g }]
    unlessBad b.gtab (16 + 2 * t.g) (fun s =>
      let s := charge s.east s.regionHandle 0 lines s
      if !collOk s w b t then raise (engineTrap 10 0x03 a 0) s
      else if !syncPlaced b.sync then raise (engineTrap 8 0x0C b.sync 0) s
      else if 64 ≤ callsOn s s.east then putS dst (status (-4)) s
      else putS dst 0 (acceptCall a b t s)) s) s

/-- `coll` (R195). -/
def execColl (hd : Hdr) (a b : Reg5) (s : State) : Host.Outcome State Fault Refusal :=
  issue (useEOut hd a b) (guarded hd (withBlock b (collAct a))) s

/-- `cwait` (R195). -/
def execCwait (hd : Hdr) (a b : Reg5) (s : State) : Host.Outcome State Fault Refusal :=
  issue (useEOut hd a b) (guarded hd (withBlock b (fun y s =>
    if (callOf s (BitVec.ofNat 64 y)).isSome then stallOn (.call (BitVec.ofNat 64 y)) s
    else unlessBad (y + 0x50) 4 (putS a (blockStatus s.mem y)) s))) s

/-- `cstat` (R195). -/
def execCstat (hd : Hdr) (a b : Reg5) (s : State) : Host.Outcome State Fault Refusal :=
  issue (useEOut hd a b) (guarded hd (withBlock b (fun y s =>
    if (callOf s (BitVec.ofNat 64 y)).isSome then putS a 1 s
    else unlessBad (y + 0x50) 4 (putS a (blockStatus s.mem y)) s))) s

/-- `cabort` (R195). -/
def execCabort (hd : Hdr) (b : Reg5) (s : State) : Host.Outcome State Fault Refusal :=
  issue (useE hd (sName b) []) (guarded hd (withBlock b (fun y => abortCall (BitVec.ofNat 64 y)))) s

/-! ### Launching -/

/-- `launch` of a record read at an address (R196, R314). It never waits: the read of the record and the write to the ring are
charged and not held back (R295).
(Log entry 48, DEDUCED) -/
def launchAct (dst : Reg5) (q : BitVec 12) (addr : Nat) (s : State) : State :=
  let image := readMem s.mem (coreWho s) addr 64
  let r := appendLaunch q image (charge s.east s.regionHandle 0 (hbmAccesses [{ lane := 0, addr := addr, len := 64 }]) s)
  putS dst r.1 (if r.1 == 0 then charge s.east s.regionHandle 0 1 r.2 else r.2)

/-- `launch` (R196, R314). -/
def execLaunch (hd : Hdr) (a b : Reg5) (s : State) : Host.Outcome State Fault Refusal :=
  issue (useRelease (useEBoth hd a b)) (guarded hd (fun s =>
    let q := readS s a
    let addr := placeOf s (readS s b)
    if 4096 ≤ q.toNat then raise (engineTrap 8 0x0D addr q.toNat) s
    else checkedAccess (engineWord 0x35 hd a b 0) noPre true (fun _ => rangeAccess .load false addr 64 64)
      (launchAct a (q.setWidth 12) addr) s)) s

/-- `lstat` (R196, R314). -/
def execLstat (hd : Hdr) (a b : Reg5) (s : State) : Host.Outcome State Fault Refusal :=
  issue (useEOut hd a b) (guarded hd (fun s => putS a (queueStatus ((readS s b).setWidth 12) s) s)) s

/-! ### Time -/

/-- The bits of `waitt` at its release: LATE when TIME had already passed the deadline at issue, and UNLOCKED (R197). -/
def waittBits (deadline : W64) (s : State) : W64 :=
  let late := deadline.toNat < s.clock.time.toNat && s.seq.wait != some (.time deadline)
  (if s.clock.lock then 0 else 2) ||| (if late then 1 else 0)

/-- `waitt` (R197). In replay mode its answer comes from the log (R344). -/
def waittAct (dst : Reg5) (deadline : W64) (s : State) : State :=
  if (!replaying s || s.seq.supervisor) && s.clock.time.toNat < deadline.toNat then stallOn (.time deadline) s
  else
    let r := takeInput 3 s.clock.time (bytesOfNat 8 (waittBits deadline s).toNat) s
    putS dst (BitVec.ofNat 64 (fieldAt r.1.2 0 8)) r.2

/-- `waitt` (R197). -/
def execWaitt (hd : Hdr) (a b : Reg5) (s : State) : Host.Outcome State Fault Refusal :=
  issue (useEOut hd a b) (guarded hd (fun s => waittAct a (readS s b) s)) s

/-- `tnow` (R197). -/
def execTnow (hd : Hdr) (a b : Reg5) (s : State) : Host.Outcome State Fault Refusal :=
  issue (useE hd [] (sName a ++ sName b)) (guarded hd (fun s =>
    let r := readTime s
    let word := r.1.2.1.setWidth 64 ||| ((r.1.2.2 &&& 3) <<< 16)
    putS b word (putS a r.1.1 r.2))) s

/-! ### Windows -/

/-- A WIN word at the transmit window that holds sB (R198): unmapped, it traps. -/
def withWindow (b : Reg5) (f : TxWindow → State → State) (s : State) : State :=
  let a := placeOf s (readS s b)
  match windowOf s a with
  | some w => f w s
  | none => raise (engineTrap 9 0x01 a 0) s

/-- The status of `rfence` once its writes have been applied or lost (R198, R247).
(Log entry 77, DEDUCED) -/
def fenceStatus (s : State) (window : Option (BitVec 12)) : W64 := if anyLost s window then status (-5) else 0

/-- `rfence` (R198). -/
def execRfence (hd : Hdr) (a : Reg5) (s : State) : Host.Outcome State Fault Refusal :=
  issue { useE hd [] (sName a) with settle := some (.reflected none) } (guarded hd (fun s => putS a (fenceStatus s none) s)) s

/-- `rfencew` (R198). -/
def execRfencew (hd : Hdr) (a b : Reg5) (s : State) : Host.Outcome State Fault Refusal :=
  issue { useEOut hd a b with settle := some (.reflected (some b)) } (guarded hd (withWindow b (fun w s =>
    putS a (fenceStatus s (some w.id)) s))) s

/-- `wstat` (R198). -/
def execWstat (hd : Hdr) (a b : Reg5) (s : State) : Host.Outcome State Fault Refusal :=
  issue (useEOut hd a b) (guarded hd (withWindow b (fun w s => putS a (windowStatus s.refl w) s))) s

/-! ### Residency -/

/-- A WIN word at the extent page that holds sB (R198): its page and whether it is resident; uncovered, it traps. -/
def withPage (b : Reg5) (f : W64 → Bool → State → State) (s : State) : State :=
  let a := placeOf s (readS s b)
  let cover := match rowOf a with
    | some (.extent, _) => coverOf s.mem (coreWho s) a
    | _ => none
  match cover with
  | some e => f (BitVec.ofNat 64 (a / 65536 * 65536)) (isResident s.mem e a) s
  | none => raise (engineTrap 6 0x01 a 0) s

/-- Pages requested and pending on the bay's die (R338). -/
def pagesOf (s : State) : List PageEvent := if s.east then s.host.pagesEast else s.host.pagesWest

/-- Whether a page of the running context is requested and pending on its die.
(Log entry 41, DEDUCED) -/
def pagePending (s : State) (page : W64) : Bool := (pagesOf s).any (fun p => p.page == page && p.pasid == s.seq.pasid)

/-- The entry of a partition's event ring for a page request (R338): the page's address, the region's handle, the PASID.
(Log entry 107, DESIGN CHOICE) -/
def PageEvent.bytes (p : PageEvent) : List Byte :=
  bytesOfBits p.page ++ bytesOfBits p.region ++ bytesOfNat 4 p.pasid.toNat ++ zeroBytes 16

/-- A page request accepted (R338): queued on the die, and passed to the host driver by the partition's event ring.
(Log entry 41, DEDUCED) -/
def requestPage (page : W64) (s : State) : State :=
  let p : PageEvent := { page := page, region := s.regionHandle, pasid := s.seq.pasid,
                         part := (partOf s.fw s.regionHandle).getD 0 }
  let east := s.east
  onHost (fun h =>
    let h := { h with eventRing := h.eventRing ++ [(p.part, p.bytes)] }
    if east then { h with pagesEast := h.pagesEast ++ [p] } else { h with pagesWest := h.pagesWest ++ [p] }) s

/-- `pagereq` (R198, R338).
(Log entry 41, DEDUCED) -/
def execPagereq (hd : Hdr) (a b : Reg5) (s : State) : Host.Outcome State Fault Refusal :=
  issue (useEOut hd a b) (guarded hd (withPage b (fun page resident s =>
    if resident then putS a 1 s
    else if pagePending s page then putS a 0 s
    else if 64 ≤ (pagesOf s).length then putS a (status (-4)) s
    else putS a 0 (requestPage page s)))) s

/-- `pstat` (R198, R199). Its answer is a residency input (R343). -/
def execPstat (hd : Hdr) (a b : Reg5) (s : State) : Host.Outcome State Fault Refusal :=
  issue (useEOut hd a b) (guarded hd (withPage b (fun page resident s =>
    let r := residencyInput page (if resident then 1 else if pagePending s page then 0 else 2) s
    putS a r.1 r.2))) s

end Sys2Proof.Machine
end

