-- ==== Sys2Proof/Machine/Firmware.lean ====
section
/-! DEFINITION. What firmware and the host do to the device: region nodes (R291 to R294), extent tables (R335 to R337), mesh
slots (R298 to R300), residency (R206, R338), host translation (R339, R340), the mailbox (R208, R217, R346), record and replay
(R343, R344), spare rows (R342), bring-up and attestation (R347, R348), the bay clock (R349) and the time protocol (R266). -/

namespace Sys2Proof.Machine

/-- What firmware or the host does while the device is up: after a failed bring-up PF0 exposes its status and nothing else
(R347). -/
def unlessFailed (f : State → State) (s : State) : State :=
  match s.fw.boot with
  | .failed _ => s
  | _ => f s

/-! ### Region nodes -/

/-- A region control block's fields (R291). -/
def parseRcb (addr : W64) (b : List Byte) : Rcb :=
  { addr := addr, kind := BitVec.ofNat 8 (fieldAt b 0 1), flags := BitVec.ofNat 8 (fieldAt b 1 1),
    inh := BitVec.ofNat 16 (fieldAt b 2 2), prio := fieldAt b 4 1, part := fieldAt b 5 1,
    parent := BitVec.ofNat 64 (fieldAt b 8 8), handle := BitVec.ofNat 32 (fieldAt b 0x10 4),
    pasid := BitVec.ofNat 20 (fieldAt b 0x18 8), xtab := BitVec.ofNat 64 (fieldAt b 0x20 8),
    farea := BitVec.ofNat 64 (fieldAt b 0x28 8), fhrec := BitVec.ofNat 64 (fieldAt b 0x30 8),
    save := BitVec.ofNat 64 (fieldAt b 0x38 8), bays := BitVec.ofNat 160 (fieldAt b 0x40 20),
    limits := (List.range 6).map (fun i => BitVec.ofNat 32 (fieldAt b (0x60 + 4 * i) 4)), slotn := fieldAt b 0x78 2,
    saven := fieldAt b 0x7C 4, faults := 0, killed := false }

/-- Whether a block's own fields keep R291: ranges, alignments and reserved bytes.
(Log entry 52, DEDUCED) -/
def rcbFieldsOk (addr : W64) (b : List Byte) : Bool :=
  let zero := fun (o n : Nat) => (bytesAt b o n).all (· == 0)
  b.length == 256 && addr.toNat % 256 == 0 && addr.toNat < 2 ^ 39 && fieldAt b 0 1 ≤ 2 && fieldAt b 1 1 < 16 && fieldAt b 2 2 < 16384 &&
    fieldAt b 4 1 ≤ 23 && fieldAt b 5 1 ≤ 7 && zero 6 2 && fieldAt b 0x10 4 != 0 && zero 0x14 4 && fieldAt b 0x18 8 < 2 ^ 20 &&
    fieldAt b 0x38 8 % 0x400000 == 0 && zero 0x54 12 && fieldAt b 0x78 2 ≤ 256 && zero 0x7A 2 && fieldAt b 0x7C 4 ≤ 4096 &&
    zero 0x80 128

/-- Whether a child's effective limit goes with its parent's (R292). -/
def limitOk (child parent : W32) : Bool := child == 0 || parent == 0 || child.toNat ≤ parent.toNat

/-- Whether a node fits the tree (R292 to R294).
(Log entry 52, DEDUCED) -/
def rcbTreeOk (f : Firmware) (n : Rcb) : Bool :=
  let others := f.nodes.filter (·.addr != n.addr)
  others.all (·.handle != n.handle) &&
    (if n.kind == 0 then
      n.parent == 0 && n.inh == 0 && n.flags.getLsbD 0 && others.all (fun x => x.kind != 0 || x.bays &&& n.bays == 0)
    else
      match nodeAt f n.parent with
      | none => false
      | some p =>
        n.kind == p.kind + 1 && n.part == p.part && effBays f n &&& ~~~(effBays f p) == 0 &&
          (List.range 6).all (fun i => limitOk (effLimit f n i) (effLimit f p i)) && effSlotn f n ≤ effSlotn f p)

/-- Whether the save slots of a node lie within the extent that holds SAVE, as far as its context maps one yet (R329).
(Log entry 52, DEDUCED) -/
def saveSlotsOk (s : State) (n : Rcb) : Bool :=
  match nodeAt s.fw n.parent with
  | none => true
  | some c =>
    match coverOf s.mem { agent := 0x1FF, xtbl := c.xtab, sup := true } n.save.toNat with
    | some e => n.kind != 2 || n.save.toNat + 0x400000 * n.saven ≤ e.base + e.len
    | none => true

/-- An input log as it stands when its region's record mode begins, in the extent that the host driver names (R343).
(Log entry 107, DESIGN CHOICE) -/
def freshLog (h : W32) (ext : Option (Nat × Nat)) : InputLog :=
  { region := h, base := (ext.map (·.1)).getD 0, size := (ext.map (·.2)).getD 0, used := 0, order := 0,
    full := false, diverged := false }

/-- A region's log after an edit of the tree: begun anew when REC has become 1, read from its start when RPL has (R343,
R344): the extent that the host driver names with RPL, or else the one that the region recorded.
(Log entry 107, DESIGN CHOICE) -/
def relog (old new : Firmware) (ext : Option (Nat × Nat)) (n : Rcb) (ls : List InputLog) : List InputLog :=
  let others := ls.filter (·.region != n.handle)
  let was := nodeOf old n.handle
  let recNow := effRec new n && !(was.map (effRec old)).getD false
  let rplNow := effRpl new n && !(was.map (effRpl old)).getD false
  let kept := (ls.find? (·.region == n.handle)).getD (freshLog n.handle ext)
  let read := match ext with
    | some x => { freshLog n.handle ext with used := x.2 }
    | none => kept
  if rplNow then others ++ [{ read with order := 0, diverged := false }]
  else if recNow then others ++ [freshLog n.handle ext]
  else ls

/-! ### Extent tables -/

/-- The 64 descriptors of a table in HBM (R335). -/
def tableAt (m : Memory) (x : Nat) : List Extent :=
  let cells := m.filter (fun c => x ≤ c.1 && c.1 < x + 2048)
  (List.range 64).map (descriptorAt cells x)

/-- Whether a descriptor is valid (R335). -/
def Extent.isValid (e : Extent) : Bool := e.attr.getLsbD 0

/-- RMAP's address (R335). -/
def Extent.rmap (e : Extent) : Nat := e.attr.toNat % 2 ^ 39 / 65536 * 65536

/-- Bytes of a descriptor's residency bitmap (R337). -/
def Extent.mapBytes (e : Extent) : Nat := (e.len + 0x7FFFF) / 0x80000

/-- Whether a valid descriptor keeps R335 and R337 on its own. -/
def extentOk (e : Extent) : Bool :=
  let swz := (e.attr.toNat / 256) % 16
  e.base % 0x200000 == 0 && e.len != 0 && e.len % 65536 == 0 && e.phys % 0x200000 == 0 && e.phys < 2 ^ 39 &&
    e.attr.toNat < 2 ^ 39 && (e.attr.toNat / 4096) % 16 == 0 && (e.attr.toNat / 64) % 4 == 0 && 0x100000000 ≤ e.base &&
    e.base + e.len ≤ 0x10000000000 && e.phys + e.len ≤ 2 ^ 39 && swz ≤ 5 &&
    (swz != 4 || e.phys / 2 ^ 36 == (e.phys + e.len - 1) / 2 ^ 36) &&
    (swz != 5 || e.phys / 2 ^ 38 == (e.phys + e.len - 1) / 2 ^ 38) &&
    (e.attr.getLsbD 5 || e.rmap + e.mapBytes ≤ 2 ^ 39)

/-- Whether a table's descriptors go together: apart in extent space, and their bitmaps outside what they map (R337).
(Log entry 51, DEDUCED) -/
def tableOk (es : List Extent) : Bool :=
  let vs := es.filter (·.isValid)
  vs.all extentOk &&
    vs.zipIdx.all (fun x => vs.zipIdx.all (fun y =>
      (x.2 == y.2 || !rangesMeet x.1.base x.1.len y.1.base y.1.len) &&
        (x.1.attr.getLsbD 5 || !rangesMeet x.1.rmap x.1.mapBytes y.1.phys y.1.len)))

/-- Whether a table of a context at an address maps HBM that a context of another partition maps (R294).
(Log entry 51, DEDUCED) -/
def tableTrespasses (s : State) (addr : W64) (part : Nat) (es : List Extent) : Bool :=
  (s.fw.nodes.filter (fun c => c.kind == 1 && c.addr != addr && c.part != part)).any (fun c =>
    ((tableAt s.mem.hbm c.xtab.toNat).filter (·.isValid)).any (fun y =>
      (es.filter (·.isValid)).any (fun x => rangesMeet x.phys x.len y.phys y.len)))

/-- Whether a table's bitmaps lie where no context maps HBM, and its extents where no context keeps a bitmap: in HBM that
firmware owns (R337).
(Log entry 51, DEDUCED) -/
def bitmapsOwned (s : State) (xtab : W64) (es : List Extent) : Bool :=
  let vs := es.filter (·.isValid)
  (s.fw.nodes.filter (fun c => c.kind == 1 && c.xtab != xtab)).all (fun c =>
    ((tableAt s.mem.hbm c.xtab.toNat).filter (·.isValid)).all (fun y => vs.all (fun x =>
      (x.attr.getLsbD 5 || !rangesMeet x.rmap x.mapBytes y.phys y.len) &&
        (y.attr.getLsbD 5 || !rangesMeet y.rmap y.mapBytes x.phys x.len))))

/-- Whether bits [63:39] of PHYS are zero in every valid descriptor of a table's bytes (R335). -/
def physFieldsOk (b : List Byte) : Bool :=
  (List.range 64).all (fun i => fieldAt b (32 * i + 0x18) 1 % 2 == 0 || fieldAt b (32 * i + 0x10) 8 < 2 ^ 39)

/-- Whether the table that a context's block names, as far as it is in place, maps no HBM of another partition (R294).
(Log entry 51, DEDUCED) -/
def sharedTableOk (s : State) (n : Rcb) : Bool :=
  n.kind != 1 || !tableTrespasses s n.addr n.part (tableAt s.mem.hbm n.xtab.toNat)

/-- Firmware installs a node or changes one, or refuses it (R292); `logs` holds the extents in HBM that the host driver names
with REC or RPL, for each region that gains it (R343). The fault count of a region outlives an edit. A killed region comes back once
its launches have completed (R293).
(Log entries 51 DEDUCED, 52 DEDUCED, 83 DESIGN CHOICE, 107 DESIGN CHOICE) -/
def installNode (addr : W64) (b : List Byte) (logs : List (W32 × Nat × Nat)) (s : State) : State :=
  let n := parseRcb addr b
  let f := s.fw
  if isBreaking s n.handle then s
  else if rcbFieldsOk addr b && rcbTreeOk f n && saveSlotsOk s n && sharedTableOk s n then
    let faults := match nodeAt f addr with
      | some o => if o.handle == n.handle then o.faults else 0
      | none => 0
    let n := { n with faults := faults }
    let nodes := if (nodeAt f addr).isSome then f.nodes.map (fun x => if x.addr == addr then n else x) else f.nodes ++ [n]
    let g := { f with nodes := nodes }
    let inputs := (nodes.filter (·.kind == 2)).foldl (fun ls x =>
      relog f g ((logs.find? (·.1 == x.handle)).map (·.2)) x ls) f.inputs
    onMem (fun m => { m with hbm := memWrite m.hbm addr.toNat b }) { s with fw := { g with inputs := inputs } }
  else logEntry .refusedInstall s

/-- Firmware installs a context's extent table or refuses it whole (R337); contexts of two partitions share no table that maps
anything (R294). With a unit of the context placed, it rewrites XTBL
afterwards.
(Log entry 51, DEDUCED) -/
def installTable (addr : W64) (b : List Byte) (s : State) : State :=
  let es := tableAt (cellsOf addr.toNat b) addr.toNat
  match s.fw.nodes.filter (fun c => c.kind == 1 && c.xtab == addr) with
  | [] => logEntry .refusedInstall s
  | c :: cs =>
    if b.length == 2048 && addr.toNat + 2048 ≤ 2 ^ 39 && physFieldsOk b && tableOk es && bitmapsOwned s addr es &&
        !(c :: cs).any (fun x => tableTrespasses s x.addr x.part es) &&
        (!es.any (·.isValid) || cs.all (·.part == c.part)) then
      let s := onMem (fun m => { m with hbm := memWrite m.hbm addr.toNat b }) s
      if s.seq.unit.isSome && s.seq.xtbl == addr then writeXtbl addr s else s
    else logEntry .refusedInstall s

/-! ### Mesh slots -/

/-- Input of an output field: 0 north, 1 east, 2 south, 3 west, 4 local (R298). -/
def slotInput (e : W32) (out : Nat) : Nat := (e.toNat / 8 ^ out) % 8

/-- Whether a router has a neighbour on a side: 1 north, 2 east, 3 south, 4 west; 5 is its bay (R1, R298). North is the row
below in number. -/
def hasSide (router side : Nat) : Bool :=
  match side with
  | 1 => 20 ≤ router
  | 2 => router % 20 != 19
  | 3 => router + 20 < 160
  | 4 => router % 20 != 0
  | _ => true

/-- Whether an entry's connections are ones firmware accepts (R298). -/
def connectionsOk (router : Nat) (e : W32) : Bool :=
  let outs := List.range 5
  outs.all (fun o =>
    let i := slotInput e o
    i == 0 || (i ≤ 5 && i != o + 1 && hasSide router i && hasSide router (o + 1) &&
      outs.all (fun p => p == o || slotInput e p != i)))

/-- A mesh slot-table entry (R298). -/
def meshEntry (f : Firmware) (router slot : Nat) : W32 :=
  match f.slotEntries.find? (fun x => x.1 == router && x.2.1 == slot) with
  | some x => x.2.2
  | none => 0

/-- OWNER of a reserved entry. -/
def entryOwner (e : W32) : Option (BitVec 6) := if e.getLsbD 31 then some (e.extractLsb' 25 6) else none

/-- A mesh slot-table entry written. -/
def setMeshEntry (router slot : Nat) (e : W32) (f : Firmware) : Firmware :=
  { f with slotEntries := f.slotEntries.filter (fun x => !(x.1 == router && x.2.1 == slot)) ++
      (if e == 0 then [] else [(router, slot, e)]) }

/-- Entries of a router that a counter slot owns. -/
def ownedEntries (f : Firmware) (router : Nat) (cslot : BitVec 6) : Nat :=
  ((List.range 256).filter (fun t => entryOwner (meshEntry f router t) == some cslot)).length

/-- Firmware grants a region open entries while SLOTN has room, or installs its slot fragment in entries that the region owns;
either is rejected whole where an entry does not fit (R300). `fragment` is the image form: the 8-byte header, then the entries;
a grant's entries connect nothing.
(Log entry 73, PRESUMED) -/
def installFragment (region : W32) (cslot : BitVec 6) (grant : Bool) (fragment : List Byte) (s : State) : State :=
  let f := s.fw
  let header := fieldAt fragment 0 8
  let router := header % 256
  let first := header / 256 % 256
  let idx := List.range (header / 2 ^ 16 % 512)
  let entry := fun (i : Nat) => BitVec.ofNat 32 (fieldAt fragment (8 + 4 * i) 4)
  let owner := fun (i : Nat) => entryOwner (meshEntry f router (first + i))
  let mine := slotIndex f (eastBay router) region == some cslot.toNat
  let room := match nodeOf f region with
    | some n => ownedEntries f router cslot + idx.length ≤ effSlotn f n
    | none => false
  let fits := idx.all (fun i =>
    if grant then (meshEntry f router (first + i)).getLsbD 31 == false && entry i == 0
    else owner i == some cslot && (entry i).toNat < 2 ^ 15 && connectionsOk router (entry i))
  if header < 2 ^ 25 && fragment.length == 8 + 4 * idx.length && router < 160 && first + idx.length ≤ 256 && mine && fits &&
      (!grant || room) then
    onFw (fun f => idx.foldl (fun f i =>
      setMeshEntry router (first + i) (entry i ||| 0x80000000 ||| (cslot.setWidth 32 <<< 25)) f) f) s
  else logEntry .refusedInstall s

/-- The router and input that a packet reaches by an output: 1 north, 2 east, 3 south, 4 west.
(Log entry 73, PRESUMED) -/
def hop (router out : Nat) : Nat × Nat :=
  match out with
  | 1 => (router - 20, 3)
  | 2 => (router + 1, 4)
  | 3 => (router + 20, 1)
  | _ => (router - 1, 2)

/-- The output of open traffic: x first, then y (R299).
(Log entry 73, PRESUMED) -/
def openOutput (router dest : Nat) : Nat :=
  if router % 20 < dest % 20 then 2
  else if dest % 20 < router % 20 then 4
  else if router < dest then 3
  else if dest < router then 1
  else 5

/-- The output that a reserved entry gives an input, if any. -/
def reservedOutput (e : W32) (input : Nat) : Option Nat := ((List.range 5).find? (fun o => slotInput e o == input)).map (· + 1)

/-- The region of a packet's counter slot. -/
def packetRegion (f : Firmware) (p : MeshPacket) : W32 := ((slotsOf f p.die)[p.cslot.toNat]).handle

/-- Whether a reserved entry of a router belongs to a packet's region: OWNER is a counter slot of the router's die, the packet's
one of the die it was injected on (R295, R298). -/
def ownsEntry (f : Firmware) (p : MeshPacket) (e : W32) : Bool :=
  match entryOwner e with
  | some o => packetRegion f p != 0 && ((slotsOf f (eastBay p.router))[o.toNat]).handle == packetRegion f p
  | none => false

/-- How a packet leaves its router in a slot, if an output is for it: by its region's reserved connection, or as open traffic
on an output that no reserved entry connects; the flag says which (R299). -/
def packetOutput (f : Firmware) (slot : Nat) (p : MeshPacket) : Option (Nat × Bool) :=
  let e := meshEntry f p.router slot
  let mine := ownsEntry f p e
  match (if e.getLsbD 31 then reservedOutput e p.port else none) with
  | some o => if mine then some (o, true) else none
  | none =>
    let o := openOutput p.router p.dest
    if e.getLsbD 31 && slotInput e (o - 1) != 0 then none else some (o, false)

/-- One packet's turn in a mesh cycle: it leaves by its output unless another has taken that output, or its region's budget
does not admit its injection, a wait that is counted once (R295, R296, R299). `taken` holds the router and output of those that have left. -/
def packetTurn (slot : Nat) (st : State × List (Nat × Nat)) (p : MeshPacket) : State × List (Nat × Nat) :=
  let s := st.1
  let stay := fun (p : MeshPacket) (s : State) => (onFw (fun f => { f with packets := f.packets ++ [p] }) s, st.2)
  match packetOutput s.fw slot p with
  | none => stay p s
  | some (o, reserved) =>
    let inject := p.port == 5 && !reserved
    let h := packetRegion s.fw p
    if inject && !admitted s p.die h 1 then stay { p with waiting := true } (if p.waiting then s else countStall p.die h s)
    else if st.2.contains (p.router, o) then stay p s
    else
      let s := if inject then charge p.die h 1 1 s else s
      let s := if o == 5 then s
        else
          let to_ := hop p.router o
          onFw (fun f => { f with packets := f.packets ++ [{ p with router := to_.1, port := to_.2, waiting := false }] }) s
      (s, st.2 ++ [(p.router, o)])

/-- One mesh cycle (R298, R299): packets injected at their bays, then every packet's turn, scheduled ones before open traffic
and open traffic in rotating order of inputs. What was charged before it counts in it (R296).
(Log entry 73, PRESUMED) -/
def meshCycle (inject : List MeshPacket) (s : State) : State :=
  let s := onFw settleCharges s
  let slot := s.fw.meshCycle % 256
  let ps := s.fw.packets ++ (inject.filter (fun p => p.router < 160 && p.dest < 160)).map (fun p => { p with port := 5, waiting := false })
  let sched := fun p => match packetOutput s.fw slot p with
    | some (_, r) => r
    | none => false
  let opens := (List.range 5).map (fun i => ps.filter (fun p => !sched p && p.port % 5 == (s.fw.meshCycle + i) % 5))
  let r := (ps.filter sched ++ opens.flatten).foldl (packetTurn slot) (onFw (fun f => { f with packets := [] }) s, [])
  onFw (fun f => { f with meshCycle := f.meshCycle + 1 }) r.1

/-! ### Residency -/

/-- The residency bit of a covered page (R335). -/
def setResident (m : Mem) (e : Extent) (a : Nat) (b : Bool) : Mem :=
  let page := (a - e.base) / 65536
  let at_ := e.rmap + page / 8
  let old := memByte m.hbm at_
  let bit : Byte := 1 <<< (page % 8)
  { m with hbm := memWrite m.hbm at_ [if b then old ||| bit else old &&& ~~~bit] }

/-- A page of a region's context made resident or not. -/
def markPage (region : W32) (page : W64) (b : Bool) (s : State) : State :=
  let w : Who := { regionWho s 0x1FF region with sup := true }
  match coverOf s.mem w page.toNat with
  | some e => onMem (fun m => setResident m e page.toNat b) s
  | none => s

/-- A pending request for a page, of the partition whose function answers it (R294, R338, R345). -/
def pendingPage (s : State) (fn : Nat) (page : W64) : Option PageEvent :=
  (s.host.pagesWest ++ s.host.pagesEast).find? (fun p => p.page == page && (fn == 0 || p.part + 1 == fn))

/-- A request answered leaves both dies' queues. -/
def dropPage (p : PageEvent) (s : State) : State :=
  let keep := fun (x : PageEvent) => !(x.page == p.page && x.pasid == p.pasid)
  onHost (fun h => { h with pagesWest := h.pagesWest.filter keep, pagesEast := h.pagesEast.filter keep }) s

/-- RESDONE (R338). -/
def pageDone (fn : Nat) (page : W64) (s : State) : State :=
  match pendingPage s fn page with
  | some p => dropPage p (markPage p.region page true s)
  | none => s

/-- RESFAIL (R338). -/
def pageFailed (fn : Nat) (page : W64) (s : State) : State :=
  match pendingPage s fn page with
  | some p => dropPage p s
  | none => s

/-- Whether a unit of a region's context is placed, or a stage set of it has records in flight, which counts as one (R206,
R227). -/
def contextPlaced (s : State) (region : W32) : Bool :=
  match nodeOf s.fw region with
  | none => false
  | some n =>
    let mine := fun (h : W32) => match nodeOf s.fw h with
      | some x => x.parent == n.parent
      | none => false
    s.disp.units.any (fun u => u.onBay && mine u.region) || s.sets.any (fun t => !t.recs.isEmpty && mine t.region)

/-- Firmware clears a page's bit, which it does only with no unit of the context placed (R206). -/
def clearPage (region : W32) (page : W64) (s : State) : State :=
  if contextPlaced s region then s else markPage region page false s

/-! ### Host translation -/

/-- Whether a size is one that ATS reports: a power of two from 4 KiB to 1 GiB (R339).
(Log entry 68, DEDUCED) -/
def atsSizeOk (n : Nat) : Bool := isPow2 n && 4096 ≤ n && n ≤ 2 ^ 30

/-- An entry added to a TLB of a number of entries, the oldest making room.
(Log entry 68, DEDUCED) -/
def addTlb (cap : Nat) (e : TlbEntry) (es : List TlbEntry) : List TlbEntry := (es.drop (es.length + 1 - cap)) ++ [e]

/-- A translation request for a page, in one of some phases. -/
def requestIn (pasid : BitVec 20) (va : W64) (ps : List AtsPhase) (r : AtsRequest) : Bool :=
  r.pasid == pasid && r.va.toNat / 4096 == va.toNat / 4096 && ps.contains r.phase

/-- The requests changed that a test picks. -/
def onRequests (test : AtsRequest → Bool) (f : AtsPhase → AtsPhase) (s : State) : State :=
  let now := s.clock.time
  onHost (fun h => { h with
    requests := h.requests.map (fun r => if test r then { r with phase := f r.phase, since := now } else r) }) s

/-- An ATS answer (R339): with write permission it fills the bay's TLB and its die's second level; a refusal leads to a PRI
request, and a second one refuses the store.
(Log entry 68, DEDUCED) -/
def atsAnswer (pasid : BitVec 20) (va : W64) (size : Nat) (phys : W64) (write : Bool) (s : State) : State :=
  let mine := requestIn pasid va [.ats, .atsAgain]
  if !s.host.requests.any mine then s
  else if write && atsSizeOk size then
    let e : TlbEntry := { pasid := pasid, base := BitVec.ofNat 64 (va.toNat / size * size), size := size,
                          phys := BitVec.ofNat 64 (phys.toNat / size * size), write := true }
    let east := s.east
    onHost (fun h =>
      let h := { h with requests := h.requests.filter (fun r => !mine r), tlb := addTlb 192 e h.tlb }
      if east then { h with tlbEast := addTlb 8192 e h.tlbEast } else { h with tlbWest := addTlb 8192 e h.tlbWest }) s
  else onRequests mine (fun p => if p == .ats then .pri else .refused) s

/-- A PRI response (R339). -/
def priAnswer (pasid : BitVec 20) (va : W64) (success : Bool) (s : State) : State :=
  onRequests (requestIn pasid va [.pri]) (fun _ => if success then .atsAgain else .refused) s

/-- A PRI request without a response for 10 ms is refused (R339). -/
def priTimeout (pasid : BitVec 20) (va : W64) (s : State) : State :=
  onRequests (fun r => requestIn pasid va [.pri] r && 10000000 ≤ (s.clock.time - r.since).toNat) (fun _ => .refused) s

/-- An ATS Invalidate Request (R340): the entries go, translations begin again, the stores that used them leave, and the
completion is returned. -/
def atsInvalidate (pasid : BitVec 20) (base : W64) (len : Nat) (s : State) : State :=
  let hit := fun (e : TlbEntry) => e.pasid == pasid && rangesMeet e.base.toNat e.size base.toNat len
  let gone := (s.host.tlb ++ s.host.tlbWest ++ s.host.tlbEast).filter hit
  let used := fun (x : HostStore) => (tlbFind gone x.pasid x.va).isSome
  let again := fun (r : AtsRequest) => r.pasid == pasid && rangesMeet (r.va.toNat / 4096 * 4096) 4096 base.toNat len &&
    r.phase != .refused
  onHost (fun h =>
    let n := (h.posted.reverse.dropWhile (fun x => !used x)).length
    { h with tlb := h.tlb.filter (fun e => !hit e), tlbWest := h.tlbWest.filter (fun e => !hit e),
             tlbEast := h.tlbEast.filter (fun e => !hit e),
             delivered := h.delivered ++ h.posted.take n, posted := h.posted.drop n,
             completions := h.completions ++ [(pasid, base, len)] }) (onRequests again (fun _ => .ats) s)

/-! ### The mailbox -/

/-- Whether a PCIe function reaches a bay's slice (R294, R346). -/
def functionHasBay (s : State) (fn bay : Nat) : Bool :=
  bay < 160 && (fn == 0 || s.fw.nodes.any (fun n => n.kind == 0 && n.part + 1 == fn && n.bays.getLsbD bay))

/-- The context of a function's partition whose extents cover a range (R217, R346).
(Log entry 66, DEDUCED) -/
def contextFor (s : State) (fn a n : Nat) : Option Rcb :=
  s.fw.nodes.find? (fun c => c.kind == 1 && (fn == 0 || c.part + 1 == fn) &&
    (pageParts a n).all (fun q => (coverOf s.mem { agent := 326, xtbl := c.xtab, sup := true } q.1).isSome))

/-- The regions that hold a bay's slice: that of the unit placed on it, or else of the one that left its contents there, or else
all whose units the bay admits.
(Log entry 66, DEDUCED) -/
def sliceRegions (s : State) (bay : Nat) : List W32 :=
  match s.disp.units.filter (fun u => (u.onBay && u.bay == bay) || lastOn s bay == some u.key) with
  | [] => (s.fw.nodes.filter (fun n => n.kind == 2 && (effBays s.fw n).getLsbD bay)).map (·.handle)
  | us => us.map (·.region)

/-- The regions whose input a mailbox write is (R343): those of the context whose extents it writes, or of each bay whose slice
it writes those that hold the slice.
(Log entry 66, DEDUCED) -/
def mailboxRegions (s : State) (fn a n : Nat) : List W32 :=
  match rowOf a with
  | some (.scratchpad, _) =>
    (((List.range 160).filter (fun b => rangesMeet a n (b * 0x200000) 0x200000)).map (sliceRegions s)).flatten.dedup
  | some (.extent, _) =>
    match contextFor s fn a n with
    | some c => (s.fw.nodes.filter (fun r => r.kind == 2 && r.parent == c.addr)).map (·.handle)
    | none => []
  | _ => []

/-- A mailbox write of a function applied to memory through a context, or none when it is refused (R208, R217, R346):
scratchpad of the partition whose granules are all OPEN, or an extent of the partition, resident or not. -/
def mailboxApply (fn : Nat) (ctx : Option Rcb) (a : Nat) (data : List Byte) (s : State) : Option State :=
  let n := data.length
  match rowOf a with
  | some (.scratchpad, _) =>
    if a + n ≤ 0x14000000 && (List.range 160).all (fun b =>
          !rangesMeet a n (b * 0x200000) 0x200000 || functionHasBay s fn b) &&
        (granulesOf a n).all (fun g => (ownerOf s.mem g).isNone) then
      some (onMem (fun m => m.putSpad a data) s)
    else none
  | some (.extent, _) =>
    match ctx with
    | some c =>
      let w : Who := { agent := 326, xtbl := c.xtab, sup := true }
      if (pageParts a n).all (fun q => (coverOf s.mem w q.1).isSome) then some (onMem (fun m => writeMem m w a data) s) else none
    | none => none
  | _ => none

/-- A mailbox write logged for a region in record mode (R343). -/
def recordMailbox (a : Nat) (data : List Byte) (h : W32) (s : State) : State :=
  match s.fw.inputs.find? (·.region == h) with
  | none => s
  | some l =>
    let e : InputEntry := { type := 1, unit := 0, key := 0, seq := l.order, value := BitVec.ofNat 64 a,
                            payload := writePayload 0 data none }
    onFw (fun f => { f with inputs := f.inputs.map (fun l =>
      if l.region == h then { l with order := l.order + 1 } else l) }) (recordInput h e s)

/-- Whether a region is in replay mode (R344).
(Log entry 63, DEDUCED) -/
def regionReplays (s : State) (h : W32) : Bool := ((nodeOf s.fw h).map (effRpl s.fw)).getD false

/-- A host write at an offset of BAR 4 (R346, R217): applied, or refused and logged.
(Log entry 66, DEDUCED) -/
def apertureWrite (fn off : Nat) (data : List Byte) (s : State) : State :=
  let a := (s.host.apbase.toList.getD fn 0).toNat + off
  let refuse := mailboxError fn a s
  if 9 ≤ fn || data.isEmpty || 2 ^ 32 < off + data.length then refuse
  else
    let hs := mailboxRegions s fn a data.length
    if hs.any (regionReplays s) then refuse
    else match mailboxApply fn (contextFor s fn a data.length) a data s with
      | some s' => hs.foldl (fun s h => recordMailbox a data h s) s'
      | none => refuse

/-- A host write through a function's aperture (R346), to its APBASE, a multiple of 4 GiB (R345, R346), or to PF0's SPAREPOL, 0
to 2 (R342).
(Log entries 66 DEDUCED, 69 DEDUCED) -/
def mailboxWrite (target : HostTarget) (fn off : Nat) (data : List Byte) (s : State) : State :=
  match target with
  | .aperture => apertureWrite fn off data s
  | .apbase =>
    onHost (fun h => { h with apbase := vecModify h.apbase fn (fun _ => BitVec.ofNat 64 (natOfBytes data / 2 ^ 32 * 2 ^ 32)) }) s
  | .sparePol =>
    if fn == 0 && natOfBytes data ≤ 2 then onFw (fun f => { f with sparePol := BitVec.ofNat 8 (natOfBytes data) }) s else s

/-- What a host read of n bytes at an offset of a function's BAR returns: zeros from the doorbell pages and the aperture (R302,
R346), and of BAR 0 the mailbox error log (R345); after a failed bring-up nothing but PF0's status is exposed (R347). Nothing
changes by it. Of BAR 0 the manual gives no other offset, that of the status included.
(Log entry 107, DESIGN CHOICE) -/
def barRead (s : State) (fn bar off n : Nat) : List Byte :=
  let log := ((s.host.mailboxErrors.toList.getD fn []).map (fun e => bytesOfBits e.addr ++ zeroBytes 8)).flatten
  let failed := match s.fw.boot with
    | .failed _ => true
    | _ => false
  if !failed && bar == 0 && 0x1000 ≤ off && off + n ≤ 0x1400 then bytesAt (log ++ zeroBytes 1024) (off - 0x1000) n else zeroBytes n

/-! ### Replay -/

/-- The next entry of the writes of a region's log (R344). -/
def nextWrite (m : Mem) (l : InputLog) : Option InputEntry :=
  (l.entries m).find? (fun e => (e.type == 1 || e.type == 2) && e.seq == l.order)

/-- The write that an entry of type 2 holds. -/
def arrivalOf (e : InputEntry) : Arrival :=
  let w := fieldAt e.payload 0 8
  let fn := w / 2 ^ 48 % 32
  { src := e.value.extractLsb' 32 12, vc := e.value.extractLsb' 44 4, seq := e.value.setWidth 32,
    rxid := e.value.extractLsb' 48 12, off := w % 2 ^ 32, data := bytesAt e.payload 8 (w / 2 ^ 32 % 65536),
    atom := if fn == 0 then none else some (BitVec.ofNat 4 (fn - 1)) }

/-- The data that an entry of type 1 holds. -/
def mailboxData (e : InputEntry) : List Byte := bytesAt e.payload 8 (fieldAt e.payload 0 8 / 2 ^ 32 % 65536)

/-- The next logged mailbox or reflected write of a region in replay mode delivered, through its own context and with its own
partition's rights (R344); one that cannot be applied yet waits.
(Log entry 63, DEDUCED) -/
def deliverReplay (h : W32) (s : State) : State :=
  match s.fw.inputs.find? (·.region == h) with
  | none => s
  | some l =>
    match nextWrite s.mem l with
    | none => s
    | some e =>
      if !regionReplays s h then s
      else
        let done := onFw (fun f => { f with inputs := f.inputs.map (fun l =>
          if l.region == h then { l with order := l.order + 1 } else l) })
        let node := nodeOf s.fw h
        let applied := if e.type == 1 then
            mailboxApply ((node.map (·.part + 1)).getD 0) (node.bind (contextOf s.fw)) e.value.toNat (mailboxData e) s
          else applyWrite (forwardDepth s) (arrivalOf e) s
        match applied with
        | some s' => done s'
        | none => s

/-! ### Spare rows -/

/-- Whether a bay has no unit placed and no saved context (R330, R342): a save at a node leaves none on the bay (R22). -/
def bayIdle (s : State) (bay : Nat) : Bool :=
  !s.disp.units.any (fun u => u.bay == bay && (u.phase == .placed || u.phase == .savedHard || u.phase == .savedIteration ||
    u.phase == .faulted))

/-- An array self-test on an idle bay, and the bad row it locates (R342).
(Log entry 69, DEDUCED) -/
def selfTest (bay : Byte) (row : Option (BitVec 6)) (s : State) : State :=
  if bay.toNat < 160 && bayIdle s bay.toNat then
    let s := logEntry (.selfTest bay row) s
    match row with
    | some r => onFw (fun f => { f with spareRow := f.spareRow.filter (· != (bay, r)) ++ [(bay, r)] }) s
    | none => s
  else s

/-- ROWMAP with a spare put in use for a logical row (R341).
(Log entry 69, DEDUCED) -/
def rowmapWith (old : W64) (spare : Bool) (row : BitVec 6) : W64 :=
  let field : W64 := row.setWidth 64 ||| 0x40
  if spare then (old &&& 0xFFFFFFFFFFFF80FF) ||| (field <<< 8) else (old &&& 0xFFFFFFFFFFFFFF80) ||| field

/-- Firmware switches a spare row under the host's policy (R342): at an idle point, or at a soft pre-emption point that leaves
no saved context. A spare in use stays where it is until reset.
(Log entry 69, DEDUCED) -/
def switchSpare (bay : Byte) (spare : Bool) (row : BitVec 6) (soft : Bool) (s : State) : State :=
  let policy := if soft then s.fw.sparePol == 2 else s.fw.sparePol == 1 || s.fw.sparePol == 2
  let used := (errmapWord s.fw bay.toNat 132).getLsbD (if spare then 14 else 6)
  if bay.toNat < 160 && policy && !used && bayIdle s bay.toNat && s.fw.spareRow.contains (bay, row) then
    logEntry (.spareSwitch bay spare row) (onFw (fun f =>
      let f := { f with spareRow := f.spareRow.filter (· != (bay, row)) }
      setErrmap f bay.toNat 132 (rowmapWith (errmapWord f bay.toNat 132) spare row)) s)
  else s

/-! ### Bring-up and attestation -/

/-- A component added to the measurement log (R347): the chain is extended over it.
(Log entry 70, DEDUCED) -/
def measure (c : List Byte) (f : Firmware) : Firmware :=
  { f with chain := sha512 (f.chain ++ c), measured := f.measured ++ [c] }

/-- The configuration record applied (R347): the bays in logical order, their spare mappings and the repair data.
(Log entry 70, DEDUCED) -/
def applyConfig (x : FlashImage) (f : Firmware) : Firmware :=
  x.rowmaps.foldl (fun f r => setErrmap f r.1 132 r.2) { f with bays := x.bays, repair := x.repair }

/-- Whether a bay selection is one of 160 bays of the 168 built, 80 on each die (R1, R347): the first 84 built stand on one.
(Log entry 70, DEDUCED) -/
def baysOk (bs : List Nat) : Bool :=
  bs.length == 160 && bs.dedup.length == 160 && bs.all (· < 168) && (bs.filter (· < 84)).length == 80

/-- Whether a signature verifies under the key in the ROM (R347). -/
def romVerify (m sig : List Byte) : Bool := pssVerify Config.romModulus Config.romExponent m sig

/-- Components loaded after firmware, each measured before it runs (R347). -/
def measureAll (cs : List (List Byte)) (f : Firmware) : Firmware := cs.foldl (fun f c => measure c f) f

/-- The residency bits that the context tables in place reach, cleared (R347). -/
def clearBitmaps (f : Firmware) (m : Mem) : Mem :=
  (f.nodes.filter (·.kind == 1)).foldl (fun m c =>
    ((tableAt m.hbm c.xtab.toNat).filter (fun e => e.isValid && !e.attr.getLsbD 5)).foldl (fun m e =>
      { m with hbm := m.hbm.filter (fun x => x.1 < e.rmap || e.rmap + e.mapBytes ≤ x.1) }) m) m

/-- Bring-up (R347), in its order; a failure stops it with the number of the stage that failed. On a device that is up, the
event is the loading of further components.
(Log entry 70, DEDUCED) -/
def bringUp (x : FlashImage) (s : State) : State :=
  let fail := fun (n : Nat) => onFw (fun f => { f with boot := .failed n })
  if s.fw.boot == .up then onFw (measureAll x.components) s
  else if s.fw.boot != .off then s
  else if !romVerify x.firmware x.firmwareSig then fail 1 s
  else if !romVerify x.config x.configSig || !baysOk x.bays then fail 2 s
  else
    let s := onFw (applyConfig x) s
    if !x.hbmTrains then fail 3 s
    else
      let f := s.fw
      let s := onDisp (fun d => { d with bitmap := 0 })
        (onMem (fun m => { clearBitmaps f m with spad := [], full := [], owner := [], damaged := [] }) s)
      let s := onRefl (fun r => { r with domain := x.chips }) s
      let s := onClock (fun c => { c with domain := x.clockDomain &&& 0x7F, own := x.clockId, parent := none }) s
      onFw (fun f =>
        let f := { f with identity := Config.identityKey x.pufReading x.helper, certificate := x.certificate }
        { measureAll (x.firmware :: x.config :: x.components) f with boot := .up }) s

/-- A quote for a nonce of 64 bytes (R348). -/
def attest (nonce : BitVec 512) (s : State) : State :=
  if s.fw.boot != .up then s
  else onFw (fun f => { f with quotes := f.quotes ++
    [{ nonce := nonce, chain := f.chain, log := f.measured,
       signature := Config.quoteSign f.identity (bytesOfBits nonce ++ f.chain ++ f.measured.flatten),
       certificate := f.certificate }] }) s

/-! ### The bay clock -/

/-- Firmware's answer to a die's junction temperature (R349): 250 MHz lower above 105, higher again below 95.
(Log entry 71, DEDUCED) -/
def throttle (east : Bool) (celsius : Nat) (s : State) : State :=
  let old := if east then s.fw.mhzEast else s.fw.mhzWest
  let new := if 105 < celsius then (if 250 < old then old - 250 else old)
    else if celsius < 95 then min 4000 (old + 250) else old
  if new == old then s
  else logEntry (.clock east new) (onFw (fun f => if east then { f with mhzEast := new } else { f with mhzWest := new }) s)

/-! ### The time protocol -/

/-- What a clock says of itself, in the order in which the best master clock algorithm compares it.
(Log entry 106, PRESUMED) -/
def clockRanks (c : ClockId) : List Nat :=
  [c.priority1.toNat, c.clockClass.toNat, c.accuracy.toNat, c.variance.toNat, c.priority2.toNat, c.identity.toNat]

/-- Whether the first list stands before the second, at the first place where they differ. -/
def ranksBefore : List Nat → List Nat → Bool
  | x :: xs, y :: ys => x < y || (x == y && ranksBefore xs ys)
  | _, _ => false

/-- Whether a clock is a better master than another (R266).
(Log entry 106, PRESUMED) -/
def betterClock (a b : ClockId) : Bool := ranksBefore (clockRanks a) (clockRanks b)

/-- A Sync message of a domain from a master, with its ingress time (R266): it counts in the chip's own domain, from a master
better than the chip itself that is the one it follows, or better than that one.
(Log entries 72 DEDUCED, 106 PRESUMED) -/
def ptpSync (domain : Byte) (master : ClockId) (seq : BitVec 16) (ingress : W64) (s : State) : State :=
  onClock (fun c =>
    let follows := match c.parent with
      | some p => p == master || betterClock master p
      | none => true
    if domain == c.domain && betterClock master c.own && follows then { c with parent := some master, sync := some (seq, ingress) }
    else c) s

/-- The clock disciplined by an estimated offset (R14, R266): LOCK while it is within 10 ns, else HOLD. The chip sends its next
Pdelay_Req after it. -/
def discipline (seq : BitVec 16) (offset : W64) (c : Clock) : Clock :=
  let lock := offset.toInt.natAbs ≤ 10
  let t := c.time + Config.clockServo offset
  { c with ofs := offset.setWidth 32, lock := lock, hold := !lock, time := t, sync := none, delayReq := some (seq, t),
           delayResp := none }

/-- A Follow_Up message: the offset from the grandmaster by Sync's ingress, its origin, the correction and the link (R266).
(Log entry 72, DEDUCED) -/
def ptpFollowUp (seq : BitVec 16) (origin correction : W64) (s : State) : State :=
  match s.clock.sync with
  | some (n, t) =>
    if n == seq then onClock (fun c => discipline seq (t - (origin + correction + c.linkDelay)) c) s else s
  | none => s

/-- A Pdelay_Req message, answered with its receipt time (R266).
(Log entry 72, DEDUCED) -/
def ptpPdelayReq (seq : BitVec 16) (ingress : W64) (s : State) : State :=
  onClock (fun c => { c with answered := c.answered ++ [(seq, ingress)] }) s

/-- A Pdelay_Resp message for the request outstanding (R266). -/
def ptpPdelayResp (seq : BitVec 16) (receipt ingress : W64) (s : State) : State :=
  match s.clock.delayReq with
  | some (n, _) => if n == seq then onClock (fun c => { c with delayResp := some (seq, receipt, ingress) }) s else s
  | none => s

/-- A Pdelay_Resp_Follow_Up message completes the peer delay: half of the round trip less the peer's turn-round (R266). -/
def ptpPdelayDone (seq : BitVec 16) (origin : W64) (s : State) : State :=
  match s.clock.delayReq, s.clock.delayResp with
  | some (n, t1), some (k, t2, t4) =>
    if n == seq && k == seq then
      onClock (fun c => { c with linkDelay := ((t4 - t1) - (origin - t2)) >>> 1, delayReq := none, delayResp := none }) s
    else s
  | _, _ => s

/-- Lock lost: the clock runs free in holdover, with no master until one sends again (R14, R266). -/
def loseLock (s : State) : State := onClock (fun c => { c with lock := false, hold := true, parent := none, sync := none }) s

/-! ### Hard eviction -/

/-- Firmware evicts a region hard (R264): its calls are marked to end aborted, and its placed units are to leave their bays.
(Log entry 57, DEDUCED) -/
def evictRegion (h : W32) (s : State) : State :=
  let s := onColl (fun c => { c with calls := c.calls.map (fun x => if x.region == h then { x with evicted := true } else x) }) s
  (s.disp.units.filter (fun u => u.region == h && u.onBay && !holdsIssue s u)).foldl (fun s u => askUnit .hard u s) s

/-- At a chunk boundary of a die, the evicted calls at it end aborted (R264).
(Log entry 57, DEDUCED) -/
def endEvicted (east : Bool) (s : State) : State :=
  (s.coll.calls.filter (fun c => c.east == east && c.evicted && c.state == .running)).foldl (fun s c => abortCall c.block s) s

/-- An evicted call that has met no chunk boundary within T2 ends aborted at once (R264). -/
def evictTimeout (block : W64) (s : State) : State :=
  match callOf s block with
  | none => s
  | some c =>
    let t2 := if c.t2 == 0 then 1000 else c.t2.toNat
    if c.evicted && t2 * 1000 ≤ (s.clock.time - c.since).toNat then abortCall block s else s

end Sys2Proof.Machine
end

