-- ==== Sys2Proof/Machine/Fetch.lean ====
section
/-! DEFINITION. Fetching (R75, R203), the words of the group presented (R78), the look-ahead nullifier (R86), and what is taken
at a group boundary before any group (R189, R262, R318, R117). -/

namespace Sys2Proof.Machine

/-! ### Fetching -/

/-- The checks of a fetch of the packet at PC (R75, R203): extent space, the X right, and a descriptor that covers it.
(Log entry 23, DEDUCED) -/
def fetchFailure (s : State) : Option TrapInfo :=
  let a := 12 * s.seq.pc.toNat
  let fail := fun (cls : BitVec 4) (detail : BitVec 6) => some (cause cls detail (packetAddr s) 0)
  let covers := (pageParts a 12).map (fun q => coverOf s.mem (coreWho s) q.1)
  match rowOf a with
  | some (.extent, _) =>
    if 0x10000000000 < a + 12 then fail 5 0x07
    else if covers.any (fun c => match c with
      | some e => !e.attr.getLsbD 3
      | none => false) then fail 5 0x07
    else if covers.any (·.isNone) then fail 6 0x01
    else none
  | _ => fail 5 0x07

/-- The three words of the packet at PC as memory holds them (R75).
(Log entry 23, DEDUCED) -/
def memoryPacket (s : State) : List W32 :=
  let b := readMem s.mem (coreWho s) (12 * s.seq.pc.toNat) 12
  (List.range 3).map (fun i => BitVec.ofNat 32 (fieldAt b (4 * i) 4))

/-- The packet at PC as the instruction cache holds it, if it does (R7). -/
def cachedPacket (s : State) : Option (List W32) := (s.seq.icache.find? (·.1 == s.seq.pc)).map (·.2)

/-- The three words of the packet at PC, as the fetch takes them: where the cache and memory differ, either (R76).
(Log entries 24 DEDUCED, 96 DESIGN CHOICE) -/
def packetWords (s : State) : List W32 :=
  let m := memoryPacket s
  match cachedPacket s with
  | some c => if c == m then m else if Config.staleFetch s.freeCount then c else m
  | none => m

/-- Packets that the 64 KiB instruction cache has room for (R7). -/
def cachePackets : Nat := 5461

/-- What a fetch of the packet at PC leaves (R7, R76): the cache holds what it took; a choice between cache and memory is
counted; a packet new to the cache is charged as HBM accesses (R295).
(Log entries 24 DEDUCED, 48 DEDUCED) -/
def fetched (s : State) : State :=
  let taken := packetWords s
  let keep := fun (c : List (BitVec 40 × List W32)) => (c.drop (c.length + 1 - cachePackets)) ++ [(s.seq.pc, taken)]
  match cachedPacket s with
  | some c =>
    if c == memoryPacket s then s
    else onSeq (fun q => { q with icache := keep (q.icache.filter (·.1 != q.pc)) }) { s with freeCount := s.freeCount + 1 }
  | none =>
    charge s.east s.regionHandle 0 (hbmAccesses [{ lane := 0, addr := 12 * s.seq.pc.toNat, len := 12 }])
      (onSeq (fun q => { q with icache := keep q.icache }) s)

/-- Whether the budget of the unit's region admits the fetch of the packet at PC (R296). -/
def fetchAdmitted (s : State) : Bool := (cachedPacket s).isSome || admitted s s.east s.regionHandle 0

/-- The words of a group from its first: up to the first with C = 0 (R78). -/
def takeGroup : List W32 → List W32
  | [] => []
  | w :: ws => if w.getLsbD 31 then w :: takeGroup ws else [w]

/-- The words of the group presented, with their positions in the packet.
(Log entry 23, DEDUCED) -/
def groupWords (s : State) : List (W32 × Nat) :=
  (takeGroup ((packetWords s).drop s.seq.gpos)).zipIdx.map (fun x => (x.1, s.seq.gpos + x.2))

/-! ### The look-ahead nullifier -/

/-- Bits [24:0] of a word are those of `nop` (R82). -/
def isNopWord (w : W32) : Bool := w.setWidth 25 == 0

/-- OP of a word (R77). -/
def majorOf (w : W32) : Nat := (w.extractLsb' 19 6).toNat

/-- Whether a major belongs to the V pipe (R90). -/
def isVectorMajor (op : Nat) : Bool := 0x20 ≤ op && op ≤ 0x28

/-- The guard of a word fails stably (R86): in lane 0, or for a vector word in every lane, with no exposed write to its
predicate in flight or landed in the last two issuing steps, and none pending.
(Log entry 21, DEDUCED) -/
def guardGone (s : State) (w : W32) : Bool :=
  let hd := headerOf w
  hd.g && (if isVectorMajor (majorOf w) then guardMask hd s == 0 else !guardPass hd s) &&
    !s.seq.ifq.any (·.writesReg (.p hd.pg)) && !s.seq.landed1.getLsbD hd.pg.toNat && !s.seq.landed2.getLsbD hd.pg.toNat &&
    !pendingReg s.seq.sb (.p hd.pg)

/-- Whether the look-ahead nullifier removes a group, the words that a resume shows as done apart (R86, R320).
(Log entry 21, DEDUCED) -/
def nullified (s : State) (ws : List (W32 × Nat)) : Bool :=
  let live := ws.filter (fun x => !isNopWord x.1 && !s.seq.resumeDone.getLsbD x.2)
  !live.isEmpty && live.all (fun x => majorOf x.1 != 0x26 && guardGone s x.1)

/-- A group of n words removed in zero steps: only the program counter moves (R86, R116).
(Log entry 21, DEDUCED) -/
def removeGroup (n : Nat) (s : State) : State :=
  fallThrough n (onSeq (fun q => { q with resumeDone := 0, wait := none }) s)

/-! ### The group boundary -/

/-- Whether the sequencer runs a unit's groups: a unit is placed and the bay is neither stopped, halted nor held until its
launch starts (R200, R315, R325). -/
def isRunning (s : State) : Bool :=
  !s.seq.stopped && !s.seq.halted && (match placedUnit s with
    | some u => !holdsIssue s u
    | none => false)

/-- What comes before the presented group in user mode: an engine's fault (R189, R262), or a malformed loop record (R18).
(Log entries 19 DEDUCED, 46 DEDUCED) -/
def boundaryCause (s : State) : Option (TrapInfo × State) :=
  if s.seq.supervisor then none
  else match s.seq.engineFaults with
    | t :: rest => some (t, onSeq (fun q => { q with engineFaults := rest }) s)
    | [] => if s.seq.record.malformed then some (sequenceTrap 0x08 s.seq.record.addr s, s) else none

/-- A pre-emption request that can be taken: hard, in user mode (R318, R322).
(Log entry 19, DEDUCED) -/
def preemptDue (s : State) : Bool := s.seq.preempt == some .hard && !s.seq.supervisor

/-- The trap entry of a pre-emption request (R318): DONE = 0.
(Log entries 19 DEDUCED, 20 DEDUCED) -/
def takePreempt (s : State) : State :=
  deliverTrap (cause 12 0x20 0 0) 0 (onSeq (fun q => { q with preempt := none }) s)

/-- The trap entry that is due before the words of the presented group, if any (R318): a cause of the boundary, or the failure
of the group's fetch. What its words raise, and a request of dispatch after them, are taken with the group. -/
def trapDue (s : State) : State :=
  if !isRunning s then s
  else match boundaryCause s with
    | some (t, s') => deliverTrap t 0 s'
    | none => match fetchFailure s with
      | some t => deliverTrap t 0 s
      | none => s

/-! ### The clamp -/

/-- A bay cycle with the clamp held (R8): the holds run down, a lock-step start is tested again, and nothing else advances. The
hold of a lock-step start gives way to a fault of an engine that waits for delivery (R187, R189). -/
def heldCycle (s : State) : State :=
  let s := onSeq (fun q => { q with
    corrections := (q.corrections.map (· - 1)).filter (· != 0), residue := q.residue - 1
    cpycHold := q.cpycHold && (q.supervisor || q.engineFaults.isEmpty) }) s
  passCycle (copyRetest s)

end Sys2Proof.Machine
end

