-- ==== Sys2Proof/Machine/Events.lean ====
section
/-! DEFINITION. The events of the table (spec/95): one meaning for each, an indivisible step of the machine. An event whose
conditions do not hold leaves the state as it is. -/

namespace Sys2Proof.Machine

/-! ### Results, waits and groups -/

/-- FE_REQUEST_SERVED (R145): the port serves the waiting FE word, whose bit has come to hold what it waits for; its group is
free to issue. -/
def execFeRequestServed (s : State) : Host.Outcome State Fault Refusal :=
  .next (if frozen s then s else match s.seq.wait with
    | some (.fullEmpty a full) =>
      if isFull s.mem (a.toNat / 8) == full then onSeq (fun q => { q with wait := none }) s else s
    | _ => s)

/-- Whether the condition that a group waits for holds now (R178). A deadline's wait stands until the word issues: LATE is
judged at issue (R197).
(Log entry 17, DESIGN CHOICE) -/
def conditionMet (s : State) : Wait → Bool
  | .sync a g _ => syncGen s.mem a.toNat != g
  | .submit i => match setFor s i with
    | some t => t.inFlight < 1024
    | none => true
  | .call b => (callOf s b).isNone
  | .reflected w => reflectionSettled s w
  | .buffer k => (cbAnswer (slotAt s k.toNat) (cbRead s.mem (slotAt s k.toNat).desc.toNat)).isSome
  | .take i g => match setFor s i with
    | some t => match t.stage? g.toNat with
      | some x => !x.queue.isEmpty || t.isRetired || t.broken
      | none => true
    | none => true
  | .budget a => admitted s s.east s.regionHandle a
  | .fullEmpty a full => isFull s.mem (a.toNat / 8) == full
  | .time _ => false
  | .other => false

/-- WAIT_CONDITION_MET (R9, R178): the condition that the presented group waits for has come about; the group is free to
issue. -/
def execWaitConditionMet (s : State) : Host.Outcome State Fault Refusal :=
  .next (match s.seq.wait with
    | some w => if !frozen s && conditionMet s w then onSeq (fun q => { q with wait := none }) s else s
    | none => s)

/-- A reflected atomic's acknowledgement brings the flags of its applications at other chips, and the word lands (R149).
(Log entry 35, DEDUCED) -/
def acknowledge (k : Nat) (flags : BitVec 4) (s : State) : State :=
  match s.seq.sb[k]? with
  | some p =>
    if p.kind == .atomic && canLand s k then
      let held := match p.hold with
        | some (.applied _ remote) => remote
        | _ => false
      landNth k (onSeq (fun q => { q with sb := q.sb.zipIdx.map (fun x =>
        if x.2 == k && held then { x.1 with atomFlags := x.1.atomFlags ||| flags } else x.1) }) s)
    else s
  | none => s

/-- ATOMIC_ACKNOWLEDGEMENT (R149, R152): the k-th pending result, an atomic, is acknowledged with its flags.
(Log entry 35, DEDUCED) -/
def execAtomicAcknowledgement (k : Nat) (flags : BitVec 4) (s : State) : Host.Outcome State Fault Refusal :=
  .next (if frozen s then s else acknowledge k flags s)

/-- X_WORD_START (R156).
(Log entry 12, DESIGN CHOICE) -/
def execXWordStart (s : State) : Host.Outcome State Fault Refusal := .next (if frozen s then s else startNext s)

/-- EXPOSED_RESULT_LANDING (R85, R9): the exposed results whose issuing steps have all passed land. An issuing step counts them
down and lands them itself, so no result lands before the end of its own step. -/
def execExposedResultLanding (s : State) : Host.Outcome State Fault Refusal := .next (if frozen s then s else onSeq landDue s)

/-- SCOREBOARDED_RESULT_LANDING (R84): the k-th pending result lands if it can. -/
def execScoreboardedResultLanding (k : Nat) (s : State) : Host.Outcome State Fault Refusal := .next (if frozen s then s else landIf k s)

/-- LOOK_AHEAD_NULLIFIER (R86): the presented group is removed in zero steps if its guards all fail stably. Its encodings have
been checked before (R92). -/
def execLookAheadNullifier (s : State) : Host.Outcome State Fault Refusal :=
  .next (if isRunning s && !frozen s && (fetchFailure s).isNone && fetchAdmitted s && nullified s (groupWords s) then
    removeGroup (groupWords s).length (fetched s) else s)

/-! ### The copy engine -/

/-- Whether the copy engine stands still: captured by a context command, or held with its bay (R326, R8). -/
def engineHeld (s : State) : Bool := s.seq.saved || frozen s

/-- COPY_OPERATION_START (R186, R187): the head operation starts, if its delay has run out and its engine is not captured. -/
def execCopyOperationStart (s : State) : Host.Outcome State Fault Refusal := .next (if engineHeld s then s else checkedEngine copyStart s)

/-- CPYC_HOLD_END (R187): the held lock-step start is tested again, and its hold ends when the buffer condition has cleared. -/
def execCpycHoldEnd (s : State) : Host.Outcome State Fault Refusal := .next (copyRetest s)

/-- COPY_OPERATION_COMPLETE (R186): the running operation moves what is left of it and completes. -/
def execCopyOperationComplete (s : State) : Host.Outcome State Fault Refusal := .next (if engineHeld s then s else checkedEngine copyFinish s)

/-- CPYA_FIRE (R188): armed copies whose triggers have been reached leave the table. -/
def execCpyaFire (s : State) : Host.Outcome State Fault Refusal := .next (if engineHeld s then s else checkedEngine fireArmed s)

/-- The fault that the head operation meets at its next unit, or at its start (R187, R189). -/
def headFault (s : State) : State :=
  match s.copy.queue with
  | [] => s
  | op :: _ =>
    let n := op.unitLen s
    if op.started then
      if n != 0 && op.done % n == 0 && op.done < op.total then
        match checkUnit s op (op.done / n) with
        | some f =>
          let s := if f.trap.cls == 6 && f.trap.detail == 3 then dropRefused (op.dstAt s (op.done / n)) n s else s
          copyFault op (op.done / n) f s
        | none => s
      else s
    else if op.kind == .lockstep && op.left == 0 then
      match lockstepTest op s with
      | .inl f => copyFault op 0 f s
      | .inr _ => s
    else s

/-- COPY_ENGINE_FAULT (R189, R71): the engine stops at the unit whose check fails, with its prefix published and counted. -/
def execCopyEngineFault (s : State) : Host.Outcome State Fault Refusal := .next (if engineHeld s then s else headFault s)

/-! ### Stage sets -/

/-- STAGE_SET_INSTALL (R219, R220, R231). -/
def execStageSetInstall (east : Bool) (idx : BitVec 4) (region : W32) (desc : List Byte) (s : State) :
    Host.Outcome State Fault Refusal := .next (unlessFailed (installSet east idx region desc) s)

/-- ROUTING (R229, R231). -/
def execRouting (east : Bool) (idx : BitVec 4) (s : State) : Host.Outcome State Fault Refusal := .next (routeOne east idx s)

/-- RETIREMENT (R232, R233). -/
def execRetirement (east : Bool) (idx : BitVec 4) (s : State) : Host.Outcome State Fault Refusal := .next (retireOne east idx s)

/-- STAGE_SET_REMOVAL (R233). -/
def execStageSetRemoval (east : Bool) (idx : BitVec 4) (s : State) : Host.Outcome State Fault Refusal :=
  .next (unlessFailed (removeSet east idx) s)

/-! ### Collectives -/

/-- COLL_FIRST_PACKET (R258). -/
def execCollFirstPacket (block : W64) (rank : Nat) (pkt : FirstPacket) (s : State) : Host.Outcome State Fault Refusal :=
  .next (firstPacket block rank pkt s)

/-- COLL_MATCH_TIMEOUT (R258). -/
def execCollMatchTimeout (block : W64) (s : State) : Host.Outcome State Fault Refusal := .next (matchTimeout block s)

/-- COLL_CHUNK_START (R263): a chunk boundary of the die's engine, at which evicted calls end (R264). An uncorrectable error in
what the chunk reads is a machine check (R324, R334). -/
def execCollChunkStart (east : Bool) (credited : List W64) (peers : List (List Byte)) (s : State) :
    Host.Outcome State Fault Refusal :=
  let s := endEvicted east s
  .next (match bestCall s.clock.time ((readyCalls s east credited).filter (chunkAdmitted s)) with
    | some c => if chunkDamaged s c then engineCheck c.region 0x04 0 s else chunkStart east credited peers s
    | none => chunkStart east credited peers s)

/-- COLL_CHUNK_TIMEOUT (R258, R264). -/
def execCollChunkTimeout (block : W64) (s : State) : Host.Outcome State Fault Refusal :=
  .next (chunkTimeout block (evictTimeout block s))

/-- COLL_ABORT_RECEIVED (R258, R264). -/
def execCollAbortReceived (block : W64) (rank : Nat) (s : State) : Host.Outcome State Fault Refusal :=
  .next (abortReceived block rank s)

/-- COLL_CALL_END (R262). -/
def execCollCallEnd (block : W64) (s : State) : Host.Outcome State Fault Refusal := .next (finishCall block s)

/-- HARD_EVICTION (R264).
(Log entry 57, DEDUCED) -/
def execHardEviction (region : W32) (s : State) : Host.Outcome State Fault Refusal := .next (unlessFailed (evictRegion region) s)

/-! ### The clamp, and checks -/

/-- A correction counted in the error map (R334, R341). -/
def countErrmap (bay index : Nat) (s : State) : State :=
  onFw (fun f => if bay < 160 then setErrmap f bay index (errmapWord f bay index + 1) else f) s

/-- CORRECTABLE_SRAM_ERROR (R334, R8): counted for its bay; an access of the bay's own sequencer or copy engine holds the
clamp for 32 bay cycles. -/
def execCorrectableSramError (reader : SramReader) (bay : Nat) (s : State) : Host.Outcome State Fault Refusal :=
  let s := countErrmap bay 131 s
  .next (if reader == .bay && bay == s.seq.bayId.toNat then
    onSeq (fun q => { q with corrections := q.corrections ++ [32] }) s else s)

/-- CORRECTION_HOLD_END (R8): the last of the 32 cycles of a correction passes, and its hold ends with it.
(Log entry 10, DESIGN CHOICE) -/
def execCorrectionHoldEnd (s : State) : Host.Outcome State Fault Refusal :=
  .next (if s.seq.corrections.contains 1 && !s.seq.stopped then heldCycle s else s)

/-- RESIDUE_GUARD_MISMATCH (R69, R8): a first mismatch is counted and, for a V word, holds the clamp for 8 bay cycles; a
second one is a machine check. -/
def execResidueGuardMismatch (vector again : Bool) (s : State) : Host.Outcome State Fault Refusal :=
  .next (if again then machineCheck 0x07 0 s
    else
      let s := countErrmap s.seq.bayId.toNat 133 s
      if vector then onSeq (fun q => { q with residue := 8 }) s else s)

/-- RESIDUE_HOLD_END (R8): the last of the 8 cycles of a repeat passes, and its hold ends with it.
(Log entry 10, DESIGN CHOICE) -/
def execResidueHoldEnd (s : State) : Host.Outcome State Fault Refusal :=
  .next (if s.seq.residue == 1 && !s.seq.stopped then heldCycle s else s)

/-- TRAP_ENTRY (R316, R318): the trap due at this group boundary before its words is entered. -/
def execTrapEntry (s : State) : Host.Outcome State Fault Refusal := .next (if frozen s then s else trapDue s)

/-- An event about a unit, on another bay by its key or the modelled bay's own, as the schedule says.
(Log entry 4, DESIGN CHOICE) -/
def aboutUnit (f : Option Nat → State → State) (s : State) : State :=
  match s.disp.elsewhere with
  | [] => f none s
  | unit :: rest => f unit (onDisp (fun d => { d with elsewhere := rest }) s)

/-- PREEMPTION_REQUEST (R318): dispatch asks for a bay; the request is taken at the next user-mode group boundary. On another
bay, a unit that dispatch has asked hard leaves by it.
(Log entry 4, DESIGN CHOICE) -/
def execPreemptionRequest (s : State) : Host.Outcome State Fault Refusal :=
  .next (aboutUnit (fun unit s => match unit with
    | some k => otherLeaves .hard .savedHard k s
    | none => match placedUnit s with
      | some u => if isRunning s then askUnit .hard u s else s
      | none => s) s)

/-- MACHINE_CHECK (R325, R69, R334): on a bay, by one of the causes that R324 lets come about of itself, or by an engine; or an
uncorrectable error comes about where the word or engine that meets it will find it. No other detail is raised.
(Log entries 78 DESIGN CHOICE, 95 DESIGN CHOICE) -/
def execMachineCheck (src : CheckSource) (detail : BitVec 6) (einfo : W64) (s : State) : Host.Outcome State Fault Refusal :=
  .next (match src with
    | .bay => if (detail == 2 || detail == 3 || detail == 4 || detail == 7) && !s.seq.stopped then machineCheck detail einfo s else s
    | .engine h => if detail == 4 then engineCheck h detail einfo s else s
    | .slice a => if a < 0x14000000 then onMem (fun m => m.damage (a / 8)) s else s
    | .lanes => onSeq (fun q => { q with lanesDiffer := true }) s
    | .chain => onSeq (fun q => { q with chainFails := true }) s)

/-! ### Context commands -/

/-- Whether a context command may be carried out now (R326): by supervisor code of a placed unit, traps unmasked, and the clamp not
held (R8). -/
def commandReady (s : State) : Bool := s.seq.supervisor && !s.seq.masked && s.seq.unit.isSome && !frozen s

/-- CTXCMD_SAVE (R326): op 0, once every scoreboarded result has landed and the copy engine stands at a 256-byte boundary, and
the budget admits it (R296). -/
def execCtxcmdSave (s : State) : Host.Outcome State Fault Refusal :=
  .next (if commandReady s && atBoundary s && !s.seq.sb.any (fun p => !frozenNow s p) && !saveHeld s then contextSave s
    else s)

/-- CTXCMD_RELEASE (R326): op 1, after an op 0. -/
def execCtxcmdRelease (s : State) : Host.Outcome State Fault Refusal :=
  .next (if commandReady s && s.seq.saved then contextRelease s else s)

/-- CTXCMD_FORWARD (R326, R25): op 2, after an op 0. -/
def execCtxcmdForward (s : State) : Host.Outcome State Fault Refusal :=
  .next (if commandReady s && s.seq.saved then contextForward s else s)

/-! ### Replies of fault handlers -/

/-- REPLY_ABORT (R27). -/
def execReplyAbort (unit : Nat) (s : State) : Host.Outcome State Fault Refusal := .next (replyAbort unit s)

/-- REPLY_RESUME (R27). -/
def execReplyResume (unit : Nat) (s : State) : Host.Outcome State Fault Refusal := .next (replyResume unit s)

/-- REPLY_RETRY_FROM_MARK (R27, R73). -/
def execReplyRetryFromMark (unit : Nat) (s : State) : Host.Outcome State Fault Refusal := .next (replyRetry unit s)

/-- REPLY_KILL_REGION (R27). -/
def execReplyKillRegion (unit : Nat) (s : State) : Host.Outcome State Fault Refusal := .next (replyKill unit s)

/-! ### Soft pre-emption -/

/-- Whether the bay's own unit may be saved at a soft point now: it runs in user mode, and its save can be made (R322, R332). -/
def softReady (s : State) : Bool := isRunning s && !frozen s && !s.seq.supervisor && saveReady s

/-- ITERATION_PREEMPTION (R332): with a soft request, a unit that waits at `swait.y`, or has met a boundary or a `yield`, is
saved once nothing is in flight. On another bay, a unit that dispatch has asked leaves by it.
(Log entry 4, DESIGN CHOICE) -/
def execIterationPreemption (s : State) : Host.Outcome State Fault Refusal :=
  .next (aboutUnit (fun unit s => match unit with
    | some k => otherLeaves .soft .savedIteration k s
    | none =>
      if !softReady s then s
      else match waitsAtYield s, s.seq.preempt with
        | some w, some .soft => iterationSave (some w) s
        | _, some .saving => iterationSave none s
        | _, _ => s) s)

/-- Whether the running unit stands before a record of its command list that is not the first, with none of its groups issued
(R22). -/
def atNode (s : State) : Bool :=
  match placedUnit s with
  | none => false
  | some u => match launchOf s u.launch with
    | none => false
    | some l => l.kind == 1 && s.seq.cmdp != l.recAddr + 8 && s.seq.steps == 0 && s.seq.gpos == 0 &&
        s.seq.loops.isEmpty && s.seq.wait.isNone

/-- NODE_PREEMPTION (R332): between records of a command list, with the copy queue drained; the record that has not begun is
named again by the command pointer. On another bay, a unit of a command list that dispatch has asked leaves by it.
(Log entry 4, DESIGN CHOICE) -/
def execNodePreemption (s : State) : Host.Outcome State Fault Refusal :=
  .next (aboutUnit (fun unit s => match unit with
    | some k => otherLeaves .soft .savedNode k s
    | none =>
      if softReady s && softAsked s && s.copy.queue.isEmpty && s.copy.fired.isEmpty && atNode s then
        nodeSave (onSeq (fun q => { q with cmdp := q.cmdp - 8 }) s)
      else s) s)

/-! ### Queues and dispatch -/

/-- TAIL_WRITE (R302). -/
def execTailWrite (fn queue off : Nat) (data : List Byte) (s : State) : Host.Outcome State Fault Refusal :=
  .next (unlessFailed (tailWrite fn queue off data) s)

/-- HEAD_MIRROR_STORE (R303). -/
def execHeadMirrorStore (queue : BitVec 12) (s : State) : Host.Outcome State Fault Refusal := .next (mirrorHead queue s)

/-- DISPATCH_SLOT_TABLE_WRITE (R304). -/
def execDispatchSlotTableWrite (idx : BitVec 8) (value : W64) (s : State) : Host.Outcome State Fault Refusal :=
  .next (unlessFailed (onDisp (fun d => setSlotEntry d idx value)) s)

/-- ACTIVITY_BITMAP_CLEAR (R305). -/
def execActivityBitmapClear (idx : BitVec 6) (mask : W64) (s : State) : Host.Outcome State Fault Refusal :=
  .next (unlessFailed (onDisp (clearBitmap idx mask)) s)

/-- RECORD_TAKE (R307, R308). -/
def execRecordTake (queue : BitVec 12) (s : State) : Host.Outcome State Fault Refusal := .next (takeRecord queue s)

/-- DEPENDENCY_MET (R308). -/
def execDependencyMet (launch : Nat) (s : State) : Host.Outcome State Fault Refusal := .next (meetDependency launch s)

/-- PLACE_UNIT (R310, R311): one decision of dispatch for a bay, named with the bays whose units wait at `swait.y`.
(Log entry 4, DESIGN CHOICE) -/
def execPlaceUnit (bay : Nat × List (Nat × W64 × W32)) (s : State) : Host.Outcome State Fault Refusal :=
  .next (placeOn bay.1 bay.2 s)

/-- PRIORITY_AGEING (R310). -/
def execPriorityAgeing (launch : Nat) (s : State) : Host.Outcome State Fault Refusal := .next (ageWaiting (some launch) s)

/-- SOFT_POINT_TIMEOUT (R311): a victim that has reached no soft point within 2 ms of the request is pre-empted hard. -/
def execSoftPointTimeout (s : State) : Host.Outcome State Fault Refusal :=
  .next (aboutUnit (fun unit s => match (match unit with
      | some k => unitOf s k
      | none => placedUnit s) with
    | some u =>
      if u.onBay && (askedOf s u == some .soft || askedOf s u == some .saving) &&
          2000000 ≤ (s.clock.time - u.askedAt).toNat then takeGang u.launch u.idx .hard s else s
    | none => s) s)

/-- GANG_INSTANCE_PLACEMENT (R313). -/
def execGangInstancePlacement (launch : Nat) (bays : List Nat) (s : State) : Host.Outcome State Fault Refusal :=
  .next (placeGang launch bays s)

/-- TT_START_ATTEMPT (R315). -/
def execTtStartAttempt (launch : Nat) (s : State) : Host.Outcome State Fault Refusal := .next (attemptStart launch s)

/-- READY_WORD (R267). -/
def execReadyWord (launch : Nat) (s : State) : Host.Outcome State Fault Refusal := .next (sendReady launch s)

/-- LAUNCH_COMPLETION (R309) of a launch, named with the units on other bays that have completed.
(Log entry 4, DESIGN CHOICE) -/
def execLaunchCompletion (launch : Nat × List Nat) (s : State) : Host.Outcome State Fault Refusal :=
  .next (launchDone launch.1 launch.2 s)

/-- QUEUE_TABLE_WRITE (R301). -/
def execQueueTableWrite (queue : BitVec 12) (entry : List Byte) (s : State) : Host.Outcome State Fault Refusal :=
  .next (unlessFailed (writeQueue queue entry) s)

/-! ### Budgets, the error map and translation registers -/

/-- BUDGET_PERIOD_BOUNDARY (R295, R296): once the period's cycles have passed.
(Log entry 10, DESIGN CHOICE) -/
def execBudgetPeriodBoundary (east : Bool) (s : State) : Host.Outcome State Fault Refusal := .next (takeBoundary east s)

/-- BUDGET_HANDLE_LOAD (R297): firmware does not give a region the counter slot of one of another partition (R294).
(Log entry 49, DEDUCED) -/
def execBudgetHandleLoad (east : Bool) (slot : BitVec 6) (handle : W64) (s : State) : Host.Outcome State Fault Refusal :=
  let old := ((slotsOf s.fw east)[slot.toNat]).handle
  .next (unlessFailed (if old != 0 && handle.setWidth 32 != 0 && !sharesPart s old (handle.setWidth 32) then
    logEntry .refusedInstall else loadSlot east slot.toNat handle) s)

/-- BUDGET_LIMIT_WRITE (R297). -/
def execBudgetLimitWrite (east : Bool) (slot : BitVec 6) (act : Nat) (limit : W32) (s : State) :
    Host.Outcome State Fault Refusal := .next (unlessFailed (writeLimit east slot.toNat act limit) s)

/-- ERRMAP_CLEAR (R341). -/
def execErrmapClear (bay index : BitVec 8) (s : State) : Host.Outcome State Fault Refusal :=
  .next (unlessFailed (clearErrmap bay.toNat index.toNat) s)

/-- XTBL_WRITE (R289): XTBL, or PASID. -/
def execXtblWrite (pasid : Bool) (value : W64) (s : State) : Host.Outcome State Fault Refusal :=
  .next (unlessFailed (if pasid then writePasid value else writeXtbl value) s)

/-! ### The mesh -/

/-- MESH_SCHEDULED_FORWARD (R299): one mesh cycle. -/
def execMeshScheduledForward (inject : List MeshPacket) (s : State) : Host.Outcome State Fault Refusal :=
  .next (meshCycle inject s)

/-- SLOT_FRAGMENT_INSTALL (R300): a grant of entries, or a fragment of a region's image. -/
def execSlotFragmentInstall (region : W32) (cslot : BitVec 6) (grant : Bool) (header entries : List Byte) (s : State) :
    Host.Outcome State Fault Refusal := .next (unlessFailed (installFragment region cslot grant (header ++ entries)) s)

/-! ### Reflection -/

/-- REFLECTED_WRITE_ARRIVAL (R243, R246). -/
def execReflectedWriteArrival (write : Arrival) (s : State) : Host.Outcome State Fault Refusal := .next (arriveWrite write s)

/-- ACKNOWLEDGEMENT_SEND (R246). -/
def execAcknowledgementSend (src : BitVec 12) (vc : BitVec 4) (s : State) : Host.Outcome State Fault Refusal :=
  .next (onRefl (returnAck src vc) s)

/-- ACKNOWLEDGEMENT_RECEIVE (R246). -/
def execAcknowledgementReceive (dst : BitVec 12) (vc : BitVec 4) (high : W32) (s : State) :
    Host.Outcome State Fault Refusal := .next (if knownPath s.refl dst vc then onRefl (ackReceive dst vc high) s else s)

/-- RETRANSMISSION (R246). -/
def execRetransmission (dst : BitVec 12) (vc : BitVec 4) (s : State) : Host.Outcome State Fault Refusal :=
  .next (onRefl (retransmit dst vc s.clock.time) s)

/-- PLANE_LOSS (R246): with no plane left every path dies, and the collective calls with it (R247, R265). -/
def execPlaneLoss (plane : BitVec 3) (s : State) : Host.Outcome State Fault Refusal :=
  let s' := losePlane plane s
  .next (if s'.refl.planes != 0 || s.refl.planes == 0 then s'
    else s'.coll.calls.foldl (fun s c => (c.chips.filter (· != s.seq.chipId)).foldl (fun s x => pathDied x c.vc s) s) s')

/-- PATH_DEATH (R247): at the sender's end or the receiver's; the collective calls that use the path end (R265). -/
def execPathDeath (sender : Bool) (chip : BitVec 12) (vc : BitVec 4) (s : State) : Host.Outcome State Fault Refusal :=
  .next (pathDied chip vc (if sender then onRefl (killSend chip vc) s else killRecv chip vc s))

/-- PATH_RESET (R247). -/
def execPathReset (chip : BitVec 12) (vc : BitVec 4) (s : State) : Host.Outcome State Fault Refusal :=
  .next (unlessFailed (resetPath chip vc) s)

/-- WINDOW_ENTRY_INSTALL (R239, R241). -/
def execWindowEntryInstall (kind : WindowKind) (id : BitVec 12) (region : W32) (entry : List Byte) (s : State) :
    Host.Outcome State Fault Refusal := .next (unlessFailed (installWindow kind id region entry) s)

/-! ### Time -/

/-- PTP_SYNC (R266). -/
def execPtpSync (seq : Byte × ClockId × BitVec 16) (ingress : W64) (s : State) : Host.Outcome State Fault Refusal :=
  .next (ptpSync seq.1 seq.2.1 seq.2.2 ingress s)

/-- PTP_FOLLOW_UP (R266). -/
def execPtpFollowUp (seq : BitVec 16) (origin correction : W64) (s : State) : Host.Outcome State Fault Refusal :=
  .next (ptpFollowUp seq origin correction s)

/-- PTP_PDELAY_REQ (R266). -/
def execPtpPdelayReq (seq : BitVec 16) (ingress : W64) (s : State) : Host.Outcome State Fault Refusal :=
  .next (ptpPdelayReq seq ingress s)

/-- PTP_PDELAY_RESP (R266). -/
def execPtpPdelayResp (seq : BitVec 16) (requestReceipt ingress : W64) (s : State) : Host.Outcome State Fault Refusal :=
  .next (ptpPdelayResp seq requestReceipt ingress s)

/-- PTP_PDELAY_RESP_FOLLOW_UP (R266). -/
def execPtpPdelayRespFollowUp (seq : BitVec 16) (responseOrigin : W64) (s : State) : Host.Outcome State Fault Refusal :=
  .next (ptpPdelayDone seq responseOrigin s)

/-- HOLDOVER (R14, R266). -/
def execHoldover (s : State) : Host.Outcome State Fault Refusal := .next (loseLock s)

/-! ### Residency and host translation -/

/-- RESDONE (R338). -/
def execResdone (page : Nat × W64) (s : State) : Host.Outcome State Fault Refusal :=
  .next (unlessFailed (pageDone page.1 page.2) s)

/-- RESFAIL (R338). -/
def execResfail (page : Nat × W64) (s : State) : Host.Outcome State Fault Refusal :=
  .next (unlessFailed (pageFailed page.1 page.2) s)

/-- RESIDENCY_BIT_CLEAR (R206). -/
def execResidencyBitClear (region : W32) (page : W64) (s : State) : Host.Outcome State Fault Refusal :=
  .next (unlessFailed (clearPage region page) s)

/-- ATS_TRANSLATION_COMPLETION (R339). -/
def execAtsTranslationCompletion (pasid : BitVec 20) (va : W64) (size : Nat) (phys : W64) (write : Bool) (s : State) :
    Host.Outcome State Fault Refusal := .next (atsAnswer pasid va size phys write s)

/-- PRI_RESPONSE (R339). -/
def execPriResponse (pasid : BitVec 20) (va : W64) (success : Bool) (s : State) : Host.Outcome State Fault Refusal :=
  .next (priAnswer pasid va success s)

/-- PRI_TIMEOUT (R339). -/
def execPriTimeout (pasid : BitVec 20) (va : W64) (s : State) : Host.Outcome State Fault Refusal :=
  .next (priTimeout pasid va s)

/-- ATS_INVALIDATE_REQUEST (R340). -/
def execAtsInvalidateRequest (pasid : BitVec 20) (base : W64) (len : Nat) (s : State) : Host.Outcome State Fault Refusal :=
  .next (atsInvalidate pasid base len s)

/-! ### Firmware and the host -/

/-- MAILBOX_WRITE (R217, R346). -/
def execMailboxWrite (fn : HostTarget × Nat) (off : Nat) (data : List Byte) (s : State) : Host.Outcome State Fault Refusal :=
  .next (unlessFailed (mailboxWrite fn.1 fn.2 off data) s)

/-- ARRAY_SELF_TEST (R342). -/
def execArraySelfTest (bay : Byte) (badRow : Option (BitVec 6)) (s : State) : Host.Outcome State Fault Refusal :=
  .next (unlessFailed (selfTest bay badRow) s)

/-- SPARE_ROW_SWITCH (R342). -/
def execSpareRowSwitch (bay : Byte) (spare : Bool) (row : BitVec 6) (soft : Bool) (s : State) :
    Host.Outcome State Fault Refusal := .next (unlessFailed (switchSpare bay spare row soft) s)

/-- BRING_UP (R347). -/
def execBringUp (flash : FlashImage) (s : State) : Host.Outcome State Fault Refusal := .next (bringUp flash s)

/-- ATTESTATION_REQUEST (R348). -/
def execAttestationRequest (nonce : BitVec 512) (s : State) : Host.Outcome State Fault Refusal := .next (attest nonce s)

/-- THERMAL_THROTTLE (R349).
(Log entry 71, DEDUCED) -/
def execThermalThrottle (east : Bool) (celsius : Nat) (s : State) : Host.Outcome State Fault Refusal :=
  .next (unlessFailed (throttle east celsius) s)

/-- REGION_NODE_INSTALL (R292). -/
def execRegionNodeInstall (addr : W64) (node : List Byte × List (W32 × Nat × Nat)) (s : State) : Host.Outcome State Fault Refusal :=
  .next (unlessFailed (installNode addr node.1 node.2) s)

/-- EXTENT_TABLE_INSTALL (R337). -/
def execExtentTableInstall (addr : W64) (table : List Byte) (s : State) : Host.Outcome State Fault Refusal :=
  .next (unlessFailed (installTable addr table) s)

/-- REPLAY_INPUT_DELIVERY (R344). -/
def execReplayInputDelivery (region : W32) (s : State) : Host.Outcome State Fault Refusal := .next (deliverReplay region s)

end Sys2Proof.Machine
end

