-- ==== Sys2Proof/Machine/Scalar.lean ====
section
/-! DEFINITION. Scalar, predicate and control words (R100 to R117): the S pipe. -/

namespace Sys2Proof.Machine

/-! ### Arithmetic -/

/-- The amount of a shift by a register (R101). -/
def shiftAmount (x : W64) : Nat := x.toNat % 64
/-- Bits 127 to 64 of the signed product. -/
def mulHigh (b x : W64) : W64 := (b.signExtend 128 * x.signExtend 128).extractLsb' 64 64
/-- Bits 127 to 64 of the unsigned product. -/
def mulHighU (b x : W64) : W64 := (b.setWidth 128 * x.setWidth 128).extractLsb' 64 64
/-- The signed lesser. -/
def minS (b x : W64) : W64 := if x.slt b then x else b
/-- The signed greater. -/
def maxS (b x : W64) : W64 := if b.slt x then x else b
/-- The unsigned lesser. -/
def minU (b x : W64) : W64 := if x.ult b then x else b
/-- The unsigned greater. -/
def maxU (b x : W64) : W64 := if b.ult x then x else b
/-- Signed division (R102, R103). -/
def divS (b x : W64) : W64 := if x == 0 then BitVec.allOnes 64 else b.sdiv x
/-- Unsigned division. -/
def divU (b x : W64) : W64 := if x == 0 then BitVec.allOnes 64 else b.udiv x
/-- Signed remainder. -/
def remS (b x : W64) : W64 := if x == 0 then b else b.srem x
/-- Unsigned remainder. -/
def remU (b x : W64) : W64 := if x == 0 then b else b.umod x
/-- Leading zero bits (R102). -/
def leadingZeros (b : W64) : W64 :=
  BitVec.ofNat 64 (((List.range 64).find? (fun i => b.getLsbD (63 - i))).getD 64)
/-- Trailing zero bits. -/
def trailingZeros (b : W64) : W64 := BitVec.ofNat 64 (((List.range 64).find? (fun i => b.getLsbD i)).getD 64)
/-- One bits. -/
def oneBits (b : W64) : W64 := BitVec.ofNat 64 ((List.range 64).countP (fun i => b.getLsbD i))
/-- The eight bytes in reverse order. -/
def byteSwap (b : W64) : W64 := BitVec.ofNat 64 (natOfBytes (bytesOfNat 8 b.toNat).reverse)

/-! ### Shared forms -/

/-- An S word from two scalars, with a latency (R101). -/
def aluWord (lat : Nat) (f : W64 → W64 → W64) (hd : Hdr) (a b x : Reg5) (s : State) : Host.Outcome State Fault Refusal :=
  issue (useS3 hd .exposed a b x) (guarded hd (fun s => exposeS lat a (f (readS s b) (readS s x)) 0 s)) s

/-- A scoreboarded scalar result pending (R84). -/
def pendS (a : Reg5) (x : W64) (s : State) : State := pend { Pending.none .alu with sregs := [(a, x)] } s

/-- An ALU2 word of two sources (R102). -/
def alu2Word (f : W64 → W64 → W64) (hd : Hdr) (a b x : Reg5) (s : State) : Host.Outcome State Fault Refusal :=
  issue (useS3 hd .scoreboarded a b x) (guarded hd (fun s => pendS a (f (readS s b) (readS s x)) s)) s

/-- An ALU2 word of one source (R102). -/
def unaryWord (f : W64 → W64) (hd : Hdr) (a b : Reg5) (s : State) : Host.Outcome State Fault Refusal :=
  issue (useS2 hd .scoreboarded a b) (guarded hd (fun s => pendS a (f (readS s b)) s)) s

/-- A word of one scalar and an immediate (R104, R105). -/
def immWord (f : W64 → W64) (hd : Hdr) (a b : Reg5) (s : State) : Host.Outcome State Fault Refusal :=
  issue (useS2 hd .exposed a b) (guarded hd (fun s => exposeS 1 a (f (readS s b)) 0 s)) s

/-- A compare of two scalars (R107). -/
def cmpWord (f : W64 → W64 → Bool) (hd : Hdr) (a : Reg4) (b x : Reg5) (s : State) : Host.Outcome State Fault Refusal :=
  issue (useCmp hd a b x)
    (guarded hd (fun s => exposeP 1 a (allLanes (f (readS s b) (readS s x))) (BitVec.allOnes 64) 0 s)) s

/-- A compare of a scalar with an immediate (R108). -/
def cmpImmWord (f : W64 → Bool) (hd : Hdr) (a : Reg4) (b : Reg5) (s : State) : Host.Outcome State Fault Refusal :=
  issue (useCmpI hd a b) (guarded hd (fun s => exposeP 1 a (allLanes (f (readS s b))) (BitVec.allOnes 64) 0 s)) s

/-- A predicate word (R109), by what it computes. -/
def predWord (u : Use) (f : State → W64) (hd : Hdr) (a : Reg4) (s : State) : Host.Outcome State Fault Refusal :=
  issue u (guarded hd (fun s => exposeP 1 a (f s) (BitVec.allOnes 64) 0 s)) s

/-! ### ALU -/

/-- `add` (R101). -/
def execAdd (hd : Hdr) (a b x : Reg5) (s : State) : Host.Outcome State Fault Refusal :=
  aluWord 1 (· + ·) hd a b x s

/-- `sub` (R101). -/
def execSub (hd : Hdr) (a b x : Reg5) (s : State) : Host.Outcome State Fault Refusal :=
  aluWord 1 (· - ·) hd a b x s

/-- `and` (R101). -/
def execAnd (hd : Hdr) (a b x : Reg5) (s : State) : Host.Outcome State Fault Refusal :=
  aluWord 1 (· &&& ·) hd a b x s

/-- `or` (R101). -/
def execOr (hd : Hdr) (a b x : Reg5) (s : State) : Host.Outcome State Fault Refusal :=
  aluWord 1 (· ||| ·) hd a b x s

/-- `xor` (R101). -/
def execXor (hd : Hdr) (a b x : Reg5) (s : State) : Host.Outcome State Fault Refusal :=
  aluWord 1 (· ^^^ ·) hd a b x s

/-- `andn` (R101). -/
def execAndn (hd : Hdr) (a b x : Reg5) (s : State) : Host.Outcome State Fault Refusal :=
  aluWord 1 (fun b x => b &&& ~~~x) hd a b x s

/-- `sll` (R101). -/
def execSll (hd : Hdr) (a b x : Reg5) (s : State) : Host.Outcome State Fault Refusal :=
  aluWord 1 (fun b x => b <<< shiftAmount x) hd a b x s

/-- `srl` (R101). -/
def execSrl (hd : Hdr) (a b x : Reg5) (s : State) : Host.Outcome State Fault Refusal :=
  aluWord 1 (fun b x => b >>> shiftAmount x) hd a b x s

/-- `sra` (R101). -/
def execSra (hd : Hdr) (a b x : Reg5) (s : State) : Host.Outcome State Fault Refusal :=
  aluWord 1 (fun b x => b.sshiftRight (shiftAmount x)) hd a b x s

/-- `mul` (R101). -/
def execMul (hd : Hdr) (a b x : Reg5) (s : State) : Host.Outcome State Fault Refusal :=
  aluWord 3 (· * ·) hd a b x s

/-- `mulh` (R101). -/
def execMulh (hd : Hdr) (a b x : Reg5) (s : State) : Host.Outcome State Fault Refusal :=
  aluWord 3 mulHigh hd a b x s

/-- `mulhu` (R101). -/
def execMulhu (hd : Hdr) (a b x : Reg5) (s : State) : Host.Outcome State Fault Refusal :=
  aluWord 3 mulHighU hd a b x s

/-- `min` (R101). -/
def execMin (hd : Hdr) (a b x : Reg5) (s : State) : Host.Outcome State Fault Refusal :=
  aluWord 1 minS hd a b x s

/-- `max` (R101). -/
def execMax (hd : Hdr) (a b x : Reg5) (s : State) : Host.Outcome State Fault Refusal :=
  aluWord 1 maxS hd a b x s

/-- `minu` (R101). -/
def execMinu (hd : Hdr) (a b x : Reg5) (s : State) : Host.Outcome State Fault Refusal :=
  aluWord 1 minU hd a b x s

/-- `maxu` (R101). -/
def execMaxu (hd : Hdr) (a b x : Reg5) (s : State) : Host.Outcome State Fault Refusal :=
  aluWord 1 maxU hd a b x s

/-! ### ALU2 -/

/-- `div` (R102, R103). -/
def execDiv (hd : Hdr) (a b x : Reg5) (s : State) : Host.Outcome State Fault Refusal :=
  alu2Word divS hd a b x s

/-- `divu` (R102, R103). -/
def execDivu (hd : Hdr) (a b x : Reg5) (s : State) : Host.Outcome State Fault Refusal :=
  alu2Word divU hd a b x s

/-- `rem` (R102, R103). -/
def execRem (hd : Hdr) (a b x : Reg5) (s : State) : Host.Outcome State Fault Refusal :=
  alu2Word remS hd a b x s

/-- `remu` (R102, R103). -/
def execRemu (hd : Hdr) (a b x : Reg5) (s : State) : Host.Outcome State Fault Refusal :=
  alu2Word remU hd a b x s

/-- `clz` (R102). -/
def execClz (hd : Hdr) (a b : Reg5) (s : State) : Host.Outcome State Fault Refusal :=
  unaryWord leadingZeros hd a b s

/-- `ctz` (R102). -/
def execCtz (hd : Hdr) (a b : Reg5) (s : State) : Host.Outcome State Fault Refusal :=
  unaryWord trailingZeros hd a b s

/-- `popc` (R102). -/
def execPopc (hd : Hdr) (a b : Reg5) (s : State) : Host.Outcome State Fault Refusal :=
  unaryWord oneBits hd a b s

/-- `sext.b` (R102). -/
def execSextB (hd : Hdr) (a b : Reg5) (s : State) : Host.Outcome State Fault Refusal :=
  unaryWord (fun b => (b.setWidth 8).signExtend 64) hd a b s

/-- `sext.h` (R102). -/
def execSextH (hd : Hdr) (a b : Reg5) (s : State) : Host.Outcome State Fault Refusal :=
  unaryWord (fun b => (b.setWidth 16).signExtend 64) hd a b s

/-- `sext.w` (R102). -/
def execSextW (hd : Hdr) (a b : Reg5) (s : State) : Host.Outcome State Fault Refusal :=
  unaryWord (fun b => (b.setWidth 32).signExtend 64) hd a b s

/-- `zext.w` (R102). -/
def execZextW (hd : Hdr) (a b : Reg5) (s : State) : Host.Outcome State Fault Refusal :=
  unaryWord (fun b => (b.setWidth 32).setWidth 64) hd a b s

/-- `bswap` (R102). -/
def execBswap (hd : Hdr) (a b : Reg5) (s : State) : Host.Outcome State Fault Refusal :=
  unaryWord byteSwap hd a b s

/-! ### Immediates -/

/-- `addi` (R104). -/
def execAddi (hd : Hdr) (a b : Reg5) (i : BitVec 9) (s : State) : Host.Outcome State Fault Refusal :=
  immWord (· + imm9 i) hd a b s

/-- `andi` (R104). -/
def execAndi (hd : Hdr) (a b : Reg5) (i : BitVec 9) (s : State) : Host.Outcome State Fault Refusal :=
  immWord (· &&& imm9 i) hd a b s

/-- `ori` (R104). -/
def execOri (hd : Hdr) (a b : Reg5) (i : BitVec 9) (s : State) : Host.Outcome State Fault Refusal :=
  immWord (· ||| imm9 i) hd a b s

/-- `xori` (R104). -/
def execXori (hd : Hdr) (a b : Reg5) (i : BitVec 9) (s : State) : Host.Outcome State Fault Refusal :=
  immWord (· ^^^ imm9 i) hd a b s

/-- `slli` (R105). -/
def execSlli (hd : Hdr) (a b : Reg5) (h : BitVec 6) (s : State) : Host.Outcome State Fault Refusal :=
  immWord (· <<< h.toNat) hd a b s

/-- `srli` (R105). -/
def execSrli (hd : Hdr) (a b : Reg5) (h : BitVec 6) (s : State) : Host.Outcome State Fault Refusal :=
  immWord (· >>> h.toNat) hd a b s

/-- `srai` (R105). -/
def execSrai (hd : Hdr) (a b : Reg5) (h : BitVec 6) (s : State) : Host.Outcome State Fault Refusal :=
  immWord (fun b => b.sshiftRight h.toNat) hd a b s

/-- `li` (R106). -/
def execLi (hd : Hdr) (a : Reg5) (i : BitVec 14) (s : State) : Host.Outcome State Fault Refusal :=
  issue (useLi hd a) (guarded hd (exposeS 1 a (imm14 i) 0)) s

/-- `lsh` (R106). -/
def execLsh (hd : Hdr) (a : Reg5) (i : BitVec 14) (s : State) : Host.Outcome State Fault Refusal :=
  issue (useLsh hd a) (guarded hd (fun s => exposeS 1 a ((readS s a <<< 14) ||| i.setWidth 64) 0 s)) s

/-! ### Compares and predicates -/

/-- `cmp.eq` (R107). -/
def execCmpEq (hd : Hdr) (a : Reg4) (b x : Reg5) (s : State) : Host.Outcome State Fault Refusal :=
  cmpWord (· == ·) hd a b x s

/-- `cmp.ne` (R107). -/
def execCmpNe (hd : Hdr) (a : Reg4) (b x : Reg5) (s : State) : Host.Outcome State Fault Refusal :=
  cmpWord (· != ·) hd a b x s

/-- `cmp.lt` (R107). -/
def execCmpLt (hd : Hdr) (a : Reg4) (b x : Reg5) (s : State) : Host.Outcome State Fault Refusal :=
  cmpWord (fun b x => b.slt x) hd a b x s

/-- `cmp.ge` (R107). -/
def execCmpGe (hd : Hdr) (a : Reg4) (b x : Reg5) (s : State) : Host.Outcome State Fault Refusal :=
  cmpWord (fun b x => !b.slt x) hd a b x s

/-- `cmp.ltu` (R107). -/
def execCmpLtu (hd : Hdr) (a : Reg4) (b x : Reg5) (s : State) : Host.Outcome State Fault Refusal :=
  cmpWord (fun b x => b.ult x) hd a b x s

/-- `cmp.geu` (R107). -/
def execCmpGeu (hd : Hdr) (a : Reg4) (b x : Reg5) (s : State) : Host.Outcome State Fault Refusal :=
  cmpWord (fun b x => !b.ult x) hd a b x s

/-- `cmpeqi` (R108). -/
def execCmpeqi (hd : Hdr) (a : Reg4) (b : Reg5) (i : BitVec 9) (s : State) : Host.Outcome State Fault Refusal :=
  cmpImmWord (· == imm9 i) hd a b s

/-- `cmplti` (R108). -/
def execCmplti (hd : Hdr) (a : Reg4) (b : Reg5) (i : BitVec 9) (s : State) : Host.Outcome State Fault Refusal :=
  cmpImmWord (fun b => b.slt (imm9 i)) hd a b s

/-- `cmpltui` (R108). -/
def execCmpltui (hd : Hdr) (a : Reg4) (b : Reg5) (i : BitVec 9) (s : State) : Host.Outcome State Fault Refusal :=
  cmpImmWord (fun b => b.ult (imm9 i)) hd a b s

/-- `pand` (R109). -/
def execPand (hd : Hdr) (a b x : Reg4) (s : State) : Host.Outcome State Fault Refusal :=
  predWord (useP3 hd a b x) (fun s => readP s b &&& readP s x) hd a s

/-- `por` (R109). -/
def execPor (hd : Hdr) (a b x : Reg4) (s : State) : Host.Outcome State Fault Refusal :=
  predWord (useP3 hd a b x) (fun s => readP s b ||| readP s x) hd a s

/-- `pxor` (R109). -/
def execPxor (hd : Hdr) (a b x : Reg4) (s : State) : Host.Outcome State Fault Refusal :=
  predWord (useP3 hd a b x) (fun s => readP s b ^^^ readP s x) hd a s

/-- `pandn` (R109). -/
def execPandn (hd : Hdr) (a b x : Reg4) (s : State) : Host.Outcome State Fault Refusal :=
  predWord (useP3 hd a b x) (fun s => readP s b &&& ~~~(readP s x)) hd a s

/-- `pnot` (R109). -/
def execPnot (hd : Hdr) (a b : Reg4) (s : State) : Host.Outcome State Fault Refusal :=
  predWord (useP2 hd a b) (fun s => ~~~(readP s b)) hd a s

/-- `pmov` (R109). -/
def execPmov (hd : Hdr) (a b : Reg4) (s : State) : Host.Outcome State Fault Refusal :=
  predWord (useP2 hd a b) (fun s => readP s b) hd a s

/-- `pset` (R109). -/
def execPset (hd : Hdr) (a : Reg4) (s : State) : Host.Outcome State Fault Refusal :=
  predWord (useP1 hd a) (fun _ => BitVec.allOnes 64) hd a s

/-- `pclr` (R109). -/
def execPclr (hd : Hdr) (a : Reg4) (s : State) : Host.Outcome State Fault Refusal :=
  predWord (useP1 hd a) (fun _ => 0) hd a s

/-- `pcnt` (R109). -/
def execPcnt (hd : Hdr) (a : Reg5) (b : Reg4) (s : State) : Host.Outcome State Fault Refusal :=
  issue (usePS hd a b) (guarded hd (fun s => exposeS 1 a (oneBits (readP s b)) 0 s)) s

/-- `pfirst` (R109). -/
def execPfirst (hd : Hdr) (a : Reg5) (b : Reg4) (s : State) : Host.Outcome State Fault Refusal :=
  issue (usePS hd a b) (guarded hd (fun s => exposeS 1 a (trailingZeros (readP s b)) 0 s)) s

/-! ### Branches and loops -/

/-- A taken transfer that pops the bodies it leaves (R80, R113). -/
def branchTo (target : BitVec 40) (s : State) : State :=
  unlessTrapped (fun s => transfer (.jump target)
    (onSeq (fun q => { q with loops := popFor q.pc target q.loops }) s)) s

/-- A taken transfer that leaves the loop stack unchanged and links (R110, R111, R113). -/
def callTo (link : Reg5) (target : BitVec 40) (s : State) : State :=
  unlessTrapped (fun s => transfer (.jump target) (exposeS 1 link ((s.seq.pc + 1).setWidth 64) 0 s)) s

/-- A transfer to a packet index held in a register (R111). -/
def registerTarget (v : W64) (f : BitVec 40 → State → State) (s : State) : State :=
  if v.toNat < 2 ^ 40 then f (v.setWidth 40) s else raise (sequenceTrap 0x04 v s) s

/-- A loop word with its count and length (R115). -/
def loopWord (count : W64) (len : Nat) (s : State) : State :=
  let pc := s.seq.pc
  let overruns := match s.seq.loops with
    | top :: _ => top.start.toNat ≤ pc.toNat && pc.toNat ≤ top.stop.toNat && top.stop.toNat < pc.toNat + len
    | [] => false
  if 0xFFFFFFFF < count.toNat then raise (sequenceTrap 0x02 count s) s
  else if count == 0 then unlessTrapped (transfer (.skip (pc + BitVec.ofNat 40 (len + 1)))) s
  else if s.seq.loops.length == 6 then raise (sequenceTrap 0x01 0 s) s
  else if overruns then raise (sequenceTrap 0x03 (BitVec.ofNat 64 (pc.toNat + len)) s) s
  else unlessTrapped (transfer (.push { start := pc + 1, stop := pc + BitVec.ofNat 40 len, remain := count.setWidth 32,
                                        index := 0 })) s

/-- `br` (R110). -/
def execBr (hd : Hdr) (d : BitVec 19) (s : State) : Host.Outcome State Fault Refusal :=
  issue (useBranch hd [] []) (guarded hd (fun s => branchTo (s.seq.pc + d.signExtend 40) s)) s

/-- `call` (R110). -/
def execCall (hd : Hdr) (d : BitVec 19) (s : State) : Host.Outcome State Fault Refusal :=
  issue (useBranch hd [] [.s 31]) (guarded hd (fun s => callTo 31 (s.seq.pc + d.signExtend 40) s)) s

/-- `jr` (R111). -/
def execJr (hd : Hdr) (b : Reg5) (s : State) : Host.Outcome State Fault Refusal :=
  issue (useBranch hd (sName b) []) (guarded hd (fun s => registerTarget (readS s b) branchTo s)) s

/-- `jalr` (R111); without a link it transfers as `jr` does (R113). -/
def execJalr (hd : Hdr) (a b : Reg5) (s : State) : Host.Outcome State Fault Refusal :=
  issue (useBranch hd (sName b) (sName a))
    (guarded hd (fun s => registerTarget (readS s b) (if a == 0 then branchTo else callTo a) s)) s

/-- `ret` (R111). -/
def execRet (hd : Hdr) (s : State) : Host.Outcome State Fault Refusal :=
  issue (useBranch hd [.s 31] []) (guarded hd (fun s => registerTarget (readS s 31) branchTo s)) s

/-- `loop` (R114, R115). -/
def execLoop (hd : Hdr) (b : Reg5) (l : BitVec 9) (s : State) : Host.Outcome State Fault Refusal :=
  issue (useBranch hd (sName b) []) (guarded hd (fun s => loopWord (readS s b) l.toNat s)) s

/-- `loopi` (R114, R115). -/
def execLoopi (hd : Hdr) (k : BitVec 10) (l : BitVec 9) (s : State) : Host.Outcome State Fault Refusal :=
  issue (useBranch hd [] []) (guarded hd (loopWord (k.setWidth 64) l.toNat)) s

end Sys2Proof.Machine
end

