-- ==== Sys2Proof/Machine/TileWords.lean ====
section
/-! DEFINITION. Tile words (R155 to R174): `tld` and `tst` of the M pipe, and the X pipe. -/

namespace Sys2Proof.Machine

/-! ### Checks of tiles -/

/-- Whether a tag cannot be used: no format, a reserved one, or SC with a format that has no scales (R40, R157). -/
def badTag (t : Byte) : Bool := tagFmt t == 0 || 10 < (tagFmt t).toNat || (tagSc t && !scalable (tagFmt t))

/-- The class 2 check of a tile that a word reads (R157). -/
def tileCheck (s : State) (r : Reg4) (field : Nat) : Option TrapInfo :=
  let t := (readT s r).tag
  if badTag t then some (tagTrap t r.toNat field) else none

/-- A class 4 trap (R68). -/
def sumTrap (detail : BitVec 6) (eaddr : Nat) (rows cols : List Nat) (tile : Nat) : TrapInfo :=
  cause 4 detail (BitVec.ofNat 64 eaddr) (sumInfo rows cols tile)

/-- An X word (R323): in supervisor mode the X pipe accepts none. -/
def xWord (u : Use) (f : State → State) (s : State) : Host.Outcome State Fault Refusal :=
  issue u (guarded u.hd (fun s => if s.seq.supervisor then raise (cause 12 0x06 0 0) s else f s)) s

/-- A word's checks, and then its effect. -/
def unlessCheck (c : State → Option TrapInfo) (f : State → State) (s : State) : State :=
  match c s with
  | some t => raise t s
  | none => f s

/-- Tiles, vectors and scalars that land when a drain-unit word completes, in the step of its issue (R155, R175). -/
def landTiles (ts : List (Reg4 × Tile)) (flags : Flags) (s : State) : State :=
  landNow { Pending.none .array with tiles := ts, coreFlags := flags } s

/-! ### Corrections -/

/-- A correction or repair is counted, and logged when CKCTL.LE is 1 (R59, R67).
(Log entry 32, DEDUCED) -/
def noteFix (kind : BitVec 3) (row col tile : Nat) (residual : W32) (s : State) : State :=
  onSeq (fun q =>
    let q := { q with ckcnt := q.ckcnt + 1 }
    if q.ckctl.getLsbD 2 then { q with cklog := cklogWord kind row col tile residual, cklog2 := residual } else q) s

/-- CKCTL.CE and CKCTL.TC (R16). -/
def correctEnabled (s : State) : Bool := s.seq.ckctl.getLsbD 0
/-- CKCTL.TC. -/
def trapOnCorrect (s : State) : Bool := s.seq.ckctl.getLsbD 1

/-- The physical row that stands for a logical row under a spare mapping (R341). -/
def physicalRow (rowmap : W64) (m : Nat) : Nat :=
  if rowmap.getLsbD 6 && rowmap.toNat % 64 == m then 64
  else if rowmap.getLsbD 14 && rowmap.toNat / 256 % 64 == m then 65
  else m

/-- One count of an error-map word: the 21-bit field at a position, saturating (R341).
(Log entry 32, DEDUCED) -/
def countErr (field index : Nat) (s : State) : State :=
  let bay := s.seq.bayId.toNat
  let x := (errmapWord s.fw bay index).toNat
  let n := x / 2 ^ (21 * field) % 2 ^ 21
  if n == 2 ^ 21 - 1 then s
  else onFw (fun f => setErrmap f bay index (BitVec.ofNat 64 (x + 2 ^ (21 * field)))) s

/-- A drain's event counted for its rows and columns (R74, R341): field 0 corrections, 1 repairs, 2 failures. A row repair
counts for the checksum column too, where the row's prediction is formed. -/
def countDrain (field : Nat) (rows cols : List Nat) (s : State) : State :=
  let s := rows.foldl (fun s m => countErr field (65 + physicalRow (rowmapOf s) m) s) s
  let s := cols.foldl (fun s n => countErr field n s) s
  if field == 1 && cols.isEmpty then countErr field 64 s else s

/-! ### Loads and stores of tiles -/

/-- Where a tile form finds its rows, trailer and scale block (R158). -/
structure TilePlace where
  base : Nat
  rows : List Nat
  trailer : Option Nat
  scale : Option Nat
  /-- Failures of alignment and of boundaries, in order. -/
  align : Option Failure
  deriving Repr

/-- Whether n bytes at an address cross a 2 MiB boundary. -/
def crosses (a n : Nat) : Bool := n != 0 && a / 0x200000 != (a + n - 1) / 0x200000

/-- The place of a contiguous tile (R56, R158). -/
def wholePlace (fmt : BitVec 4) (a : Nat) : TilePlace :=
  let d := dataBytes fmt
  { base := a, rows := (List.range 64).map (fun m => a + m * rowBytes fmt), trailer := some (a + d)
    scale := if scalable fmt then some (a + d + trailerBytes fmt) else none
    align := if a % 256 != 0 then some (failAt 5 0x08 a 0)
      else if crosses a (tileBytes fmt) then some (failAt 5 0x02 a 0) else none }

/-- The place of a strided tile (R158), from the base address and the stride register. -/
def stridedPlace (s : State) (fmt : BitVec 4) (b st : W64) : TilePlace :=
  let pitch : W64 := (st.setWidth 32).setWidth 64
  let sofs : W64 := (st.extractLsb' 32 32).signExtend 64
  let rows := (List.range 64).map (fun m => placeOf s (b + BitVec.ofNat 64 m * pitch))
  let base := placeOf s b
  let scale := if scalable fmt then some (placeOf s (b + sofs)) else none
  let rowFail := rows.zipIdx.findSome? (fun x => if crosses x.1 (rowBytes fmt) then some (failAt 5 0x02 x.1 x.2) else none)
  let scaleFail := scale.bind (fun a => if crosses a (scaleBytes fmt) then some (failAt 5 0x02 a 0x41) else none)
  { base := base, rows := rows, trailer := none, scale := scale
    align := if base % 64 != 0 || pitch == 0 || pitch.toNat % 64 != 0 then some (failAt 5 0x02 base 0)
      else rowFail.or scaleFail }

/-- The place a form addresses: contiguous without a stride register (R158). -/
def tilePlace (s : State) (fmt : BitVec 4) (b st : Reg5) : TilePlace :=
  if st == 0 then wholePlace fmt (placeOf s (readS s b)) else stridedPlace s fmt (readS s b) (readS s st)

/-- The parts of a tile access after its rows (R136): the trailer when it is read or written, then the scale block. -/
def TilePlace.tail (p : TilePlace) (fmt : BitVec 4) (withTrailer : Bool) : List Part :=
  (if withTrailer then (match p.trailer with
    | some a => [{ lane := 0x40, addr := a, len := trailerBytes fmt }]
    | none => []) else []) ++
  (match p.scale with
    | some a => [{ lane := 0x41, addr := a, len := scaleBytes fmt }]
    | none => [])

/-- The parts of a tile access (R136): rows, then the trailer when it is read or written, then the scale block.
(Log entry 31, DEDUCED) -/
def TilePlace.parts (p : TilePlace) (fmt : BitVec 4) (withTrailer : Bool) : List Part :=
  p.rows.zipIdx.map (fun x => ({ lane := x.2, addr := x.1, len := rowBytes fmt } : Part)) ++ p.tail fmt withTrailer

/-- A part before others, joined with the first of them where it touches it. -/
def joinPart (p : Part) (rest : List Part) : List Part :=
  match rest with
  | q :: more => if p.addr + p.len == q.addr then { p with len := p.len + q.len } :: more else p :: rest
  | [] => [p]

/-- The parts of row m of an ht tile that a load reads (R42): the blocks whose scale bytes are not 0x80. -/
def htRow (fmt : BitVec 4) (scales : List Byte) (m a : Nat) : List Part :=
  let n := rowBytes fmt / 8
  ((List.range 8).filter (fun b => scales.getD (8 * m + b) 0 != zeroBlock)).foldr
    (fun b rest => joinPart { lane := m, addr := a + n * b, len := n } rest) []

/-- The parts that a load of a tile reads (R42, R136), by the scale bytes in memory of an ht tile. -/
def TilePlace.loadParts (p : TilePlace) (fmt : BitVec 4) (withTrailer : Bool) (scales : List Byte) : List Part :=
  if fmt == 9 || fmt == 10 then
    (p.rows.zipIdx.map (fun x => htRow fmt scales x.2 x.1)).flatten ++ p.tail fmt withTrailer
  else p.parts fmt withTrailer

/-- The 64-byte HBM accesses of the parts of a tile load: parts of one row share the line in which they meet (R295). -/
def tileLines : Option (Nat × Nat) → List Part → Nat
  | _, [] => 0
  | last, p :: rest =>
    match rowOf p.addr with
    | some (.extent, _) =>
      let g := granulesOf p.addr p.len
      g.length - (if last.isSome && last == g.head?.map (fun x => (p.lane, x)) then 1 else 0) +
        tileLines (g.getLast?.map (fun x => (p.lane, x))) rest
    | _ => tileLines none rest

/-- A tile access. -/
def TilePlace.access (p : TilePlace) (kind : AccessKind) (fmt : BitVec 4) (withTrailer : Bool) : CoreAccess :=
  { kind := kind, narrow := false, fn := 0, parts := p.parts fmt withTrailer, align := p.align }

/-- A loaded tile: data, fresh sums and scales, CV 1, NACC 0, the old mark kept (R159); as the destination of `tcvt` or `tdrq` too,
its column words from 64 P on are zero.
(Log entry 128, DESIGN CHOICE) -/
def loadedTile (fmt : BitVec 4) (data : BitVec 131072) (scales : BitVec 8192) (sums : Sums) (old : Tile) : Tile :=
  { data := data, rowSum := ofWords 2048 sums.rows, colSum := colRow sums.cols
    scales := if scalable fmt then scales else 0, tag := mkTag fmt (scalable fmt) true, status := setNacc old.status 0 }

/-- The outcome of a checked load (R59): loaded, loaded with a repair, or a trap. -/
def checkedLoad (d : Reg4) (base : Nat) (fmt : BitVec 4) (m : MemTile) (t : Tile) (v : Verdict) (s : State) : State :=
  let land := landNow { Pending.none .memory with tiles := [(d, t)], pregs := [(15, 0)] }
  let trap := fun (detail : BitVec 6) => sumTrap detail base v.rows v.cols d.toNat
  let repair := fun (kind : BitVec 3) (row col : Nat) (act stored : W32) =>
    if correctEnabled s then
      let s := noteFix kind row col d.toNat (residualOf (isIntFmt fmt) act stored) (land s)
      if trapOnCorrect s then raiseAfter (trap 0x04) s else s
    else raise (trap 0x03) s
  match v.rows, v.cols with
  | [], [] => land s
  | [r], [] => repair 2 r 0 (v.fresh.rows.getD r 0) (m.rows.getD r 0)
  | [], [c] => repair 3 0 (c / packOf fmt) (v.fresh.cols.getD c 0) (m.cols.getD c 0)
  | _, _ => raise (trap 0x08) s

/-- The data of a tile load, taken when every page is resident (R159).
(Log entry 31, DEDUCED) -/
def loadTile (chk : Bool) (d : Reg4) (fmt : BitVec 4) (p : TilePlace) (s : State) : State :=
  let bytes := fun (a n : Nat) => readMem s.mem (coreWho s) a n
  let scaleAt := p.scale.getD 0
  let m := parseTile fmt (p.rows.map (fun a => bytes a (rowBytes fmt)))
    (match p.trailer with
      | some a => if chk then bytes a (trailerBytes fmt) else []
      | none => [])
    (match p.scale with
      | some a => bytes a (scaleBytes fmt)
      | none => [])
  match m.badScale with
  | some i => raise { tagTrap 0xFF d.toNat 0 with eaddr := BitVec.ofNat 64 (scaleAt + i) } s
  | none =>
    let vals := tileValues fmt (scalable fmt) m.data m.scales
    if chk then
      let v := verifySums fmt vals { rows := m.rows, cols := m.cols }
      checkedLoad d p.base fmt m (loadedTile fmt m.data m.scales v.fresh (readT s d)) v s
    else
      landNow { Pending.none .memory with
        tiles := [(d, loadedTile fmt m.data m.scales (formSums fmt vals) (readT s d))], pregs := [(15, 0)] } s

/-- `tld` (R158, R159). A row whose only pages that are not resident hold blocks of 0x80 sets no lane of `p15`.
(Log entries 31 DEDUCED, 111 DEDUCED) -/
def tldWord (chk : Bool) (hd : Hdr) (d : Reg4) (b st : Reg5) (f : BitVec 4) (s : State) : Host.Outcome State Fault Refusal :=
  issue (useTld hd d b st) (guarded hd (fun s =>
    let p := tilePlace s f b st
    let scales := match p.scale with
      | some a => readMem s.mem (coreWho s) a (scaleBytes f)
      | none => []
    let acc := { p.access .load f chk with parts := p.loadParts f chk scales }
    checkedAccess (packWord hd 0x29 (packTM d b st f (if chk then 0 else 1))) noPre true (fun _ => acc)
      (metered 0 (tileLines none acc.parts) (fun s =>
        let m := absentMask acc.parts (fun q => if q.lane < 64 then 1 <<< q.lane else BitVec.allOnes 64) s
        if m.1 == 0 then loadTile chk d f p m.2
        else landNow { Pending.none .memory with pregs := [(15, m.1)] } m.2)) s)) s

/-- The checks of `tst` before memory's (R160). -/
def tstCheck (chk : Bool) (d : Reg4) (f : BitVec 4) (s : State) : Option TrapInfo :=
  let t := readT s d
  if badTag t.tag || tagFmt t.tag != f then some (tagTrap t.tag d.toNat 0)
  else if chk && !tagCv t.tag then some (sumTrap 0x09 0 [] [] d.toNat)
  else none

/-- The stores of a tile's image: its rows, trailer and scale block (R56, R160). -/
def tileStores (chk : Bool) (f : BitVec 4) (p : TilePlace) (t : Tile) : List (Nat × List Byte) :=
  let sums := if chk then heldSums t else formSums f t.values
  p.rows.zip (memRows f (tagSc t.tag) t.data t.scales) ++
    (match p.trailer with
      | some a => [(a, memTrailer sums)]
      | none => []) ++
    (match p.scale with
      | some a => [(a, memScales f (tagSc t.tag) t.scales)]
      | none => [])

/-- Stores that follow one another in memory joined. -/
def joinStores (stores : List (Nat × List Byte)) : List (Nat × List Byte) :=
  stores.foldr (fun x rest => match rest with
    | y :: more => if x.1 + x.2.length == y.1 then (x.1, x.2 ++ y.2) :: more else x :: rest
    | [] => [x]) []

/-- A tile's stores as they leave: into a transmit window as its data divided at every 256-byte boundary (R240), anywhere else
as they are. -/
def windowPieces (stores : List (Nat × List Byte)) : List (Nat × List Byte) :=
  if (windowStores stores).isEmpty then stores
  else ((joinStores stores).map (fun x =>
    (cutsFrom 256 (x.2.length / 256 + 2) x.1 x.2.length).map (fun p => (p.1, bytesAt x.2 (p.1 - x.1) p.2)))).flatten

/-- `tst` (R158, R160). -/
def tstWord (chk : Bool) (hd : Hdr) (d : Reg4) (b st : Reg5) (f : BitVec 4) (s : State) : Host.Outcome State Fault Refusal :=
  issue (useTst hd d b st) (guarded hd (fun s =>
    let p := tilePlace s f b st
    let acc := p.access .store f true
    checkedAccess (packWord hd 0x2A (packTM d b st f (if chk then 0 else 1))) (tstCheck chk d f) true (fun _ => acc)
      (performStores acc.parts (windowPieces (tileStores chk f p (readT s d)))) s)) s

/-- `tld .chk` (R159). -/
def execTldChk (hd : Hdr) (d : Reg4) (b : Reg5) (f : BitVec 4) (s : State) : Host.Outcome State Fault Refusal :=
  tldWord true hd d b 0 f s

/-- `tld .gen` (R159). -/
def execTldGen (hd : Hdr) (d : Reg4) (b st : Reg5) (f : BitVec 4) (s : State) : Host.Outcome State Fault Refusal :=
  tldWord false hd d b st f s

/-- `tst .chk` (R160). -/
def execTstChk (hd : Hdr) (d : Reg4) (b : Reg5) (f : BitVec 4) (s : State) : Host.Outcome State Fault Refusal :=
  tstWord true hd d b 0 f s

/-- `tst .gen` (R160). -/
def execTstGen (hd : Hdr) (d : Reg4) (b st : Reg5) (f : BitVec 4) (s : State) : Host.Outcome State Fault Refusal :=
  tstWord false hd d b st f s

/-! ### The stationary planes -/

/-- An X word accepted by the array or the plane load path: it starts at once when its resource is free (R156). -/
def pendX (p : Pending) (s : State) : State :=
  let p := { p with kind := .array }
  pend { p with started := resourceFree s.seq.sb p } s

/-- The plane that `tlds` loads from a tile (R61). -/
def planeOf (t : Tile) : Plane :=
  { data := t.data, csw := t.colSum, acsw := colRow (formMags (tagFmt t.tag) t.values).cols, scales := t.scales, tag := t.tag }

/-- `tlds` (R61, R161): W′ as every later X word sees it, the source read until the plane is loaded.
(Log entry 13, DEDUCED) -/
def execTlds (hd : Hdr) (a : Reg4) (s : State) : Host.Outcome State Fault Refusal :=
  xWord (useX hd [.t a] []) (unlessCheck (fun s => (tileCheck s a 1).or
      (if tagCv (readT s a).tag then none else some (sumTrap 0x09 0 [] [] a.toNat)))
    (fun s => pendX { Pending.none .array with reads := [a] }
      (onSeq (fun q => { q with w' := planeOf (readT s a) }) s))) s

/-- `tswap` (R161).
(Log entry 13, DEDUCED) -/
def execTswap (hd : Hdr) (s : State) : Host.Outcome State Fault Refusal :=
  xWord (useX hd [] []) (fun s => pendX (Pending.none .array) (onSeq (fun q => { q with w := q.w', w' := q.w }) s)) s

/-! ### Matrix multiply -/

/-- The row of R50 that a format belongs to: bf16, 8-bit float, integer, e2m1; none for another. -/
def arrayRow (fmt : BitVec 4) : Option Nat :=
  match fmt.toNat with
  | 2 => some 0
  | 6 | 7 | 9 | 10 => some 1
  | 4 | 5 => some 2
  | 8 => some 3
  | _ => none

/-- A tile as left by the `mma` words before it (R155). -/
def tileBehind (s : State) (r : Reg4) : Tile :=
  match s.seq.sb.reverse.findSome? (fun p => p.tiles.find? (·.1 == r)) with
  | some x => x.2
  | none => readT s r

/-- The options of an `mma` (R162). -/
structure MmaOpts where
  acc : Bool
  sat : Bool
  sb : Bool
  sa : Bool
  tr : Bool
  deriving Repr

/-- The options from their bits. -/
def mmaOpts (e sat w v t : BitVec 1) : MmaOpts := { acc := e == 1, sat := sat == 1, sb := w == 1, sa := v == 1, tr := t == 1 }

/-- Checks 2 and 3 of R162: the feed's tag and number, and whether the feed is a tile with CV 0.
(Log entry 26, DEDUCED) -/
def mmaCheck (o : MmaOpts) (d : Reg4) (feed : Byte) (reg : Nat) (feedCv : Bool) (s : State) : Option TrapInfo :=
  let f := tagFmt feed
  let w := s.seq.w.tag
  let td := tileBehind s d
  let int := isIntFmt f
  let feedTrap := some (tagTrap feed reg 1)
  let planeTrap := some (tagTrap w 0 3)
  if (arrayRow f).isNone || badTag feed then feedTrap
  else if (arrayRow (tagFmt w)).isNone || badTag w then planeTrap
  else if arrayRow f != arrayRow (tagFmt w) then planeTrap
  else if o.sa != (f == 4) || (o.sat && !int) then feedTrap
  else if o.sb != (tagFmt w == 4) then planeTrap
  else if o.acc && (badTag td.tag || tagFmt td.tag != (if int then 3 else 1)) then some (tagTrap td.tag d.toNat 0)
  else if !feedCv then some (sumTrap 0x09 0 [] [] reg)
  else if !tagCv w then some (sumTrap 0x09 0 [] [] 0)
  else if o.acc && td.nacc == 0 && !tagCv td.tag then some (sumTrap 0x09 0 [] [] d.toNat)
  else none

/-- The shift of each row of a feed, when the row's blocks have one shift (R164). -/
def rowShift (fmt : BitVec 4) (t : Tile) (m : Nat) : Option Byte :=
  if !tagSc t.tag then some 0
  else
    let row := (scaleRow t.scales m).take (2 * packOf fmt)
    match row with
    | x :: xs => if xs.all (· == x) then some x else none
    | [] => some 0

/-- Check 5 of R162: the shifts of a transposed feed, then its sums. `tile` is the tile register reported. The tag found is the
feed's own, that of the loaded element on a streamed feed.
(Log entry 26, DEDUCED) -/
def transposeCheck (feed : Tile) (reg tile : Nat) : Option TrapInfo :=
  let f := tagFmt feed.tag
  if !(List.range 64).all (fun m => (rowShift f feed m).isSome) then some (tagTrap feed.tag reg 1)
  else
    let v := verifySums f feed.values (heldSums feed)
    if v.rows.isEmpty && v.cols.isEmpty then none else some (sumTrap 0x0B 0 v.rows v.cols tile)

/-- A feed read slot-transposed (R164). -/
def transposed (t : Tile) : Operand :=
  let f := tagFmt t.tag
  let slot := fun (k m : Nat) => lane (rowBits t.data k) m
  let shift := fun (k : Nat) => (rowShift f t k).getD 0
  let rows := (List.range 64).map (fun m => (List.range 64).map (fun k => (slot k m, shift k)))
  { fmt := f, rows := rows
    vals := rows.map (fun r => (r.map (fun x =>
      if x.2 == zeroBlock then List.replicate (packOf f) (Num.fin false 0 0)
      else (slotElems f x.1).map (Num.scale (shiftOf x.2)))).flatten) }

/-- The accumulator as an accumulating `mma` finds it (R163): magnitudes formed when NACC is 0. -/
def heldFor (int : Bool) (t : Tile) : Tile :=
  if t.nacc != 0 || int then t
  else
    let m := formMags 1 t.values
    { t with colSum := accRow (colWords t 0 64) m.cols m.rows (colMask t 192) (colMask t 194) 0 0 }

/-- The accumulator that an `mma` leaves, and its flags (R51 to R53, R62, R63, R163). -/
def mmaResult (o : MmaOpts) (d : Reg4) (feed : Tile) (s : State) : Tile × Flags :=
  let f := tagFmt feed.tag
  let int := isIntFmt f
  let n := 64 * packOf f
  let a := if o.tr then transposed feed else operandOf feed.tag feed.data feed.scales
  let w := operandOf s.seq.w.tag s.seq.w.data s.seq.w.scales
  let csa := if o.tr then (formSums f a.vals).cols else colWords feed 0 n
  let words := fun (x : BitVec 16384) => (List.range n).map (lane x)
  let td := tileBehind s d
  let held := if o.acc then some (heldFor int td) else none
  let p := arrayProduct o.sat (held.map accRows) a w
  (accumulate held td.status int p (predict int a.vals w.vals csa (words s.seq.w.csw) (words s.seq.w.acsw) n), p.flags)

/-- An `mma` enters the array (R163): its accumulator pends. -/
def mmaEnter (o : MmaOpts) (d : Reg4) (reads : List Reg4) (feed : Tile) (s : State) : State :=
  let r := mmaResult o d feed s
  pendX { Pending.none .array with tiles := [(d, r.1)], reads := reads, coreFlags := r.2 } s

/-- `mma` (R162 to R164). -/
def execMma (hd : Hdr) (d a : Reg4) (e sat w v t : BitVec 1) (s : State) : Host.Outcome State Fault Refusal :=
  let o := mmaOpts e sat w v t
  xWord (useMma hd d [.t a] e) (fun s =>
    let feed := readT s a
    unlessCheck (fun s => (mmaCheck o d feed.tag a.toNat (tagCv feed.tag) s).or
        (if o.tr then transposeCheck feed a.toNat a.toNat else none))
      (mmaEnter o d [a] feed) s) s

/-- A class 8 trap of a streamed feed, with the descriptor and the slot (R202); the three stream details come from the pipe
partner (R26).
(Log entry 26, DEDUCED) -/
def feedTrap (detail : BitVec 6) (desc : W64) (slot : BitVec 4) : TrapInfo :=
  { cause 8 detail desc (slot.setWidth 64) with source := if 6 ≤ detail.toNat && detail.toNat ≤ 8 then 4 else 0 }

/-- The element's release after a streamed feed's verification, as `cbtake` (R165, R181); a trap leaves the buffer as it
was. -/
def takeElement (desc : Nat) (c : CbDesc) (f : State → State) (s : State) : State :=
  let r := relGranules s.mem s.agent none (cbGranules c c.ccnt 1)
  match r.2 with
  | some race => fail { (failAt 7 race.detail race.addr 0) with race := some race.info } s
  | none => onMem (fun m => cbAddC { r.1 with spad := m.spad } desc 1) (f s)

/-- What keeps a streamed feed's element from being read: its place (R56), or an uncorrectable error in what the load reads of
it (R41, R42, R334). -/
def elementFailure (s : State) (fmt : BitVec 4) (a : Nat) : Option Failure :=
  let p := wholePlace fmt a
  let scales := match p.scale with
    | some x => memRead s.mem.spad x (scaleBytes fmt)
    | none => []
  if a % 256 != 0 then some (failAt 5 0x08 a 0)
  else (p.loadParts fmt true scales).findSome? (fun q => (s.mem.badByte q.addr q.len).map (fun x => failAt 5 0x09 x 0))

/-- A streamed feed's element, verified (R162 checks 4 and 5, R165). TILE of a failed verification is 0, as for the copy
engine: the element is in no tile register.
(Log entry 112, DESIGN CHOICE) -/
def streamFeed (o : MmaOpts) (d : Reg4) (k : BitVec 4) (fmt : BitVec 4) (desc : W64) (c : CbDesc) (s : State) : State :=
  let a := c.elem c.ccnt
  let bs := memRead s.mem.spad a (tileBytes fmt)
  let m := tileOf fmt bs
  match elementFailure s fmt a, m.badScale with
  | some f, _ => fail f s
  | none, some i => raise { tagTrap 0xFF k.toNat 1 with
      eaddr := BitVec.ofNat 64 (a + dataBytes fmt + trailerBytes fmt + i) } s
  | none, none =>
    let v := verifySums fmt (m.values fmt) { rows := m.rows, cols := m.cols }
    if !(v.rows.isEmpty && v.cols.isEmpty) then raise (sumTrap 0x08 a v.rows v.cols 0) s
    else
      let feed := loadedTile fmt m.data m.scales v.fresh Tile.zero
      match (if o.tr then transposeCheck feed k.toNat 0 else none) with
      | some t => raise t s
      | none => takeElement desc.toNat c (mmaEnter o d [] feed) s

/-- What the descriptor of a streamed feed's buffer says: its checks and its wait (R162 check 4, R165). -/
def streamBuffer (o : MmaOpts) (d : Reg4) (k : BitVec 4) (fmt : BitVec 4) (slot : CbSlot) (s : State) : State :=
  let c := cbRead s.mem slot.desc.toNat
  if c.esize != tileBytes fmt then raise (feedTrap 0x05 slot.desc k) s
  else if c.state == 3 then raise (feedTrap 0x07 slot.desc k) s
  else if 4 ≤ c.state then raise (feedTrap 0x08 slot.desc k) s
  else if c.avail == 0 then
    if c.state == 0 then stallOn (.buffer k) s else raise (feedTrap 0x06 slot.desc k) s
  else streamFeed o d k fmt slot.desc c s

/-- The slot's checks of a streamed feed, and its descriptor read (R162 check 4, R165, R334). -/
def streamTake (o : MmaOpts) (d : Reg4) (k : BitVec 4) (fmt : BitVec 4) (s : State) : State :=
  let slot := s.seq.slots.get k.toFin
  if !slot.bound then raise (feedTrap 0x01 0 k) s
  else if slot.producer || slot.engine then raise (feedTrap 0x09 slot.desc k) s
  else unlessBad slot.desc.toNat 64 (streamBuffer o d k fmt slot) s

/-- `mma.cb` (R162 to R165). A VTAG with SC set is reported in field 0 before the format's own check, which names field 1.
(Log entry 93, DESIGN CHOICE) -/
def execMmaCb (hd : Hdr) (d : Reg4) (k : BitVec 4) (e sat w v t : BitVec 1) (s : State) : Host.Outcome State Fault Refusal :=
  let o := mmaOpts e sat w v t
  xWord (useMma hd d [] e) (fun s =>
    let vt := s.seq.vtag
    let fmt := tagFmt vt
    let word := packWord hd 0x2C (packT d k 0 (0b10#2 ++ e ++ sat ++ w ++ v ++ t))
    if 10 < fmt.toNat then raise (vtagTrap word s) s
    else if tagSc vt then raise (tagTrap vt d.toNat 0) s
    else unlessCheck (mmaCheck o d vt k.toNat true) (streamTake o d k fmt) s) s

/-! ### Drains and checks -/

/-- What `tchk` finds, if anything is flagged (R166). -/
def checkTile (t : Tile) (tile : Nat) : Option TrapInfo :=
  let r := if t.nacc == 0 then
      let v := verifySums (tagFmt t.tag) t.values (heldSums t)
      (v.rows, v.cols)
    else
      let v := drainView t
      (indicesOf .flagged v.rows, indicesOf .flagged v.cols)
  if r.1.isEmpty && r.2.isEmpty then none else some (sumTrap 0x0B 0 r.1 r.2 tile)

/-- A drain of tile r (R64 to R67, R74, R166), and then `after` unless it traps; `quits` marks the `tdrq`, which a trap after
a correction ends before its requantisation. -/
def drain (quits : Bool) (r : Reg4) (after : State → State) (s : State) : State :=
  let t := readT s r
  if t.nacc == 0 then
    match checkTile t r.toNat with
    | some x => raise x s
    | none => after s
  else
    match drainTile (correctEnabled s) t with
    | .trap detail rows cols =>
      raise (sumTrap detail 0 rows cols r.toNat) (if detail == 1 then countDrain 2 rows cols s else s)
    | .done tile fix rows cols =>
      let s := landTiles [(r, tile)] 0 s
      match fix with
      | none => after s
      | some (kind, row, col, residual) =>
        let s := countDrain (if kind == 1 then 0 else 1) rows cols (noteFix kind row col r.toNat residual s)
        let t := sumTrap 0x04 0 rows cols r.toNat
        if trapOnCorrect s then (if quits then raise t s else raiseAfter t (after s)) else after s

/-- `tdrain` (R166). -/
def execTdrain (hd : Hdr) (d : Reg4) (s : State) : Host.Outcome State Fault Refusal :=
  xWord (useX hd [.t d] [.t d]) (unlessCheck (fun s => tileCheck s d 0) (drain false d id)) s

/-- `tchk` (R166). -/
def execTchk (hd : Hdr) (a : Reg4) (s : State) : Host.Outcome State Fault Refusal :=
  xWord (useX hd [.t a] []) (unlessCheck (fun s => (tileCheck s a 1).or (checkTile (readT s a) a.toNat)) id) s

/-- The requantised value of an accumulator element (R167). -/
def requantise (u8 bias : Bool) (x : W32) (mul shift add zero : W32) : Byte :=
  let v := x.toInt + (if bias then add.toInt else 0)
  let sh := shift.toNat % 32
  let y := (v * mul.toInt + 2 ^ (30 + sh)) / 2 ^ (31 + sh)
  let z := y + zero.toInt
  BitVec.ofInt 8 (if u8 then max 0 (min 255 z) else max (-128) (min 127 z))

/-- The tile that `tdrq` forms from drained accumulator rows (R167). -/
def requantTile (fmt : BitVec 4) (bias : Bool) (rows : List (List W32)) (p : Nat → Nat → W32) (old : Tile) : Tile :=
  let out := fun (r : List W32) (n : Nat) => requantise (fmt == 5) bias (r.getD n 0) (p 0 n) (p 1 n) (p 2 n) (p 3 n)
  let slot := fun (r : List W32) (k : Nat) =>
    if k < 16 then out r (4 * k + 3) ++ out r (4 * k + 2) ++ out r (4 * k + 1) ++ out r (4 * k) else (0 : W32)
  let data := dataOfRows (rows.map (fun r => ofWords 2048 ((List.range 64).map (slot r))))
  loadedTile fmt data 0 (formSums fmt (tileValues fmt false data 0)) old

/-- The vector parameters of `tdrq` must be integers (R167). -/
def paramCheck (v : Reg5) (s : State) : Option TrapInfo :=
  (List.range 4).findSome? (fun i =>
    let r := v + BitVec.ofNat 5 i
    let t := (readV s r).tag
    if tagFmt t == 3 || tagFmt t == 0 then none else some (tagTrap t r.toNat 2))

/-- `tdrq` (R167). -/
def execTdrq (hd : Hdr) (d a : Reg4) (v : Reg5) (f : BitVec 4) (e : BitVec 1) (s : State) : Host.Outcome State Fault Refusal :=
  xWord (useX hd [.t a, .v v, .v (v + 1), .v (v + 2), .v (v + 3)] [.t d, .t a])
    (unlessCheck (fun s => (if tagFmt (readT s a).tag == 3 && !badTag (readT s a).tag then none
        else some (tagTrap (readT s a).tag a.toNat 1)).or (paramCheck v s))
      (drain true a (fun s =>
        landTiles [(d, requantTile f (e == 1) (accRows (readT s a))
          (fun i n => lane (readV s (v + BitVec.ofNat 5 i)).data n) (readT s d))] 0 s))) s

/-! ### Other tile operations -/

/-- `tzero` (R168). -/
def execTzero (hd : Hdr) (d f : Reg4) (s : State) : Host.Outcome State Fault Refusal :=
  xWord (useX hd [] [.t d]) (fun s => landTiles [(d, zeroTile f (readT s d))] 0 s) s

/-- A status word with the mark of the packet and loop state (R12, R73). -/
def markStatus (st : BitVec 256) (pc : BitVec 40) (loops : List LoopEntry) : BitVec 256 :=
  let st := setBits st 16 48 (1 + loops.length % 8 * 2 ^ 4 + pc.toNat * 2 ^ 8)
  setBits st 64 192 ((loops.take 6).zipIdx.foldl (fun n x => n + x.1.remain.toNat * 2 ^ (32 * x.2)) 0)

/-- `tmark` (R73, R168). -/
def execTmark (hd : Hdr) (d : Reg4) (s : State) : Host.Outcome State Fault Refusal :=
  xWord (useX hd [] [.t d]) (fun s =>
    let t := readT s d
    landTiles [(d, { t with status := markStatus t.status s.seq.pc s.seq.loops })] 0 s) s

/-- EMAX of a scaled target (R169). -/
def targetEmax (fmt : BitVec 4) : Int :=
  match fmt.toNat with
  | 6 => 8
  | 7 => 15
  | 8 => 2
  | 9 => 12
  | _ => 8

/-- Whether a value is a zero of either sign. -/
def isZeroNum : Num → Bool
  | .fin _ m _ => m == 0
  | _ => false

/-- ⌊log2⌋ of the largest finite magnitude of a block, none when there is no non-zero finite element (R169). -/
def blockTop (xs : List Num) : Option Int :=
  xs.foldl (fun b x => match x with
    | .fin _ m e => if m == 0 then b else (match b with
      | some t => some (max t (topBit m e))
      | none => some (topBit m e))
    | _ => b) none

/-- The shift by which a block that is not all zero is scaled (R169). -/
def blockShift (fmt : BitVec 4) (xs : List Num) : Byte :=
  match blockTop xs with
  | none => 0
  | some t => BitVec.ofInt 8 (max (-127) (min 127 (t - targetEmax fmt)))

/-- A converted block: its elements' bits and flags, and its shift, which is -128 when every result element is a zero
(R43, R169).
(Log entry 97, DEDUCED) -/
def convertBlock (fmt : BitVec 4) (rz : Bool) (xs : List Num) : List (Res W32) × Byte :=
  if !scalable fmt then (xs.map (convertTo fmt rz), 0)
  else
    let sh := blockShift fmt xs
    let es := xs.map (fun x => convertTo fmt rz (x.scale (-(shiftOf sh))))
    (es, if es.all (fun e => isZeroNum (elemValue fmt e.val 0)) then zeroBlock else sh)

/-- A converted row (R169): its slots, its scale bytes and its flags. -/
def convertRow (fmt : BitVec 4) (rz : Bool) (vals : List Num) : BitVec 2048 × List Byte × Flags :=
  let p := packOf fmt
  let n := 64 * p
  let vs := vals.take n ++ List.replicate (n - vals.length) (Num.fin false 0 0)
  let blocks := (List.range (2 * p)).map (fun b => convertBlock fmt rz ((vs.drop (32 * b)).take 32))
  let es := (blocks.map (·.1)).flatten
  let slots := (List.range 64).map (fun k => (List.range p).foldl (fun w j =>
    match (es.drop (p * k + j)).head? with
    | some r => w ||| (BitVec.ofNat 32 (r.val.toNat % 2 ^ elemBits fmt) <<< (elemBits fmt * j))
    | none => w) (0 : W32))
  (ofWords 2048 slots, if scalable fmt then blocks.map (·.2) else [], es.foldl (fun f r => f ||| r.flags) 0)

/-- The converted tile and its flags (R169). -/
def convertTile (fmt : BitVec 4) (rz : Bool) (t : Tile) (old : Tile) : Tile × Flags :=
  let keep := 64 * min (packOf (tagFmt t.tag)) (packOf fmt)
  let rows := t.values.map (fun r => convertRow fmt rz (r.take keep))
  let data := dataOfRows (rows.map (·.1))
  let scales := if scalable fmt then scalesOfRows (rows.map (fun r => r.2.1 ++ zeroBytes (16 - r.2.1.length))) else 0
  (loadedTile fmt data scales (formSums fmt (tileValues fmt (scalable fmt) data scales)) old,
    rows.foldl (fun f r => f ||| r.2.2) 0)

/-- The conversion of `tcvt` in its two lanes, and what it lands (R70, R169): when the lanes disagree it traps and TD stays
unwritten. EINFO's TILE names the source.
(Log entries 95 DESIGN CHOICE, 112 DESIGN CHOICE) -/
def convertAct (d a f : Reg4) (rz : Bool) (s : State) : State :=
  if s.seq.lanesDiffer then
    raise (sumTrap 0x0A 0 [] [] a.toNat) (onSeq (fun q => { q with lanesDiffer := false }) s)
  else
    let r := convertTile f rz (readT s a) (readT s d)
    landTiles [(d, r.1)] r.2 s

/-- `tcvt` (R169). -/
def execTcvt (hd : Hdr) (d a f : Reg4) (z : BitVec 1) (s : State) : Host.Outcome State Fault Refusal :=
  xWord (useX hd [.t a] [.t d]) (unlessCheck (fun s =>
      let t := readT s a
      let v := verifySums (tagFmt t.tag) t.values (heldSums t)
      (tileCheck s a 1).or
        (if !tagCv t.tag then some (sumTrap 0x09 0 [] [] a.toNat)
         else if v.rows.isEmpty && v.cols.isEmpty then none
         else some (sumTrap 0x0B 0 v.rows v.cols a.toNat)))
    (convertAct d a f (z == 1))) s

/-- The status of a copy: the source's NACC, the destination's mark (R168, R170). -/
def copiedStatus (src old : Tile) : BitVec 256 := setNacc old.status src.nacc

/-- The column-sum row of a transpose (R170); with NACC 0, column words 64 to 511 are the source's.
(Log entry 129, DESIGN CHOICE) -/
def transposedSums (t : Tile) : BitVec 16384 :=
  let w := fun (lo n : Nat) => colWords t lo n
  let rest := if t.nacc == 0 then w 64 136
    else w 128 64 ++ w 64 64 ++ w 194 2 ++ w 192 2 ++ w 198 2 ++ w 196 2
  ofWords 16384 ((List.range 64).map (lane t.rowSum) ++ rest ++ w 200 312)

/-- `ttr` (R170). -/
def execTtr (hd : Hdr) (d a : Reg4) (s : State) : Host.Outcome State Fault Refusal :=
  xWord (useX hd [.t a] [.t d]) (unlessCheck (fun s =>
      let t := (readT s a).tag
      if badTag t || !(tagFmt t == 1 || tagFmt t == 3) then some (tagTrap t a.toNat 1) else none)
    (fun s =>
      let t := readT s a
      let data := dataOfRows ((List.range 64).map (fun j => vecOf (fun m => lane (rowBits t.data m) j)))
      landTiles [(d, { t with data := data, rowSum := ofWords 2048 (colWords t 0 64), colSum := transposedSums t,
                              status := copiedStatus t (readT s d) })] 0 s)) s

/-- `tmov` (R168). -/
def execTmov (hd : Hdr) (d a : Reg4) (s : State) : Host.Outcome State Fault Refusal :=
  xWord (useX hd [.t a] [.t d]) (unlessCheck (fun s => tileCheck s a 1)
    (fun s => landTiles [(d, { readT s a with status := copiedStatus (readT s a) (readT s d) })] 0 s)) s

/-- The checks of `tadd` (R171). -/
def taddCheck (a b : Reg4) (s : State) : Option TrapInfo :=
  let x := readT s a
  let y := readT s b
  let ok := fun (t : Tile) => (tagFmt t.tag == 1 || tagFmt t.tag == 3) && !badTag t.tag && t.nacc != 0
  if !ok x then some (tagTrap x.tag a.toNat 1)
  else if !ok y || tagFmt y.tag != tagFmt x.tag then some (tagTrap y.tag b.toNat 2)
  else none

/-- The sum of two accumulators and its flags (R70, R171). -/
def tileSum (x y old : Tile) : Tile × Flags :=
  let int := isIntFmt (tagFmt x.tag)
  let el := fun (m i : Nat) => if int then ({ val := lane (rowBits x.data m) i + lane (rowBits y.data m) i, flags := 0 } : Res W32)
    else addF32 (lane (rowBits x.data m) i) (lane (rowBits y.data m) i)
  let rows := (List.range 64).map (fun m => (List.range 64).map (el m))
  let comb := fun (lo : Nat) => List.zipWith (combineWord int) (colWords x lo 64) (colWords y lo 64)
  ({ data := dataOfRows (rows.map (fun r => ofWords 2048 (r.map (·.val))))
     rowSum := vecOf (fun m => combineWord int (lane x.rowSum m) (lane y.rowSum m))
     colSum := accRow (comb 0) (comb 64) (comb 128) (colMask x 192 ||| colMask y 192) (colMask x 194 ||| colMask y 194) 0 0
     scales := 0, tag := mkTag (tagFmt x.tag) false false
     status := setNacc old.status (min 0xFFFF (x.nacc + y.nacc)) },
    rows.foldl (fun f r => r.foldl (fun f e => f ||| e.flags) f) 0)

/-- `tadd` (R171). -/
def execTadd (hd : Hdr) (d a b : Reg4) (s : State) : Host.Outcome State Fault Refusal :=
  xWord (useX hd [.t a, .t b] [.t d]) (unlessCheck (taddCheck a b) (fun s =>
    let r := tileSum (readT s a) (readT s b) (readT s d)
    landTiles [(d, r.1)] r.2 s)) s

/-! ### Rows, sums and status -/

/-- A vector register that a TVEC word lands. -/
def landVec (x : Reg5) (data : BitVec 2048) (tag : Byte) (s : State) : State :=
  landNow { Pending.none .array with vregs := [(x, { data := data, tag := tag })] } s

/-- `trget` (R172). -/
def execTrget (hd : Hdr) (t : Reg4) (x y : Reg5) (s : State) : Host.Outcome State Fault Refusal :=
  xWord (useX hd (.t t :: sName y) [.v x]) (unlessCheck (fun s => tileCheck s t 0) (fun s =>
    landVec x (rowBits (readT s t).data ((readS s y).toNat % 64)) (mkTag (tagFmt (readT s t).tag) false false) s)) s

/-- `trset` (R172). -/
def execTrset (hd : Hdr) (t : Reg4) (x y : Reg5) (s : State) : Host.Outcome State Fault Refusal :=
  xWord (useX hd (.v x :: sName y) [.t t]) (unlessCheck (fun s => (tileCheck s t 0).or
      (if tagFmt (readV s x).tag == tagFmt (readT s t).tag then none else some (tagTrap (readV s x).tag x.toNat 1)))
    (fun s =>
      let old := readT s t
      let data := setBits old.data (2048 * ((readS s y).toNat % 64)) 2048 (readV s x).data.toNat
      landTiles [(t, { old with data := data, tag := mkTag (tagFmt old.tag) (tagSc old.tag) false,
                                status := setNacc old.status 0 })] 0 s)) s

/-- The tag of sums read into a vector register (R172). -/
def sumTag (t : Byte) : Byte := mkTag (if isIntFmt (tagFmt t) then 3 else 1) false false

/-- `tcsum` (R172). -/
def execTcsum (hd : Hdr) (t : Reg4) (x y : Reg5) (s : State) : Host.Outcome State Fault Refusal :=
  xWord (useX hd (.t t :: sName y) [.v x]) (unlessCheck (fun s => tileCheck s t 0) (fun s =>
    landVec x ((readT s t).colSum.extractLsb' (2048 * ((readS s y).toNat % 8)) 2048) (sumTag (readT s t).tag) s)) s

/-- `trsum` (R172). -/
def execTrsum (hd : Hdr) (t : Reg4) (x : Reg5) (s : State) : Host.Outcome State Fault Refusal :=
  xWord (useX hd [.t t] [.v x]) (unlessCheck (fun s => tileCheck s t 0) (fun s =>
    landVec x (readT s t).rowSum (sumTag (readT s t).tag) s)) s

/-- A word of a tile XORed, by AREA, slot, row and word of sX (R173). -/
def injectTile (t : Tile) (sel : W64) (x : W32) : Tile :=
  let row := sel.toNat % 64
  let word := sel.toNat % 512
  let slot := sel.toNat / 64 % 64
  match sel.toNat / 4096 % 4 with
  | 0 => { t with data := t.data ^^^ (x.setWidth 131072 <<< (32 * (64 * row + slot))) }
  | 1 => { t with rowSum := t.rowSum ^^^ (x.setWidth 2048 <<< (32 * row)) }
  | 2 => { t with colSum := t.colSum ^^^ (x.setWidth 16384 <<< (32 * word)) }
  | _ => t

/-- `tinj` (R173). -/
def execTinj (hd : Hdr) (t : Reg4) (x y : Reg5) (s : State) : Host.Outcome State Fault Refusal :=
  xWord (useX hd (sName x ++ sName y) [.t t]) (unlessCheck (fun s =>
      if s.seq.debug then none else some (privilegeTrap 0x03 (packWord hd 0x2F (packTV t x y 4))))
    (fun s => landTiles [(t, injectTile (readT s t) (readS s x) ((readS s y).setWidth 32))] 0 s)) s

/-- `tstat` (R174). -/
def execTstat (hd : Hdr) (t : Reg4) (x w : Reg5) (s : State) : Host.Outcome State Fault Refusal :=
  xWord (useX hd [.t t] (sName x)) (fun s => putS x ((readT s t).status.extractLsb' (64 * (w.toNat % 4)) 64) s) s

end Sys2Proof.Machine
end

