-- ==== Sys2Proof/Machine/Vector.lean ====
section
/-! DEFINITION. Vector words (R121 to R133): the V pipe. -/

namespace Sys2Proof.Machine

/-! ### Tags -/

/-- The classes of operand (R122); `only` is a conversion's single source format, `bytes` the i8 or ui8 of FN 14. -/
inductive TagClass where
  | integer | float | any | bytes | only (fmt : BitVec 4)
  deriving DecidableEq, Repr

/-- Whether a tag is of a class. -/
def TagClass.accepts (c : TagClass) (t : Byte) : Bool :=
  let f := tagFmt t
  match c with
  | .integer => f == 3 || f == 0
  | .float => f == 1
  | .any => f.toNat ≤ 10
  | .bytes => f == 4 || f == 5
  | .only x => f == x

/-- The first vector operand, of (register, field, class), whose tag is not accepted (R122). -/
def checkTags (ops : List (Reg5 × Nat × TagClass)) (s : State) : Option TrapInfo :=
  ops.findSome? (fun o =>
    let t := (readV s o.1).tag
    if o.2.2.accepts t then none else some (tagTrap t o.1.toNat o.2.1))

/-! ### Shared forms -/

/-- A V word (R121, R122): no effect when its guard passes in no lane; then its tags; then its result. -/
def laneWord (u : Use) (ops : List (Reg5 × Nat × TagClass)) (run : W64 → State → State) (s : State) :
    Host.Outcome State Fault Refusal :=
  issue u (fun s =>
    let mask := guardMask u.hd s
    if u.hd.g && mask == 0 then s
    else match checkTags ops s with
      | some t => raise t s
      | none => run mask s) s

/-- A tag that a V word writes (R40): SC and CV are 0. -/
def plainTag (fmt : BitVec 4) : Byte := mkTag fmt false false

/-- Lane i of a vector register. -/
def laneOf (s : State) (r : Reg5) (i : Nat) : W32 := lane (readV s r).data i

/-- The shift amount of a lane (R124). -/
def laneShift (x : W32) : Nat := x.toNat % 32

/-- The operation of VALU and VALUS by name (R124). -/
inductive LaneOp where
  | add | sub | and | or | xor | andn | sll | srl | sra | mul | mulh | mulhu | min | max | minu | maxu
  deriving DecidableEq, Repr

/-- The bitwise operations, which take any format and keep vB's tag. -/
def LaneOp.isLogic : LaneOp → Bool
  | .and | .or | .xor | .andn => true
  | _ => false

/-- A lane's result (R101, R124). -/
def LaneOp.apply (op : LaneOp) (b x : W32) : W32 :=
  match op with
  | .add => b + x
  | .sub => b - x
  | .and => b &&& x
  | .or => b ||| x
  | .xor => b ^^^ x
  | .andn => b &&& ~~~x
  | .sll => b <<< laneShift x
  | .srl => b >>> laneShift x
  | .sra => b.sshiftRight (laneShift x)
  | .mul => b * x
  | .mulh => (b.signExtend 64 * x.signExtend 64).extractLsb' 32 32
  | .mulhu => (b.setWidth 64 * x.setWidth 64).extractLsb' 32 32
  | .min => if x.slt b then x else b
  | .max => if b.slt x then x else b
  | .minu => if x.ult b then x else b
  | .maxu => if b.ult x then x else b

/-- The class of an operation's operands. -/
def LaneOp.cls (op : LaneOp) : TagClass := if op.isLogic then .any else .integer

/-- The tag of an operation's result. -/
def LaneOp.resultTag (op : LaneOp) (b : Byte) : Byte := if op.isLogic then plainTag (tagFmt b) else plainTag 3

/-- A VALU word (R124). -/
def valuWord (op : LaneOp) (hd : Hdr) (a b x : Reg5) (s : State) : Host.Outcome State Fault Refusal :=
  laneWord (useV3 hd a b x) [(b, 1, op.cls), (x, 2, op.cls)] (fun mask s =>
    exposeV 2 a (vecOf (fun i => op.apply (laneOf s b i) (laneOf s x i))) (op.resultTag (readV s b).tag) 0xFF mask 0 s) s

/-- A VALUS word (R124). -/
def valusWord (op : LaneOp) (hd : Hdr) (a b x : Reg5) (s : State) : Host.Outcome State Fault Refusal :=
  laneWord (useVS hd a b x) [(b, 1, op.cls)] (fun mask s =>
    exposeV 2 a (vecOf (fun i => op.apply (laneOf s b i) ((readS s x).setWidth 32))) (op.resultTag (readV s b).tag) 0xFF mask 0
      s) s

/-- A float result of latency 4, lane by lane, with its active lanes' flags (R121, R125). -/
def floatResult (a : Reg5) (f : Nat → Res W32) (mask : W64) (s : State) : State :=
  exposeV 4 a (vecOf (fun i => (f i).val)) (plainTag 1) 0xFF mask (laneFlags mask (fun i => (f i).flags)) s

/-- A VFALU word of two sources (R125). -/
def floatWord (f : W32 → W32 → Res W32) (hd : Hdr) (a b x : Reg5) (s : State) : Host.Outcome State Fault Refusal :=
  laneWord (useV3 hd a b x) [(b, 1, .float), (x, 2, .float)] (fun mask s =>
    floatResult a (fun i => f (laneOf s b i) (laneOf s x i)) mask s) s

/-- A VFALU word of one source (R125). -/
def floatUnary (f : W32 → Res W32) (hd : Hdr) (a b : Reg5) (s : State) : Host.Outcome State Fault Refusal :=
  laneWord (useV2 hd a b) [(b, 1, .float)] (fun mask s => floatResult a (fun i => f (laneOf s b i)) mask s) s

/-- |B| (R125). -/
def absF32 (b : W32) : W32 := if isNanF32 b then 0x7FC00000 else b &&& 0x7FFFFFFF

/-- -B (R125). -/
def negF32 (b : W32) : W32 := if isNanF32 b then 0x7FC00000 else b ^^^ 0x80000000

/-- A VFMA word (R126), by the signs of the product and the addend. -/
def fmaWord (negP negA : Bool) (hd : Hdr) (a b x : Reg5) (s : State) : Host.Outcome State Fault Refusal :=
  laneWord (useFma hd a b x) [(a, 0, .float), (b, 1, .float), (x, 2, .float)] (fun mask s =>
    floatResult a (fun i =>
      let p := decodeF32 (laneOf s b i)
      let c := decodeF32 (laneOf s a i)
      fmaF32 (if negP then p.negate else p) (decodeF32 (laneOf s x i)) (if negA then c.negate else c)) mask s) s

/-- A VCMP word (R127): the test of a lane and its flags. -/
def vcmpWord (cls : TagClass) (f : W32 → W32 → Bool) (flags : W32 → W32 → Flags) (hd : Hdr) (a : Reg4) (b x : Reg5)
    (s : State) : Host.Outcome State Fault Refusal :=
  laneWord (useVcmp hd a b x) [(b, 1, cls), (x, 2, cls)] (fun mask s =>
    exposeP 2 a (maskOf (fun i => f (laneOf s b i) (laneOf s x i))) mask
      (laneFlags mask (fun i => flags (laneOf s b i) (laneOf s x i))) s) s

/-- No flags. -/
def noFlags (_ _ : W32) : Flags := 0

/-- NV on a NaN operand (R127). -/
def orderedFlags (b x : W32) : Flags := if isNanF32 b || isNanF32 x then flagNV else 0

/-! ### Conversions -/

/-- The conversion of element j of a slot (R47). -/
def convertElem (src dst : BitVec 4) (rz : Bool) (slot : W32) (j : Nat) : Res W32 := convertTo dst rz (elemValue src slot j)

/-- A conversion whose result fills each lane (R129): from element j of vB, in a format, to a 32-bit format. -/
def widenWord (cls : TagClass) (src : State → BitVec 4) (dst : BitVec 4) (rz : Bool) (j : Nat) (hd : Hdr) (a b : Reg5)
    (s : State) : Host.Outcome State Fault Refusal :=
  laneWord (useV2 hd a b) [(b, 1, cls)] (fun mask s =>
    let f := fun i => convertElem (src s) dst rz (laneOf s b i) j
    exposeV 4 a (vecOf (fun i => (f i).val)) (plainTag dst) 0xFF mask (laneFlags mask (fun i => (f i).flags)) s) s

/-- Element j of a lane, of a width, with the bits of a value. -/
def placeElem (w j : Nat) (x : W32) : W32 := BitVec.ofNat 32 (x.toNat % 2 ^ w) <<< (w * j)

/-- A narrowing conversion into element j of each lane (R129, R130), merging at landing. -/
def narrowWord (cls : TagClass) (src dst : BitVec 4) (rz : Bool) (j : Nat) (hd : Hdr) (a b : Reg5) (s : State) :
    Host.Outcome State Fault Refusal :=
  laneWord (useV2 hd a b) [(b, 1, cls)] (fun mask s =>
    let f := fun i => convertElem src dst rz (laneOf s b i) 0
    exposeV 4 a (vecOf (fun i => placeElem (elemBits dst) j (f i).val)) (plainTag dst) (1 <<< j) mask
      (laneFlags mask (fun i => (f i).flags)) s) s

/-- The conversion of a register pair into two nibbles of each lane (R129). A wrong tag in either register of the pair is
reported with the number that stands in field B (R122). -/
def narrowPair (rz : Bool) (part : Nat) (hd : Hdr) (a b : Reg5) (s : State) : Host.Outcome State Fault Refusal :=
  laneWord (useV hd [.v b, .v (b + 1)] [.v a]) [(b, 1, .float)] (fun mask s =>
    let odd := (readV s (b + 1)).tag
    let f := fun r i => convertElem 1 8 rz (laneOf s r i) 0
    if !TagClass.float.accepts odd then raise (tagTrap odd b.toNat 1) s
    else exposeV 4 a (vecOf (fun i => placeElem 4 (2 * part) (f b i).val ||| placeElem 4 (2 * part + 1) (f (b + 1) i).val))
      (plainTag 8) (3 <<< (2 * part)) mask (laneFlags mask (fun i => (f b i).flags ||| (f (b + 1) i).flags)) s) s

/-- The conversion of two nibbles of each lane into a register pair (R129). -/
def widenPair (part : Nat) (hd : Hdr) (a b : Reg5) (s : State) : Host.Outcome State Fault Refusal :=
  laneWord (useV hd [.v b] [.v a, .v (a + 1)]) [(b, 1, .only 8)] (fun mask s =>
    let put := fun r h s =>
      exposeV 4 r (vecOf (fun i => (convertElem 8 1 false (laneOf s b i) (2 * part + h)).val)) (plainTag 1) 0xFF mask 0 s
    put (a + 1) 1 (put a 0 s)) s

/-! ### Reductions -/

/-- A VRED word (R131): a guarded one writes its scalar and checks its tag even when no lane passes. -/
def vredWord (cls : TagClass) (identity : W32) (op : W32 → W32 → Res W32) (signed : Bool) (hd : Hdr) (a b : Reg5)
    (s : State) : Host.Outcome State Fault Refusal :=
  issue (useVred hd a b) (fun s =>
    match checkTags [(b, 1, cls)] s with
    | some t => raise t s
    | none =>
      let mask := guardMask hd s
      let r := treeOf op ((List.range 64).map (fun i => if mask.getLsbD i then laneOf s b i else identity))
      exposeS 6 a (if signed then r.val.signExtend 64 else r.val.setWidth 64) r.flags s) s

/-! ### Permutations -/

/-- A VPERM word with a full 64-lane result from vB (R132). -/
def permWord (u : Use) (extra : List (Reg5 × Nat × TagClass)) (f : State → Nat → W32) (a b : Reg5) (s : State) :
    Host.Outcome State Fault Refusal :=
  laneWord u ((b, 1, .any) :: extra) (fun mask s =>
    exposeV 3 a (vecOf (f s)) (plainTag (tagFmt (readV s b).tag)) 0xFF mask 0 s) s

/-- The lane number in a register's bits [5:0]. -/
def laneIndex (x : W64) : Nat := x.toNat % 64

/-- How many lanes of a predicate below i are 1. -/
def onesBelow (p : W64) (i : Nat) : Nat := (List.range i).countP (fun j => p.getLsbD j)

/-- The lanes of a predicate that are 1, rising. -/
def lanesSet (p : W64) : List Nat := (List.range 64).filter (fun j => p.getLsbD j)

/-! ### VALU and VALUS -/

/-- `add` of VALU (R124). -/
def execValuAdd (hd : Hdr) (a b x : Reg5) (s : State) : Host.Outcome State Fault Refusal :=
  valuWord .add hd a b x s

/-- `sub` of VALU (R124). -/
def execValuSub (hd : Hdr) (a b x : Reg5) (s : State) : Host.Outcome State Fault Refusal :=
  valuWord .sub hd a b x s

/-- `and` of VALU (R124). -/
def execValuAnd (hd : Hdr) (a b x : Reg5) (s : State) : Host.Outcome State Fault Refusal :=
  valuWord .and hd a b x s

/-- `or` of VALU (R124). -/
def execValuOr (hd : Hdr) (a b x : Reg5) (s : State) : Host.Outcome State Fault Refusal :=
  valuWord .or hd a b x s

/-- `xor` of VALU (R124). -/
def execValuXor (hd : Hdr) (a b x : Reg5) (s : State) : Host.Outcome State Fault Refusal :=
  valuWord .xor hd a b x s

/-- `andn` of VALU (R124). -/
def execValuAndn (hd : Hdr) (a b x : Reg5) (s : State) : Host.Outcome State Fault Refusal :=
  valuWord .andn hd a b x s

/-- `sll` of VALU (R124). -/
def execValuSll (hd : Hdr) (a b x : Reg5) (s : State) : Host.Outcome State Fault Refusal :=
  valuWord .sll hd a b x s

/-- `srl` of VALU (R124). -/
def execValuSrl (hd : Hdr) (a b x : Reg5) (s : State) : Host.Outcome State Fault Refusal :=
  valuWord .srl hd a b x s

/-- `sra` of VALU (R124). -/
def execValuSra (hd : Hdr) (a b x : Reg5) (s : State) : Host.Outcome State Fault Refusal :=
  valuWord .sra hd a b x s

/-- `mul` of VALU (R124). -/
def execValuMul (hd : Hdr) (a b x : Reg5) (s : State) : Host.Outcome State Fault Refusal :=
  valuWord .mul hd a b x s

/-- `mulh` of VALU (R124). -/
def execValuMulh (hd : Hdr) (a b x : Reg5) (s : State) : Host.Outcome State Fault Refusal :=
  valuWord .mulh hd a b x s

/-- `mulhu` of VALU (R124). -/
def execValuMulhu (hd : Hdr) (a b x : Reg5) (s : State) : Host.Outcome State Fault Refusal :=
  valuWord .mulhu hd a b x s

/-- `min` of VALU (R124). -/
def execValuMin (hd : Hdr) (a b x : Reg5) (s : State) : Host.Outcome State Fault Refusal :=
  valuWord .min hd a b x s

/-- `max` of VALU (R124). -/
def execValuMax (hd : Hdr) (a b x : Reg5) (s : State) : Host.Outcome State Fault Refusal :=
  valuWord .max hd a b x s

/-- `minu` of VALU (R124). -/
def execValuMinu (hd : Hdr) (a b x : Reg5) (s : State) : Host.Outcome State Fault Refusal :=
  valuWord .minu hd a b x s

/-- `maxu` of VALU (R124). -/
def execValuMaxu (hd : Hdr) (a b x : Reg5) (s : State) : Host.Outcome State Fault Refusal :=
  valuWord .maxu hd a b x s

/-- `add` of VALUS (R124). -/
def execValusAdd (hd : Hdr) (a b x : Reg5) (s : State) : Host.Outcome State Fault Refusal :=
  valusWord .add hd a b x s

/-- `sub` of VALUS (R124). -/
def execValusSub (hd : Hdr) (a b x : Reg5) (s : State) : Host.Outcome State Fault Refusal :=
  valusWord .sub hd a b x s

/-- `and` of VALUS (R124). -/
def execValusAnd (hd : Hdr) (a b x : Reg5) (s : State) : Host.Outcome State Fault Refusal :=
  valusWord .and hd a b x s

/-- `or` of VALUS (R124). -/
def execValusOr (hd : Hdr) (a b x : Reg5) (s : State) : Host.Outcome State Fault Refusal :=
  valusWord .or hd a b x s

/-- `xor` of VALUS (R124). -/
def execValusXor (hd : Hdr) (a b x : Reg5) (s : State) : Host.Outcome State Fault Refusal :=
  valusWord .xor hd a b x s

/-- `andn` of VALUS (R124). -/
def execValusAndn (hd : Hdr) (a b x : Reg5) (s : State) : Host.Outcome State Fault Refusal :=
  valusWord .andn hd a b x s

/-- `sll` of VALUS (R124). -/
def execValusSll (hd : Hdr) (a b x : Reg5) (s : State) : Host.Outcome State Fault Refusal :=
  valusWord .sll hd a b x s

/-- `srl` of VALUS (R124). -/
def execValusSrl (hd : Hdr) (a b x : Reg5) (s : State) : Host.Outcome State Fault Refusal :=
  valusWord .srl hd a b x s

/-- `sra` of VALUS (R124). -/
def execValusSra (hd : Hdr) (a b x : Reg5) (s : State) : Host.Outcome State Fault Refusal :=
  valusWord .sra hd a b x s

/-- `mul` of VALUS (R124). -/
def execValusMul (hd : Hdr) (a b x : Reg5) (s : State) : Host.Outcome State Fault Refusal :=
  valusWord .mul hd a b x s

/-- `mulh` of VALUS (R124). -/
def execValusMulh (hd : Hdr) (a b x : Reg5) (s : State) : Host.Outcome State Fault Refusal :=
  valusWord .mulh hd a b x s

/-- `mulhu` of VALUS (R124). -/
def execValusMulhu (hd : Hdr) (a b x : Reg5) (s : State) : Host.Outcome State Fault Refusal :=
  valusWord .mulhu hd a b x s

/-- `min` of VALUS (R124). -/
def execValusMin (hd : Hdr) (a b x : Reg5) (s : State) : Host.Outcome State Fault Refusal :=
  valusWord .min hd a b x s

/-- `max` of VALUS (R124). -/
def execValusMax (hd : Hdr) (a b x : Reg5) (s : State) : Host.Outcome State Fault Refusal :=
  valusWord .max hd a b x s

/-- `minu` of VALUS (R124). -/
def execValusMinu (hd : Hdr) (a b x : Reg5) (s : State) : Host.Outcome State Fault Refusal :=
  valusWord .minu hd a b x s

/-- `maxu` of VALUS (R124). -/
def execValusMaxu (hd : Hdr) (a b x : Reg5) (s : State) : Host.Outcome State Fault Refusal :=
  valusWord .maxu hd a b x s

/-! ### VFALU and VFMA -/

/-- `fadd` (R125). -/
def execFadd (hd : Hdr) (a b x : Reg5) (s : State) : Host.Outcome State Fault Refusal :=
  floatWord addF32 hd a b x s

/-- `fsub` (R125). -/
def execFsub (hd : Hdr) (a b x : Reg5) (s : State) : Host.Outcome State Fault Refusal :=
  floatWord subF32 hd a b x s

/-- `fmul` (R125). -/
def execFmul (hd : Hdr) (a b x : Reg5) (s : State) : Host.Outcome State Fault Refusal :=
  floatWord mulF32 hd a b x s

/-- `fmin` (R125). -/
def execFmin (hd : Hdr) (a b x : Reg5) (s : State) : Host.Outcome State Fault Refusal :=
  floatWord (quietOp minF32) hd a b x s

/-- `fmax` (R125). -/
def execFmax (hd : Hdr) (a b x : Reg5) (s : State) : Host.Outcome State Fault Refusal :=
  floatWord (quietOp maxF32) hd a b x s

/-- `fabs` (R48, R125). -/
def execFabs (hd : Hdr) (a b : Reg5) (s : State) : Host.Outcome State Fault Refusal :=
  floatUnary (fun b => { val := absF32 b, flags := 0 }) hd a b s

/-- `fneg` (R48, R125). -/
def execFneg (hd : Hdr) (a b : Reg5) (s : State) : Host.Outcome State Fault Refusal :=
  floatUnary (fun b => { val := negF32 b, flags := 0 }) hd a b s

/-- `fsqrt` (R48, R125). -/
def execFsqrt (hd : Hdr) (a b : Reg5) (s : State) : Host.Outcome State Fault Refusal :=
  floatUnary sqrtF32 hd a b s

/-- `frcp` (R48, R125). -/
def execFrcp (hd : Hdr) (a b : Reg5) (s : State) : Host.Outcome State Fault Refusal :=
  floatUnary rcpF32 hd a b s

/-- `frsq` (R48, R125). -/
def execFrsq (hd : Hdr) (a b : Reg5) (s : State) : Host.Outcome State Fault Refusal :=
  floatUnary rsqF32 hd a b s

/-- `fexp2` (R48, R125). -/
def execFexp2 (hd : Hdr) (a b : Reg5) (s : State) : Host.Outcome State Fault Refusal :=
  floatUnary exp2F32 hd a b s

/-- `flog2` (R48, R125). -/
def execFlog2 (hd : Hdr) (a b : Reg5) (s : State) : Host.Outcome State Fault Refusal :=
  floatUnary log2F32 hd a b s

/-- `fma` (R126). -/
def execFma (hd : Hdr) (a b x : Reg5) (s : State) : Host.Outcome State Fault Refusal :=
  fmaWord false false hd a b x s

/-- `fms` (R126). -/
def execFms (hd : Hdr) (a b x : Reg5) (s : State) : Host.Outcome State Fault Refusal :=
  fmaWord false true hd a b x s

/-- `fnma` (R126). -/
def execFnma (hd : Hdr) (a b x : Reg5) (s : State) : Host.Outcome State Fault Refusal :=
  fmaWord true false hd a b x s

/-! ### VCMP -/

/-- `cmp.eq` on vectors (R127). -/
def execVcmpEq (hd : Hdr) (a : Reg4) (b x : Reg5) (s : State) : Host.Outcome State Fault Refusal :=
  vcmpWord .any (· == ·) noFlags hd a b x s

/-- `cmp.ne` on vectors (R127). -/
def execVcmpNe (hd : Hdr) (a : Reg4) (b x : Reg5) (s : State) : Host.Outcome State Fault Refusal :=
  vcmpWord .any (· != ·) noFlags hd a b x s

/-- `cmp.lt` on vectors (R127). -/
def execVcmpLt (hd : Hdr) (a : Reg4) (b x : Reg5) (s : State) : Host.Outcome State Fault Refusal :=
  vcmpWord .integer (fun b x => b.slt x) noFlags hd a b x s

/-- `cmp.le` on vectors (R127). -/
def execVcmpLe (hd : Hdr) (a : Reg4) (b x : Reg5) (s : State) : Host.Outcome State Fault Refusal :=
  vcmpWord .integer (fun b x => !x.slt b) noFlags hd a b x s

/-- `cmp.ltu` on vectors (R127). -/
def execVcmpLtu (hd : Hdr) (a : Reg4) (b x : Reg5) (s : State) : Host.Outcome State Fault Refusal :=
  vcmpWord .integer (fun b x => b.ult x) noFlags hd a b x s

/-- `cmp.feq` on vectors (R127). -/
def execVcmpFeq (hd : Hdr) (a : Reg4) (b x : Reg5) (s : State) : Host.Outcome State Fault Refusal :=
  vcmpWord .float numEq noFlags hd a b x s

/-- `cmp.flt` on vectors (R127). -/
def execVcmpFlt (hd : Hdr) (a : Reg4) (b x : Reg5) (s : State) : Host.Outcome State Fault Refusal :=
  vcmpWord .float numLt orderedFlags hd a b x s

/-- `cmp.fle` on vectors (R127). -/
def execVcmpFle (hd : Hdr) (a : Reg4) (b x : Reg5) (s : State) : Host.Outcome State Fault Refusal :=
  vcmpWord .float (fun b x => numLt b x || numEq b x) orderedFlags hd a b x s

/-- `cmp.funord` on vectors (R127). -/
def execVcmpFunord (hd : Hdr) (a : Reg4) (b x : Reg5) (s : State) : Host.Outcome State Fault Refusal :=
  vcmpWord .float (fun b x => isNanF32 b || isNanF32 x) noFlags hd a b x s

/-! ### VCVT -/

/-- `vcvt.f32.i32` (R128 to R130). -/
def execVcvtF32I32 (hd : Hdr) (a b : Reg5) (z : BitVec 1) (s : State) : Host.Outcome State Fault Refusal :=
  widenWord .integer (fun _ => 3) 1 (z == 1) 0 hd a b s

/-- `vcvt.i32.f32` (R128 to R130). -/
def execVcvtI32F32 (hd : Hdr) (a b : Reg5) (z : BitVec 1) (s : State) : Host.Outcome State Fault Refusal :=
  widenWord .float (fun _ => 1) 3 (z == 1) 0 hd a b s

/-- `vcvt.bf16.f32` (R129, R130). -/
def execVcvtBf16F32 (hd : Hdr) (a b : Reg5) (t : BitVec 2) (z : BitVec 1) (s : State) : Host.Outcome State Fault Refusal :=
  narrowWord .float 1 2 (z == 1) t.toNat hd a b s

/-- `vcvt.f32.bf16` (R129, R130). -/
def execVcvtF32Bf16 (hd : Hdr) (a b : Reg5) (t : BitVec 2) (s : State) : Host.Outcome State Fault Refusal :=
  widenWord (.only 2) (fun _ => 2) 1 false t.toNat hd a b s

/-- `vcvt.e4m3.f32` (R129, R130). -/
def execVcvtE4m3F32 (hd : Hdr) (a b : Reg5) (t : BitVec 2) (z : BitVec 1) (s : State) : Host.Outcome State Fault Refusal :=
  narrowWord .float 1 6 (z == 1) t.toNat hd a b s

/-- `vcvt.f32.e4m3` (R129, R130). -/
def execVcvtF32E4m3 (hd : Hdr) (a b : Reg5) (t : BitVec 2) (s : State) : Host.Outcome State Fault Refusal :=
  widenWord (.only 6) (fun _ => 6) 1 false t.toNat hd a b s

/-- `vcvt.e5m2.f32` (R129, R130). -/
def execVcvtE5m2F32 (hd : Hdr) (a b : Reg5) (t : BitVec 2) (z : BitVec 1) (s : State) : Host.Outcome State Fault Refusal :=
  narrowWord .float 1 7 (z == 1) t.toNat hd a b s

/-- `vcvt.f32.e5m2` (R129, R130). -/
def execVcvtF32E5m2 (hd : Hdr) (a b : Reg5) (t : BitVec 2) (s : State) : Host.Outcome State Fault Refusal :=
  widenWord (.only 7) (fun _ => 7) 1 false t.toNat hd a b s

/-- `vcvt.e2m1.f32` (R129, R130). -/
def execVcvtE2m1F32 (hd : Hdr) (a b : Reg5) (t : BitVec 2) (z : BitVec 1) (s : State) : Host.Outcome State Fault Refusal :=
  narrowPair (z == 1) t.toNat hd a b s

/-- `vcvt.f32.e2m1` (R129, R130). -/
def execVcvtF32E2m1 (hd : Hdr) (a b : Reg5) (t : BitVec 2) (s : State) : Host.Outcome State Fault Refusal :=
  widenPair t.toNat hd a b s

/-- `vcvt.ht8.f32` (R39, R129, R130). -/
def execVcvtHt8F32 (hd : Hdr) (a b : Reg5) (t : BitVec 2) (s : State) : Host.Outcome State Fault Refusal :=
  narrowWord .float 1 9 false t.toNat hd a b s

/-- `vcvt.f32.ht8` (R129, R130). -/
def execVcvtF32Ht8 (hd : Hdr) (a b : Reg5) (t : BitVec 2) (s : State) : Host.Outcome State Fault Refusal :=
  widenWord (.only 9) (fun _ => 9) 1 false t.toNat hd a b s

/-- `vcvt.ht6.f32` (R39, R129, R130). -/
def execVcvtHt6F32 (hd : Hdr) (a b : Reg5) (t : BitVec 2) (s : State) : Host.Outcome State Fault Refusal :=
  narrowWord .float 1 10 false t.toNat hd a b s

/-- `vcvt.f32.ht6` (R129, R130). -/
def execVcvtF32Ht6 (hd : Hdr) (a b : Reg5) (t : BitVec 2) (s : State) : Host.Outcome State Fault Refusal :=
  widenWord (.only 10) (fun _ => 10) 1 false t.toNat hd a b s

/-- `vcvt.i32.i8` (R129, R130): the source is i8 or ui8 by its tag. -/
def execVcvtI32I8 (hd : Hdr) (a b : Reg5) (t : BitVec 2) (s : State) : Host.Outcome State Fault Refusal :=
  widenWord .bytes (fun s => tagFmt (readV s b).tag) 3 false t.toNat hd a b s

/-- `vcvt.i8.i32` and `vcvt.ui8.i32` (R128 to R130); RZ has no effect. -/
def execVcvtI8I32 (hd : Hdr) (a b : Reg5) (u : BitVec 1) (t : BitVec 2) (_z : BitVec 1) (s : State) : Host.Outcome State Fault Refusal :=
  narrowWord .integer 3 (if u == 1 then 5 else 4) false t.toNat hd a b s

/-! ### VRED -/

/-- `sumi32` of VRED (R54, R55, R131). -/
def execVredSumI32 (hd : Hdr) (a b : Reg5) (s : State) : Host.Outcome State Fault Refusal :=
  vredWord .integer 0 (quietOp (· + ·)) true hd a b s

/-- `sumf32` of VRED (R54, R55, R131). -/
def execVredSumF32 (hd : Hdr) (a b : Reg5) (s : State) : Host.Outcome State Fault Refusal :=
  vredWord .float 0x80000000 addF32 false hd a b s

/-- `min` of VRED (R54, R55, R131). -/
def execVredMin (hd : Hdr) (a b : Reg5) (s : State) : Host.Outcome State Fault Refusal :=
  vredWord .integer 0x7FFFFFFF (quietOp (LaneOp.apply .min)) true hd a b s

/-- `max` of VRED (R54, R55, R131). -/
def execVredMax (hd : Hdr) (a b : Reg5) (s : State) : Host.Outcome State Fault Refusal :=
  vredWord .integer 0x80000000 (quietOp (LaneOp.apply .max)) true hd a b s

/-- `fmin` of VRED (R54, R55, R131). -/
def execVredFmin (hd : Hdr) (a b : Reg5) (s : State) : Host.Outcome State Fault Refusal :=
  vredWord .float 0x7F800000 (quietOp minF32) false hd a b s

/-- `fmax` of VRED (R54, R55, R131). -/
def execVredFmax (hd : Hdr) (a b : Reg5) (s : State) : Host.Outcome State Fault Refusal :=
  vredWord .float 0xFF800000 (quietOp maxF32) false hd a b s

/-- `and` of VRED (R54, R55, R131). -/
def execVredAnd (hd : Hdr) (a b : Reg5) (s : State) : Host.Outcome State Fault Refusal :=
  vredWord .any 0xFFFFFFFF (quietOp (· &&& ·)) false hd a b s

/-- `or` of VRED (R54, R55, R131). -/
def execVredOr (hd : Hdr) (a b : Reg5) (s : State) : Host.Outcome State Fault Refusal :=
  vredWord .any 0 (quietOp (· ||| ·)) false hd a b s

/-! ### VPERM and VSPLAT -/

/-- `vperm` (R132). -/
def execVperm (hd : Hdr) (a b x : Reg5) (s : State) : Host.Outcome State Fault Refusal :=
  permWord (useV3 hd a b x) [(x, 2, .integer)] (fun s i => laneOf s b ((laneOf s x i).toNat % 64)) a b s

/-- `vrot` (R132). -/
def execVrot (hd : Hdr) (a b x : Reg5) (s : State) : Host.Outcome State Fault Refusal :=
  permWord (useVS hd a b x) [] (fun s i => laneOf s b ((i + laneIndex (readS s x)) % 64)) a b s

/-- `vbcast` (R132). -/
def execVbcast (hd : Hdr) (a b x : Reg5) (s : State) : Host.Outcome State Fault Refusal :=
  permWord (useVS hd a b x) [] (fun s _ => laneOf s b (laneIndex (readS s x))) a b s

/-- `vext` (R132): written only where lane k passes. -/
def execVext (hd : Hdr) (a b x : Reg5) (s : State) : Host.Outcome State Fault Refusal :=
  laneWord (useV hd (.v b :: sName x) (sName a)) [(b, 1, .any)] (fun mask s =>
    let k := laneIndex (readS s x)
    if mask.getLsbD k then exposeS 3 a ((laneOf s b k).setWidth 64) 0 s else s) s

/-- `vins` (R121, R132): one lane of vA, and no tag. -/
def execVins (hd : Hdr) (a b x : Reg5) (s : State) : Host.Outcome State Fault Refusal :=
  laneWord (useV hd (.v a :: sName b ++ sName x) [.v a]) [(a, 0, .any)] (fun mask s =>
    let k := laneIndex (readS s x)
    if mask.getLsbD k then
      expose { kind := .vector, reg := a, remain := 3, flags := 0, tag := 0, setsTag := false, emask := 0xFF,
               lmask := 1 <<< k, value := ((readS s b).setWidth 32).setWidth 2048 <<< (32 * k) } s
    else s) s

/-- `vcompress` (R132). -/
def execVcompress (hd : Hdr) (a b : Reg5) (x : Reg4) (s : State) : Host.Outcome State Fault Refusal :=
  permWord (useVP hd a b x) [] (fun s i =>
    match (lanesSet (readP s x))[i]? with
    | some j => laneOf s b j
    | none => 0) a b s

/-- `vexpand` (R132). -/
def execVexpand (hd : Hdr) (a b : Reg5) (x : Reg4) (s : State) : Host.Outcome State Fault Refusal :=
  permWord (useVP hd a b x) [] (fun s i =>
    if (readP s x).getLsbD i then laneOf s b (onesBelow (readP s x) i) else 0) a b s

/-- `vid` (R132). -/
def execVid (hd : Hdr) (a : Reg5) (s : State) : Host.Outcome State Fault Refusal :=
  laneWord (useV hd [] [.v a]) [] (fun mask s =>
    exposeV 3 a (vecOf (fun i => BitVec.ofNat 32 i)) (plainTag 3) 0xFF mask 0 s) s

/-- `vsplat` (R133). -/
def execVsplat (hd : Hdr) (a : Reg5) (i : BitVec 14) (s : State) : Host.Outcome State Fault Refusal :=
  laneWord (useV hd [] [.v a]) [] (fun mask s =>
    exposeV 1 a (vecOf (fun _ => i.signExtend 32)) (plainTag 3) 0xFF mask 0 s) s

end Sys2Proof.Machine
end

