-- ==== Sys2Proof/Machine/Dispatch.lean ====
section
/-! DEFINITION. The meaning of every row of the table: one arm a constructor, one call of its meaning. -/

namespace Sys2Proof.Machine

/-- One instruction or event of the table in a state. -/
def exec (i : Instr) (s : State) : Host.Outcome State Fault Refusal :=
  match i with
  | .nop hd => Sys2Proof.Machine.execNop hd s
  | .halt hd => Sys2Proof.Machine.execHalt hd s
  | .exit hd => Sys2Proof.Machine.execExit hd s
  | .trap hd k => Sys2Proof.Machine.execTrap hd k s
  | .eret hd => Sys2Proof.Machine.execEret hd s
  | .snapst hd a => Sys2Proof.Machine.execSnapst hd a s
  | .snapld hd a => Sys2Proof.Machine.execSnapld hd a s
  | .snaprel hd => Sys2Proof.Machine.execSnaprel hd s
  | .yield hd => Sys2Proof.Machine.execYield hd s
  | .srr hd a k => Sys2Proof.Machine.execSrr hd a k s
  | .srw hd a k => Sys2Proof.Machine.execSrw hd a k s
  | .brk hd k => Sys2Proof.Machine.execBrk hd k s
  | .add hd a b x => Sys2Proof.Machine.execAdd hd a b x s
  | .sub hd a b x => Sys2Proof.Machine.execSub hd a b x s
  | .and hd a b x => Sys2Proof.Machine.execAnd hd a b x s
  | .or hd a b x => Sys2Proof.Machine.execOr hd a b x s
  | .xor hd a b x => Sys2Proof.Machine.execXor hd a b x s
  | .andn hd a b x => Sys2Proof.Machine.execAndn hd a b x s
  | .sll hd a b x => Sys2Proof.Machine.execSll hd a b x s
  | .srl hd a b x => Sys2Proof.Machine.execSrl hd a b x s
  | .sra hd a b x => Sys2Proof.Machine.execSra hd a b x s
  | .mul hd a b x => Sys2Proof.Machine.execMul hd a b x s
  | .mulh hd a b x => Sys2Proof.Machine.execMulh hd a b x s
  | .mulhu hd a b x => Sys2Proof.Machine.execMulhu hd a b x s
  | .min hd a b x => Sys2Proof.Machine.execMin hd a b x s
  | .max hd a b x => Sys2Proof.Machine.execMax hd a b x s
  | .minu hd a b x => Sys2Proof.Machine.execMinu hd a b x s
  | .maxu hd a b x => Sys2Proof.Machine.execMaxu hd a b x s
  | .div hd a b x => Sys2Proof.Machine.execDiv hd a b x s
  | .divu hd a b x => Sys2Proof.Machine.execDivu hd a b x s
  | .rem hd a b x => Sys2Proof.Machine.execRem hd a b x s
  | .remu hd a b x => Sys2Proof.Machine.execRemu hd a b x s
  | .clz hd a b => Sys2Proof.Machine.execClz hd a b s
  | .ctz hd a b => Sys2Proof.Machine.execCtz hd a b s
  | .popc hd a b => Sys2Proof.Machine.execPopc hd a b s
  | .sextB hd a b => Sys2Proof.Machine.execSextB hd a b s
  | .sextH hd a b => Sys2Proof.Machine.execSextH hd a b s
  | .sextW hd a b => Sys2Proof.Machine.execSextW hd a b s
  | .zextW hd a b => Sys2Proof.Machine.execZextW hd a b s
  | .bswap hd a b => Sys2Proof.Machine.execBswap hd a b s
  | .addi hd a b k => Sys2Proof.Machine.execAddi hd a b k s
  | .andi hd a b k => Sys2Proof.Machine.execAndi hd a b k s
  | .ori hd a b k => Sys2Proof.Machine.execOri hd a b k s
  | .xori hd a b k => Sys2Proof.Machine.execXori hd a b k s
  | .slli hd a b h => Sys2Proof.Machine.execSlli hd a b h s
  | .srli hd a b h => Sys2Proof.Machine.execSrli hd a b h s
  | .srai hd a b h => Sys2Proof.Machine.execSrai hd a b h s
  | .li hd a k => Sys2Proof.Machine.execLi hd a k s
  | .lsh hd a k => Sys2Proof.Machine.execLsh hd a k s
  | .cmpEq hd a b x => Sys2Proof.Machine.execCmpEq hd a b x s
  | .cmpNe hd a b x => Sys2Proof.Machine.execCmpNe hd a b x s
  | .cmpLt hd a b x => Sys2Proof.Machine.execCmpLt hd a b x s
  | .cmpGe hd a b x => Sys2Proof.Machine.execCmpGe hd a b x s
  | .cmpLtu hd a b x => Sys2Proof.Machine.execCmpLtu hd a b x s
  | .cmpGeu hd a b x => Sys2Proof.Machine.execCmpGeu hd a b x s
  | .cmpeqi hd a b k => Sys2Proof.Machine.execCmpeqi hd a b k s
  | .cmplti hd a b k => Sys2Proof.Machine.execCmplti hd a b k s
  | .cmpltui hd a b k => Sys2Proof.Machine.execCmpltui hd a b k s
  | .br hd d => Sys2Proof.Machine.execBr hd d s
  | .call hd d => Sys2Proof.Machine.execCall hd d s
  | .jr hd b => Sys2Proof.Machine.execJr hd b s
  | .jalr hd a b => Sys2Proof.Machine.execJalr hd a b s
  | .ret hd => Sys2Proof.Machine.execRet hd s
  | .loop hd b l => Sys2Proof.Machine.execLoop hd b l s
  | .loopi hd k l => Sys2Proof.Machine.execLoopi hd k l s
  | .pand hd a b x => Sys2Proof.Machine.execPand hd a b x s
  | .por hd a b x => Sys2Proof.Machine.execPor hd a b x s
  | .pxor hd a b x => Sys2Proof.Machine.execPxor hd a b x s
  | .pandn hd a b x => Sys2Proof.Machine.execPandn hd a b x s
  | .pnot hd a b => Sys2Proof.Machine.execPnot hd a b s
  | .pmov hd a b => Sys2Proof.Machine.execPmov hd a b s
  | .pset hd a => Sys2Proof.Machine.execPset hd a s
  | .pclr hd a => Sys2Proof.Machine.execPclr hd a s
  | .pcnt hd a b => Sys2Proof.Machine.execPcnt hd a b s
  | .pfirst hd a b => Sys2Proof.Machine.execPfirst hd a b s
  | .ld8 hd a b d => Sys2Proof.Machine.execLd8 hd a b d s
  | .ld8u hd a b d => Sys2Proof.Machine.execLd8u hd a b d s
  | .ld16 hd a b d => Sys2Proof.Machine.execLd16 hd a b d s
  | .ld16u hd a b d => Sys2Proof.Machine.execLd16u hd a b d s
  | .ld32 hd a b d => Sys2Proof.Machine.execLd32 hd a b d s
  | .ld32u hd a b d => Sys2Proof.Machine.execLd32u hd a b d s
  | .ld64 hd a b d => Sys2Proof.Machine.execLd64 hd a b d s
  | .st8 hd a b d => Sys2Proof.Machine.execSt8 hd a b d s
  | .st16 hd a b d => Sys2Proof.Machine.execSt16 hd a b d s
  | .st32 hd a b d => Sys2Proof.Machine.execSt32 hd a b d s
  | .st64 hd a b d => Sys2Proof.Machine.execSt64 hd a b d s
  | .ldf hd a b d => Sys2Proof.Machine.execLdf hd a b d s
  | .lde hd a b d => Sys2Proof.Machine.execLde hd a b d s
  | .stf hd a b d => Sys2Proof.Machine.execStf hd a b d s
  | .stfo hd a b d => Sys2Proof.Machine.execStfo hd a b d s
  | .feRequestServed => Sys2Proof.Machine.execFeRequestServed s
  | .vldRaw hd a b d => Sys2Proof.Machine.execVldRaw hd a b d s
  | .vldF32 hd a b d => Sys2Proof.Machine.execVldF32 hd a b d s
  | .vldBf16 hd a b d => Sys2Proof.Machine.execVldBf16 hd a b d s
  | .vldI32 hd a b d => Sys2Proof.Machine.execVldI32 hd a b d s
  | .vldI8 hd a b d => Sys2Proof.Machine.execVldI8 hd a b d s
  | .vldUi8 hd a b d => Sys2Proof.Machine.execVldUi8 hd a b d s
  | .vldHt8 hd a b d => Sys2Proof.Machine.execVldHt8 hd a b d s
  | .vldVtag hd a b d => Sys2Proof.Machine.execVldVtag hd a b d s
  | .vst hd a b d => Sys2Proof.Machine.execVst hd a b d s
  | .vstHt6 hd a b d => Sys2Proof.Machine.execVstHt6 hd a b d s
  | .vldg hd a b x r => Sys2Proof.Machine.execVldg hd a b x r s
  | .vsts hd a b x => Sys2Proof.Machine.execVsts hd a b x s
  | .atom32Add hd a b x => Sys2Proof.Machine.execAtom32Add hd a b x s
  | .atom32And hd a b x => Sys2Proof.Machine.execAtom32And hd a b x s
  | .atom32Or hd a b x => Sys2Proof.Machine.execAtom32Or hd a b x s
  | .atom32Xor hd a b x => Sys2Proof.Machine.execAtom32Xor hd a b x s
  | .atom32Min hd a b x => Sys2Proof.Machine.execAtom32Min hd a b x s
  | .atom32Max hd a b x => Sys2Proof.Machine.execAtom32Max hd a b x s
  | .atom32Minu hd a b x => Sys2Proof.Machine.execAtom32Minu hd a b x s
  | .atom32Maxu hd a b x => Sys2Proof.Machine.execAtom32Maxu hd a b x s
  | .atom32Swap hd a b x => Sys2Proof.Machine.execAtom32Swap hd a b x s
  | .atom32Cas hd a b x => Sys2Proof.Machine.execAtom32Cas hd a b x s
  | .atom32Fadd hd a b x => Sys2Proof.Machine.execAtom32Fadd hd a b x s
  | .atom32Fmin hd a b x => Sys2Proof.Machine.execAtom32Fmin hd a b x s
  | .atom32Fmax hd a b x => Sys2Proof.Machine.execAtom32Fmax hd a b x s
  | .atom64Add hd a b x => Sys2Proof.Machine.execAtom64Add hd a b x s
  | .atom64And hd a b x => Sys2Proof.Machine.execAtom64And hd a b x s
  | .atom64Or hd a b x => Sys2Proof.Machine.execAtom64Or hd a b x s
  | .atom64Xor hd a b x => Sys2Proof.Machine.execAtom64Xor hd a b x s
  | .atom64Min hd a b x => Sys2Proof.Machine.execAtom64Min hd a b x s
  | .atom64Max hd a b x => Sys2Proof.Machine.execAtom64Max hd a b x s
  | .atom64Minu hd a b x => Sys2Proof.Machine.execAtom64Minu hd a b x s
  | .atom64Maxu hd a b x => Sys2Proof.Machine.execAtom64Maxu hd a b x s
  | .atom64Swap hd a b x => Sys2Proof.Machine.execAtom64Swap hd a b x s
  | .atom64Cas hd a b x => Sys2Proof.Machine.execAtom64Cas hd a b x s
  | .faddg hd a b x => Sys2Proof.Machine.execFaddg hd a b x s
  | .atomicAcknowledgement k flags => Sys2Proof.Machine.execAtomicAcknowledgement k flags s
  | .fence hd k m => Sys2Proof.Machine.execFence hd k m s
  | .rel hd b x => Sys2Proof.Machine.execRel hd b x s
  | .ownRet hd b x => Sys2Proof.Machine.execOwnRet hd b x s
  | .valuAdd hd a b x => Sys2Proof.Machine.execValuAdd hd a b x s
  | .valuSub hd a b x => Sys2Proof.Machine.execValuSub hd a b x s
  | .valuAnd hd a b x => Sys2Proof.Machine.execValuAnd hd a b x s
  | .valuOr hd a b x => Sys2Proof.Machine.execValuOr hd a b x s
  | .valuXor hd a b x => Sys2Proof.Machine.execValuXor hd a b x s
  | .valuAndn hd a b x => Sys2Proof.Machine.execValuAndn hd a b x s
  | .valuSll hd a b x => Sys2Proof.Machine.execValuSll hd a b x s
  | .valuSrl hd a b x => Sys2Proof.Machine.execValuSrl hd a b x s
  | .valuSra hd a b x => Sys2Proof.Machine.execValuSra hd a b x s
  | .valuMul hd a b x => Sys2Proof.Machine.execValuMul hd a b x s
  | .valuMulh hd a b x => Sys2Proof.Machine.execValuMulh hd a b x s
  | .valuMulhu hd a b x => Sys2Proof.Machine.execValuMulhu hd a b x s
  | .valuMin hd a b x => Sys2Proof.Machine.execValuMin hd a b x s
  | .valuMax hd a b x => Sys2Proof.Machine.execValuMax hd a b x s
  | .valuMinu hd a b x => Sys2Proof.Machine.execValuMinu hd a b x s
  | .valuMaxu hd a b x => Sys2Proof.Machine.execValuMaxu hd a b x s
  | .valusAdd hd a b x => Sys2Proof.Machine.execValusAdd hd a b x s
  | .valusSub hd a b x => Sys2Proof.Machine.execValusSub hd a b x s
  | .valusAnd hd a b x => Sys2Proof.Machine.execValusAnd hd a b x s
  | .valusOr hd a b x => Sys2Proof.Machine.execValusOr hd a b x s
  | .valusXor hd a b x => Sys2Proof.Machine.execValusXor hd a b x s
  | .valusAndn hd a b x => Sys2Proof.Machine.execValusAndn hd a b x s
  | .valusSll hd a b x => Sys2Proof.Machine.execValusSll hd a b x s
  | .valusSrl hd a b x => Sys2Proof.Machine.execValusSrl hd a b x s
  | .valusSra hd a b x => Sys2Proof.Machine.execValusSra hd a b x s
  | .valusMul hd a b x => Sys2Proof.Machine.execValusMul hd a b x s
  | .valusMulh hd a b x => Sys2Proof.Machine.execValusMulh hd a b x s
  | .valusMulhu hd a b x => Sys2Proof.Machine.execValusMulhu hd a b x s
  | .valusMin hd a b x => Sys2Proof.Machine.execValusMin hd a b x s
  | .valusMax hd a b x => Sys2Proof.Machine.execValusMax hd a b x s
  | .valusMinu hd a b x => Sys2Proof.Machine.execValusMinu hd a b x s
  | .valusMaxu hd a b x => Sys2Proof.Machine.execValusMaxu hd a b x s
  | .fadd hd a b x => Sys2Proof.Machine.execFadd hd a b x s
  | .fsub hd a b x => Sys2Proof.Machine.execFsub hd a b x s
  | .fmul hd a b x => Sys2Proof.Machine.execFmul hd a b x s
  | .fmin hd a b x => Sys2Proof.Machine.execFmin hd a b x s
  | .fmax hd a b x => Sys2Proof.Machine.execFmax hd a b x s
  | .fabs hd a b => Sys2Proof.Machine.execFabs hd a b s
  | .fneg hd a b => Sys2Proof.Machine.execFneg hd a b s
  | .fsqrt hd a b => Sys2Proof.Machine.execFsqrt hd a b s
  | .frcp hd a b => Sys2Proof.Machine.execFrcp hd a b s
  | .frsq hd a b => Sys2Proof.Machine.execFrsq hd a b s
  | .fexp2 hd a b => Sys2Proof.Machine.execFexp2 hd a b s
  | .flog2 hd a b => Sys2Proof.Machine.execFlog2 hd a b s
  | .fma hd a b x => Sys2Proof.Machine.execFma hd a b x s
  | .fms hd a b x => Sys2Proof.Machine.execFms hd a b x s
  | .fnma hd a b x => Sys2Proof.Machine.execFnma hd a b x s
  | .vcmpEq hd a b x => Sys2Proof.Machine.execVcmpEq hd a b x s
  | .vcmpNe hd a b x => Sys2Proof.Machine.execVcmpNe hd a b x s
  | .vcmpLt hd a b x => Sys2Proof.Machine.execVcmpLt hd a b x s
  | .vcmpLe hd a b x => Sys2Proof.Machine.execVcmpLe hd a b x s
  | .vcmpLtu hd a b x => Sys2Proof.Machine.execVcmpLtu hd a b x s
  | .vcmpFeq hd a b x => Sys2Proof.Machine.execVcmpFeq hd a b x s
  | .vcmpFlt hd a b x => Sys2Proof.Machine.execVcmpFlt hd a b x s
  | .vcmpFle hd a b x => Sys2Proof.Machine.execVcmpFle hd a b x s
  | .vcmpFunord hd a b x => Sys2Proof.Machine.execVcmpFunord hd a b x s
  | .vcvtF32I32 hd a b z => Sys2Proof.Machine.execVcvtF32I32 hd a b z s
  | .vcvtI32F32 hd a b z => Sys2Proof.Machine.execVcvtI32F32 hd a b z s
  | .vcvtBf16F32 hd a b t z => Sys2Proof.Machine.execVcvtBf16F32 hd a b t z s
  | .vcvtF32Bf16 hd a b t => Sys2Proof.Machine.execVcvtF32Bf16 hd a b t s
  | .vcvtE4m3F32 hd a b t z => Sys2Proof.Machine.execVcvtE4m3F32 hd a b t z s
  | .vcvtF32E4m3 hd a b t => Sys2Proof.Machine.execVcvtF32E4m3 hd a b t s
  | .vcvtE5m2F32 hd a b t z => Sys2Proof.Machine.execVcvtE5m2F32 hd a b t z s
  | .vcvtF32E5m2 hd a b t => Sys2Proof.Machine.execVcvtF32E5m2 hd a b t s
  | .vcvtE2m1F32 hd a b t z => Sys2Proof.Machine.execVcvtE2m1F32 hd a b t z s
  | .vcvtF32E2m1 hd a b t => Sys2Proof.Machine.execVcvtF32E2m1 hd a b t s
  | .vcvtHt8F32 hd a b t => Sys2Proof.Machine.execVcvtHt8F32 hd a b t s
  | .vcvtF32Ht8 hd a b t => Sys2Proof.Machine.execVcvtF32Ht8 hd a b t s
  | .vcvtHt6F32 hd a b t => Sys2Proof.Machine.execVcvtHt6F32 hd a b t s
  | .vcvtF32Ht6 hd a b t => Sys2Proof.Machine.execVcvtF32Ht6 hd a b t s
  | .vcvtI32I8 hd a b t => Sys2Proof.Machine.execVcvtI32I8 hd a b t s
  | .vcvtI8I32 hd a b u t _z => Sys2Proof.Machine.execVcvtI8I32 hd a b u t _z s
  | .vredSumI32 hd a b => Sys2Proof.Machine.execVredSumI32 hd a b s
  | .vredSumF32 hd a b => Sys2Proof.Machine.execVredSumF32 hd a b s
  | .vredMin hd a b => Sys2Proof.Machine.execVredMin hd a b s
  | .vredMax hd a b => Sys2Proof.Machine.execVredMax hd a b s
  | .vredFmin hd a b => Sys2Proof.Machine.execVredFmin hd a b s
  | .vredFmax hd a b => Sys2Proof.Machine.execVredFmax hd a b s
  | .vredAnd hd a b => Sys2Proof.Machine.execVredAnd hd a b s
  | .vredOr hd a b => Sys2Proof.Machine.execVredOr hd a b s
  | .vperm hd a b x => Sys2Proof.Machine.execVperm hd a b x s
  | .vrot hd a b x => Sys2Proof.Machine.execVrot hd a b x s
  | .vbcast hd a b x => Sys2Proof.Machine.execVbcast hd a b x s
  | .vext hd a b x => Sys2Proof.Machine.execVext hd a b x s
  | .vins hd a b x => Sys2Proof.Machine.execVins hd a b x s
  | .vcompress hd a b x => Sys2Proof.Machine.execVcompress hd a b x s
  | .vexpand hd a b x => Sys2Proof.Machine.execVexpand hd a b x s
  | .vid hd a => Sys2Proof.Machine.execVid hd a s
  | .vsplat hd a k => Sys2Proof.Machine.execVsplat hd a k s
  | .tldChk hd d b f => Sys2Proof.Machine.execTldChk hd d b f s
  | .tldGen hd d b st f => Sys2Proof.Machine.execTldGen hd d b st f s
  | .tstChk hd d b f => Sys2Proof.Machine.execTstChk hd d b f s
  | .tstGen hd d b st f => Sys2Proof.Machine.execTstGen hd d b st f s
  | .tlds hd a => Sys2Proof.Machine.execTlds hd a s
  | .mma hd d a e sat w v t => Sys2Proof.Machine.execMma hd d a e sat w v t s
  | .mmaCb hd d k e sat w v t => Sys2Proof.Machine.execMmaCb hd d k e sat w v t s
  | .tswap hd => Sys2Proof.Machine.execTswap hd s
  | .tzero hd d f => Sys2Proof.Machine.execTzero hd d f s
  | .tmark hd d => Sys2Proof.Machine.execTmark hd d s
  | .tdrain hd d => Sys2Proof.Machine.execTdrain hd d s
  | .tcvt hd d a f z => Sys2Proof.Machine.execTcvt hd d a f z s
  | .ttr hd d a => Sys2Proof.Machine.execTtr hd d a s
  | .tchk hd a => Sys2Proof.Machine.execTchk hd a s
  | .tmov hd d a => Sys2Proof.Machine.execTmov hd d a s
  | .tadd hd d a b => Sys2Proof.Machine.execTadd hd d a b s
  | .tdrq hd d a v f e => Sys2Proof.Machine.execTdrq hd d a v f e s
  | .trget hd t x y => Sys2Proof.Machine.execTrget hd t x y s
  | .trset hd t x y => Sys2Proof.Machine.execTrset hd t x y s
  | .tcsum hd t x y => Sys2Proof.Machine.execTcsum hd t x y s
  | .trsum hd t x => Sys2Proof.Machine.execTrsum hd t x s
  | .tinj hd t x y => Sys2Proof.Machine.execTinj hd t x y s
  | .tstat hd t x w => Sys2Proof.Machine.execTstat hd t x w s
  | .xWordStart => Sys2Proof.Machine.execXWordStart s
  | .cbdef hd a b => Sys2Proof.Machine.execCbdef hd a b s
  | .cbput hd a b => Sys2Proof.Machine.execCbput hd a b s
  | .cbwait hd a b => Sys2Proof.Machine.execCbwait hd a b s
  | .cbtake hd a b => Sys2Proof.Machine.execCbtake hd a b s
  | .cbclose hd b => Sys2Proof.Machine.execCbclose hd b s
  | .cbst hd a b => Sys2Proof.Machine.execCbst hd a b s
  | .cpy hd a b e => Sys2Proof.Machine.execCpy hd a b e s
  | .cpyt hd a b e => Sys2Proof.Machine.execCpyt hd a b e s
  | .cpya hd a b e => Sys2Proof.Machine.execCpya hd a b e s
  | .cpyc hd a b e => Sys2Proof.Machine.execCpyc hd a b e s
  | .cpyst hd a => Sys2Proof.Machine.execCpyst hd a s
  | .copyOperationStart => Sys2Proof.Machine.execCopyOperationStart s
  | .cpycHoldEnd => Sys2Proof.Machine.execCpycHoldEnd s
  | .copyOperationComplete => Sys2Proof.Machine.execCopyOperationComplete s
  | .cpyaFire => Sys2Proof.Machine.execCpyaFire s
  | .copyEngineFault => Sys2Proof.Machine.execCopyEngineFault s
  | .sinit hd a b => Sys2Proof.Machine.execSinit hd a b s
  | .swait hd a b => Sys2Proof.Machine.execSwait hd a b s
  | .swaitY hd a b => Sys2Proof.Machine.execSwaitY hd a b s
  | .sadd hd a b => Sys2Proof.Machine.execSadd hd a b s
  | .sstat hd a b => Sys2Proof.Machine.execSstat hd a b s
  | .waitConditionMet => Sys2Proof.Machine.execWaitConditionMet s
  | .rsub hd a b => Sys2Proof.Machine.execRsub hd a b s
  | .rtake hd a b => Sys2Proof.Machine.execRtake hd a b s
  | .rpass hd b => Sys2Proof.Machine.execRpass hd b s
  | .rdrop hd b => Sys2Proof.Machine.execRdrop hd b s
  | .rside hd a b => Sys2Proof.Machine.execRside hd a b s
  | .rstat hd a b => Sys2Proof.Machine.execRstat hd a b s
  | .stageSetInstall east idx region desc => Sys2Proof.Machine.execStageSetInstall east idx region desc s
  | .routing east idx => Sys2Proof.Machine.execRouting east idx s
  | .retirement east idx => Sys2Proof.Machine.execRetirement east idx s
  | .coll hd a b => Sys2Proof.Machine.execColl hd a b s
  | .cwait hd a b => Sys2Proof.Machine.execCwait hd a b s
  | .cstat hd a b => Sys2Proof.Machine.execCstat hd a b s
  | .cabort hd b => Sys2Proof.Machine.execCabort hd b s
  | .collFirstPacket block rank pkt => Sys2Proof.Machine.execCollFirstPacket block rank pkt s
  | .collMatchTimeout block => Sys2Proof.Machine.execCollMatchTimeout block s
  | .collChunkStart east credited peers => Sys2Proof.Machine.execCollChunkStart east credited peers s
  | .collChunkTimeout block => Sys2Proof.Machine.execCollChunkTimeout block s
  | .collAbortReceived block rank => Sys2Proof.Machine.execCollAbortReceived block rank s
  | .collCallEnd block => Sys2Proof.Machine.execCollCallEnd block s
  | .launch hd a b => Sys2Proof.Machine.execLaunch hd a b s
  | .lstat hd a b => Sys2Proof.Machine.execLstat hd a b s
  | .waitt hd a b => Sys2Proof.Machine.execWaitt hd a b s
  | .tnow hd a b => Sys2Proof.Machine.execTnow hd a b s
  | .rfence hd a => Sys2Proof.Machine.execRfence hd a s
  | .rfencew hd a b => Sys2Proof.Machine.execRfencew hd a b s
  | .wstat hd a b => Sys2Proof.Machine.execWstat hd a b s
  | .pagereq hd a b => Sys2Proof.Machine.execPagereq hd a b s
  | .pstat hd a b => Sys2Proof.Machine.execPstat hd a b s
  | .exposedResultLanding => Sys2Proof.Machine.execExposedResultLanding s
  | .scoreboardedResultLanding k => Sys2Proof.Machine.execScoreboardedResultLanding k s
  | .lookAheadNullifier => Sys2Proof.Machine.execLookAheadNullifier s
  | .correctableSramError reader bay => Sys2Proof.Machine.execCorrectableSramError reader bay s
  | .correctionHoldEnd => Sys2Proof.Machine.execCorrectionHoldEnd s
  | .residueGuardMismatch vector again => Sys2Proof.Machine.execResidueGuardMismatch vector again s
  | .residueHoldEnd => Sys2Proof.Machine.execResidueHoldEnd s
  | .trapEntry => Sys2Proof.Machine.execTrapEntry s
  | .preemptionRequest => Sys2Proof.Machine.execPreemptionRequest s
  | .machineCheck src detail einfo => Sys2Proof.Machine.execMachineCheck src detail einfo s
  | .ctxcmdSave => Sys2Proof.Machine.execCtxcmdSave s
  | .ctxcmdRelease => Sys2Proof.Machine.execCtxcmdRelease s
  | .ctxcmdForward => Sys2Proof.Machine.execCtxcmdForward s
  | .replyAbort unit => Sys2Proof.Machine.execReplyAbort unit s
  | .replyResume unit => Sys2Proof.Machine.execReplyResume unit s
  | .replyRetryFromMark unit => Sys2Proof.Machine.execReplyRetryFromMark unit s
  | .replyKillRegion unit => Sys2Proof.Machine.execReplyKillRegion unit s
  | .iterationPreemption => Sys2Proof.Machine.execIterationPreemption s
  | .nodePreemption => Sys2Proof.Machine.execNodePreemption s
  | .tailWrite fn queue off data => Sys2Proof.Machine.execTailWrite fn queue off data s
  | .mailboxWrite fn off data => Sys2Proof.Machine.execMailboxWrite fn off data s
  | .headMirrorStore queue => Sys2Proof.Machine.execHeadMirrorStore queue s
  | .dispatchSlotTableWrite idx value => Sys2Proof.Machine.execDispatchSlotTableWrite idx value s
  | .activityBitmapClear idx mask => Sys2Proof.Machine.execActivityBitmapClear idx mask s
  | .recordTake queue => Sys2Proof.Machine.execRecordTake queue s
  | .dependencyMet launch => Sys2Proof.Machine.execDependencyMet launch s
  | .placeUnit bay => Sys2Proof.Machine.execPlaceUnit bay s
  | .priorityAgeing launch => Sys2Proof.Machine.execPriorityAgeing launch s
  | .softPointTimeout => Sys2Proof.Machine.execSoftPointTimeout s
  | .gangInstancePlacement launch bays => Sys2Proof.Machine.execGangInstancePlacement launch bays s
  | .ttStartAttempt launch => Sys2Proof.Machine.execTtStartAttempt launch s
  | .readyWord launch => Sys2Proof.Machine.execReadyWord launch s
  | .launchCompletion launch => Sys2Proof.Machine.execLaunchCompletion launch s
  | .budgetPeriodBoundary east => Sys2Proof.Machine.execBudgetPeriodBoundary east s
  | .budgetHandleLoad east slot handle => Sys2Proof.Machine.execBudgetHandleLoad east slot handle s
  | .budgetLimitWrite east slot act limit => Sys2Proof.Machine.execBudgetLimitWrite east slot act limit s
  | .errmapClear bay index => Sys2Proof.Machine.execErrmapClear bay index s
  | .xtblWrite pasid value => Sys2Proof.Machine.execXtblWrite pasid value s
  | .meshScheduledForward inject => Sys2Proof.Machine.execMeshScheduledForward inject s
  | .reflectedWriteArrival write => Sys2Proof.Machine.execReflectedWriteArrival write s
  | .acknowledgementSend src vc => Sys2Proof.Machine.execAcknowledgementSend src vc s
  | .acknowledgementReceive dst vc high => Sys2Proof.Machine.execAcknowledgementReceive dst vc high s
  | .retransmission dst vc => Sys2Proof.Machine.execRetransmission dst vc s
  | .planeLoss plane => Sys2Proof.Machine.execPlaneLoss plane s
  | .pathDeath sender chip vc => Sys2Proof.Machine.execPathDeath sender chip vc s
  | .pathReset chip vc => Sys2Proof.Machine.execPathReset chip vc s
  | .ptpSync seq ingress => Sys2Proof.Machine.execPtpSync seq ingress s
  | .ptpFollowUp seq origin correction => Sys2Proof.Machine.execPtpFollowUp seq origin correction s
  | .ptpPdelayReq seq ingress => Sys2Proof.Machine.execPtpPdelayReq seq ingress s
  | .ptpPdelayResp seq requestReceipt ingress => Sys2Proof.Machine.execPtpPdelayResp seq requestReceipt ingress s
  | .ptpPdelayRespFollowUp seq responseOrigin => Sys2Proof.Machine.execPtpPdelayRespFollowUp seq responseOrigin s
  | .resdone page => Sys2Proof.Machine.execResdone page s
  | .resfail page => Sys2Proof.Machine.execResfail page s
  | .atsTranslationCompletion pasid va size phys write => Sys2Proof.Machine.execAtsTranslationCompletion pasid va size phys write s
  | .priResponse pasid va success => Sys2Proof.Machine.execPriResponse pasid va success s
  | .priTimeout pasid va => Sys2Proof.Machine.execPriTimeout pasid va s
  | .atsInvalidateRequest pasid base len => Sys2Proof.Machine.execAtsInvalidateRequest pasid base len s
  | .arraySelfTest bay badRow => Sys2Proof.Machine.execArraySelfTest bay badRow s
  | .spareRowSwitch bay spare row soft => Sys2Proof.Machine.execSpareRowSwitch bay spare row soft s
  | .bringUp flash => Sys2Proof.Machine.execBringUp flash s
  | .attestationRequest nonce => Sys2Proof.Machine.execAttestationRequest nonce s
  | .thermalThrottle east celsius => Sys2Proof.Machine.execThermalThrottle east celsius s
  | .windowEntryInstall kind id region entry => Sys2Proof.Machine.execWindowEntryInstall kind id region entry s
  | .stageSetRemoval east idx => Sys2Proof.Machine.execStageSetRemoval east idx s
  | .residencyBitClear region page => Sys2Proof.Machine.execResidencyBitClear region page s
  | .regionNodeInstall addr node => Sys2Proof.Machine.execRegionNodeInstall addr node s
  | .queueTableWrite queue entry => Sys2Proof.Machine.execQueueTableWrite queue entry s
  | .extentTableInstall addr table => Sys2Proof.Machine.execExtentTableInstall addr table s
  | .slotFragmentInstall region cslot grant header entries => Sys2Proof.Machine.execSlotFragmentInstall region cslot grant header entries s
  | .hardEviction region => Sys2Proof.Machine.execHardEviction region s
  | .holdover => Sys2Proof.Machine.execHoldover s
  | .replayInputDelivery region => Sys2Proof.Machine.execReplayInputDelivery region s

end Sys2Proof.Machine
end

