-- ==== Sys2Proof/Machine/Info.lean ====
section
/-! DEFINITION. The registers, pipe, timing and waits of every word (R79, R83, R84, R90); an event has none. Each meaning
passes the same to `issue`. -/

namespace Sys2Proof.Machine

/-- What issue needs to know of an instruction, or none for an event.
(Log entry 80, DESIGN CHOICE) -/
def useInstr : Instr → Option Use
  | .nop hd => some (useNop hd)
  | .halt hd => some (useSettle hd .all)
  | .exit hd => some (useExit hd)
  | .trap hd _ => some (useE hd [] [])
  | .eret hd => some (useSettle hd .supervisor)
  | .snapst hd a => some (useE hd (sName a) [])
  | .snapld hd a => some (useE hd (sName a) [])
  | .snaprel hd => some (useE hd [] [])
  | .yield hd => some (useTransfer hd)
  | .srr hd a _ => some (useE hd [] (sName a))
  | .srw hd a k => some (useSrw hd a k)
  | .brk hd _ => some (useE hd [] [])
  | .add hd a b x => some (useS3 hd .exposed a b x)
  | .sub hd a b x => some (useS3 hd .exposed a b x)
  | .and hd a b x => some (useS3 hd .exposed a b x)
  | .or hd a b x => some (useS3 hd .exposed a b x)
  | .xor hd a b x => some (useS3 hd .exposed a b x)
  | .andn hd a b x => some (useS3 hd .exposed a b x)
  | .sll hd a b x => some (useS3 hd .exposed a b x)
  | .srl hd a b x => some (useS3 hd .exposed a b x)
  | .sra hd a b x => some (useS3 hd .exposed a b x)
  | .mul hd a b x => some (useS3 hd .exposed a b x)
  | .mulh hd a b x => some (useS3 hd .exposed a b x)
  | .mulhu hd a b x => some (useS3 hd .exposed a b x)
  | .min hd a b x => some (useS3 hd .exposed a b x)
  | .max hd a b x => some (useS3 hd .exposed a b x)
  | .minu hd a b x => some (useS3 hd .exposed a b x)
  | .maxu hd a b x => some (useS3 hd .exposed a b x)
  | .div hd a b x => some (useS3 hd .scoreboarded a b x)
  | .divu hd a b x => some (useS3 hd .scoreboarded a b x)
  | .rem hd a b x => some (useS3 hd .scoreboarded a b x)
  | .remu hd a b x => some (useS3 hd .scoreboarded a b x)
  | .clz hd a b => some (useS2 hd .scoreboarded a b)
  | .ctz hd a b => some (useS2 hd .scoreboarded a b)
  | .popc hd a b => some (useS2 hd .scoreboarded a b)
  | .sextB hd a b => some (useS2 hd .scoreboarded a b)
  | .sextH hd a b => some (useS2 hd .scoreboarded a b)
  | .sextW hd a b => some (useS2 hd .scoreboarded a b)
  | .zextW hd a b => some (useS2 hd .scoreboarded a b)
  | .bswap hd a b => some (useS2 hd .scoreboarded a b)
  | .addi hd a b _ => some (useS2 hd .exposed a b)
  | .andi hd a b _ => some (useS2 hd .exposed a b)
  | .ori hd a b _ => some (useS2 hd .exposed a b)
  | .xori hd a b _ => some (useS2 hd .exposed a b)
  | .slli hd a b _ => some (useS2 hd .exposed a b)
  | .srli hd a b _ => some (useS2 hd .exposed a b)
  | .srai hd a b _ => some (useS2 hd .exposed a b)
  | .li hd a _ => some (useLi hd a)
  | .lsh hd a _ => some (useLsh hd a)
  | .cmpEq hd a b x => some (useCmp hd a b x)
  | .cmpNe hd a b x => some (useCmp hd a b x)
  | .cmpLt hd a b x => some (useCmp hd a b x)
  | .cmpGe hd a b x => some (useCmp hd a b x)
  | .cmpLtu hd a b x => some (useCmp hd a b x)
  | .cmpGeu hd a b x => some (useCmp hd a b x)
  | .cmpeqi hd a b _ => some (useCmpI hd a b)
  | .cmplti hd a b _ => some (useCmpI hd a b)
  | .cmpltui hd a b _ => some (useCmpI hd a b)
  | .br hd _ => some (useBranch hd [] [])
  | .call hd _ => some (useBranch hd [] [.s 31])
  | .jr hd b => some (useBranch hd (sName b) [])
  | .jalr hd a b => some (useBranch hd (sName b) (sName a))
  | .ret hd => some (useBranch hd [.s 31] [])
  | .loop hd b _ => some (useBranch hd (sName b) [])
  | .loopi hd _ _ => some (useBranch hd [] [])
  | .pand hd a b x => some (useP3 hd a b x)
  | .por hd a b x => some (useP3 hd a b x)
  | .pxor hd a b x => some (useP3 hd a b x)
  | .pandn hd a b x => some (useP3 hd a b x)
  | .pnot hd a b => some (useP2 hd a b)
  | .pmov hd a b => some (useP2 hd a b)
  | .pset hd a => some (useP1 hd a)
  | .pclr hd a => some (useP1 hd a)
  | .pcnt hd a b => some (usePS hd a b)
  | .pfirst hd a b => some (usePS hd a b)
  | .ld8 hd a b _ => some (useLoad hd a b)
  | .ld8u hd a b _ => some (useLoad hd a b)
  | .ld16 hd a b _ => some (useLoad hd a b)
  | .ld16u hd a b _ => some (useLoad hd a b)
  | .ld32 hd a b _ => some (useLoad hd a b)
  | .ld32u hd a b _ => some (useLoad hd a b)
  | .ld64 hd a b _ => some (useLoad hd a b)
  | .st8 hd a b _ => some (useStore hd a b)
  | .st16 hd a b _ => some (useStore hd a b)
  | .st32 hd a b _ => some (useStore hd a b)
  | .st64 hd a b _ => some (useStore hd a b)
  | .ldf hd a b _ => some (useFe hd a b)
  | .lde hd a b _ => some (useFe hd a b)
  | .stf hd a b _ => some (useStore hd a b)
  | .stfo hd a b _ => some (useStore hd a b)
  | .feRequestServed => none
  | .vldRaw hd a b _ => some (useVload hd a b)
  | .vldF32 hd a b _ => some (useVload hd a b)
  | .vldBf16 hd a b _ => some (useVload hd a b)
  | .vldI32 hd a b _ => some (useVload hd a b)
  | .vldI8 hd a b _ => some (useVload hd a b)
  | .vldUi8 hd a b _ => some (useVload hd a b)
  | .vldHt8 hd a b _ => some (useVload hd a b)
  | .vldVtag hd a b _ => some (useVload hd a b)
  | .vst hd a b _ => some (useVstore hd a b)
  | .vstHt6 hd a b _ => some (useVstore hd a b)
  | .vldg hd a b x r => some (useGather hd a b x r)
  | .vsts hd a b x => some (useScatter hd a b x)
  | .atom32Add hd a b x => some (useAtom hd a b x)
  | .atom32And hd a b x => some (useAtom hd a b x)
  | .atom32Or hd a b x => some (useAtom hd a b x)
  | .atom32Xor hd a b x => some (useAtom hd a b x)
  | .atom32Min hd a b x => some (useAtom hd a b x)
  | .atom32Max hd a b x => some (useAtom hd a b x)
  | .atom32Minu hd a b x => some (useAtom hd a b x)
  | .atom32Maxu hd a b x => some (useAtom hd a b x)
  | .atom32Swap hd a b x => some (useAtom hd a b x)
  | .atom32Cas hd a b x => some (useCas hd a b x)
  | .atom32Fadd hd a b x => some (useAtom hd a b x)
  | .atom32Fmin hd a b x => some (useAtom hd a b x)
  | .atom32Fmax hd a b x => some (useAtom hd a b x)
  | .atom64Add hd a b x => some (useAtom hd a b x)
  | .atom64And hd a b x => some (useAtom hd a b x)
  | .atom64Or hd a b x => some (useAtom hd a b x)
  | .atom64Xor hd a b x => some (useAtom hd a b x)
  | .atom64Min hd a b x => some (useAtom hd a b x)
  | .atom64Max hd a b x => some (useAtom hd a b x)
  | .atom64Minu hd a b x => some (useAtom hd a b x)
  | .atom64Maxu hd a b x => some (useAtom hd a b x)
  | .atom64Swap hd a b x => some (useAtom hd a b x)
  | .atom64Cas hd a b x => some (useCas hd a b x)
  | .faddg hd a b x => some (useAtom hd a b x)
  | .atomicAcknowledgement _ _ => none
  | .fence hd _ _ => some (useM hd [] [])
  | .rel hd b x => some (useOwn hd b x)
  | .ownRet hd b x => some (useOwn hd b x)
  | .valuAdd hd a b x => some (useV3 hd a b x)
  | .valuSub hd a b x => some (useV3 hd a b x)
  | .valuAnd hd a b x => some (useV3 hd a b x)
  | .valuOr hd a b x => some (useV3 hd a b x)
  | .valuXor hd a b x => some (useV3 hd a b x)
  | .valuAndn hd a b x => some (useV3 hd a b x)
  | .valuSll hd a b x => some (useV3 hd a b x)
  | .valuSrl hd a b x => some (useV3 hd a b x)
  | .valuSra hd a b x => some (useV3 hd a b x)
  | .valuMul hd a b x => some (useV3 hd a b x)
  | .valuMulh hd a b x => some (useV3 hd a b x)
  | .valuMulhu hd a b x => some (useV3 hd a b x)
  | .valuMin hd a b x => some (useV3 hd a b x)
  | .valuMax hd a b x => some (useV3 hd a b x)
  | .valuMinu hd a b x => some (useV3 hd a b x)
  | .valuMaxu hd a b x => some (useV3 hd a b x)
  | .valusAdd hd a b x => some (useVS hd a b x)
  | .valusSub hd a b x => some (useVS hd a b x)
  | .valusAnd hd a b x => some (useVS hd a b x)
  | .valusOr hd a b x => some (useVS hd a b x)
  | .valusXor hd a b x => some (useVS hd a b x)
  | .valusAndn hd a b x => some (useVS hd a b x)
  | .valusSll hd a b x => some (useVS hd a b x)
  | .valusSrl hd a b x => some (useVS hd a b x)
  | .valusSra hd a b x => some (useVS hd a b x)
  | .valusMul hd a b x => some (useVS hd a b x)
  | .valusMulh hd a b x => some (useVS hd a b x)
  | .valusMulhu hd a b x => some (useVS hd a b x)
  | .valusMin hd a b x => some (useVS hd a b x)
  | .valusMax hd a b x => some (useVS hd a b x)
  | .valusMinu hd a b x => some (useVS hd a b x)
  | .valusMaxu hd a b x => some (useVS hd a b x)
  | .fadd hd a b x => some (useV3 hd a b x)
  | .fsub hd a b x => some (useV3 hd a b x)
  | .fmul hd a b x => some (useV3 hd a b x)
  | .fmin hd a b x => some (useV3 hd a b x)
  | .fmax hd a b x => some (useV3 hd a b x)
  | .fabs hd a b => some (useV2 hd a b)
  | .fneg hd a b => some (useV2 hd a b)
  | .fsqrt hd a b => some (useV2 hd a b)
  | .frcp hd a b => some (useV2 hd a b)
  | .frsq hd a b => some (useV2 hd a b)
  | .fexp2 hd a b => some (useV2 hd a b)
  | .flog2 hd a b => some (useV2 hd a b)
  | .fma hd a b x => some (useFma hd a b x)
  | .fms hd a b x => some (useFma hd a b x)
  | .fnma hd a b x => some (useFma hd a b x)
  | .vcmpEq hd a b x => some (useVcmp hd a b x)
  | .vcmpNe hd a b x => some (useVcmp hd a b x)
  | .vcmpLt hd a b x => some (useVcmp hd a b x)
  | .vcmpLe hd a b x => some (useVcmp hd a b x)
  | .vcmpLtu hd a b x => some (useVcmp hd a b x)
  | .vcmpFeq hd a b x => some (useVcmp hd a b x)
  | .vcmpFlt hd a b x => some (useVcmp hd a b x)
  | .vcmpFle hd a b x => some (useVcmp hd a b x)
  | .vcmpFunord hd a b x => some (useVcmp hd a b x)
  | .vcvtF32I32 hd a b _ => some (useV2 hd a b)
  | .vcvtI32F32 hd a b _ => some (useV2 hd a b)
  | .vcvtBf16F32 hd a b _ _ => some (useV2 hd a b)
  | .vcvtF32Bf16 hd a b _ => some (useV2 hd a b)
  | .vcvtE4m3F32 hd a b _ _ => some (useV2 hd a b)
  | .vcvtF32E4m3 hd a b _ => some (useV2 hd a b)
  | .vcvtE5m2F32 hd a b _ _ => some (useV2 hd a b)
  | .vcvtF32E5m2 hd a b _ => some (useV2 hd a b)
  | .vcvtE2m1F32 hd a b _ _ => some (useV hd [.v b, .v (b + 1)] [.v a])
  | .vcvtF32E2m1 hd a b _ => some (useV hd [.v b] [.v a, .v (a + 1)])
  | .vcvtHt8F32 hd a b _ => some (useV2 hd a b)
  | .vcvtF32Ht8 hd a b _ => some (useV2 hd a b)
  | .vcvtHt6F32 hd a b _ => some (useV2 hd a b)
  | .vcvtF32Ht6 hd a b _ => some (useV2 hd a b)
  | .vcvtI32I8 hd a b _ => some (useV2 hd a b)
  | .vcvtI8I32 hd a b _ _ _ => some (useV2 hd a b)
  | .vredSumI32 hd a b => some (useVred hd a b)
  | .vredSumF32 hd a b => some (useVred hd a b)
  | .vredMin hd a b => some (useVred hd a b)
  | .vredMax hd a b => some (useVred hd a b)
  | .vredFmin hd a b => some (useVred hd a b)
  | .vredFmax hd a b => some (useVred hd a b)
  | .vredAnd hd a b => some (useVred hd a b)
  | .vredOr hd a b => some (useVred hd a b)
  | .vperm hd a b x => some (useV3 hd a b x)
  | .vrot hd a b x => some (useVS hd a b x)
  | .vbcast hd a b x => some (useVS hd a b x)
  | .vext hd a b x => some (useV hd (.v b :: sName x) (sName a))
  | .vins hd a b x => some (useV hd (.v a :: sName b ++ sName x) [.v a])
  | .vcompress hd a b x => some (useVP hd a b x)
  | .vexpand hd a b x => some (useVP hd a b x)
  | .vid hd a => some (useV hd [] [.v a])
  | .vsplat hd a _ => some (useV hd [] [.v a])
  | .tldChk hd d b _ => some (useTld hd d b 0)
  | .tldGen hd d b st _ => some (useTld hd d b st)
  | .tstChk hd d b _ => some (useTst hd d b 0)
  | .tstGen hd d b st _ => some (useTst hd d b st)
  | .tlds hd a => some (useX hd [.t a] [])
  | .mma hd d a e _ _ _ _ => some (useMma hd d [.t a] e)
  | .mmaCb hd d _ e _ _ _ _ => some (useMma hd d [] e)
  | .tswap hd => some (useX hd [] [])
  | .tzero hd d _ => some (useX hd [] [.t d])
  | .tmark hd d => some (useX hd [] [.t d])
  | .tdrain hd d => some (useX hd [.t d] [.t d])
  | .tcvt hd d a _ _ => some (useX hd [.t a] [.t d])
  | .ttr hd d a => some (useX hd [.t a] [.t d])
  | .tchk hd a => some (useX hd [.t a] [])
  | .tmov hd d a => some (useX hd [.t a] [.t d])
  | .tadd hd d a b => some (useX hd [.t a, .t b] [.t d])
  | .tdrq hd d a v _ _ => some (useX hd [.t a, .v v, .v (v + 1), .v (v + 2), .v (v + 3)] [.t d, .t a])
  | .trget hd t x y => some (useX hd (.t t :: sName y) [.v x])
  | .trset hd t x y => some (useX hd (.v x :: sName y) [.t t])
  | .tcsum hd t x y => some (useX hd (.t t :: sName y) [.v x])
  | .trsum hd t x => some (useX hd [.t t] [.v x])
  | .tinj hd t x y => some (useX hd (sName x ++ sName y) [.t t])
  | .tstat hd t x _ => some (useX hd [.t t] (sName x))
  | .xWordStart => none
  | .cbdef hd a b => some (useEIn hd a b)
  | .cbput hd a b => some (useRelease (useEIn hd a b))
  | .cbwait hd a b => some (useEOut hd a b)
  | .cbtake hd a b => some (useEIn hd a b)
  | .cbclose hd b => some (useE hd (sName b) [])
  | .cbst hd a b => some (useEOut hd a b)
  | .cpy hd a b _ => some (useEIn hd a b)
  | .cpyt hd a b _ => some (useEIn hd a b)
  | .cpya hd a b _ => some (useEIn hd a b)
  | .cpyc hd a b _ => some (useEIn hd a b)
  | .cpyst hd a => some (useE hd [] (sName a))
  | .copyOperationStart => none
  | .cpycHoldEnd => none
  | .copyOperationComplete => none
  | .cpyaFire => none
  | .copyEngineFault => none
  | .sinit hd a b => some (useRelease (useEIn hd a b))
  | .swait hd a b => some (useEBoth hd a b)
  | .swaitY hd a b => some (useEBoth hd a b)
  | .sadd hd a b => some (useRelease (useEIn hd a b))
  | .sstat hd a b => some (useEOut hd a b)
  | .waitConditionMet => none
  | .rsub hd a b => some (useRelease (useEOut hd a b))
  | .rtake hd a b => some (useEOut hd a b)
  | .rpass hd b => some (useRelease (useE hd (sName b) []))
  | .rdrop hd b => some (useRelease (useE hd (sName b) []))
  | .rside hd a b => some (useEIn hd a b)
  | .rstat hd a b => some (useEOut hd a b)
  | .stageSetInstall _ _ _ _ => none
  | .routing _ _ => none
  | .retirement _ _ => none
  | .coll hd a b => some (useEOut hd a b)
  | .cwait hd a b => some (useEOut hd a b)
  | .cstat hd a b => some (useEOut hd a b)
  | .cabort hd b => some (useE hd (sName b) [])
  | .collFirstPacket _ _ _ => none
  | .collMatchTimeout _ => none
  | .collChunkStart _ _ _ => none
  | .collChunkTimeout _ => none
  | .collAbortReceived _ _ => none
  | .collCallEnd _ => none
  | .launch hd a b => some (useRelease (useEBoth hd a b))
  | .lstat hd a b => some (useEOut hd a b)
  | .waitt hd a b => some (useEOut hd a b)
  | .tnow hd a b => some (useE hd [] (sName a ++ sName b))
  | .rfence hd a => some { useE hd [] (sName a) with settle := some (.reflected none) }
  | .rfencew hd a b => some { useEOut hd a b with settle := some (.reflected (some b)) }
  | .wstat hd a b => some (useEOut hd a b)
  | .pagereq hd a b => some (useEOut hd a b)
  | .pstat hd a b => some (useEOut hd a b)
  | .exposedResultLanding => none
  | .scoreboardedResultLanding _ => none
  | .lookAheadNullifier => none
  | .correctableSramError _ _ => none
  | .correctionHoldEnd => none
  | .residueGuardMismatch _ _ => none
  | .residueHoldEnd => none
  | .trapEntry => none
  | .preemptionRequest => none
  | .machineCheck _ _ _ => none
  | .ctxcmdSave => none
  | .ctxcmdRelease => none
  | .ctxcmdForward => none
  | .replyAbort _ => none
  | .replyResume _ => none
  | .replyRetryFromMark _ => none
  | .replyKillRegion _ => none
  | .iterationPreemption => none
  | .nodePreemption => none
  | .tailWrite _ _ _ _ => none
  | .mailboxWrite _ _ _ => none
  | .headMirrorStore _ => none
  | .dispatchSlotTableWrite _ _ => none
  | .activityBitmapClear _ _ => none
  | .recordTake _ => none
  | .dependencyMet _ => none
  | .placeUnit _ => none
  | .priorityAgeing _ => none
  | .softPointTimeout => none
  | .gangInstancePlacement _ _ => none
  | .ttStartAttempt _ => none
  | .readyWord _ => none
  | .launchCompletion _ => none
  | .budgetPeriodBoundary _ => none
  | .budgetHandleLoad _ _ _ => none
  | .budgetLimitWrite _ _ _ _ => none
  | .errmapClear _ _ => none
  | .xtblWrite _ _ => none
  | .meshScheduledForward _ => none
  | .reflectedWriteArrival _ => none
  | .acknowledgementSend _ _ => none
  | .acknowledgementReceive _ _ _ => none
  | .retransmission _ _ => none
  | .planeLoss _ => none
  | .pathDeath _ _ _ => none
  | .pathReset _ _ => none
  | .ptpSync _ _ => none
  | .ptpFollowUp _ _ _ => none
  | .ptpPdelayReq _ _ => none
  | .ptpPdelayResp _ _ _ => none
  | .ptpPdelayRespFollowUp _ _ => none
  | .resdone _ => none
  | .resfail _ => none
  | .atsTranslationCompletion _ _ _ _ _ => none
  | .priResponse _ _ _ => none
  | .priTimeout _ _ => none
  | .atsInvalidateRequest _ _ _ => none
  | .arraySelfTest _ _ => none
  | .spareRowSwitch _ _ _ _ => none
  | .bringUp _ => none
  | .attestationRequest _ => none
  | .thermalThrottle _ _ => none
  | .windowEntryInstall _ _ _ _ => none
  | .stageSetRemoval _ _ => none
  | .residencyBitClear _ _ => none
  | .regionNodeInstall _ _ => none
  | .queueTableWrite _ _ => none
  | .extentTableInstall _ _ => none
  | .slotFragmentInstall _ _ _ _ _ => none
  | .hardEviction _ => none
  | .holdover => none
  | .replayInputDelivery _ => none

end Sys2Proof.Machine
end

