-- ==== Sys2Proof/Machine/Group.lean ====
section
/-! DEFINITION. The sequencer's part of a step: the encoding checks of a group (R79, R92, R112, R201), its words' run (R78, R316),
and what a bay does in a step or with the clamp held (R8, R9, R318). -/

namespace Sys2Proof.Machine

/-! ### Encoding checks -/

/-- Whether a word takes its format from VTAG (R141, R143, R165).
(Log entry 22, DEDUCED) -/
def usesVtag (w : W32) : Bool :=
  majorOf w == 0x1A || (majorOf w == 0x18 && w.toNat % 8 == 7) || (majorOf w == 0x2C && w.getLsbD 6)

/-- Whether VTAG holds a reserved format code (R92).
(Log entry 22, DEDUCED) -/
def badVtag (s : State) : Bool := 10 < s.seq.vtag.toNat % 16

/-- Whether a decoded instruction is `snaprel`. -/
def isSnaprel : Except DecodeError Instr → Bool
  | .ok (.snaprel _) => true
  | _ => false

/-- Whether the word before a position of a packet has C = 1. -/
def chained (packet : List W32) (pos : Nat) : Bool := pos != 0 && (packet.getD (pos - 1) 0).getLsbD 31

/-- The first check of R92 that a word of a packet fails by itself. A `snaprel` that breaks R201 is itself the word that fails,
whichever C bit it is: the manual does not say which word EINFO names.
(Log entry 88, DESIGN CHOICE) -/
noncomputable def wordCheck (s : State) (packet : List W32) (w : W32) (pos : Nat) : Option (BitVec 6) :=
  let d := decodeWord w
  let vtag := usesVtag w && badVtag s
  match d with
  | .error e =>
    if vtag && (decodeErrorDetail e == 0x0B || decodeErrorDetail e == 0x0A) then some 0x09 else some (decodeErrorDetail e)
  | .ok _ =>
    if vtag then some 0x09 else if isSnaprel d && (w.getLsbD 31 || chained packet pos) then some 0x0A else none

/-- What issue needs to know of a word of the packet. -/
noncomputable def useOfWord (w : W32) : Use :=
  match decodeWord w with
  | .ok i => (useInstr i).getD (useNop (headerOf w))
  | .error _ => useNop (headerOf w)

/-- The position of the first of a list that stands with an earlier one in a relation. -/
def firstPair (rel : Use → Use → Bool) : List (Use × Nat) → List (Use × Nat) → Option Nat
  | _, [] => none
  | before, x :: rest => if before.any (fun y => rel y.1 x.1) then some x.2 else firstPair rel (before ++ [x]) rest

/-- The position of a branch word with a word other than `nop` after it in its group (R79, R112). -/
def strayBranch : List (Use × Nat) → Option Nat
  | [] => none
  | x :: rest => if x.1.branch && rest.any (fun y => y.1.pipe != .none) then some x.2 else strayBranch rest

/-- The first of the group rules that a group breaks, and the word it names (R79, R92). -/
def groupCheck (us : List (Use × Nat)) : Option (BitVec 6 × Nat) :=
  if us.any (fun x => x.2 == 2 && x.1.hd.c) then some (0x03, 2)
  else match firstPair (fun u w => u.pipe == w.pipe && w.pipe != .none) [] us with
    | some p => some (0x04, p)
    | none => match strayBranch us with
      | some p => some (0x05, p)
      | none => (firstPair Use.conflicts [] us).map (fun p => (0x06, p))

/-- The class 0 trap of an illegal group (R92).
(Log entry 22, DEDUCED) -/
noncomputable def encodingTrap (s : State) (packet : List W32) (ws : List (W32 × Nat)) : Option TrapInfo :=
  let found := (ws.findSome? (fun x => (wordCheck s packet x.1 x.2).map (fun d => (d, x.2)))).or
    (groupCheck (ws.map (fun x => (useOfWord x.1, x.2))))
  found.map (fun f =>
    let w := ((ws.find? (fun x => x.2 == f.2)).map (·.1)).getD 0
    cause 0 f.1 (packetAddr s) ((w.setWidth 64 <<< 32) ||| BitVec.ofNat 64 f.2))

/-! ### The words of a group -/

/-- A word of the group presented as the sequencer issues it: one that a resume shows as done stands as `nop` (R320). -/
noncomputable def slotInstr (s : State) (x : W32 × Nat) : Instr :=
  match decodeWord x.1 with
  | .ok i => if s.seq.resumeDone.getLsbD x.2 then .nop (headerOf x.1) else i
  | .error _ => .nop (headerOf x.1)

/-- What issue needs to know of a word of the group presented. -/
noncomputable def slotUse (s : State) (x : W32 × Nat) : Use := (useInstr (slotInstr s x)).getD (useNop (headerOf x.1))

/-- When a word acts within its step: `srr` first, since it reads what earlier steps have left (R119); branch words after the
others, `yield` last, since they take no effect in a trapping group (R316). -/
def wordTurn (i : Instr) (u : Use) : Nat :=
  match i with
  | .srr _ _ _ => 0
  | _ => if u.branch then 2 else if u.transfers && u.settle == none then 3 else 1

/-- A word of an open group acts. -/
def runWord (i : Instr) (pos : Nat) (s : State) : State :=
  match exec i (onGroup (fun g => { g with pos := pos }) s) with
  | .next s' => s'
  | .fault _ => s
  | .refused _ => s

/-- The words of an open group act, each in its turn.
(Log entry 14, DEDUCED) -/
def runWords (is : List (Instr × Use × Nat)) (s : State) : State :=
  let turn := fun (n : Nat) => is.filter (fun x => wordTurn x.1 x.2.1 == n)
  (turn 0 ++ turn 1 ++ turn 2 ++ turn 3).foldl (fun s x => runWord x.1 x.2.2 s) s

/-- The words of the group presented, each with what issue needs to know of it. -/
noncomputable def slotsOfGroup (s : State) (ws : List (W32 × Nat)) : List (Instr × Use × Nat) :=
  ws.map (fun x => (slotInstr s x, slotUse s x, x.2))

/-- Whether a group's presentation waits for something that is in flight (R84, R200). -/
def groupWaits (us : List Use) (s : State) : Bool :=
  us.any (fun u => u.drains s || u.settleDrains s || u.waits s || (u.settleWait s).isSome)

/-- Whether the group presented traps in this step (R318 rank 2). -/
def groupTraps (us : List Use) (f : State → State) (s : State) : Bool :=
  !groupWaits us s && (f (openGroup s)).seq.group.trap.isSome

/-- A legal group presented: a pre-emption request is taken unless a cause of the group goes before it (R318). -/
noncomputable def presentWords (ws : List (W32 × Nat)) (s : State) : Host.Outcome State Fault Refusal :=
  let is := slotsOfGroup s ws
  let us := is.map (·.2.1)
  if preemptDue s && !groupTraps us (runWords is) s then .next (passCycle (takePreempt s))
  else presentGroup us ws.length (runWords is) s

/-- The words of a fetched packet presented: checked, removed by the nullifier, or issued (R86, R92). -/
noncomputable def presentPacket (packet : List W32) (ws : List (W32 × Nat)) (s : State) : Host.Outcome State Fault Refusal :=
  match encodingTrap s packet ws with
  | some t => .next (passCycle (deliverTrap t 0 s))
  | none => if nullified s ws then .next (removeGroup ws.length s) else presentWords ws s

/-- The group at PC presented (R75): its fetch fails, waits for the budget of the unit's region, or gives the packet. A
pre-emption request does not wait for a fetch (R187, R318). -/
noncomputable def groupStep (s : State) : Host.Outcome State Fault Refusal :=
  match fetchFailure s with
  | some t => .next (passCycle (deliverTrap t 0 s))
  | none =>
    if !fetchAdmitted s then
      if preemptDue s then .next (passCycle (takePreempt s)) else .next (stalledStep (.budget 0) false s)
    else presentPacket (packetWords s) (groupWords s) (fetched s)

/-! ### The bay's step -/

/-- The save that a soft point has been met for (R332): once nothing is in flight and the copy engine stands at a 256-byte
boundary; until then the unit waits, in empty issuing steps while exposed results remain.
(Log entry 20, DEDUCED) -/
def savingStep (s : State) : State :=
  if saveReady s then passCycle (iterationSave none s) else emptyStep (!s.seq.ifq.isEmpty) s

/-- A step of a running sequencer (R9, R318).
(Log entry 65, DEDUCED) -/
noncomputable def runStep (s : State) : Host.Outcome State Fault Refusal :=
  if hasDiverged s then .next (passCycle (killRegion s.regionHandle s))
  else match boundaryCause s with
    | some (t, s') => .next (passCycle (deliverTrap t 0 s'))
    | none => if s.seq.preempt == some .saving && !s.seq.supervisor then .next (savingStep s) else groupStep s

/-- What the bay does in a bay cycle: nothing once stopped; a held cycle while the clamp is held; the unit's next group; with
no group to issue, the cycle passes.
(Log entry 10, DESIGN CHOICE) -/
noncomputable def bayStep (s : State) : Host.Outcome State Fault Refusal :=
  if s.seq.stopped then .next (passCycle s)
  else if clampHeld s then .next (heldCycle s)
  else if s.seq.halted then .next (emptyStep false s)
  else if isRunning s then runStep s
  else .next (passCycle s)

end Sys2Proof.Machine
end

