-- ==== Sys2Proof/Machine/Place.lean ====
section
/-! DEFINITION. An instruction word placed for the next step to fetch (R75): a unit on the bay, a packet in an executable
extent, and nothing that comes before the group. -/

namespace Sys2Proof.Machine

/-- The packet index that a placed word is fetched from: the first packet of extent space. -/
def placedPc : BitVec 40 := 357913942

/-- HBM address of the extent that holds it. -/
def placedPhys : Nat := 0x200000

/-- An extent table of one descriptor (R335), at HBM address 0: 64 KiB of extent space from its start, valid, readable,
writable, executable and resident. -/
def placedTable : List Byte :=
  bytesOfNat 8 0x100000000 ++ bytesOfNat 8 0x10000 ++ bytesOfNat 8 placedPhys ++ bytesOfNat 8 0x2F

/-- A unit that stands on the bay for a placed word. -/
def placedRec (s : State) : UnitRec :=
  { key := s.disp.fresh, launch := s.disp.fresh, idx := 0, member := 0, region := s.regionHandle, bay := s.seq.bayId.toNat,
    slot := 0, phase := .placed, first := 0, cmdp := 0, loopRecord := LoopRecord.empty, sect := .prologue, buffers := [],
    frozen := [], planes := none, queue := [], armed := [], held := none, snapshot := none, record := none, cause := 0, faultCount := 0,
    slice := false, waiting := none, retry := none, debug := false, faults := [], asked := none, askedAt := 0, readyAt := none, domain := 0, farea := 0,
    fhrec := 0, prio := 0, since := 0, aged := 0, inputSeq := 0 }

/-- A new unit put on the bay. -/
def addPlaced (s : State) : State :=
  onSeq (fun q => { q with unit := some s.disp.fresh })
    (onDisp (fun d => { d with units := d.units ++ [placedRec s], fresh := d.fresh + 1 }) s)

/-- A unit on the bay: the one placed, if its first issue is not held, else a new one.
(Log entry 9, DESIGN CHOICE) -/
def withUnit (s : State) : State :=
  match placedUnit s with
  | some u => if holdsIssue s u then addPlaced s else s
  | none => addPlaced s

/-- A state whose next step fetches a word as a group of its own: the packet holds it first and two `nop` words after it, in
memory and in the instruction cache.
(Log entry 9, DESIGN CHOICE) -/
def placeWord (w : Nat) (s : State) : State :=
  let s := withUnit s
  let s := onMem (fun m => { m with
    hbm := memWrite (memWrite m.hbm 0 placedTable) (placedPhys + (12 * placedPc.toNat - 0x100000000))
      (bytesOfNat 4 w ++ zeroBytes 8) }) s
  let s := onFw (fun f => { f with inputs := f.inputs.map (fun l => { l with diverged := false }) }) s
  onSeq (fun q => { q with
    pc := placedPc, gpos := 0, xtbl := 0, stopped := false, halted := false, corrections := [], residue := 0,
    cpycHold := false, icache := [(placedPc, [BitVec.ofNat 32 w, 0, 0])], engineFaults := [], preempt := none,
    wait := none, resumeDone := 0, group := Group.closed, record := { q.record with malformed := false } }) { s with inbox := [] }

end Sys2Proof.Machine
end

