-- ==== Sys2Proof/Machine/Step.lean ====
section
/-! DEFINITION. One step of the machine: the oldest event that has happened takes effect, or else the bay has its cycle. -/

namespace Sys2Proof.Machine

/-- A step. An entry of the schedule that is a word and no event has no effect.
(Log entries 5 DESIGN CHOICE, 10 DESIGN CHOICE, 80 DESIGN CHOICE) -/
noncomputable def step (s : State) : Host.Outcome State Fault Refusal :=
  match s.inbox with
  | [] => bayStep s
  | e :: rest =>
    match useInstr e with
    | some _ => .next { s with inbox := rest }
    | none => exec e { s with inbox := rest }

/-- A state with an instruction placed where the next step fetches and issues it.
(Log entry 9, DESIGN CHOICE) -/
def State.withFetchWord (s : State) (nbits w : Nat) : State := placeWord (w % 2 ^ nbits) s

end Sys2Proof.Machine
end

