-- ==== Sys2Proof/Safety.lean ====
section
/-! DEFINITION. What counts as a safe run, and the form that every reachable state's memory has. -/

namespace Sys2Proof.Machine

/-- The canonical form of memory: scratchpad and HBM cells at strictly rising addresses and none of them 0, full words and owned
granules and damaged words in strictly rising order. -/
def Mem.canonical (m : Mem) : Prop :=
  m.spad.wf = true ∧ m.hbm.wf = true ∧ m.full.Pairwise (· < ·) ∧ m.owner.Pairwise (fun c d => c.1 < d.1) ∧
    m.damaged.Pairwise (· < ·)

/-- A run of n steps that meets neither a fault nor a refusal. -/
def State.runsFor : Nat → State → Prop
  | 0, _ => True
  | n + 1, s => ∃ t, step s = .next t ∧ State.runsFor n t

/-- A state from which no run ends. -/
def State.safe (s : State) : Prop := ∀ n, s.runsFor n

end Sys2Proof.Machine
end

