-- ==== Sys2Proof/Certificates/Slice0/Obligations.lean ====
section
/-! DEFINITION. The statements for the provers: encoding, the step, reset, every family of words, traps, events, and the
invariant of memory. Each docstring names the rules it formalises. A word is stated where it acts, in an open group; that a step
opens the group, runs its words and closes it is stated apart. -/

open Sys2Proof Sys2Proof.Machine

namespace Sys2Proof.Claims

/-- A word acts: its group is open and its guard passes in lane 0 (R78, R81). -/
def acts (hd : Hdr) (s : State) : Prop := s.seq.group.isOpen = true ∧ guardPass hd s = true

/-- A vector word acts: its group is open, and it is unguarded or its guard passes in some lane (R81, R121). -/
def vacts (hd : Hdr) (s : State) : Prop := s.seq.group.isOpen = true ∧ (hd.g = false ∨ guardMask hd s ≠ 0)

/-- A transfer word acts in a group that has not trapped (R316). -/
def transfers (hd : Hdr) (s : State) : Prop := acts hd s ∧ s.seq.group.trap = none

/-- A predicate whose 64 lanes are all one value. -/
def lanes (b : Prop) [Decidable b] : W64 := if b then BitVec.allOnes 64 else 0

/-- An answer that is a next state. -/
def next (s : State) : Host.Outcome State Fault Refusal := .next s

end Sys2Proof.Claims

open Sys2Proof.Claims

/-! ### Encoding -/

/-- R77, R87 to R91: words of every major written out from the encoding tables, bit by bit, and what they decode to. -/
def Obligations.DecodedWordsOfEachFamily : Prop :=
  let h : Hdr := Hdr.mk false false 0 false
  -- exit; srr s5, FSTAT; add s3, s1, s2; clz s4, s7
  decodeWord 0x00000400 = .ok (.exit h) ∧ decodeWord 0x00015210 = .ok (.srr h 5 0x010) ∧
  decodeWord 0x0008C220 = .ok (.add h 3 1 2) ∧ decodeWord 0x00110E04 = .ok (.clz h 4 7) ∧
  -- slli s3, s4, 5; li s3, 18; lsh s3, 3349; (p2) br -3; C = 1: loopi 3, 2
  decodeWord 0x0038C805 = .ok (.slli h 3 4 5) ∧ decodeWord 0x0040C012 = .ok (.li h 3 18) ∧
  decodeWord 0x0048CD15 = .ok (.lsh h 3 0xD15) ∧
  decodeWord 0x4877FFFD = .ok (.br (Hdr.mk false true 2 false) 0x7FFFD) ∧
  decodeWord 0x80900602 = .ok (.loopi (Hdr.mk true false 0 false) 3 2) ∧
  -- ld64 s8, [s4 + 16]; st64 s5, [s1]; C = 1: fadd v3, v1, v2; fma v4, v1, v2
  decodeWord 0x80AA0816 = .ok (.ld64 (Hdr.mk true false 0 false) 8 4 2) ∧
  decodeWord 0x00B14203 = .ok (.st64 h 5 1 0) ∧
  decodeWord 0x8110C220 = .ok (.fadd (Hdr.mk true false 0 false) 3 1 2) ∧
  decodeWord 0x01190220 = .ok (.fma h 4 1 2) ∧
  -- addi s1, s2, -3; andi, ori, xori s1, s2, 9; cmp.ge p15, s1, s2; cmpeqi, cmplti, cmpltui p1, s2, 4
  decodeWord 0b0_0_0000_0_000011_00001_00010_111111101 = .ok (.addi h 1 2 0x1FD) ∧
  decodeWord 0b0_0_0000_0_000100_00001_00010_000001001 = .ok (.andi h 1 2 9) ∧
  decodeWord 0b0_0_0000_0_000101_00001_00010_000001001 = .ok (.ori h 1 2 9) ∧
  decodeWord 0b0_0_0000_0_000110_00001_00010_000001001 = .ok (.xori h 1 2 9) ∧
  decodeWord 0b0_0_0000_0_001010_01111_00001_00010_0011 = .ok (.cmpGe h 15 1 2) ∧
  decodeWord 0b0_0_0000_0_001011_00001_00010_000000100 = .ok (.cmpeqi h 1 2 4) ∧
  decodeWord 0b0_0_0000_0_001100_00001_00010_000000100 = .ok (.cmplti h 1 2 4) ∧
  decodeWord 0b0_0_0000_0_001101_00001_00010_000000100 = .ok (.cmpltui h 1 2 4) ∧
  -- call 5; jalr s6, s7; loop s8, 255; pandn p1, p2, p3
  decodeWord 0b0_0_0000_0_001111_0000000000000000101 = .ok (.call h 5) ∧
  decodeWord 0b0_0_0000_0_010000_00110_00111_00000_0001 = .ok (.jalr h 6 7) ∧
  decodeWord 0b0_0_0000_0_010001_00000_01000_011111111 = .ok (.loop h 8 255) ∧
  decodeWord 0b0_0_0000_0_010011_00001_00010_00011_0011 = .ok (.pandn h 1 2 3) ∧
  -- ldf s5, [s4 + 8]; vld.ht8 v1, [s2 + 768]; vst.ht6 v1, [s2 + 768]; vldg v5, [s3], v7, p2; vsts v1, [s2], v3
  decodeWord 0x00B94808 = .ok (.ldf h 5 4 1) ∧
  decodeWord 0b0_0_0000_0_011000_00001_00010_000011_110 = .ok (.vldHt8 h 1 2 3) ∧
  decodeWord 0b0_0_0000_0_011001_00001_00010_000011_001 = .ok (.vstHt6 h 1 2 3) ∧
  decodeWord 0x00D14672 = .ok (.vldg h 5 3 7 2) ∧
  decodeWord 0b0_0_0000_0_011011_00001_00010_00011_0000 = .ok (.vsts h 1 2 3) ∧
  -- atom32.cas s1, [s2], s3; atom64.faddg s5, [s3], s6; fence 2, 3; rel [s4], s5
  decodeWord 0b0_0_0000_0_011100_00001_00010_00011_1001 = .ok (.atom32Cas h 1 2 3) ∧
  decodeWord 0x00E9466D = .ok (.faddg h 5 3 6) ∧ decodeWord 0x00F00083 = .ok (.fence h 2 3) ∧
  decodeWord 0x00F80850 = .ok (.rel h 4 5) ∧
  -- maxu and sra of VALU and VALUS; vcmp.funord p1, v2, v3; vcvt.f32.i32 v1, v0; sum.f32 s5, v2; vid v0; vsplat v1, -2
  decodeWord 0b0_0_0000_0_100000_00001_00010_00011_1111 = .ok (.valuMaxu h 1 2 3) ∧
  decodeWord 0b0_0_0000_0_100001_00001_00010_00011_1000 = .ok (.valusSra h 1 2 3) ∧
  decodeWord 0b0_0_0000_0_100100_00001_00010_00011_1000 = .ok (.vcmpFunord h 1 2 3) ∧
  decodeWord 0x01284000 = .ok (.vcvtF32I32 h 1 0 0) ∧ decodeWord 0x01314401 = .ok (.vredSumF32 h 5 2) ∧
  decodeWord 0x01380007 = .ok (.vid h 0) ∧
  decodeWord 0b0_0_0000_0_101000_00001_11111111111110 = .ok (.vsplat h 1 0x3FFE) ∧
  -- tld.i8.gen t2, [s4], s6; tst.bf16.chk t7, [s9]; tlds t5; mma.acc t2, t0; tcvt.e4m3.rz t5, t4; tdrq.i8.bias t6, t2, v8;
  -- tstat s7, t2, 1
  decodeWord 0x014910C9 = .ok (.tldGen h 2 4 6 4) ∧ decodeWord 0x0153A404 = .ok (.tstChk h 7 9 2) ∧
  decodeWord 0x01582800 = .ok (.tlds h 5) ∧ decodeWord 0x01610010 = .ok (.mma h 2 0 1 0 0 0 0) ∧
  decodeWord 0x016AA321 = .ok (.tcvt h 5 4 6 1) ∧ decodeWord 0x01731212 = .ok (.tdrq h 6 2 8 4 1) ∧
  decodeWord 0x01791C25 = .ok (.tstat h 2 7 1) ∧
  -- cbwait s1, s2; cpyc s4, s0, 3; swait.y s5, s6; rtake s5, s6; coll s1, s2; launch s5, s6; waitt s5, s6; rfence s5
  decodeWord 0b0_0_0000_0_110000_00001_00010_000000010 = .ok (.cbwait h 1 2) ∧
  decodeWord 0x018900C3 = .ok (.cpyc h 4 0 3) ∧ decodeWord 0x01914C02 = .ok (.swaitY h 5 6) ∧
  decodeWord 0x01994C01 = .ok (.rtake h 5 6) ∧
  decodeWord 0b0_0_0000_0_110100_00001_00010_000000000 = .ok (.coll h 1 2) ∧
  decodeWord 0x01A94C00 = .ok (.launch h 5 6) ∧ decodeWord 0x01B14C00 = .ok (.waitt h 5 6) ∧
  decodeWord 0x01B94000 = .ok (.rfence h 5) ∧
  -- a reserved major, and a must-be-zero bit of `exit`
  (decodeWord 0x01F80000).toOption = none ∧ decodeWord 0x00000401 = .error .mustBeZero

/-- R77, R87 to R92: the decoder reads every field that the encoder writes: a well-formed instruction's word decodes to it. -/
def Obligations.DecodeUndoesEncode : Prop :=
  ∀ (i : Instr) (w : W32), encode i = some w → i.wellFormed = true → decodeWord w = .ok i

/-- R77, R87 to R92: the decoder drops no bit: what a word decodes to is well formed and encodes to that word. -/
def Obligations.EncodeUndoesDecode : Prop :=
  ∀ (i : Instr) (w : W32), decodeWord w = .ok i → encode i = some w ∧ i.wellFormed = true

/-! ### The step -/

namespace Sys2Proof.Claims

/-- The bay presents the group of words at its PC: no event is due, a unit runs, nothing holds the clamp or comes before the
group, and the packet can be fetched, within the budget of the unit's region. -/
def presents (s : State) (ws : List (W32 × Nat)) : Prop :=
  s.inbox = [] ∧ s.seq.stopped = false ∧ clampHeld s = false ∧ s.seq.halted = false ∧ isRunning s = true ∧
    hasDiverged s = false ∧ boundaryCause s = none ∧ s.seq.preempt = none ∧ fetchFailure s = none ∧ fetchAdmitted s = true ∧
    groupWords s = ws ∧ s.seq.group.isOpen = false

/-- A word by itself waits for nothing in flight. -/
def free (u : Use) (s : State) : Prop :=
  u.drains s = false ∧ u.settleDrains s = false ∧ u.waits s = false ∧ u.settleWait s = none

end Sys2Proof.Claims

/-- R75, R76, R78, R80, R92: a step runs the decoded instruction, in the state that the fetch of its packet leaves. A group of
one legal word is its instruction; a group of several is the effects of its words and one closing; an illegal group traps; an
event that has happened takes effect first, which is the model's choice (log entries 5 and 10). The words are those of memory, or
those that the instruction cache still holds (log entries 24 and 96); the fetch changes no register, no memory and no flag. -/
def Obligations.StepRunsTheDecodedWord : Prop :=
  (∀ (s : State) (w : W32) (p : Nat) (i : Instr), presents s [(w, p)] → encodingTrap s (packetWords s) [(w, p)] = none →
    nullified s [(w, p)] = false → s.seq.resumeDone.getLsbD p = false → decodeWord w = .ok i →
      step s = exec i (fetched s)) ∧
  (∀ (s : State) (ws : List (W32 × Nat)), presents s ws → encodingTrap s (packetWords s) ws = none →
    nullified s ws = false →
      step s = presentGroup ((slotsOfGroup s ws).map (·.2.1)) ws.length (runWords (slotsOfGroup s ws)) (fetched s)) ∧
  (∀ (s : State) (ws : List (W32 × Nat)) (t : TrapInfo), presents s ws → encodingTrap s (packetWords s) ws = some t →
    step s = .next (passCycle (deliverTrap t 0 (fetched s)))) ∧
  (∀ s : State, (packetWords s = memoryPacket s ∨ cachedPacket s = some (packetWords s)) ∧
    (cachedPacket s = none ∨ cachedPacket s = some (memoryPacket s) → packetWords s = memoryPacket s) ∧
    (fetched s).mem = s.mem ∧ (fetched s).seq = { s.seq with icache := (fetched s).seq.icache } ∧
    cachedPacket (fetched s) = some (packetWords s)) ∧
  (∀ (s : State) (i : Instr) (rest : List Instr), s.inbox = i :: rest → useInstr i = none →
    step s = exec i { s with inbox := rest } ∧ ∃ t, step s = .next t)

/-- R80, R81, R316: a word that is a group by itself and waits for nothing: its effect is taken in the group it opens, which
then issues, traps or waits by what the word has left. -/
def Sys2Proof.Claims.FreeWordsAreIssued : Prop :=
  ∀ (i : Instr) (u : Use) (s : State), useInstr i = some u → s.seq.group.isOpen = false → free u s →
    ∃ t, exec i (openGroup s) = .next t ∧
      (∀ p x, t.seq.group.trap = some (p, x) → exec i s = .next (trapped [u] x t)) ∧
      (t.seq.group.trap = none →
        (∀ w, t.seq.group.stalled = some w →
          exec i s = .next (stalledStep w false (onHost (fun h => { h with requests := t.host.requests }) s))) ∧
        (t.seq.group.stalled = none → exec i s = .next (issued 1 t)))

/-- R84, R152, R155, R156, R176, R178, R198, R200, R320, R326: a word that is a group by itself waits where it is: in empty issuing
steps while an exposed result is in flight for a register that it writes scoreboarded, or for `exit`, `halt` and `eret` while any
is; in stalled steps while a register, a tile or its guard is pending, an X word before it has not started, or an atomic pends
before a word of pipe M; and so wait `exit` and `halt` for every scoreboarded result, `eret` for those of supervisor code, a word
that releases for the atomics before it, a context command for what can land and the copy engine's boundary, and `rfence` and
`rfencew` for the reflected writes that they cover. That results of the word's own group are not waited for is log entry 16; that in
user mode these waits come before the trap for want of privilege are log entries 89 and 131. -/
def Sys2Proof.Claims.WordsWaitForWhatIsInFlight : Prop :=
  (∀ (i : Instr) (u : Use) (s : State), useInstr i = some u → s.seq.group.isOpen = false →
    let waits := fun (drains : Bool) => exec i s = .next (stalledStep .other drains s)
    let pending := fun (r : RegName) => ∃ p ∈ s.seq.sb, p.writesReg r = true
    (u.timing = .scoreboarded → ∀ r ∈ u.writes, ∀ e ∈ s.seq.ifq, e.writesReg r = true → waits true) ∧
    (u.drains s = false → u.settleDrains s = false →
      (u.hd.g = true → pending (.p u.hd.pg) → waits false) ∧
      (u.pipe ≠ .x ∨ s.seq.supervisor = false →
        (∀ r ∈ u.reads ++ u.writes, (∀ t, u.acc = some t → r ≠ .t t) → pending r → waits false) ∧
        (∀ t, RegName.t t ∈ u.writes → ∀ p ∈ s.seq.sb, t ∈ p.reads → waits false)) ∧
      (u.pipe = .x → s.seq.supervisor = false → ∀ p ∈ s.seq.sb, p.started = false → waits false) ∧
      (u.pipe = .m → ∀ p ∈ s.seq.sb, p.kind = .atomic → waits false))) ∧
  (∀ (hd : Hdr) (a b : Reg5) (s : State), s.seq.group.isOpen = false → guardPass hd s = true →
    (hd.g = true → ∀ p ∈ s.seq.sb, p.writesReg (.p hd.pg) = false) →
    let waits := fun (i : Instr) (w : Wait) (drains : Bool) => exec i s = .next (stalledStep w drains s)
    (s.seq.ifq ≠ [] → ∀ i ∈ [Instr.exit hd, .halt hd, .eret hd], waits i .other true) ∧
    (s.seq.ifq = [] →
      (s.seq.sb ≠ [] → ∀ i ∈ [Instr.exit hd, .halt hd], waits i .other false) ∧
      ((∃ p ∈ s.seq.sb, p.sup = true) → waits (.eret hd) .other false) ∧
      ((∃ p ∈ s.seq.sb, p.kind = .atomic) → ∀ i ∈ [Instr.cbput hd a b, .sinit hd a b, .sadd hd a b, .rsub hd a b, .rpass hd b,
        .rdrop hd b, .launch hd a b], waits i .other false) ∧
      ((∃ p ∈ s.seq.sb, frozenNow s p = false) ∨ atBoundary s = false → waits (.srw hd a 0x107) .other false) ∧
      (s.seq.sb = [] → reflectionSettled s none = false → waits (.rfence hd a) (.reflected none) false) ∧
      (s.seq.sb = [] → ∀ w, windowOf s (placeOf s (readS s b)) = some w → reflectionSettled s (some w.id) = false →
        waits (.rfencew hd a b) (.reflected (some w.id)) false)))

/-- R80, R81, R84, R152, R155, R156, R176, R178, R198, R200, R316, R320: a word that is a group by itself issues when it waits for
nothing, and else waits where it is. -/
def Obligations.WordAloneIsIssued : Prop :=
  FreeWordsAreIssued ∧ WordsWaitForWhatIsInFlight

/-- No instruction of the table is refused and none faults, whatever its operands and the state. -/
def Obligations.NoInstructionIsRefused : Prop :=
  ∀ (i : Instr) (s : State), ∃ t, exec i s = .next t

/-- R81, R121, R122, R131: a word whose guard fails has no effect at all; of a vector word that no lane passes, only a reduction
has one. -/
def Obligations.FailingGuardsLeaveNoEffect : Prop :=
  ∀ (i : Instr) (u : Use) (s : State), useInstr i = some u → s.seq.group.isOpen = true →
    (u.pipe ≠ .v → guardPass u.hd s = false → exec i s = .next s) ∧
    (u.pipe = .v → u.reduces = false → u.hd.g = true → guardMask u.hd s = 0 → exec i s = .next s)

/-- R8, R9, R10, R85, R317: the end of an issuing step: results with more steps to go come one nearer, in their order, and those
due land, as the landing event has them unless the clamp holds the bay; a due scalar is the last of those due for its register; a
register for which none is due keeps its value; a vector register takes those due for it one after the other; s0 reads zero; the
flags of the due results are ORed into FSTAT. Memory is unchanged. -/
def Sys2Proof.Claims.DueResultsLand : Prop :=
  ∀ (s : State),
    let due := s.seq.ifq.filter (fun e => e.remain ≤ 1)
    let t := endIssuing s
    (frozen s = false → exec .exposedResultLanding s = .next (onSeq landDue s) ∧
      exec .exposedResultLanding (onSeq countDown s) = .next t) ∧
    (frozen s = true → exec .exposedResultLanding s = .next s) ∧
    t.seq.ifq = (s.seq.ifq.filter (fun e => 1 < e.remain)).map (fun e => { e with remain := e.remain - 1 }) ∧
    (∀ (a b : List InFlight) (e : InFlight), due = a ++ e :: b → e.kind = .scalar → e.reg ≠ 0 →
      (∀ x ∈ b, x.kind = .scalar → x.reg ≠ e.reg) → readS t e.reg = e.value.setWidth 64) ∧
    (∀ r, (∀ x ∈ due, x.kind = .scalar → x.reg ≠ r) → readS t r = readS s r) ∧
    (∀ r, (∀ x ∈ due, x.kind = .predicate → x.reg.setWidth 4 ≠ r) → readP t r = readP s r) ∧
    (∀ r, readV t r =
      (due.filter (fun e => e.kind == .vector && e.reg == r)).foldl (fun v e => mergeLanes e v) (readV s r)) ∧
    (∀ (e : InFlight), due = [e] → e.kind = .predicate → ∀ i, i < 64 →
      (readP t (e.reg.setWidth 4)).getLsbD i =
        (if e.lmask.getLsbD i then e.value.getLsbD i else (readP s (e.reg.setWidth 4)).getLsbD i)) ∧
    readS t 0 = 0 ∧ t.seq.fstat = due.foldl (fun f e => f ||| e.flags.setWidth 64) s.seq.fstat ∧ t.seq.t = s.seq.t ∧
    t.mem = s.mem

/-- R121, R130, R319: a vector result merged into its register: an inactive lane keeps its bits; in an active lane the elements
of the result's mask are written, and the others keep their bits when the register already has the result's format and are zero
otherwise; the tag is the result's unless it sets none. -/
def Sys2Proof.Claims.VectorResultsMerge : Prop :=
  ∀ (e : InFlight) (old : VReg) (i b : Nat), i < 64 → b < 32 →
    let fmt := e.tag.extractLsb' 0 4
    let was := (lane old.data i).getLsbD b
    (mergeLanes e old).tag = (if e.setsTag then e.tag else old.tag) ∧
    (lane (mergeLanes e old).data i).getLsbD b =
      if e.lmask.getLsbD i = false then was
      else if e.emask = 0xFF ∨ e.emask.getLsbD (b / elemBits fmt) = true then (lane e.value i).getLsbD b
      else old.tag.extractLsb' 0 4 == fmt && was

/-- R8 to R10, R85, R121, R130, R317, R319: which results in flight land at the end of an issuing step, and what they leave in
their registers. -/
def Obligations.ExposedResultsLand : Prop :=
  DueResultsLand ∧ VectorResultsMerge

/-- R287 to R289, R316, R317, R319, R320: taking a trap from user mode without a held record, and the return of `eret` from it
once `snaprel` has released the snapshot and no result of the handler is in flight. That the return puts back the position in the
packet as well is log entry 81. -/
def Obligations.TrapsSaveAndReturn : Prop :=
  ∀ (x : TrapInfo) (done : BitVec 3) (s : State), s.seq.supervisor = false → s.seq.held = none →
    let t := deliverTrap x done s
    (t.seq.supervisor = true ∧ t.seq.prevSupervisor = false ∧ t.seq.masked = true ∧ t.seq.epc = s.seq.pc ∧
      t.seq.ecause = x.cls ++ x.detail ∧ t.seq.eaddr = x.eaddr ∧ t.seq.einfo = x.einfo ∧ t.seq.pc = s.seq.evec ∧
      t.seq.gpos = 0 ∧ t.seq.loops = [] ∧ t.seq.ifq = []) ∧
    (t.seq.snapshot.epc = s.seq.pc ∧ t.seq.snapshot.cause = x.cls ++ x.detail ∧ t.seq.snapshot.done = done ∧
      t.seq.snapshot.loops = s.seq.loops ∧ t.seq.snapshot.ifq = s.seq.ifq ∧ t.seq.snapshot.steps = s.seq.steps ∧
      t.seq.snapshot.eaddr = x.eaddr ∧ t.seq.snapshot.einfo = x.einfo) ∧
    (t.seq.s = s.seq.s ∧ t.seq.p = s.seq.p ∧ t.seq.v = s.seq.v ∧ t.seq.t = s.seq.t ∧ t.seq.w = s.seq.w ∧
      t.seq.w' = s.seq.w' ∧ t.seq.sb = s.seq.sb ∧ t.seq.fstat = s.seq.fstat ∧ t.seq.steps = s.seq.steps ∧ t.mem = s.mem) ∧
    (let r := onSeq (fun q => { q with masked := false }) t
     (∀ hd : Hdr, guardPass hd t = true →
       exec (.eret hd) (openGroup t) =
         .next (raise (cause 12 0x05 (BitVec.ofNat 64 (12 * s.seq.evec.toNat)) 0) (openGroup t)) ∧
       exec (.snaprel hd) (openGroup t) = .next (openGroup r) ∧
       exec (.eret hd) (openGroup r) = .next (transfer .eret (openGroup r))) ∧
     (let u := applyTransfer 1 (some .eret) r
      u.seq.supervisor = false ∧ u.seq.pc = s.seq.pc ∧ u.seq.gpos = s.seq.gpos ∧ u.seq.loops = s.seq.loops ∧
        u.seq.ifq = s.seq.ifq ∧ u.seq.resumeDone = done ∧ u.seq.masked = false ∧ u.seq.s = s.seq.s ∧ u.seq.p = s.seq.p ∧
        u.mem = s.mem))

/-! ### Memory and reset -/

/-- The canonical form of memory is kept by every step, whatever instruction, trap or event it takes. -/
def Obligations.MemoryStaysCanonical : Prop :=
  ∀ s t : State, s.mem.canonical → step s = .next t → t.mem.canonical

/-- R14, R19, R134, R145, R208: the state right after reset: every register as at the start of a unit (CKCTL 0x5, formats raw, the
loop stack empty), every full/empty bit empty, every granule OPEN, TIME 0 without LOCK or HOLD, nothing placed. The PC and the
supervisor's registers at 0, and memory that reads 0, are the model's choices (log entries 1 and 2). -/
def Obligations.ResetValues : Prop :=
  let s := State.reset
  (∀ r, readS s r = 0) ∧ (∀ r, readP s r = 0) ∧ (∀ r, readV s r = VReg.zero) ∧ (∀ r, readT s r = Tile.zero) ∧
    s.seq.w = Plane.zero ∧ s.seq.w' = Plane.zero ∧ s.seq.pc = 0 ∧ s.seq.loops = [] ∧ s.seq.ifq = [] ∧ s.seq.sb = [] ∧
    s.seq.fstat = 0 ∧ s.seq.vtag = 0 ∧ s.seq.ckctl = 5 ∧ s.seq.steps = 0 ∧ s.seq.supervisor = false ∧ s.seq.unit = none ∧
    (∀ i, slotAt s i = CbSlot.unbound) ∧ (∀ w, isFull s.mem w = false) ∧ (∀ g, ownerOf s.mem g = none) ∧
    (∀ a, memByte s.mem.spad a = 0) ∧ (∀ a, memByte s.mem.hbm a = 0) ∧ s.mem.canonical ∧ s.clock.time = 0 ∧
    s.clock.lock = false ∧ s.clock.hold = false ∧ s.copy.queue = [] ∧ s.disp.queues = [] ∧ s.disp.units = []

/-! ### Scalar words -/

/-- R101: each ALU word's result joins those in flight with its latency, and nothing else changes. -/
def Sys2Proof.Claims.AluWordsGiveTheirResults : Prop :=
  ∀ (hd : Hdr) (a b c : Reg5) (s : State), acts hd s →
    exec (.add hd a b c) s = .next (exposeS 1 a (readS s b + readS s c) 0 s) ∧
    exec (.sub hd a b c) s = .next (exposeS 1 a (readS s b - readS s c) 0 s) ∧
    exec (.and hd a b c) s = .next (exposeS 1 a (readS s b &&& readS s c) 0 s) ∧
    exec (.or hd a b c) s = .next (exposeS 1 a (readS s b ||| readS s c) 0 s) ∧
    exec (.xor hd a b c) s = .next (exposeS 1 a (readS s b ^^^ readS s c) 0 s) ∧
    exec (.andn hd a b c) s = .next (exposeS 1 a (readS s b &&& ~~~readS s c) 0 s) ∧
    exec (.sll hd a b c) s =
      .next (exposeS 1 a (BitVec.ofNat 64 ((readS s b).toNat * 2 ^ ((readS s c).toNat % 64))) 0 s) ∧
    exec (.srl hd a b c) s =
      .next (exposeS 1 a (BitVec.ofNat 64 ((readS s b).toNat / 2 ^ ((readS s c).toNat % 64))) 0 s) ∧
    exec (.sra hd a b c) s =
      .next (exposeS 1 a (BitVec.ofInt 64 ((readS s b).toInt / 2 ^ ((readS s c).toNat % 64))) 0 s) ∧
    exec (.mul hd a b c) s = .next (exposeS 3 a (BitVec.ofNat 64 ((readS s b).toNat * (readS s c).toNat)) 0 s) ∧
    exec (.mulh hd a b c) s =
      .next (exposeS 3 a (BitVec.ofInt 64 ((readS s b).toInt * (readS s c).toInt / 2 ^ 64)) 0 s) ∧
    exec (.mulhu hd a b c) s =
      .next (exposeS 3 a (BitVec.ofNat 64 ((readS s b).toNat * (readS s c).toNat / 2 ^ 64)) 0 s) ∧
    exec (.min hd a b c) s = .next (exposeS 1 a (BitVec.ofInt 64 (min (readS s b).toInt (readS s c).toInt)) 0 s) ∧
    exec (.max hd a b c) s = .next (exposeS 1 a (BitVec.ofInt 64 (max (readS s b).toInt (readS s c).toInt)) 0 s) ∧
    exec (.minu hd a b c) s = .next (exposeS 1 a (BitVec.ofNat 64 (min (readS s b).toNat (readS s c).toNat)) 0 s) ∧
    exec (.maxu hd a b c) s = .next (exposeS 1 a (BitVec.ofNat 64 (max (readS s b).toNat (readS s c).toNat)) 0 s)

/-- R102, R103: the quotients and remainders of the ALU2 major, with both borderline cases. -/
def Sys2Proof.Claims.DivisionsGiveQuotientsAndRemainders : Prop :=
  ∀ (hd : Hdr) (a b c : Reg5) (s : State), acts hd s →
    ∃ q qu r ru : W64,
      exec (.div hd a b c) s = .next (pendS a q s) ∧ exec (.divu hd a b c) s = .next (pendS a qu s) ∧
      exec (.rem hd a b c) s = .next (pendS a r s) ∧ exec (.remu hd a b c) s = .next (pendS a ru s) ∧
      (readS s c = 0 → q = BitVec.allOnes 64 ∧ qu = BitVec.allOnes 64 ∧ r = readS s b ∧ ru = readS s b) ∧
      (readS s c ≠ 0 → q = BitVec.ofInt 64 ((readS s b).toInt.tdiv (readS s c).toInt) ∧
        qu.toNat = (readS s b).toNat / (readS s c).toNat ∧ r.toInt = (readS s b).toInt.tmod (readS s c).toInt ∧
        ru.toNat = (readS s b).toNat % (readS s c).toNat)

/-- R102: the bit operations of the ALU2 major. -/
def Sys2Proof.Claims.BitWordsGiveTheirResults : Prop :=
  ∀ (hd : Hdr) (a b : Reg5) (s : State), acts hd s →
    ∃ lz tz n rev : W64,
      exec (.clz hd a b) s = .next (pendS a lz s) ∧ exec (.ctz hd a b) s = .next (pendS a tz s) ∧
      exec (.popc hd a b) s = .next (pendS a n s) ∧ exec (.bswap hd a b) s = .next (pendS a rev s) ∧
      lz.toNat ≤ 64 ∧ (∀ i, i < lz.toNat → (readS s b).getLsbD (63 - i) = false) ∧
      (lz.toNat < 64 → (readS s b).getLsbD (63 - lz.toNat) = true) ∧
      tz.toNat ≤ 64 ∧ (∀ i, i < tz.toNat → (readS s b).getLsbD i = false) ∧
      (tz.toNat < 64 → (readS s b).getLsbD tz.toNat = true) ∧
      n.toNat = ((List.range 64).filter (fun i => (readS s b).getLsbD i)).length ∧
      (∀ i, i < 8 → rev.extractLsb' (8 * i) 8 = (readS s b).extractLsb' (8 * (7 - i)) 8) ∧
      exec (.sextB hd a b) s = .next (pendS a (((readS s b).setWidth 8).signExtend 64) s) ∧
      exec (.sextH hd a b) s = .next (pendS a (((readS s b).setWidth 16).signExtend 64) s) ∧
      exec (.sextW hd a b) s = .next (pendS a (((readS s b).setWidth 32).signExtend 64) s) ∧
      exec (.zextW hd a b) s = .next (pendS a (((readS s b).setWidth 32).setWidth 64) s)

/-- R102, R103: the words of the ALU2 major. -/
def Obligations.DivisionAndBitWords : Prop :=
  DivisionsGiveQuotientsAndRemainders ∧ BitWordsGiveTheirResults

/-- R104, R105, R106: the immediate forms. -/
def Sys2Proof.Claims.ImmediateWordsGiveTheirResults : Prop :=
  ∀ (hd : Hdr) (a b : Reg5) (i : BitVec 9) (h : BitVec 6) (k : BitVec 14) (s : State), acts hd s →
    exec (.addi hd a b i) s = .next (exposeS 1 a (readS s b + i.signExtend 64) 0 s) ∧
    exec (.andi hd a b i) s = .next (exposeS 1 a (readS s b &&& i.signExtend 64) 0 s) ∧
    exec (.ori hd a b i) s = .next (exposeS 1 a (readS s b ||| i.signExtend 64) 0 s) ∧
    exec (.xori hd a b i) s = .next (exposeS 1 a (readS s b ^^^ i.signExtend 64) 0 s) ∧
    exec (.slli hd a b h) s = .next (exposeS 1 a (readS s b <<< h.toNat) 0 s) ∧
    exec (.srli hd a b h) s = .next (exposeS 1 a (readS s b >>> h.toNat) 0 s) ∧
    exec (.srai hd a b h) s = .next (exposeS 1 a ((readS s b).sshiftRight h.toNat) 0 s) ∧
    exec (.li hd a k) s = .next (exposeS 1 a (BitVec.ofInt 64 k.toInt) 0 s) ∧
    exec (.lsh hd a k) s = .next (exposeS 1 a (BitVec.ofNat 64 ((readS s a).toNat * 2 ^ 14 + k.toNat)) 0 s)

/-- R107, R108: a compare writes its truth into all 64 lanes. -/
def Sys2Proof.Claims.CompareWordsWriteEveryLane : Prop :=
  ∀ (hd : Hdr) (p : Reg4) (b c : Reg5) (i : BitVec 9) (s : State), acts hd s →
    let x := readS s b
    let y := readS s c
    let m : W64 := i.signExtend 64
    let put := fun v => Host.Outcome.next (φ := Fault) (ρ := Refusal) (exposeP 1 p v (BitVec.allOnes 64) 0 s)
    exec (.cmpEq hd p b c) s = put (lanes (x = y)) ∧
    exec (.cmpNe hd p b c) s = put (lanes (x ≠ y)) ∧
    exec (.cmpLt hd p b c) s = put (lanes (x.toInt < y.toInt)) ∧
    exec (.cmpGe hd p b c) s = put (lanes (y.toInt ≤ x.toInt)) ∧
    exec (.cmpLtu hd p b c) s = put (lanes (x.toNat < y.toNat)) ∧
    exec (.cmpGeu hd p b c) s = put (lanes (y.toNat ≤ x.toNat)) ∧
    exec (.cmpeqi hd p b i) s = put (lanes (x = m)) ∧
    exec (.cmplti hd p b i) s = put (lanes (x.toInt < m.toInt)) ∧
    exec (.cmpltui hd p b i) s = put (lanes (x.toNat < m.toNat))

/-- R109: the predicate words. -/
def Sys2Proof.Claims.PredicateWordsGiveTheirLanes : Prop :=
  ∀ (hd : Hdr) (p q r : Reg4) (a : Reg5) (s : State), acts hd s →
    let x := readP s q
    let y := readP s r
    let put := fun v => Host.Outcome.next (φ := Fault) (ρ := Refusal) (exposeP 1 p v (BitVec.allOnes 64) 0 s)
    exec (.pand hd p q r) s = put (x &&& y) ∧ exec (.por hd p q r) s = put (x ||| y) ∧
    exec (.pxor hd p q r) s = put (x ^^^ y) ∧ exec (.pandn hd p q r) s = put (x &&& ~~~y) ∧
    exec (.pnot hd p q) s = put (~~~x) ∧ exec (.pmov hd p q) s = put x ∧
    exec (.pset hd p) s = put (BitVec.allOnes 64) ∧ exec (.pclr hd p) s = put 0 ∧
    (∃ n : W64, exec (.pcnt hd a q) s = .next (exposeS 1 a n 0 s) ∧
      n.toNat = ((List.range 64).filter (fun i => x.getLsbD i)).length) ∧
    (∃ n : W64, exec (.pfirst hd a q) s = .next (exposeS 1 a n 0 s) ∧ n.toNat ≤ 64 ∧
      (∀ i, i < n.toNat → x.getLsbD i = false) ∧ (n.toNat < 64 → x.getLsbD n.toNat = true))

/-- R101, R104 to R109: the ALU words, the immediate forms, the scalar compares and the predicate words. -/
def Obligations.AluCompareAndPredicateWords : Prop :=
  AluWordsGiveTheirResults ∧ ImmediateWordsGiveTheirResults ∧ CompareWordsWriteEveryLane ∧ PredicateWordsGiveTheirLanes

/-! ### Numbers -/

namespace Sys2Proof.Claims

/-- (-1)^neg x mag x 2^exp as a rational. -/
def ratOf (neg : Bool) (mag : Nat) (exp : Int) : Rat := (if neg then -1 else 1) * mag * (2 : Rat) ^ exp

/-- A decoded element is a finite value of a sign and a magnitude. -/
def isFinite (n : Machine.Num) (neg : Bool) (x : Rat) : Prop := ∃ mag exp, n = .fin neg mag exp ∧ ratOf false mag exp = x

/-- The magnitude that a magnitude code of a binary format stands for, by R34 and R36: an exponent field of 0 is subnormal, any
other field counts from the smallest normal value, and the codes beyond the largest finite one go on as the exponent would. -/
def codeQ (f : BinFmt) (c : Nat) : Rat :=
  let w := 2 ^ (f.prec - 1)
  if c < w then c * (2 : Rat) ^ (f.emin - (f.prec - 1 : Nat))
  else ((w + c % w : Nat) : Rat) * (2 : Rat) ^ (((c / w : Nat) : Int) - 1 + f.emin - (f.prec - 1 : Nat))

/-- One rounding of a magnitude x > 0 into a binary format (R30, R33, R47). The rounded value is that of code c, to nearest with
ties to even or toward zero, on an unbounded exponent; `ovf` is delivered where c exceeds the largest finite code, with OF and NX.
Otherwise NX tells of an inexact result, and UF beside it that x, rounded to the format's precision on an unbounded exponent, lies
below the smallest normal value. -/
def roundsTo (f : BinFmt) (rz : Bool) (ovf : Nat) (neg : Bool) (x : Rat) (r : Res W32) : Prop :=
  let tiny : Prop := x < (2 : Rat) ^ f.emin - (if rz then 0 else (2 : Rat) ^ (f.emin - f.prec - 1))
  ∃ c : Nat,
    (rz = false → ∀ d, |codeQ f c - x| ≤ |codeQ f d - x| ∧ (|codeQ f c - x| = |codeQ f d - x| → d = c ∨ c % 2 = 0)) ∧
    (rz = true → codeQ f c ≤ x ∧ x < codeQ f (c + 1)) ∧
    r.val = BitVec.ofNat 32 ((if c ≤ f.maxCode then c else ovf) + if neg then 2 ^ (f.width - 1) else 0) ∧
    (f.maxCode < c → r.flags = flagOF ||| flagNX) ∧
    (c ≤ f.maxCode → (codeQ f c = x → r.flags = 0) ∧ (codeQ f c ≠ x → tiny → r.flags = flagUF ||| flagNX) ∧
      (codeQ f c ≠ x → ¬ tiny → r.flags = flagNX))

/-- The value of an f32 code that is finite. -/
def f32Q (x : W32) : Rat := (if x.msb then -1 else 1) * codeQ binF32 (x.toNat % 2 ^ 31)
/-- An f32 code that is finite, an infinity, a NaN, a zero. -/
abbrev f32Fin (x : W32) : Prop := x.toNat % 2 ^ 31 < 0x7F800000
abbrev f32Inf (x : W32) : Prop := x.toNat % 2 ^ 31 = 0x7F800000
abbrev f32Nan (x : W32) : Prop := 0x7F800000 < x.toNat % 2 ^ 31
abbrev f32Zero (x : W32) : Prop := x.toNat % 2 ^ 31 = 0

/-- An f32 result of value v: one rounding to nearest even of a value that is not zero, and a zero of the given code for zero. -/
def givesF32 (v : Rat) (zero : W32) (r : Res W32) : Prop :=
  (v ≠ 0 → roundsTo binF32 false 0x7F800000 (decide (v < 0)) |v| r) ∧ (v = 0 → r = { val := zero, flags := 0 })

/-- The order of f32 values with -inf and +inf at its ends, for codes that are no NaN. -/
def f32Le (x y : W32) : Prop := x = 0xFF800000 ∨ y = 0x7F800000 ∨ (f32Fin x ∧ f32Fin y ∧ f32Q x ≤ f32Q y)

/-- Rounding of a magnitude x > 0 into an ht format of n bits (R39): the ends, and else the code whose string, with a further bit
1 as the half of its last place, lies next to x; on an exact half the even code. -/
def roundsHt (n : Nat) (neg : Bool) (x : Rat) (r : Res W32) : Prop :=
  let big : Rat := 2 ^ (2 * (n - 2))
  let q := fun (n c : Nat) (v : Rat) => isFinite (decodeHt n c) false v
  ∃ c : Nat, r.val = BitVec.ofNat 32 (if neg then 2 ^ n - c else c) ∧
    (big ≤ x → c = 2 ^ (n - 1) - 1 ∧ (x = big → r.flags = 0) ∧ (x ≠ big → r.flags = flagOF ||| flagNX)) ∧
    (x ≤ 1 / big → c = 1 ∧ (x = 1 / big → r.flags = 0) ∧ (x ≠ 1 / big → r.flags = flagUF ||| flagNX)) ∧
    (1 / big < x → x < big → 0 < c ∧ c < 2 ^ (n - 1) ∧ ∃ lo hi v, q (n + 1) (2 * c - 1) lo ∧ q (n + 1) (2 * c + 1) hi ∧ q n c v ∧
      lo ≤ x ∧ x ≤ hi ∧ (lo = x ∨ x = hi → c % 2 = 0) ∧ (v = x → r.flags = 0) ∧ (v ≠ x → r.flags = flagNX))

/-- Rounding of a value into an integer format between two bounds (R47): first to an integer, then the test of the range. -/
def roundsInt (w : Nat) (rz : Bool) (lo hi : Int) (x : Rat) (r : Res W32) : Prop :=
  ∃ n : Int,
    (rz = false → ∀ m : Int, |(n : Rat) - x| ≤ |(m : Rat) - x| ∧ (|(n : Rat) - x| = |(m : Rat) - x| → m = n ∨ n % 2 = 0)) ∧
    (rz = true → |(n : Rat)| ≤ |x| ∧ |x| < |(n : Rat)| + 1 ∧ 0 ≤ (n : Rat) * x) ∧
    r.val = (BitVec.ofInt w (max lo (min hi n))).setWidth 32 ∧
    r.flags = (if n < lo ∨ hi < n then flagNV else if (n : Rat) = x then 0 else flagNX)

/-- Level k of the pairwise tree (R54) over values x: value i of the level and the flags of all it was made from. -/
def pairwise (op : W32 → W32 → Res W32) (x : Nat → W32) : Nat → Nat → Res W32
  | 0, i => { val := x i, flags := 0 }
  | k + 1, i =>
    let a := pairwise op x k (2 * i)
    let b := pairwise op x k (2 * i + 1)
    { val := (op a.val b.val).val, flags := a.flags ||| b.flags ||| (op a.val b.val).flags }

end Sys2Proof.Claims

/-- R34 to R36, R44: the layouts of the binary formats and the elements of a lane. -/
def Sys2Proof.Claims.BinaryElementsDecode : Prop :=
  (binF32 = { prec := 24, emin := -126, maxCode := 0x7F7FFFFF, width := 32 } ∧
    binBf16 = { prec := 8, emin := -126, maxCode := 0x7F7F, width := 16 } ∧
    binE4m3 = { prec := 4, emin := -6, maxCode := 0x7E, width := 8 } ∧
    binE5m2 = { prec := 3, emin := -14, maxCode := 0x7B, width := 8 } ∧
    binE2m1 = { prec := 2, emin := 0, maxCode := 0x7, width := 4 }) ∧
  ∀ (x : W32) (j : Nat),
    let bits := fun (w k : Nat) => (x.toNat / 2 ^ (w * j)) % 2 ^ k
    let neg := fun (w : Nat) => x.getLsbD (w * j + w - 1)
    let v := fun (f : BitVec 4) => elemValue f x j
    -- f32 and i32, one a lane
    (f32Fin x → isFinite (elemValue 1 x 0) x.msb (codeQ binF32 (x.toNat % 2 ^ 31))) ∧
    (f32Inf x → elemValue 1 x 0 = .inf x.msb) ∧ (f32Nan x → elemValue 1 x 0 = .nan) ∧
    elemValue 3 x 0 = .fin x.msb x.toInt.natAbs 0 ∧
    -- bf16, two a lane
    (j < 2 → (bits 16 15 < 0x7F80 → isFinite (v 2) (neg 16) (codeQ binBf16 (bits 16 15))) ∧
      (bits 16 15 = 0x7F80 → v 2 = .inf (neg 16)) ∧ (0x7F80 < bits 16 15 → v 2 = .nan)) ∧
    -- i8, ui8, e4m3 and e5m2, four a lane
    (j < 4 → v 4 = .fin (neg 8) (x.extractLsb' (8 * j) 8).toInt.natAbs 0 ∧ v 5 = .fin false (bits 8 8) 0 ∧
      (bits 8 7 < 0x7F → isFinite (v 6) (neg 8) (codeQ binE4m3 (bits 8 7))) ∧ (bits 8 7 = 0x7F → v 6 = .nan) ∧
      (bits 8 7 < 0x7C → isFinite (v 7) (neg 8) (codeQ binE5m2 (bits 8 7))) ∧ (bits 8 7 = 0x7C → v 7 = .inf (neg 8)) ∧
      (0x7C < bits 8 7 → v 7 = .nan) ∧ v 9 = decodeHt 8 (bits 8 8) ∧ v 10 = decodeHt 6 (bits 8 6)) ∧
    -- e2m1, eight a lane
    (j < 8 → isFinite (v 8) (neg 4) (codeQ binE2m1 (bits 4 3)))

/-- R37, R38: an ht word of n bits: the regime, its terminating bit, the exponent bit and the fraction; a word below the sign
is the negative of its two's complement. -/
def Sys2Proof.Claims.HtWordsDecode : Prop :=
  ∀ n : Nat, 3 ≤ n →
    let is := fun (w : Nat) (x : Rat) => isFinite (decodeHt n w) false x
    decodeHt n 0 = .fin false 0 0 ∧ decodeHt n (2 ^ (n - 1)) = .nan ∧
    (∀ k e fl f : Nat, e < 2 → f < 2 ^ fl → k + 3 + fl = n - 1 →
      is (((2 ^ (k + 1) - 1) * 4 + e) * 2 ^ fl + f) ((2 : Rat) ^ (2 * k + e) * (1 + f / 2 ^ fl))) ∧
    is (2 ^ (n - 1) - 2) ((2 : Rat) ^ (2 * (n - 3))) ∧ is (2 ^ (n - 1) - 1) ((2 : Rat) ^ (2 * (n - 2))) ∧
    (∀ k e fl f : Nat, 0 < k → e < 2 → f < 2 ^ fl → k + 2 + fl = n - 1 →
      is ((2 + e) * 2 ^ fl + f) ((2 : Rat) ^ ((e : Int) - 2 * k) * (1 + f / 2 ^ fl))) ∧
    is 1 (1 / (2 : Rat) ^ (2 * (n - 2))) ∧
    (∀ w, 2 ^ (n - 1) < w → w < 2 ^ n → ∃ mag exp, decodeHt n (2 ^ n - w) = .fin false mag exp ∧
      decodeHt n w = .fin true mag exp)

/-- R30, R33: sums, differences, products and fused sums of f32 codes are exact and rounded once; zeros keep their sign only as
R30 says; NaN, the infinities and NV. -/
def Sys2Proof.Claims.ArithmeticRoundsOnce : Prop :=
  ∀ a b c : W32,
    let nan : W32 := 0x7FC00000
    let sign := a.msb != b.msb
    let inf := fun (neg : Bool) => (if neg then 0xFF800000 else 0x7F800000 : W32)
    let fma := fmaF32 (decodeF32 a) (decodeF32 b) (decodeF32 c)
    let is := fun (r : Res W32) (x : W32) (g : Flags) => r = { val := x, flags := g }
    subF32 a b = addF32 a (b ^^^ 0x80000000) ∧
    (f32Fin a → f32Fin b →
      givesF32 (f32Q a + f32Q b) (if a = 0x80000000 ∧ b = 0x80000000 then 0x80000000 else 0) (addF32 a b) ∧
      givesF32 (f32Q a * f32Q b) (if sign then 0x80000000 else 0) (mulF32 a b) ∧
      (f32Fin c → givesF32 (f32Q a * f32Q b + f32Q c)
        (if (f32Zero a ∨ f32Zero b) ∧ sign = true ∧ c = 0x80000000 then 0x80000000 else 0) fma)) ∧
    (f32Nan a ∨ f32Nan b → is (addF32 a b) nan 0 ∧ is (mulF32 a b) nan 0 ∧ fma.val = nan) ∧
    (f32Inf a → f32Inf b → a ≠ b → is (addF32 a b) nan flagNV) ∧
    (f32Inf a → f32Fin b ∨ b = a → is (addF32 a b) a 0 ∧ is (addF32 b a) a 0) ∧
    (f32Inf a → f32Zero b → is (mulF32 a b) nan flagNV ∧ is (mulF32 b a) nan flagNV ∧ (¬ f32Nan c → is fma nan flagNV)) ∧
    (f32Inf a → ¬ f32Nan b → ¬ f32Zero b → is (mulF32 a b) (inf sign) 0 ∧ is (mulF32 b a) (inf sign) 0 ∧
      (f32Nan c → is fma nan 0) ∧ (c = inf (!sign) → is fma nan flagNV) ∧
      (f32Fin c ∨ c = inf sign → is fma (inf sign) 0)) ∧
    (f32Fin a → f32Fin b → (f32Nan c → is fma nan 0) ∧ (f32Inf c → is fma c 0))

/-- R49: the lesser and the greater of two f32 codes, and the comparisons; a NaN gives the canonical NaN and compares as
nothing. -/
def Sys2Proof.Claims.F32CodesAreOrdered : Prop :=
  ∀ a b : W32,
    (f32Nan a ∨ f32Nan b → minF32 a b = 0x7FC00000 ∧ maxF32 a b = 0x7FC00000 ∧ numLt a b = false ∧ numEq a b = false) ∧
    (isNanF32 a = true ↔ f32Nan a) ∧
    (¬ f32Nan a → ¬ f32Nan b →
      (minF32 a b = a ∨ minF32 a b = b) ∧ f32Le (minF32 a b) a ∧ f32Le (minF32 a b) b ∧
      (maxF32 a b = a ∨ maxF32 a b = b) ∧ f32Le a (maxF32 a b) ∧ f32Le b (maxF32 a b) ∧
      (f32Zero a → f32Zero b → (minF32 a b = 0 ↔ a = 0 ∧ b = 0) ∧ (maxF32 a b = 0 ↔ a = 0 ∨ b = 0)) ∧
      (numEq a b = true ↔ a = b ∨ (f32Zero a ∧ f32Zero b)) ∧
      (numLt a b = true ↔ f32Le a b ∧ numEq a b = false))

/-- R48: `fsqrt`, `frcp` and `frsq` of a finite value are rounded to nearest, no square root being half way between two codes;
`fexp2` of an integer and `flog2` of a power of two are exact; the special cases of all five. How `fexp2` and `flog2` round
elsewhere is log entry 33 and is not stated. -/
def Sys2Proof.Claims.FunctionsOfF32Codes : Prop :=
  ∀ x : W32,
    let nan : W32 := 0x7FC00000
    let v := f32Q x
    let half := fun (c : Nat) => (codeQ binF32 c + codeQ binF32 (c + 1)) / 2
    let is := fun (r : Res W32) (x : W32) (g : Flags) => r = { val := x, flags := g }
    (f32Fin x → 0 < v →
      (∃ c, 0 < c ∧ c < 0x7F800000 ∧ (sqrtF32 x).val = BitVec.ofNat 32 c ∧ half (c - 1) ^ 2 < v ∧ v < half c ^ 2 ∧
        (sqrtF32 x).flags = if codeQ binF32 c ^ 2 = v then 0 else flagNX) ∧
      (∃ c, 0 < c ∧ c < 0x7F800000 ∧ (rsqF32 x).val = BitVec.ofNat 32 c ∧ half (c - 1) ^ 2 * v < 1 ∧ 1 < half c ^ 2 * v ∧
        (rsqF32 x).flags = if codeQ binF32 c ^ 2 * v = 1 then 0 else flagNX) ∧
      (∀ n : Int, v = (2 : Rat) ^ n → (log2F32 x).flags = 0 ∧ f32Fin (log2F32 x).val ∧ f32Q (log2F32 x).val = n)) ∧
    (f32Fin x → v ≠ 0 → roundsTo binF32 false 0x7F800000 x.msb (1 / |v|) (rcpF32 x)) ∧
    (f32Fin x → ∀ n : Int, v = n → -149 ≤ n → n ≤ 127 →
      (exp2F32 x).flags = 0 ∧ f32Fin (exp2F32 x).val ∧ f32Q (exp2F32 x).val = (2 : Rat) ^ n) ∧
    (f32Fin x → v < 0 → is (sqrtF32 x) nan flagNV ∧ is (rsqF32 x) nan flagNV ∧ is (log2F32 x) nan flagNV) ∧
    (f32Zero x → is (sqrtF32 x) x 0 ∧ is (rcpF32 x) (x ||| 0x7F800000) 0 ∧ is (rsqF32 x) (x ||| 0x7F800000) 0 ∧
      is (exp2F32 x) 0x3F800000 0 ∧ is (log2F32 x) 0xFF800000 0) ∧
    (x = 0x7F800000 → is (sqrtF32 x) x 0 ∧ is (rcpF32 x) 0 0 ∧ is (rsqF32 x) 0 0 ∧ is (exp2F32 x) x 0 ∧ is (log2F32 x) x 0) ∧
    (x = 0xFF800000 → is (sqrtF32 x) nan flagNV ∧ is (rcpF32 x) 0x80000000 0 ∧ is (rsqF32 x) nan flagNV ∧
      is (exp2F32 x) 0 0 ∧ is (log2F32 x) nan flagNV) ∧
    (f32Nan x → is (sqrtF32 x) nan 0 ∧ is (rcpF32 x) nan 0 ∧ is (rsqF32 x) nan 0 ∧ is (exp2F32 x) nan 0 ∧ is (log2F32 x) nan 0)

/-- R38, R39, R47: a conversion rounds once into its format by its mode, or by the ht rule, and settles NaN, the infinities,
what lies beyond the format and zero by the table. A finite value beyond f32, which the table does not expect, gives the
infinity or the largest value by the mode: the model's choice (log entry 85). -/
def Sys2Proof.Claims.ConversionsRoundAndSettle : Prop :=
  ∀ (rz neg : Bool) (mag : Nat) (exp : Int),
    let x := fun (f : BitVec 4) => convertTo f rz (.fin neg mag exp)
    let v := ratOf false mag exp
    let is := fun (f : BitVec 4) (n : Machine.Num) (y : W32) (g : Flags) => convertTo f rz n = { val := y, flags := g }
    let big := flagOF ||| flagNX
    let end_ := fun (lo hi : W32) => if neg then lo else hi
    (0 < mag →
      roundsTo binF32 rz (if rz then 0x7F7FFFFF else 0x7F800000) neg v (x 1) ∧
      roundsTo binBf16 rz (if rz then 0x7F7F else 0x7F80) neg v (x 2) ∧
      roundsTo binE4m3 rz 0x7E neg v (x 6) ∧ roundsTo binE5m2 rz 0x7B neg v (x 7) ∧ roundsTo binE2m1 rz 0x7 neg v (x 8) ∧
      roundsHt 8 neg v (x 9) ∧ roundsHt 6 neg v (x 10)) ∧
    roundsInt 32 rz (-0x80000000) 0x7FFFFFFF (ratOf neg mag exp) (x 3) ∧
    roundsInt 8 rz (-128) 127 (ratOf neg mag exp) (x 4) ∧ roundsInt 8 rz 0 255 (ratOf neg mag exp) (x 5) ∧
    (let z := Machine.Num.fin neg 0 exp
     is 1 z (end_ 0x80000000 0) 0 ∧ is 2 z (end_ 0x8000 0) 0 ∧ is 6 z (end_ 0x80 0) 0 ∧ is 7 z (end_ 0x80 0) 0 ∧
     is 8 z (end_ 8 0) 0 ∧ is 9 z 0 0 ∧ is 10 z 0 0) ∧
    (is 1 .nan 0x7FC00000 0 ∧ is 2 .nan 0x7FC0 0 ∧ is 3 .nan 0 flagNV ∧ is 4 .nan 0 flagNV ∧ is 5 .nan 0 flagNV ∧
      is 6 .nan 0x7F 0 ∧ is 7 .nan 0x7F 0 ∧ is 8 .nan 0 flagNV ∧ is 9 .nan 0x80 0 ∧ is 10 .nan 0x20 0) ∧
    (let i := Machine.Num.inf neg
     is 1 i (end_ 0xFF800000 0x7F800000) 0 ∧ is 2 i (end_ 0xFF80 0x7F80) 0 ∧ is 3 i (end_ 0x80000000 0x7FFFFFFF) flagNV ∧
     is 4 i (end_ 0x80 0x7F) flagNV ∧ is 5 i (end_ 0 0xFF) flagNV ∧ is 6 i (end_ 0xFE 0x7E) big ∧ is 7 i (end_ 0xFC 0x7C) 0 ∧
     is 8 i (end_ 0xF 7) big ∧ is 9 i (end_ 0x81 0x7F) big ∧ is 10 i (end_ 0x21 0x1F) big)

/-- R40, R44: the elements of a row in order, each times the power of two of its block of 32; the elements of a block whose
shift is -128 are zero; without scales every shift is 0. -/
def Sys2Proof.Claims.BlockScalesApply : Prop :=
  (∀ (neg : Bool) (mag : Nat) (exp k : Int), isFinite (Machine.Num.scale k (.fin neg mag exp)) neg (ratOf false mag exp * (2 : Rat) ^ k) ∧
    Machine.Num.scale k .nan = .nan ∧ Machine.Num.scale k (.inf neg) = .inf neg) ∧
  ∀ (f : BitVec 4) (sc : Bool) (row : BitVec 2048) (scales : List Byte) (k j : Nat), k < 64 → j < packOf f →
    let s : Byte := if sc then scales.getD ((k * packOf f + j) / 32) 0 else 0
    (rowValues f sc row scales)[k * packOf f + j]? =
      some (if s = 0x80 then .fin false 0 0 else Machine.Num.scale s.toInt (elemValue f (lane row k) j))

/-- R54: the tree of a reduction is six levels of pairs over the 64 lanes, with the flags of all 63 operations. -/
def Sys2Proof.Claims.ReductionsPairAdjacentLanes : Prop :=
  ∀ (op : W32 → W32 → Res W32) (xs : List W32), xs.length = 64 → treeOf op xs = pairwise op (fun i => xs.getD i 0) 6 0

namespace Sys2Proof.Claims

/-- A decoded element is an infinity, a zero; the rational value of a finite one. -/
def numInf (n : Machine.Num) : Prop := ∃ neg, n = .inf neg
def numZero (n : Machine.Num) : Prop := ∃ neg exp, n = .fin neg 0 exp
def numQ : Machine.Num → Rat
  | .fin neg mag exp => ratOf neg mag exp
  | _ => 0
/-- The sign of a decoded element. -/
def numNeg : Machine.Num → Bool
  | .fin neg _ _ => neg
  | .inf neg => neg
  | .nan => false

end Sys2Proof.Claims

/-- R51: the cell q[k] of two slots: +0 in a zero block; NaN for a NaN product or infinities of both signs, NV beside 0 x inf and
both signs; else the exact sum of the products, scaled by both shifts and rounded once. A sum of products that are all -0 is -0:
the model's choice (log entry 84). -/
def Sys2Proof.Claims.CellsRoundOnce : Prop :=
  ∀ (xs ys : List Machine.Num) (sa sw : Byte), xs.length = ys.length → xs ≠ [] →
    let ps := xs.zip ys
    let q := cellF (xs, sa) (ys, sw)
    let clash : Prop := ∃ p ∈ ps, (numInf p.1 ∧ numZero p.2) ∨ (numZero p.1 ∧ numInf p.2)
    let nan : Prop := clash ∨ ∃ p ∈ ps, p.1 = .nan ∨ p.2 = .nan
    let toInf := fun (neg : Bool) => (∃ p ∈ ps, p.1 ≠ .nan ∧ p.2 ≠ .nan ∧ ¬ numZero p.1 ∧ ¬ numZero p.2 ∧
      (numInf p.1 ∨ numInf p.2) ∧ (numNeg p.1 != numNeg p.2) = neg : Prop)
    let sum := (ps.map (fun p => numQ p.1 * numQ p.2)).sum * (2 : Rat) ^ (sa.toInt + sw.toInt)
    let zero : W32 := if ps.all (fun p => numNeg p.1 != numNeg p.2) then 0x80000000 else 0
    (sa = 0x80 ∨ sw = 0x80 → q = { val := 0, flags := 0 }) ∧
    (sa ≠ 0x80 → sw ≠ 0x80 →
      (nan ∨ (toInf true ∧ toInf false) → q.val = 0x7FC00000) ∧
      (clash ∨ (toInf true ∧ toInf false) → q.flags = flagNV) ∧
      (nan → ¬ clash → ¬ (toInf true ∧ toInf false) → q.flags = 0) ∧
      (∀ neg, ¬ nan → toInf neg → ¬ toInf (!neg) → q = { val := if neg then 0xFF800000 else 0x7F800000, flags := 0 }) ∧
      (¬ nan → ¬ toInf true → ¬ toInf false →
        (sum ≠ 0 → roundsTo binF32 false 0x7F800000 (decide (sum < 0)) |sum| q) ∧
        (sum = 0 → ((∀ p ∈ ps, numZero p.1 ∨ numZero p.2) → q = { val := zero, flags := 0 }) ∧
          (¬ (∀ p ∈ ps, numZero p.1 ∨ numZero p.2) → q = { val := 0, flags := 0 }))))

/-- R57, R58, R62: the step of a checksum rounds once, and -0 leaves the first addend as it is; a stored sum matches a recomputed
one when they are the same code, or for a floating format both are finite and lie within 2^-22 x 4 x M of each other. -/
def Sys2Proof.Claims.ChecksumsRoundEachStep : Prop :=
  (∀ (s : W32) (neg : Bool) (mag : Nat) (exp : Int), f32Fin s →
    ∃ g, givesF32 (f32Q s + ratOf neg mag exp) (if s = 0x80000000 ∧ neg = true ∧ mag = 0 then 0x80000000 else 0)
      { val := addTo s (.fin neg mag exp), flags := g }) ∧
  (∀ (s : W32) (x : Machine.Num), f32Nan s ∨ x = .nan → addTo s x = 0x7FC00000) ∧
  (∀ (fmt : BitVec 4) (s x m : W32), (s = x → sumMatches fmt s x m = true) ∧
    (isIntFmt fmt = true → s ≠ x → sumMatches fmt s x m = false) ∧
    (isIntFmt fmt = false → s ≠ x → f32Fin m →
      (sumMatches fmt s x m = true ↔ f32Fin s ∧ f32Fin x ∧ |f32Q x - f32Q s| ≤ 4 / 2 ^ 22 * f32Q m)))

/-- R30, R33 to R40, R44, R47 to R49, R51, R54, R57, R58: what the number formats decode to, that arithmetic, conversions, cells
and checksums round once and raise the flags of that rounding, and the tree of the reductions. -/
def Obligations.NumbersDecodeAndRoundOnce : Prop :=
  BinaryElementsDecode ∧ HtWordsDecode ∧ ArithmeticRoundsOnce ∧ F32CodesAreOrdered ∧ FunctionsOfF32Codes ∧
    ConversionsRoundAndSettle ∧ BlockScalesApply ∧ ReductionsPairAdjacentLanes ∧ CellsRoundOnce ∧ ChecksumsRoundEachStep

/-- R110, R111, R113: the direct and register transfers. `br`, `jr`, `ret` and `jalr` without a link pop the bodies they leave;
`call` and a linking `jalr` leave the loop stack alone and write the next packet's index with latency 1. -/
def Sys2Proof.Claims.BranchWordsTransfer : Prop :=
  ∀ (hd : Hdr) (d : BitVec 19) (a b : Reg5) (s : State), transfers hd s →
    let leave := fun (target : BitVec 40) => Host.Outcome.next (φ := Fault) (ρ := Refusal)
      (transfer (.jump target) (onSeq (fun q => { q with loops := popFor q.pc target q.loops }) s))
    let link := fun (r : Reg5) (target : BitVec 40) => Host.Outcome.next (φ := Fault) (ρ := Refusal)
      (transfer (.jump target) (exposeS 1 r ((s.seq.pc + 1).setWidth 64) 0 s))
    exec (.br hd d) s = leave (s.seq.pc + d.signExtend 40) ∧
    exec (.call hd d) s = link 31 (s.seq.pc + d.signExtend 40) ∧
    ((readS s b).toNat < 2 ^ 40 →
      exec (.jr hd b) s = leave ((readS s b).setWidth 40) ∧
      exec (.jalr hd 0 b) s = leave ((readS s b).setWidth 40) ∧
      (a ≠ 0 → exec (.jalr hd a b) s = link a ((readS s b).setWidth 40))) ∧
    ((readS s 31).toNat < 2 ^ 40 → exec (.ret hd) s = leave ((readS s 31).setWidth 40))

/-- R113: the popping of a transfer: the entries, innermost first, whose body contains the transferring packet and not the
target, up to the first that fails either test. -/
def Sys2Proof.Claims.TransfersPopTheBodiesTheyLeave : Prop :=
  ∀ (x target : BitVec 40) (l : List LoopEntry), ∃ popped,
    l = popped ++ popFor x target l ∧
    (∀ e ∈ popped, (e.start.toNat ≤ x.toNat ∧ x.toNat ≤ e.stop.toNat) ∧
      ¬ (e.start.toNat ≤ target.toNat ∧ target.toNat ≤ e.stop.toNat)) ∧
    (∀ e tail, popFor x target l = e :: tail → ¬ ((e.start.toNat ≤ x.toNat ∧ x.toNat ≤ e.stop.toNat) ∧
      ¬ (e.start.toNat ≤ target.toNat ∧ target.toNat ≤ e.stop.toNat)))

/-- R111, R117: a register transfer whose target has bits above the packet index raises class 12 detail 0x04 with the target in
EINFO and the packet's address in EADDR, before any effect. -/
def Sys2Proof.Claims.WildRegisterTargetsTrap : Prop :=
  ∀ (hd : Hdr) (a b : Reg5) (s : State), acts hd s →
    let bad := fun (v : W64) => Host.Outcome.next (φ := Fault) (ρ := Refusal)
      (raise (cause 12 0x04 (BitVec.ofNat 64 (12 * s.seq.pc.toNat)) v) s)
    (2 ^ 40 ≤ (readS s b).toNat →
      exec (.jr hd b) s = bad (readS s b) ∧ exec (.jalr hd a b) s = bad (readS s b)) ∧
    (2 ^ 40 ≤ (readS s 31).toNat → exec (.ret hd) s = bad (readS s 31))

/-- R110, R111, R113, R117: the branch words transfer, with the loop stack popped of the bodies left, or trap on a target that is no packet index. -/
def Obligations.BranchWordsTransferOrTrap : Prop :=
  BranchWordsTransfer ∧ TransfersPopTheBodiesTheyLeave ∧ WildRegisterTargetsTrap

/-- R115: a loop word of count n and length l, in its four cases. -/
def Sys2Proof.Claims.LoopWordsPushOrSkip : Prop :=
  ∀ (hd : Hdr) (b : Reg5) (k : BitVec 10) (l : BitVec 9) (s : State), transfers hd s →
    let pc := s.seq.pc
    let trap := fun (detail : BitVec 6) (info : W64) => Host.Outcome.next (φ := Fault) (ρ := Refusal)
      (raise (cause 12 detail (BitVec.ofNat 64 (12 * pc.toNat)) info) s)
    let answers := fun (r : Host.Outcome State Fault Refusal) (n : Nat) =>
      (0xFFFFFFFF < n → r = trap 0x02 (BitVec.ofNat 64 n)) ∧
      (n = 0 → r = .next (transfer (.skip (pc + BitVec.ofNat 40 (l.toNat + 1))) s)) ∧
      (0 < n → n ≤ 0xFFFFFFFF → s.seq.loops.length = 6 → r = trap 0x01 0) ∧
      (0 < n → n ≤ 0xFFFFFFFF → s.seq.loops.length ≠ 6 →
        ((∃ top rest, s.seq.loops = top :: rest ∧ top.start.toNat ≤ pc.toNat ∧ pc.toNat ≤ top.stop.toNat ∧
            top.stop.toNat < pc.toNat + l.toNat) → r = trap 0x03 (BitVec.ofNat 64 (pc.toNat + l.toNat))) ∧
        ((∀ top rest, s.seq.loops = top :: rest → ¬ (top.start.toNat ≤ pc.toNat ∧ pc.toNat ≤ top.stop.toNat ∧
            top.stop.toNat < pc.toNat + l.toNat)) →
          r = .next (transfer (.push { start := pc + 1, stop := pc + BitVec.ofNat 40 l.toNat, remain := BitVec.ofNat 32 n,
                                       index := 0 }) s)))
    answers (exec (.loop hd b l) s) (readS s b).toNat ∧ answers (exec (.loopi hd k l) s) k.toNat

/-- R115: what a loop word has pending becomes of its group, whatever the count: a pushed body begins at the next packet and a
skipped one is passed over, so that no later group of the packet issues; a loop word whose guard fails leaves the state as it is,
and the next group of the packet is next. -/
def Sys2Proof.Claims.LoopTransfersLeaveThePacket : Prop :=
  ∀ (n : Nat) (e : LoopEntry) (target : BitVec 40) (hd : Hdr) (b : Reg5) (k : BitVec 10) (l : BitVec 9) (s : State),
    (let t := applyTransfer n (some (.push e)) s
     t.seq.pc = s.seq.pc + 1 ∧ t.seq.gpos = 0 ∧ t.seq.loops = e :: s.seq.loops ∧ t.mem = s.mem) ∧
    (let t := applyTransfer n (some (.skip target)) s
     t.seq.pc = target ∧ t.seq.gpos = 0 ∧ t.seq.loops = s.seq.loops ∧ t.mem = s.mem) ∧
    (s.seq.gpos + n < 3 →
      let t := applyTransfer n none s
      t.seq.pc = s.seq.pc ∧ t.seq.gpos = s.seq.gpos + n ∧ t.seq.loops = s.seq.loops ∧ t.mem = s.mem) ∧
    (s.seq.group.isOpen = true → guardPass hd s = false →
      exec (.loop hd b l) s = next s ∧ exec (.loopi hd k l) s = next s)

/-- R116: end-of-body processing when the last group of packet x is left by falling through: entries that end at x with one
iteration left are popped, and the first that has more goes back to its start with the count one less and the index one more;
without one the next packet is x + 1. -/
def Sys2Proof.Claims.EndOfBodyRunsTheInnermostLoop : Prop :=
  ∀ (n : Nat) (s : State) (pops rest : List LoopEntry), 3 ≤ s.seq.gpos + n → s.seq.loops = pops ++ rest →
    (∀ e ∈ pops, e.stop = s.seq.pc ∧ e.remain = 1) →
    (∀ e tail, rest = e :: tail → e.stop = s.seq.pc → 1 < e.remain.toNat →
      (fallThrough n s).seq.pc = e.start ∧
      (fallThrough n s).seq.loops = { e with remain := e.remain - 1, index := e.index + 1 } :: tail) ∧
    ((∀ e tail, rest = e :: tail → e.stop ≠ s.seq.pc) →
      (fallThrough n s).seq.pc = s.seq.pc + 1 ∧ (fallThrough n s).seq.loops = rest) ∧
    (fallThrough n s).seq.gpos = 0

/-- R115, R116: what the loop words push, skip or trap on, where the next packet is then, that a failing guard leaves a loop word without effect, and what the end of a body does. -/
def Obligations.LoopWordsAndEndOfBody : Prop :=
  LoopWordsPushOrSkip ∧ LoopTransfersLeaveThePacket ∧ EndOfBodyRunsTheInnermostLoop

/-! ### Vector words -/

namespace Sys2Proof.Claims

/-- A vector result joins those in flight: latency, destination, tag, active lanes, flags, and the value of each lane. -/
def laneResult (r : Host.Outcome State Fault Refusal) (lat : Nat) (a : Reg5) (fmt : BitVec 4) (flags : Flags) (hd : Hdr)
    (s : State) (f : Nat → W32) : Prop :=
  ∃ d : BitVec 2048, r = .next (exposeV lat a d (mkTag fmt false false) 0xFF (guardMask hd s) flags s) ∧
    ∀ i, i < 64 → lane d i = f i

/-- A vector register that the integer words take: i32, or raw, which is read as i32 (R122). -/
def intReg (s : State) (r : Reg5) : Prop := tagFmt (readV s r).tag = 3 ∨ tagFmt (readV s r).tag = 0
/-- A vector register that the float words take: f32 (R122). -/
def floatReg (s : State) (r : Reg5) : Prop := tagFmt (readV s r).tag = 1
/-- A vector register of any format (R122). -/
def anyReg (s : State) (r : Reg5) : Prop := (tagFmt (readV s r).tag).toNat ≤ 10

end Sys2Proof.Claims

/-- R124: the integer words of VALU give i32 results of latency 2, lane by lane, wrapping modulo 2^32. -/
def Sys2Proof.Claims.ValuIntegerWordsGiveLanes : Prop :=
  ∀ (hd : Hdr) (a b c : Reg5) (s : State), vacts hd s → intReg s b → intReg s c →
    let x := laneOf s b
    let y := laneOf s c
    laneResult (exec (.valuAdd hd a b c) s) 2 a 3 0 hd s (fun i => x i + y i) ∧
    laneResult (exec (.valuSub hd a b c) s) 2 a 3 0 hd s (fun i => x i - y i) ∧
    laneResult (exec (.valuSll hd a b c) s) 2 a 3 0 hd s (fun i => x i <<< ((y i).toNat % 32)) ∧
    laneResult (exec (.valuSrl hd a b c) s) 2 a 3 0 hd s (fun i => x i >>> ((y i).toNat % 32)) ∧
    laneResult (exec (.valuSra hd a b c) s) 2 a 3 0 hd s (fun i => (x i).sshiftRight ((y i).toNat % 32)) ∧
    laneResult (exec (.valuMul hd a b c) s) 2 a 3 0 hd s (fun i => x i * y i) ∧
    laneResult (exec (.valuMulh hd a b c) s) 2 a 3 0 hd s (fun i => BitVec.ofInt 32 ((x i).toInt * (y i).toInt / 2 ^ 32)) ∧
    laneResult (exec (.valuMulhu hd a b c) s) 2 a 3 0 hd s (fun i => BitVec.ofNat 32 ((x i).toNat * (y i).toNat / 2 ^ 32)) ∧
    laneResult (exec (.valuMin hd a b c) s) 2 a 3 0 hd s (fun i => BitVec.ofInt 32 (min (x i).toInt (y i).toInt)) ∧
    laneResult (exec (.valuMax hd a b c) s) 2 a 3 0 hd s (fun i => BitVec.ofInt 32 (max (x i).toInt (y i).toInt)) ∧
    laneResult (exec (.valuMinu hd a b c) s) 2 a 3 0 hd s (fun i => BitVec.ofNat 32 (min (x i).toNat (y i).toNat)) ∧
    laneResult (exec (.valuMaxu hd a b c) s) 2 a 3 0 hd s (fun i => BitVec.ofNat 32 (max (x i).toNat (y i).toNat))

/-- R124: the integer words of VALUS, with bits [31:0] of the scalar as every lane's second operand. -/
def Sys2Proof.Claims.ValusIntegerWordsGiveLanes : Prop :=
  ∀ (hd : Hdr) (a b c : Reg5) (s : State), vacts hd s → intReg s b →
    let x := laneOf s b
    let y : W32 := (readS s c).setWidth 32
    laneResult (exec (.valusAdd hd a b c) s) 2 a 3 0 hd s (fun i => x i + y) ∧
    laneResult (exec (.valusSub hd a b c) s) 2 a 3 0 hd s (fun i => x i - y) ∧
    laneResult (exec (.valusSll hd a b c) s) 2 a 3 0 hd s (fun i => x i <<< (y.toNat % 32)) ∧
    laneResult (exec (.valusSrl hd a b c) s) 2 a 3 0 hd s (fun i => x i >>> (y.toNat % 32)) ∧
    laneResult (exec (.valusSra hd a b c) s) 2 a 3 0 hd s (fun i => (x i).sshiftRight (y.toNat % 32)) ∧
    laneResult (exec (.valusMul hd a b c) s) 2 a 3 0 hd s (fun i => x i * y) ∧
    laneResult (exec (.valusMulh hd a b c) s) 2 a 3 0 hd s (fun i => BitVec.ofInt 32 ((x i).toInt * y.toInt / 2 ^ 32)) ∧
    laneResult (exec (.valusMulhu hd a b c) s) 2 a 3 0 hd s (fun i => BitVec.ofNat 32 ((x i).toNat * y.toNat / 2 ^ 32)) ∧
    laneResult (exec (.valusMin hd a b c) s) 2 a 3 0 hd s (fun i => BitVec.ofInt 32 (min (x i).toInt y.toInt)) ∧
    laneResult (exec (.valusMax hd a b c) s) 2 a 3 0 hd s (fun i => BitVec.ofInt 32 (max (x i).toInt y.toInt)) ∧
    laneResult (exec (.valusMinu hd a b c) s) 2 a 3 0 hd s (fun i => BitVec.ofNat 32 (min (x i).toNat y.toNat)) ∧
    laneResult (exec (.valusMaxu hd a b c) s) 2 a 3 0 hd s (fun i => BitVec.ofNat 32 (max (x i).toNat y.toNat))

/-- R124: the logic words of VALU and VALUS take any format and give vB's format. -/
def Sys2Proof.Claims.VectorLogicWordsKeepTheFormat : Prop :=
  ∀ (hd : Hdr) (a b c : Reg5) (s : State), vacts hd s → anyReg s b →
    let x := laneOf s b
    let y := laneOf s c
    let z : W32 := (readS s c).setWidth 32
    let f := tagFmt (readV s b).tag
    (anyReg s c →
      laneResult (exec (.valuAnd hd a b c) s) 2 a f 0 hd s (fun i => x i &&& y i) ∧
      laneResult (exec (.valuOr hd a b c) s) 2 a f 0 hd s (fun i => x i ||| y i) ∧
      laneResult (exec (.valuXor hd a b c) s) 2 a f 0 hd s (fun i => x i ^^^ y i) ∧
      laneResult (exec (.valuAndn hd a b c) s) 2 a f 0 hd s (fun i => x i &&& ~~~y i)) ∧
    laneResult (exec (.valusAnd hd a b c) s) 2 a f 0 hd s (fun i => x i &&& z) ∧
    laneResult (exec (.valusOr hd a b c) s) 2 a f 0 hd s (fun i => x i ||| z) ∧
    laneResult (exec (.valusXor hd a b c) s) 2 a f 0 hd s (fun i => x i ^^^ z) ∧
    laneResult (exec (.valusAndn hd a b c) s) 2 a f 0 hd s (fun i => x i &&& ~~~z)

/-- R124: the integer and logic words of VALU and VALUS. -/
def Obligations.VectorIntegerAndLogicWords : Prop :=
  ValuIntegerWordsGiveLanes ∧ ValusIntegerWordsGiveLanes ∧ VectorLogicWordsKeepTheFormat

/-- R125: the float words give f32 results of latency 4, each lane by its operation, with the flags of the active lanes. -/
def Sys2Proof.Claims.FloatWordsGiveLanes : Prop :=
  ∀ (hd : Hdr) (a b c : Reg5) (s : State), vacts hd s → floatReg s b →
    let gives := fun (r : Host.Outcome State Fault Refusal) (f : W32 → Res W32) =>
      laneResult r 4 a 1 (laneFlags (guardMask hd s) (fun i => (f (laneOf s b i)).flags)) hd s
        (fun i => (f (laneOf s b i)).val)
    let gives2 := fun (r : Host.Outcome State Fault Refusal) (f : W32 → W32 → Res W32) =>
      laneResult r 4 a 1 (laneFlags (guardMask hd s) (fun i => (f (laneOf s b i) (laneOf s c i)).flags)) hd s
        (fun i => (f (laneOf s b i) (laneOf s c i)).val)
    (floatReg s c →
      gives2 (exec (.fadd hd a b c) s) addF32 ∧ gives2 (exec (.fsub hd a b c) s) subF32 ∧
      gives2 (exec (.fmul hd a b c) s) mulF32 ∧
      gives2 (exec (.fmin hd a b c) s) (fun x y => { val := minF32 x y, flags := 0 }) ∧
      gives2 (exec (.fmax hd a b c) s) (fun x y => { val := maxF32 x y, flags := 0 })) ∧
    gives (exec (.fabs hd a b) s) (fun x => { val := if isNanF32 x then 0x7FC00000 else x &&& 0x7FFFFFFF, flags := 0 }) ∧
    gives (exec (.fneg hd a b) s) (fun x => { val := if isNanF32 x then 0x7FC00000 else x ^^^ 0x80000000, flags := 0 }) ∧
    gives (exec (.fsqrt hd a b) s) sqrtF32 ∧ gives (exec (.frcp hd a b) s) rcpF32 ∧ gives (exec (.frsq hd a b) s) rsqF32 ∧
    gives (exec (.fexp2 hd a b) s) exp2F32 ∧ gives (exec (.flog2 hd a b) s) log2F32

/-- R126: the fused words round once, the addend and destination being vA. -/
def Sys2Proof.Claims.FusedWordsRoundOnce : Prop :=
  ∀ (hd : Hdr) (a b c : Reg5) (s : State), vacts hd s → floatReg s a → floatReg s b → floatReg s c →
    let x := fun i => decodeF32 (laneOf s b i)
    let y := fun i => decodeF32 (laneOf s c i)
    let z := fun i => decodeF32 (laneOf s a i)
    let gives := fun (r : Host.Outcome State Fault Refusal) (f : Nat → Res W32) =>
      laneResult r 4 a 1 (laneFlags (guardMask hd s) (fun i => (f i).flags)) hd s (fun i => (f i).val)
    gives (exec (.fma hd a b c) s) (fun i => fmaF32 (x i) (y i) (z i)) ∧
    gives (exec (.fms hd a b c) s) (fun i => fmaF32 (x i) (y i) (z i).negate) ∧
    gives (exec (.fnma hd a b c) s) (fun i => fmaF32 (x i).negate (y i) (z i))

/-- R125, R126: the float words of VFP and VFMA. -/
def Obligations.VectorFloatWords : Prop :=
  FloatWordsGiveLanes ∧ FusedWordsRoundOnce

/-- R127: a vector compare writes its truth into the active lanes of its predicate, with latency 2; only the ordered float
compares raise a flag, NV, on a NaN in an active lane. -/
def Obligations.VectorComparesWriteActiveLanes : Prop :=
  ∀ (hd : Hdr) (p : Reg4) (b c : Reg5) (s : State), vacts hd s →
    let x := laneOf s b
    let y := laneOf s c
    let nan := fun i => isNanF32 (x i) || isNanF32 (y i)
    let gives := fun (r : Host.Outcome State Fault Refusal) (flags : Flags) (f : Nat → Bool) =>
      ∃ v : W64, r = .next (exposeP 2 p v (guardMask hd s) flags s) ∧ ∀ i, i < 64 → v.getLsbD i = f i
    (anyReg s b → anyReg s c →
      gives (exec (.vcmpEq hd p b c) s) 0 (fun i => decide (x i = y i)) ∧
      gives (exec (.vcmpNe hd p b c) s) 0 (fun i => decide (x i ≠ y i))) ∧
    (intReg s b → intReg s c →
      gives (exec (.vcmpLt hd p b c) s) 0 (fun i => decide ((x i).toInt < (y i).toInt)) ∧
      gives (exec (.vcmpLe hd p b c) s) 0 (fun i => decide ((x i).toInt ≤ (y i).toInt)) ∧
      gives (exec (.vcmpLtu hd p b c) s) 0 (fun i => decide ((x i).toNat < (y i).toNat))) ∧
    (floatReg s b → floatReg s c →
      let nv := laneFlags (guardMask hd s) (fun i => if nan i then flagNV else 0)
      gives (exec (.vcmpFeq hd p b c) s) 0 (fun i => numEq (x i) (y i)) ∧
      gives (exec (.vcmpFlt hd p b c) s) nv (fun i => numLt (x i) (y i)) ∧
      gives (exec (.vcmpFle hd p b c) s) nv (fun i => numLt (x i) (y i) || numEq (x i) (y i)) ∧
      gives (exec (.vcmpFunord hd p b c) s) 0 nan)

/-- R128 to R130: the conversions whose results fill the lanes, from lane i or from element PART of lane i; a
raw register is read as i32 (R122). -/
def Sys2Proof.Claims.WideningConversionsFillTheLanes : Prop :=
  ∀ (hd : Hdr) (a b : Reg5) (t : BitVec 2) (z : BitVec 1) (s : State), vacts hd s →
    let f := tagFmt (readV s b).tag
    let gives := fun (r : Host.Outcome State Fault Refusal) (dst : BitVec 4) (rz : Bool) (j : Nat) =>
      let e := fun i => convertTo dst rz (elemValue (if f = 0 then 3 else f) (laneOf s b i) j)
      laneResult r 4 a dst (laneFlags (guardMask hd s) (fun i => (e i).flags)) hd s (fun i => (e i).val)
    (intReg s b → gives (exec (.vcvtF32I32 hd a b z) s) 1 (z == 1) 0) ∧
    (f = 1 → gives (exec (.vcvtI32F32 hd a b z) s) 3 (z == 1) 0) ∧
    (f = 2 → gives (exec (.vcvtF32Bf16 hd a b t) s) 1 false t.toNat) ∧
    (f = 6 → gives (exec (.vcvtF32E4m3 hd a b t) s) 1 false t.toNat) ∧
    (f = 7 → gives (exec (.vcvtF32E5m2 hd a b t) s) 1 false t.toNat) ∧
    (f = 9 → gives (exec (.vcvtF32Ht8 hd a b t) s) 1 false t.toNat) ∧
    (f = 10 → gives (exec (.vcvtF32Ht6 hd a b t) s) 1 false t.toNat) ∧
    (f = 4 ∨ f = 5 → gives (exec (.vcvtI32I8 hd a b t) s) 3 false t.toNat)

/-- R128 to R130: the conversions into element PART of each lane: the result in flight carries the element's bits and the mask
of the elements it writes. -/
def Sys2Proof.Claims.NarrowingConversionsWriteElements : Prop :=
  ∀ (hd : Hdr) (a b : Reg5) (t : BitVec 2) (u z : BitVec 1) (s : State), vacts hd s →
    let m := guardMask hd s
    let gives := fun (r : Host.Outcome State Fault Refusal) (src dst : BitVec 4) (w : Nat) (rz : Bool) =>
      let e := fun i => convertTo dst rz (elemValue src (laneOf s b i) 0)
      ∃ d : BitVec 2048,
        r = .next (exposeV 4 a d (mkTag dst false false) ((1 : Byte) <<< t.toNat) m (laneFlags m (fun i => (e i).flags)) s) ∧
        ∀ i, i < 64 → lane d i = BitVec.ofNat 32 ((e i).val.toNat % 2 ^ w) <<< (w * t.toNat)
    (floatReg s b →
      gives (exec (.vcvtBf16F32 hd a b t z) s) 1 2 16 (z == 1) ∧ gives (exec (.vcvtE4m3F32 hd a b t z) s) 1 6 8 (z == 1) ∧
      gives (exec (.vcvtE5m2F32 hd a b t z) s) 1 7 8 (z == 1) ∧ gives (exec (.vcvtHt8F32 hd a b t) s) 1 9 8 false ∧
      gives (exec (.vcvtHt6F32 hd a b t) s) 1 10 8 false) ∧
    (intReg s b → gives (exec (.vcvtI8I32 hd a b u t z) s) 3 (if u = 1 then 5 else 4) 8 false)

/-- R129, R130: the conversions of e2m1 pairs. -/
def Sys2Proof.Claims.PairConversionsJoinAndSplitNibbles : Prop :=
  ∀ (hd : Hdr) (a b : Reg5) (t : BitVec 2) (z : BitVec 1) (s : State), vacts hd s →
    let m := guardMask hd s
    (floatReg s b → floatReg s (b + 1) →
      let e := fun (r : Reg5) i => convertTo 8 (z == 1) (elemValue 1 (laneOf s r i) 0)
      ∃ d : BitVec 2048, exec (.vcvtE2m1F32 hd a b t z) s =
          .next (exposeV 4 a d (mkTag 8 false false) ((3 : Byte) <<< (2 * t.toNat)) m
            (laneFlags m (fun i => (e b i).flags ||| (e (b + 1) i).flags)) s) ∧
        ∀ i, i < 64 → lane d i =
          (BitVec.ofNat 32 ((e b i).val.toNat % 16) <<< (8 * t.toNat)) |||
            (BitVec.ofNat 32 ((e (b + 1) i).val.toNat % 16) <<< (8 * t.toNat + 4))) ∧
    (tagFmt (readV s b).tag = 8 →
      ∃ d0 d1 : BitVec 2048, exec (.vcvtF32E2m1 hd a b t) s =
          .next (exposeV 4 (a + 1) d1 (mkTag 1 false false) 0xFF m 0
            (exposeV 4 a d0 (mkTag 1 false false) 0xFF m 0 s)) ∧
        ∀ i, i < 64 → lane d0 i = (convertTo 1 false (elemValue 8 (laneOf s b i) (2 * t.toNat))).val ∧
          lane d1 i = (convertTo 1 false (elemValue 8 (laneOf s b i) (2 * t.toNat + 1))).val)

/-- R128 to R130: every conversion of VCVT. -/
def Obligations.ConversionsBetweenFormats : Prop :=
  WideningConversionsFillTheLanes ∧ NarrowingConversionsWriteElements ∧ PairConversionsJoinAndSplitNibbles

/-- R54, R55, R131: a reduction combines its lanes, an inactive lane standing as the identity, by the pairwise tree, and writes
its scalar whether or not a lane passes. -/
def Obligations.ReductionsFoldTheTree : Prop :=
  ∀ (hd : Hdr) (a b : Reg5) (s : State), s.seq.group.isOpen = true →
    let tree := fun (op : W32 → W32 → Res W32) (id : W32) =>
      treeOf op ((List.range 64).map (fun i => if (guardMask hd s).getLsbD i then laneOf s b i else id))
    let quiet := fun (f : W32 → W32 → W32) (x y : W32) => ({ val := f x y, flags := 0 } : Res W32)
    let signed := fun (r : Res W32) => Host.Outcome.next (φ := Fault) (ρ := Refusal) (exposeS 6 a (r.val.signExtend 64) r.flags s)
    let zeroed := fun (r : Res W32) => Host.Outcome.next (φ := Fault) (ρ := Refusal) (exposeS 6 a (r.val.setWidth 64) r.flags s)
    (intReg s b →
      exec (.vredSumI32 hd a b) s = signed (tree (quiet (· + ·)) 0) ∧
      exec (.vredMin hd a b) s = signed (tree (quiet (fun x y => if y.slt x then y else x)) 0x7FFFFFFF) ∧
      exec (.vredMax hd a b) s = signed (tree (quiet (fun x y => if x.slt y then y else x)) 0x80000000)) ∧
    (floatReg s b →
      exec (.vredSumF32 hd a b) s = zeroed (tree addF32 0x80000000) ∧
      exec (.vredFmin hd a b) s = zeroed (tree (quiet minF32) 0x7F800000) ∧
      exec (.vredFmax hd a b) s = zeroed (tree (quiet maxF32) 0xFF800000)) ∧
    (anyReg s b →
      exec (.vredAnd hd a b) s = zeroed (tree (quiet (· &&& ·)) 0xFFFFFFFF) ∧
      exec (.vredOr hd a b) s = zeroed (tree (quiet (· ||| ·)) 0))

/-- R132, R133: the permutations and the splat. -/
def Sys2Proof.Claims.PermutationsMoveLanes : Prop :=
  ∀ (hd : Hdr) (a b c : Reg5) (p : Reg4) (k : BitVec 14) (s : State), vacts hd s →
    let x := laneOf s b
    let f := tagFmt (readV s b).tag
    let n := (readS s c).toNat % 64
    let q := readP s p
    (anyReg s b →
      (intReg s c → laneResult (exec (.vperm hd a b c) s) 3 a f 0 hd s (fun i => x ((laneOf s c i).toNat % 64))) ∧
      laneResult (exec (.vrot hd a b c) s) 3 a f 0 hd s (fun i => x ((i + n) % 64)) ∧
      laneResult (exec (.vbcast hd a b c) s) 3 a f 0 hd s (fun _ => x n) ∧
      laneResult (exec (.vcompress hd a b p) s) 3 a f 0 hd s (fun i =>
        match ((List.range 64).filter (fun j => q.getLsbD j))[i]? with
        | some j => x j
        | none => 0) ∧
      laneResult (exec (.vexpand hd a b p) s) 3 a f 0 hd s (fun i =>
        if q.getLsbD i then x (((List.range i).filter (fun j => q.getLsbD j)).length) else 0) ∧
      exec (.vext hd a b c) s =
        .next (if (guardMask hd s).getLsbD n then exposeS 3 a ((x n).setWidth 64) 0 s else s)) ∧
    laneResult (exec (.vid hd a) s) 3 a 3 0 hd s (fun i => BitVec.ofNat 32 i) ∧
    laneResult (exec (.vsplat hd a k) s) 1 a 3 0 hd s (fun _ => k.signExtend 32)

/-- R121, R132: `vins` changes one lane of vA, when that lane's guard passes, and no tag. -/
def Sys2Proof.Claims.VinsReplacesOneLane : Prop :=
  ∀ (hd : Hdr) (a b c : Reg5) (s : State), vacts hd s → anyReg s a →
    let k := (readS s c).toNat % 64
    ((guardMask hd s).getLsbD k = false → exec (.vins hd a b c) s = .next s) ∧
    ((guardMask hd s).getLsbD k = true → ∃ e : InFlight, exec (.vins hd a b c) s = .next (expose e s) ∧
      e.kind = .vector ∧ e.reg = a ∧ e.remain = 3 ∧ e.flags = 0 ∧
      ∀ old : VReg, (mergeLanes e old).tag = old.tag ∧
        ∀ i, i < 64 → lane (mergeLanes e old).data i = if i = k then (readS s b).setWidth 32 else lane old.data i)

/-- R121, R132, R133: the permutations, `vins`, `vid` and `vsplat`. -/
def Obligations.PermutationsAndInsertion : Prop :=
  PermutationsMoveLanes ∧ VinsReplacesOneLane

namespace Sys2Proof.Claims

/-- A word's trap on a tag (R122): class 2 detail 0x01 with the tag found, the register number that stands in the field, and the
field. -/
def wrongTag (s : State) (found : Byte) (r : Reg5) (field : Nat) : Host.Outcome State Fault Refusal :=
  .next (raise (cause 2 0x01 0 (BitVec.ofNat 64 (found.toNat * 65536 + r.toNat * 256 + field))) s)

/-- Every word of a list traps on the tag of register r, in a field, where the register is not of the class. -/
def tagTraps (s : State) (ws : List Instr) (r : Reg5) (field : Nat) (accepted : Prop) : Prop :=
  ¬ accepted → ∀ i ∈ ws, exec i s = wrongTag s (readV s r).tag r field

end Sys2Proof.Claims

/-- R122, R124 to R127: the lane words: the first operand of another class, in the order A, B, Cc. -/
def Sys2Proof.Claims.LaneWordsCheckTags : Prop :=
  ∀ (hd : Hdr) (a b c : Reg5) (p : Reg4) (s : State), vacts hd s →
    let two := fun (ws : List Instr) (is : State → Reg5 → Prop) =>
      tagTraps s ws b 1 (is s b) ∧ (is s b → tagTraps s ws c 2 (is s c))
    two [.valuAdd hd a b c, .valuSub hd a b c, .valuSll hd a b c, .valuSrl hd a b c, .valuSra hd a b c, .valuMul hd a b c,
      .valuMulh hd a b c, .valuMulhu hd a b c, .valuMin hd a b c, .valuMax hd a b c, .valuMinu hd a b c, .valuMaxu hd a b c,
      .vcmpLt hd p b c, .vcmpLe hd p b c, .vcmpLtu hd p b c] intReg ∧
    two [.valuAnd hd a b c, .valuOr hd a b c, .valuXor hd a b c, .valuAndn hd a b c, .vcmpEq hd p b c, .vcmpNe hd p b c]
      anyReg ∧
    two [.fadd hd a b c, .fsub hd a b c, .fmul hd a b c, .fmin hd a b c, .fmax hd a b c, .vcmpFeq hd p b c, .vcmpFlt hd p b c,
      .vcmpFle hd p b c, .vcmpFunord hd p b c] floatReg ∧
    tagTraps s [.valusAdd hd a b c, .valusSub hd a b c, .valusSll hd a b c, .valusSrl hd a b c, .valusSra hd a b c,
      .valusMul hd a b c, .valusMulh hd a b c, .valusMulhu hd a b c, .valusMin hd a b c, .valusMax hd a b c,
      .valusMinu hd a b c, .valusMaxu hd a b c] b 1 (intReg s b) ∧
    tagTraps s [.valusAnd hd a b c, .valusOr hd a b c, .valusXor hd a b c, .valusAndn hd a b c] b 1 (anyReg s b) ∧
    tagTraps s [.fabs hd a b, .fneg hd a b, .fsqrt hd a b, .frcp hd a b, .frsq hd a b, .fexp2 hd a b, .flog2 hd a b] b 1
      (floatReg s b) ∧
    (let fused := [Instr.fma hd a b c, .fms hd a b c, .fnma hd a b c]
     tagTraps s fused a 0 (floatReg s a) ∧ (floatReg s a → tagTraps s fused b 1 (floatReg s b)) ∧
     (floatReg s a → floatReg s b → tagTraps s fused c 2 (floatReg s c)))

/-- R122, R129 to R133: the conversions, each by its one source format, of a pair too; the reductions, whether or not a lane
passes; the permutations. -/
def Sys2Proof.Claims.OtherVectorWordsCheckTags : Prop :=
  ∀ (hd : Hdr) (a b c : Reg5) (p : Reg4) (t : BitVec 2) (u z : BitVec 1) (s : State),
    let f := tagFmt (readV s b).tag
    (s.seq.group.isOpen = true →
      tagTraps s [.vredSumI32 hd a b, .vredMin hd a b, .vredMax hd a b] b 1 (intReg s b) ∧
      tagTraps s [.vredSumF32 hd a b, .vredFmin hd a b, .vredFmax hd a b] b 1 (floatReg s b) ∧
      tagTraps s [.vredAnd hd a b, .vredOr hd a b] b 1 (anyReg s b)) ∧
    (vacts hd s →
      tagTraps s [.vcvtF32I32 hd a b z, .vcvtI8I32 hd a b u t z] b 1 (intReg s b) ∧
      tagTraps s [.vcvtI32F32 hd a b z, .vcvtBf16F32 hd a b t z, .vcvtE4m3F32 hd a b t z, .vcvtE5m2F32 hd a b t z,
        .vcvtHt8F32 hd a b t, .vcvtHt6F32 hd a b t, .vcvtE2m1F32 hd a b t z] b 1 (floatReg s b) ∧
      tagTraps s [.vcvtF32Bf16 hd a b t] b 1 (f = 2) ∧ tagTraps s [.vcvtF32E4m3 hd a b t] b 1 (f = 6) ∧
      tagTraps s [.vcvtF32E5m2 hd a b t] b 1 (f = 7) ∧ tagTraps s [.vcvtF32E2m1 hd a b t] b 1 (f = 8) ∧
      tagTraps s [.vcvtF32Ht8 hd a b t] b 1 (f = 9) ∧ tagTraps s [.vcvtF32Ht6 hd a b t] b 1 (f = 10) ∧
      tagTraps s [.vcvtI32I8 hd a b t] b 1 (f = 4 ∨ f = 5) ∧
      (floatReg s b → ¬ floatReg s (b + 1) →
        exec (.vcvtE2m1F32 hd a b t z) s = wrongTag s (readV s (b + 1)).tag b 1) ∧
      tagTraps s [.vperm hd a b c, .vrot hd a b c, .vbcast hd a b c, .vext hd a b c, .vcompress hd a b p, .vexpand hd a b p] b 1
        (anyReg s b) ∧
      (anyReg s b → tagTraps s [.vperm hd a b c] c 2 (intReg s c)) ∧ tagTraps s [.vins hd a b c] a 0 (anyReg s a))

/-- R122: every vector word that checks a tag, with an operand of another class, raises class 2 detail 0x01 with the tag found,
the register number in the field and the field, the first in the order A, B, Cc, and takes no effect. -/
def Obligations.WrongTagsTrapBeforeAnyEffect : Prop :=
  LaneWordsCheckTags ∧ OtherVectorWordsCheckTags

/-! ### Memory words -/

namespace Sys2Proof.Claims

/-- The address of a word of format F-M whose displacement counts units of n bytes (R134). -/
def wordAddr (s : State) (b : Reg5) (d : BitVec 6) (n : Nat) : Nat :=
  placeOf s (readS s b + d.signExtend 64 * BitVec.ofNat 64 n)

/-- A scratchpad range that a word may access: inside the scratchpad, aligned, raising no race (R134, R139, R203), and without
an uncorrectable error in what it reads (R334). -/
def reaches (s : State) (write : Bool) (a n align : Nat) : Prop :=
  a + n ≤ 0x14000000 ∧ a % align = 0 ∧ raceOf s.mem s.agent write a n = none ∧
    (write = false → s.mem.badByte a n = none)

/-- What a unit reads of time and residency is what stands: it is in supervisor mode, or neither replays nor records (R343,
R344). -/
def unlogged (s : State) : Prop := s.seq.supervisor = true ∨ (replaying s = false ∧ s.seq.recording = false)

/-- A load's results in its step of issue: the register and p15, all resident (R138). -/
def loaded (a : Reg5) (x : W64) (s : State) : Host.Outcome State Fault Refusal :=
  .next (onSeq (fun q => (q.setS a x).setP 15 0) s)

/-- A scratchpad range after a store of its bytes, and the rest of the state: bytes, owners and nothing else (R139, R208). -/
def storedAt (a : Nat) (bs : List Byte) (s t : State) : Prop :=
  (∀ i, i < bs.length → memByte t.mem.spad (a + i) = bs.getD i 0) ∧
  (∀ x, x < a ∨ a + bs.length ≤ x → memByte t.mem.spad x = memByte s.mem.spad x) ∧
  (∀ g, g ∈ granulesOf a bs.length → ownerOf t.mem g = some (.excl s.agent)) ∧
  (∀ g, g ∉ granulesOf a bs.length → ownerOf t.mem g = ownerOf s.mem g) ∧
  t.mem.hbm = s.mem.hbm ∧ t.mem.full = s.mem.full ∧ t = { s with mem := t.mem }

end Sys2Proof.Claims

/-- R134, R138, R140: the scalar loads from scratchpad: width, extension, little-endian bytes, p15 all zero, and nothing else. -/
def Sys2Proof.Claims.ScalarLoadsReadScratchpad : Prop :=
  ∀ (hd : Hdr) (a b : Reg5) (d : BitVec 6) (s : State), acts hd s →
    let ok := fun (n : Nat) => reaches s false (wordAddr s b d n) n n
    let v := fun (n : Nat) => natOfBytes ((List.range n).map (fun i => memByte s.mem.spad (wordAddr s b d n + i)))
    (ok 1 → exec (.ld8 hd a b d) s = loaded a ((BitVec.ofNat 8 (v 1)).signExtend 64) s ∧
      exec (.ld8u hd a b d) s = loaded a (BitVec.ofNat 64 (v 1)) s) ∧
    (ok 2 → exec (.ld16 hd a b d) s = loaded a ((BitVec.ofNat 16 (v 2)).signExtend 64) s ∧
      exec (.ld16u hd a b d) s = loaded a (BitVec.ofNat 64 (v 2)) s) ∧
    (ok 4 → exec (.ld32 hd a b d) s = loaded a ((BitVec.ofNat 32 (v 4)).signExtend 64) s ∧
      exec (.ld32u hd a b d) s = loaded a (BitVec.ofNat 64 (v 4)) s) ∧
    (ok 8 → exec (.ld64 hd a b d) s = loaded a (BitVec.ofNat 64 (v 8)) s)

/-- R140, R208: the scalar stores into scratchpad: the low bytes of sA, the granules EXCL of the bay's sequencer, and nothing
else. -/
def Sys2Proof.Claims.ScalarStoresWriteScratchpad : Prop :=
  ∀ (hd : Hdr) (a b : Reg5) (d : BitVec 6) (s : State), acts hd s →
    let gives := fun (r : Host.Outcome State Fault Refusal) (n : Nat) =>
      reaches s true (wordAddr s b d n) n n →
        ∃ t, r = .next t ∧ storedAt (wordAddr s b d n) (bytesOfNat n (readS s a).toNat) s t
    gives (exec (.st8 hd a b d) s) 1 ∧ gives (exec (.st16 hd a b d) s) 2 ∧ gives (exec (.st32 hd a b d) s) 4 ∧
    gives (exec (.st64 hd a b d) s) 8

/-- R134, R138, R140, R208: the scalar loads and stores at scratchpad addresses. -/
def Obligations.ScratchpadLoadsAndStores : Prop :=
  ScalarLoadsReadScratchpad ∧ ScalarStoresWriteScratchpad

/-- R138, R205: the scalar loads from an extent whose covering descriptor grants R: the value of a resident page pends with p15
zero; of a page that is not resident it pends as zero with p15 all ones; memory and registers are unchanged. Outside record and
replay. -/
def Sys2Proof.Claims.ScalarLoadsReadExtents : Prop :=
  ∀ (hd : Hdr) (a b : Reg5) (d : BitVec 6) (e : Extent) (s : State), acts hd s → unlogged s →
    admitted s s.east s.regionHandle 0 = true →
    let gives := fun (r : Host.Outcome State Fault Refusal) (n : Nat) (ext : Nat → W64) =>
      let x := wordAddr s b d n
      0x100000000 ≤ x → x + n ≤ 0x10000000000 → x % n = 0 → coverOf s.mem (coreWho s) x = some e → e.attr.getLsbD 1 = true →
        ∃ t p, r = .next t ∧ t.mem = s.mem ∧ t.seq = { s.seq with sb := s.seq.sb ++ [p], inputSeq := t.seq.inputSeq } ∧ p.tiles = [] ∧ p.vregs = [] ∧
          (isResident s.mem e x = true →
            p.sregs = [(a, ext (natOfBytes (memRead s.mem.hbm (e.phys + (x - e.base)) n)))] ∧ p.pregs = [(15, 0)]) ∧
          (isResident s.mem e x = false → p.sregs = [(a, 0)] ∧ p.pregs = [(15, BitVec.allOnes 64)])
    gives (exec (.ld8 hd a b d) s) 1 (fun v => (BitVec.ofNat 8 v).signExtend 64) ∧
    gives (exec (.ld8u hd a b d) s) 1 (BitVec.ofNat 64) ∧
    gives (exec (.ld16 hd a b d) s) 2 (fun v => (BitVec.ofNat 16 v).signExtend 64) ∧
    gives (exec (.ld16u hd a b d) s) 2 (BitVec.ofNat 64) ∧
    gives (exec (.ld32 hd a b d) s) 4 (fun v => (BitVec.ofNat 32 v).signExtend 64) ∧
    gives (exec (.ld32u hd a b d) s) 4 (BitVec.ofNat 64) ∧ gives (exec (.ld64 hd a b d) s) 8 (BitVec.ofNat 64)

/-- R135, R137, R140, R206, R207, R239, R240, R296, R339: an aligned scalar store outside scratchpad. Into a resident page of an
extent that grants W it is made at once, charged to the region's budget of HBM accesses; into a translated host page it is posted
with its translation, and a page not yet translated is asked for and waited for; into a transmit window it is one write, posted
when it fits within ALLOW, and else waits; into privileged control space, in supervisor mode and by `st32` and `st64`, it writes
that space's register. Which accesses are charged is log entry 48; that a posted host store leaves at its own later time is log
entry 67, and a host translation asked for page by page log entry 68; that a LOCAL-FIRST delivery that cannot be applied yet waits is
log entry 98. Stores to pages that are not resident trap and are stated with the checks of memory words. -/
def Sys2Proof.Claims.ScalarStoresReachOtherSpaces : Prop :=
  ∀ (hd : Hdr) (a b : Reg5) (d : BitVec 6) (s : State), acts hd s →
    ∀ q ∈ [(Instr.st8 hd a b d, 1, false), (.st16 hd a b d, 2, false), (.st32 hd a b d, 4, true), (.st64 hd a b d, 8, true)],
      let n := q.2.1
      let x := wordAddr s b d n
      let bs := bytesOfNat n (readS s a).toNat
      let paid := fun (act cost : Nat) => charge s.east s.regionHandle act cost s
      let may := admitted s s.east s.regionHandle
      x % n = 0 →
        (0x100000000 ≤ x → x < 0x10000000000 → ∀ e, coverOf s.mem (coreWho s) x = some e → e.attr.getLsbD 2 = true →
          isResident s.mem e x = true →
            exec q.1 s = next (if may 0 then
              onMem (fun m => { m with hbm := memWrite m.hbm (e.phys + (x - e.base)) bs }) (paid 0 1) else stallOn (.budget 0) s)) ∧
        (0x8000000000000000 ≤ x → x < 0x8200000000000000 →
          (∀ e, hostTranslation s x = some e → e.write = true → exec q.1 s = next (onHost (fun h =>
            { h with posted := h.posted ++ [{ va := hostVa x, pasid := s.seq.pasid, phys := e.phys + (hostVa x - e.base),
                                              data := bs, agent := s.agent }] }) s)) ∧
          (checkHostPage s x = .pending → exec q.1 s = next (stallOn .other (onHost (fun h =>
            { h with requests := if (atsRequestOf s x).isSome then h.requests else
                h.requests ++ [{ pasid := s.seq.pasid, va := hostVa x, phase := .ats, since := s.clock.time }] }) s)))) ∧
        (0x10000000000 ≤ x → x < 0x20000000000 → ∀ w, txWindowAt s.refl s.regionHandle x = some w →
          x + n ≤ w.base.toNat + w.len.toNat →
            let post := tryPost w (x - w.base.toNat) bs none s.agent
            exec q.1 s = next (if n + outstanding s.refl w ≤ w.allowance ∧ (post s).isSome = true then
              (if may 2 then (post (paid 2 n)).getD (paid 2 n) else stallOn (.budget 2) s) else stallOn .other s)) ∧
        (0x20000000000 ≤ x → x < 0x20100000000 → s.seq.supervisor = true → q.2.2 = true →
          exec q.1 s = next (controlWrite x n (BitVec.ofNat 64 ((readS s a).toNat % 2 ^ (8 * n))) s))

/-- R240, R244: a write posted into a window that delivers nothing before its path: one number of the chip, and at the end of each
path, that of the chip to itself first where the window says so and then each target's in order, the write with the path's next
number; on a dead path it is lost. -/
def Sys2Proof.Claims.PostedWritesJoinTheirPaths : Prop :=
  ∀ (w : TxWindow) (off : Nat) (bs : List Byte) (atom : Option (BitVec 4)) (agent : BitVec 9) (s : State), w.loop ≠ 1 →
    let own := if w.loop = 2 then [(s.seq.chipId, w.id)] else []
    tryPost w off bs atom agent s = some (onRefl (fun r =>
      (own ++ w.targets).foldl (fun r t => onSendPath t.1 w.vc (fun p =>
        if p.dead then { p with lostBy := p.lostBy ++ [(agent, w.id)] }
        else { p with
          next := p.next + 1
          unacked := p.unacked ++ [Posted.mk s.refl.nextSerial w.id t.2 p.next off bs atom agent 1 s.clock.time] }) r)
        { r with nextSerial := s.refl.nextSerial + 1 }) s)

/-- R135, R138, R304, R305, R341: privileged control space: what a write of 4 or 8 bytes leaves in a slot-table entry, of which
the reserved bits stay 0, and in the activity bitmap, where a 1 clears; nothing else changes, at the error map's words neither; and
what an aligned `ld32` or `ld64` in supervisor mode gives. At an address that no rule describes a write changes nothing and a read
gives a free value: the model's choice (log entry 8). -/
def Sys2Proof.Claims.ControlSpaceRegisters : Prop :=
  (∀ (x n : Nat) (v : W64) (s : State), n = 4 ∨ n = 8 → x % n = 0 →
    let o := x - 0x20000000000
    let lo := 8 * (x % 8)
    let t := controlWrite x n v s
    0x20000000000 ≤ x →
      (0x8000 ≤ o → o < 0x8800 → t = { s with disp := { s.disp with slotTable := t.disp.slotTable } } ∧
        (∀ j, j ≠ (o - 0x8000) / 8 → slotEntry t.disp j = slotEntry s.disp j) ∧
        ∀ k, (slotEntry t.disp ((o - 0x8000) / 8)).getLsbD k = ((0x000000FFFC001FFF : W64).getLsbD k &&
          (if lo ≤ k ∧ k < lo + 8 * n then v.getLsbD (k - lo) else (slotEntry s.disp ((o - 0x8000) / 8)).getLsbD k))) ∧
      (0x9000 ≤ o → o < 0x9200 → t = { s with disp := { s.disp with bitmap := t.disp.bitmap } } ∧
        ∀ q, t.disp.bitmap.getLsbD q = (s.disp.bitmap.getLsbD q &&
          !(decide (8 * (o - 0x9000) ≤ q ∧ q < 8 * (o - 0x9000) + 8 * n) && v.getLsbD (q - 8 * (o - 0x9000))))) ∧
      ((o < 0x8000 ∨ (0x8800 ≤ o ∧ o < 0x9000) ∨ 0x9200 ≤ o) → t = s)) ∧
  ∀ (hd : Hdr) (a b : Reg5) (d : BitVec 6) (s : State), acts hd s → s.seq.supervisor = true →
    ∀ q ∈ [(Instr.ld32 hd a b d, 4, fun (v : W64) => (v.setWidth 32).signExtend 64), (.ld64 hd a b d, 8, id)],
      let x := wordAddr s b d q.2.1
      let o := x - 0x20000000000
      let gives := fun (v : W64) (t : State) => exec q.1 s = loaded a (q.2.2 (v >>> (8 * (x % 8)))) t
      0x20000000000 ≤ x → x < 0x20100000000 → x % q.2.1 = 0 →
        (0x8000 ≤ o → o < 0x8800 → gives (slotEntry s.disp ((o - 0x8000) / 8)) s) ∧
        (0x9000 ≤ o → o < 0x9200 → gives (s.disp.bitmap.extractLsb' (64 * ((o - 0x9000) / 8)) 64) s) ∧
        (0x10000 ≤ o → o < 0x10000 + 2048 * 160 → gives (errmapWord s.fw ((o - 0x10000) / 2048) ((o - 0x10000) % 2048 / 8)) s) ∧
        ((o < 0x8000 ∨ (0x8800 ≤ o ∧ o < 0x9000) ∨ (0x9200 ≤ o ∧ o < 0x10000) ∨ 0x10000 + 2048 * 160 ≤ o) →
          gives (takeFree s).1 (takeFree s).2)

/-- R135, R138, R205 to R207, R240, R244, R296, R304, R305, R339, R341: the scalar loads and stores outside scratchpad. -/
def Obligations.ScalarWordsReachOtherSpaces : Prop :=
  ScalarLoadsReadExtents ∧ ScalarStoresReachOtherSpaces ∧ PostedWritesJoinTheirPaths ∧ ControlSpaceRegisters

/-- R145: the full/empty words on an aligned scratchpad word. `ldf` and `lde` wait for full, `stf` for empty, `stfo` for
nothing; the load or store and the bit are one action; ownership is neither checked nor changed. A load reads a word that holds
no uncorrectable error, or traps with class 5 detail 0x09 once its wait is over, and a store leaves none (R136, R334). -/
def Obligations.FullEmptyWordsMoveAndMark : Prop :=
  ∀ (hd : Hdr) (a b : Reg5) (d : BitVec 6) (s : State), acts hd s →
    let x := wordAddr s b d 8
    let full := isFull s.mem (x / 8)
    let load := fun (after : Bool) => Host.Outcome.next (φ := Fault) (ρ := Refusal)
      (onSeq (fun q => q.setS a (BitVec.ofNat 64 (natOfBytes (memRead s.mem.spad x 8))))
        (onMem (fun m => setFull m (x / 8) after) s))
    let store := Host.Outcome.next (φ := Fault) (ρ := Refusal)
      (onMem (fun m => setFull (m.putSpad x (bytesOfNat 8 (readS s a).toNat)) (x / 8) true) s)
    let waits := fun (want : Bool) => Host.Outcome.next (φ := Fault) (ρ := Refusal)
      (stallOn (.fullEmpty (BitVec.ofNat 64 x) want) s)
    x + 8 ≤ 0x14000000 → x % 8 = 0 →
      (s.mem.badByte x 8 = none →
        exec (.ldf hd a b d) s = (if full then load true else waits true) ∧
        exec (.lde hd a b d) s = (if full then load false else waits true)) ∧
      (∀ y, s.mem.badByte x 8 = some y → full = true → ∀ i ∈ [Instr.ldf hd a b d, .lde hd a b d],
        exec i s = next (raise (cause 5 0x09 (BitVec.ofNat 64 y) 0) s)) ∧
      exec (.stf hd a b d) s = (if full then waits false else store) ∧
      exec (.stfo hd a b d) s = store

namespace Sys2Proof.Claims

/-- A vector range that a word may access: 64 lanes of k bytes at a multiple of 64, no lane of it a race (R134, R139) and none
that is read with an uncorrectable error in it (R334). -/
def vreaches (s : State) (write : Bool) (x k : Nat) : Prop :=
  x % 64 = 0 ∧ x + 64 * k ≤ 0x14000000 ∧ x / 0x200000 = (x + 64 * k - 1) / 0x200000 ∧
    ∀ i, i < 64 → raceOf s.mem s.agent write (x + k * i) k = none ∧ (write = false → s.mem.badByte (x + k * i) k = none)

/-- A vector load's results in its step of issue. -/
def vloaded (r : Host.Outcome State Fault Refusal) (a : Reg5) (fmt : BitVec 4) (pr : Reg4) (s : State) (f : Nat → W32) : Prop :=
  ∃ x : BitVec 2048, r = .next (onSeq (fun q => (q.setP pr 0).setV a { data := x, tag := mkTag fmt false false }) s) ∧
    ∀ i, i < 64 → lane x i = f i

/-- A little-endian 32-bit word of scratchpad. -/
def spadW32 (s : State) (a : Nat) : W32 := BitVec.ofNat 32 (natOfBytes (memRead s.mem.spad a 4))

end Sys2Proof.Claims

/-- R141: the vector loads from scratchpad, one tag a mode; `.vtag` takes VTAG's format, and packed ht6 its 192 bytes. -/
def Sys2Proof.Claims.VectorLoadsReadScratchpad : Prop :=
  ∀ (hd : Hdr) (a b : Reg5) (d : BitVec 6) (s : State), acts hd s →
    let x := wordAddr s b d 256
    let word := fun i => spadW32 s (x + 4 * i)
    let byte := fun i => memByte s.mem.spad (x + i)
    (vreaches s false x 4 →
      vloaded (exec (.vldRaw hd a b d) s) a 0 15 s word ∧ vloaded (exec (.vldF32 hd a b d) s) a 1 15 s word ∧
      vloaded (exec (.vldBf16 hd a b d) s) a 2 15 s word ∧ vloaded (exec (.vldI32 hd a b d) s) a 3 15 s word ∧
      vloaded (exec (.vldI8 hd a b d) s) a 4 15 s word ∧ vloaded (exec (.vldUi8 hd a b d) s) a 5 15 s word ∧
      vloaded (exec (.vldHt8 hd a b d) s) a 9 15 s word ∧
      ((tagFmt s.seq.vtag).toNat < 10 → tagSc s.seq.vtag = false →
        vloaded (exec (.vldVtag hd a b d) s) a (tagFmt s.seq.vtag) 15 s word)) ∧
    (vreaches s false x 3 → tagFmt s.seq.vtag = 10 → tagSc s.seq.vtag = false →
      vloaded (exec (.vldVtag hd a b d) s) a 10 15 s (fun i =>
        widenHt6 (byte (3 * i)) (byte (3 * i + 1)) (byte (3 * i + 2))))

/-- R142: the vector stores into scratchpad: 256 bytes of lanes, or 192 of packed ht6 from a register of that format. -/
def Sys2Proof.Claims.VectorStoresWriteScratchpad : Prop :=
  ∀ (hd : Hdr) (a b : Reg5) (d : BitVec 6) (s : State), acts hd s →
    let x := wordAddr s b d 256
    (vreaches s true x 4 → ∃ t bs, exec (.vst hd a b d) s = .next t ∧ storedAt x bs s t ∧ bs.length = 256 ∧
      ∀ i, i < 256 → bs.getD i 0 = (readV s a).data.extractLsb' (8 * i) 8) ∧
    (vreaches s true x 3 → tagFmt (readV s a).tag = 10 →
      ∃ t, exec (.vstHt6 hd a b d) s = .next t ∧
        storedAt x (((List.range 64).map (fun i => packHt6 (lane (readV s a).data i))).flatten) s t)

/-- R143, R144: a gather reads and a scatter writes, lane by lane in rising order, the words at sB plus each lane's index. -/
def Sys2Proof.Claims.GathersAndScattersMoveLanes : Prop :=
  ∀ (hd : Hdr) (a b c : Reg5) (p : Reg4) (s : State), acts hd s →
    let at_ := fun i => placeOf s (readS s b + (lane (readV s c).data i).signExtend 64)
    let ok := fun (write : Bool) => ∀ i, i < 64 → reaches s write (at_ i) 4 4
    (tagFmt (readV s c).tag = 3 ∨ tagFmt (readV s c).tag = 0) →
      (ok false → (tagFmt s.seq.vtag).toNat < 10 → tagSc s.seq.vtag = false →
        vloaded (exec (.vldg hd a b c p) s) a (tagFmt s.seq.vtag) p s (fun i => spadW32 s (at_ i))) ∧
      (ok true → exec (.vsts hd a b c) s = .next ((List.range 64).foldl (fun t i =>
        onMem (fun m => ownRange (m.putSpad (at_ i) (bytesOfNat 4 (lane (readV s a).data i).toNat)) s.agent (at_ i) 4) t) s))

/-- R141 to R144: the vector loads and stores, gathers and scatters at scratchpad addresses. -/
def Obligations.VectorMemoryWords : Prop :=
  VectorLoadsReadScratchpad ∧ VectorStoresWriteScratchpad ∧ GathersAndScattersMoveLanes

/-! ### What memory words check -/

namespace Sys2Proof.Claims

/-- One access of a memory word: the word, what it does, whether it is one of `ld32`, `ld64`, `st32` and `st64`, an atomic's FN,
whether its lanes are one range, the address of each lane, the bytes of a lane, which lanes keep their alignment, and what the
word asks of the tags it uses. -/
structure MemAccess where
  word : Instr
  kind : AccessKind
  narrow : Bool
  fn : BitVec 4
  whole : Bool
  lanes : List Nat
  n : Nat
  aligned : Nat → Bool
  ready : Prop

/-- The accesses of the memory words (R134, R140 to R147, R150): one lane, 64 lanes in one range, or 64 lanes apart. -/
def memAccesses (hd : Hdr) (a b c : Reg5) (p : Reg4) (d : BitVec 6) (s : State) : List MemAccess :=
  let one := fun (w : Instr) (kind : AccessKind) (narrow : Bool) (fn : BitVec 4) (x n : Nat) =>
    MemAccess.mk w kind narrow fn true [x] n (fun _ => x % n == 0) True
  let scalar := fun (w : Instr) (kind : AccessKind) (narrow : Bool) (n : Nat) => one w kind narrow 0 (wordAddr s b d n) n
  let atom := fun (w : Instr) (fn : BitVec 4) (n : Nat) =>
    one w (if a = 0 then .atomicNon else .atomicRet) false fn (placeOf s (readS s b)) n
  let vec := fun (w : Instr) (kind : AccessKind) (k : Nat) (ready : Prop) =>
    let x := wordAddr s b d 256
    MemAccess.mk w kind false 0 true ((List.range 64).map (fun i => x + k * i)) k
      (fun i => i != 0 || (x % 64 == 0 && x / 0x200000 == (x + 64 * k - 1) / 0x200000)) ready
  let apart := fun (w : Instr) (kind : AccessKind) (ready : Prop) =>
    let at_ := fun i => placeOf s (readS s b + (lane (readV s c).data i).signExtend 64)
    MemAccess.mk w kind false 0 false ((List.range 64).map at_) 4 (fun i => at_ i % 4 == 0) ready
  let tag := s.seq.vtag
  [scalar (.ld8 hd a b d) .load false 1, scalar (.ld8u hd a b d) .load false 1, scalar (.ld16 hd a b d) .load false 2,
    scalar (.ld16u hd a b d) .load false 2, scalar (.ld32 hd a b d) .load true 4, scalar (.ld32u hd a b d) .load false 4,
    scalar (.ld64 hd a b d) .load true 8, scalar (.st8 hd a b d) .store false 1, scalar (.st16 hd a b d) .store false 2,
    scalar (.st32 hd a b d) .store true 4, scalar (.st64 hd a b d) .store true 8,
    scalar (.ldf hd a b d) .fullEmpty false 8, scalar (.lde hd a b d) .fullEmpty false 8,
    scalar (.stf hd a b d) .fullEmpty false 8, scalar (.stfo hd a b d) .fullEmpty false 8] ++
  [vec (.vldRaw hd a b d) .load 4 True, vec (.vldF32 hd a b d) .load 4 True, vec (.vldBf16 hd a b d) .load 4 True,
    vec (.vldI32 hd a b d) .load 4 True, vec (.vldI8 hd a b d) .load 4 True, vec (.vldUi8 hd a b d) .load 4 True,
    vec (.vldHt8 hd a b d) .load 4 True,
    vec (.vldVtag hd a b d) .load (if tagFmt tag = 10 then 3 else 4) ((tagFmt tag).toNat ≤ 10 ∧ tagSc tag = false),
    vec (.vst hd a b d) .store 4 True, vec (.vstHt6 hd a b d) .store 3 (tagFmt (readV s a).tag = 10),
    apart (.vldg hd a b c p) .load ((tagFmt tag).toNat < 10 ∧ tagSc tag = false ∧ intReg s c),
    apart (.vsts hd a b c) .store (intReg s c)] ++
  [atom (.atom32Add hd a b c) 0 4, atom (.atom32And hd a b c) 1 4, atom (.atom32Or hd a b c) 2 4,
    atom (.atom32Xor hd a b c) 3 4, atom (.atom32Min hd a b c) 4 4, atom (.atom32Max hd a b c) 5 4,
    atom (.atom32Minu hd a b c) 6 4, atom (.atom32Maxu hd a b c) 7 4, atom (.atom32Swap hd a b c) 8 4,
    atom (.atom32Cas hd a b c) 9 4, atom (.atom32Fadd hd a b c) 10 4, atom (.atom32Fmin hd a b c) 11 4,
    atom (.atom32Fmax hd a b c) 12 4, atom (.atom64Add hd a b c) 0 8, atom (.atom64And hd a b c) 1 8,
    atom (.atom64Or hd a b c) 2 8, atom (.atom64Xor hd a b c) 3 8, atom (.atom64Min hd a b c) 4 8,
    atom (.atom64Max hd a b c) 5 8, atom (.atom64Minu hd a b c) 6 8, atom (.atom64Maxu hd a b c) 7 8,
    atom (.atom64Swap hd a b c) 8 8, atom (.atom64Cas hd a b c) 9 8, atom (.faddg hd a b c) 13 16]

/-- The bytes of n from x at which a block of b bytes begins, and x itself. -/
def firstBytes (b x n : Nat) : List Nat := if x / b = (x + n - 1) / b then [x] else [x, (x / b + 1) * b]

/-- The space of an address. -/
def spaceOf (x : Nat) : Option Space := (rowOf x).map (·.1)

/-- What check k finds wrong with lane i of an access at x (R135, R136, R139, R203, R239): class, detail and the byte reported. The
checks are those of the map, alignment, space, rights, coverage with residency, the transmit window, host translation, ownership
and, when the data return, errors. -/
def MemAccess.failure (q : MemAccess) (s : State) (i x : Nat) : Nat → Option (BitVec 4 × BitVec 6 × Nat)
  | 0 =>
    match rowOf (if q.whole then q.lanes.headD 0 else x) with
    | none => some (5, 0x01, x)
    | some (_, stop) => if stop ≤ x then some (5, 0x01, x) else if stop < x + q.n then some (5, 0x01, stop) else none
  | 1 => if q.aligned i then none else some (5, 0x02, x)
  | 2 =>
    let detail : Option (BitVec 6) := match spaceOf x, q.kind with
      | some .scratchpad, _ => none
      | none, _ => none
      | some _, .fullEmpty => some 0x04
      | some .extent, _ => none
      | some .control, .load => if q.narrow then none else some 0x05
      | some .control, .store => if q.narrow then none else some 0x05
      | some .control, _ => some 0x05
      | some _, .load => some 0x03
      | some _, .atomicRet => some 0x03
      | some .window, .atomicNon =>
        match txWindowAt s.refl s.regionHandle x with
        | some w => if w.ops.getLsbD q.fn.toNat then none else some 0x05
        | none => none
      | some .host, .atomicNon => some 0x05
      | some _, _ => none
    detail.map (fun e => (5, e, x))
  | 3 => if spaceOf x = some .extent then (firstBytes 65536 x q.n).findSome? (fun y =>
      match coverOf s.mem (coreWho s) y with
      | some e =>
        let r := e.attr.getLsbD 1
        let w := e.attr.getLsbD 2
        if (match q.kind with
          | .load => r
          | .atomicRet => r && w
          | _ => w) then none else some (5, 0x0A, y)
      | none => none) else none
  | 4 => if spaceOf x = some .extent then (firstBytes 65536 x q.n).findSome? (fun y =>
      match coverOf s.mem (coreWho s) y with
      | some e => if q.kind = .load ∨ isResident s.mem e y = true then none else some (6, 0x02, y)
      | none => some (6, 0x01, y)) else none
  | 5 => if spaceOf x = some .window then
      match txWindowAt s.refl s.regionHandle x with
      | some w => if x + q.n ≤ w.base.toNat + w.len.toNat then none else some (9, 0x01, w.base.toNat + w.len.toNat)
      | none => some (9, 0x01, x)
    else none
  | 6 => if spaceOf x = some .host then (firstBytes 4096 x q.n).findSome? (fun y =>
      if checkHostPage s y = .refused then some (6, 0x03, y) else none) else none
  | 7 => if spaceOf x = some .scratchpad then (firstBytes 64 x q.n).findSome? (fun y =>
      match q.kind, ownerOf s.mem (y / 64) with
      | .load, some (.excl g) => if g = s.agent then none else some (7, 0x01, y)
      | .store, some (.excl g) => if g = s.agent then none else some (7, 0x02, y)
      | .store, some .pub => some (7, 0x03, y)
      | _, _ => none) else none
  | 8 => if spaceOf x = some .scratchpad ∧ (q.kind = .load ∨ q.kind = .atomicRet ∨ q.kind = .atomicNon) then
      (s.mem.badByte x q.n).map (fun y => (5, 0x09, y)) else none
  | _ => none

/-- RACEINFO for the granule of a byte (R16): valid, WR, the state found, its owner or 0 where it is PUB (log entry 91), and its
number. -/
def raceWord (s : State) (write : Bool) (y : Nat) : W64 :=
  let found := match ownerOf s.mem (y / 64) with
    | some (.excl g) => 2 ^ 41 + g.toNat * 2 ^ 32
    | some .pub => 2 ^ 42
    | none => 0
  BitVec.ofNat 64 (2 ^ 63 + (if write then 2 ^ 43 else 0) + found + y / 64 % 2 ^ 32)

/-- A word's trap on a failed check: EADDR the byte, EINFO the lane, RACEINFO written for a race alone, a refused host
translation answered, and nothing else changed (R136, R139, R339). -/
def failsAt (r : Host.Outcome State Fault Refusal) (s : State) (write : Bool) (i : Nat) (f : BitVec 4 × BitVec 6 × Nat) : Prop :=
  ∃ t, r = .next (raise (cause f.1 f.2.1 (BitVec.ofNat 64 f.2.2) (BitVec.ofNat 64 i)) t) ∧
    t = { s with seq := { s.seq with raceinfo := if f.1 = 7 then raceWord s write f.2.2 else s.seq.raceinfo },
                 host := { s.host with requests := t.host.requests } } ∧
    t.host.requests.Sublist s.host.requests ∧ (f.1 = 6 ∧ f.2.1 = 0x03 ∨ t.host.requests = s.host.requests)

end Sys2Proof.Claims

/-- R203: the rows of the address map. -/
def Sys2Proof.Claims.AddressMapRows : Prop :=
  ∀ x : Nat,
    (spaceOf x = some .scratchpad ↔ x < 0x14000000) ∧
    (spaceOf x = some .extent ↔ 0x100000000 ≤ x ∧ x < 0x10000000000) ∧
    (spaceOf x = some .window ↔ 0x10000000000 ≤ x ∧ x < 0x20000000000) ∧
    (spaceOf x = some .control ↔ 0x20000000000 ≤ x ∧ x < 0x20100000000) ∧
    (spaceOf x = some .host ↔ 0x8000000000000000 ≤ x ∧ x < 0x8200000000000000) ∧
    (∀ k stop, rowOf x = some (k, stop) → x < stop ∧ (∀ y, x ≤ y → y < stop → spaceOf y = some k) ∧ spaceOf stop ≠ some k)

/-- R205, R335: the covering descriptor is the lowest-numbered of the table's 64 that is valid, open to the mode, and holds the
address; and a page is resident by its descriptor or by its bit of the bitmap. -/
def Sys2Proof.Claims.DescriptorsCover : Prop :=
  ∀ (s : State) (w : Who) (x : Nat),
    let word := fun i o => natOfBytes (memRead s.mem.hbm (w.xtbl.toNat + 32 * i + o) 8)
    let holds := fun i => (word i 24).testBit 0 = true ∧ (w.sup = true ∨ (word i 24).testBit 4 = false) ∧ word i 0 ≤ x ∧
      x < word i 0 + word i 8
    (coverOf s.mem w x = none ↔ ∀ i, i < 64 → ¬ holds i) ∧
    (∀ e, coverOf s.mem w x = some e → ∃ i, i < 64 ∧ holds i ∧ (∀ j, j < i → ¬ holds j) ∧ e.base = word i 0 ∧
      e.len = word i 8 ∧ e.phys = word i 16 % 2 ^ 39 ∧ e.attr = BitVec.ofNat 64 (word i 24)) ∧
    (∀ e : Extent, isResident s.mem e x = true ↔ e.attr.getLsbD 5 = true ∨
      (memByte s.mem.hbm (e.attr.toNat % 2 ^ 39 / 65536 * 65536 + (x - e.base) / 65536 / 8)).getLsbD
        ((x - e.base) / 65536 % 8) = true)

/-- R90, R134 to R136, R139, R205, R206, R239, R334, R339: a load, store, full/empty word, gather, scatter or atomic traps on the
first check that a lane fails, and reports the lowest lane that fails it. In user mode privileged control space comes before
everything. That a lane is judged check by check is log entry 27, that a vector access of a wrong base or across 2 MiB is reported
at its base in lane 0 is log entry 92, that EADDR of a control access in user mode is the first byte there is log entry 25, and that
`ld32u` does not reach control space is log entry 30. -/
def Sys2Proof.Claims.MemoryWordsTrapOnTheFirstCheck : Prop :=
  ∀ (hd : Hdr) (a b c : Reg5) (p : Reg4) (d : BitVec 6) (s : State), acts hd s →
    ∀ q ∈ memAccesses hd a b c p d s,
      let guarded := s.seq.supervisor = true ∨ ∀ x ∈ q.lanes, spaceOf x ≠ some .control
      (q.ready → guarded → ∀ (i x k : Nat) f, q.lanes[i]? = some x → q.failure s i x k = some f →
        (∀ j, j < k → ∀ (i' y : Nat), q.lanes[i']? = some y → q.failure s i' y j = none) →
        (∀ (i' y : Nat), i' < i → q.lanes[i']? = some y → q.failure s i' y k = none) →
          failsAt (exec q.word s) s (q.kind == .store) i f) ∧
      (s.seq.supervisor = false → ∀ (i x : Nat) w, q.lanes[i]? = some x → spaceOf x = some .control →
        (∀ (j y : Nat), j < i → q.lanes[j]? = some y → spaceOf y ≠ some .control) → encode q.word = some w →
          exec q.word s = next (raise (cause 1 0x02 (BitVec.ofNat 64 x) (w.setWidth 64 <<< 32)) s))

/-- R40, R92, R122, R141 to R144: the tags that `vld.vtag`, `vst.ht6`, `vldg` and `vsts` use, checked before their addresses: a
VTAG of no format is an illegal encoding, one with scales or, at `vldg`, of packed ht6 a wrong tag; then the index vector. In
user mode no lane lies in privileged control space, which comes before (R135). -/
def Sys2Proof.Claims.MemoryWordsCheckTags : Prop :=
  ∀ (hd : Hdr) (a b c : Reg5) (p : Reg4) (d : BitVec 6) (w : W32) (s : State), acts hd s →
    let tag := s.seq.vtag
    let allowed := fun (i : Instr) => s.seq.supervisor = true ∨
      ∀ q ∈ memAccesses hd a b c p d s, q.word = i → ∀ x ∈ q.lanes, spaceOf x ≠ some .control
    let illegal := fun (i : Instr) => allowed i → encode i = some w → exec i s = next (raise (cause 0 0x09
      (BitVec.ofNat 64 (12 * s.seq.pc.toNat)) ((w.setWidth 64 <<< 32) ||| BitVec.ofNat 64 s.seq.group.pos)) s)
    (10 < (tagFmt tag).toNat → illegal (.vldVtag hd a b d) ∧ illegal (.vldg hd a b c p)) ∧
    (allowed (.vldVtag hd a b d) → (tagFmt tag).toNat ≤ 10 → tagSc tag = true →
      exec (.vldVtag hd a b d) s = wrongTag s tag a 0) ∧
    (allowed (.vldg hd a b c p) →
      ((tagFmt tag).toNat ≤ 10 → tagSc tag = true ∨ tagFmt tag = 10 → exec (.vldg hd a b c p) s = wrongTag s tag a 0) ∧
      ((tagFmt tag).toNat < 10 → tagSc tag = false → tagTraps s [.vldg hd a b c p] c 2 (intReg s c))) ∧
    (allowed (.vstHt6 hd a b d) → tagTraps s [.vstHt6 hd a b d] a 0 (tagFmt (readV s a).tag = 10)) ∧
    (allowed (.vsts hd a b c) → tagTraps s [.vsts hd a b c] c 2 (intReg s c))

/-- R135, R136, R151: what `rel` and `ret` of a range that is not empty trap on: privileged control space in user mode, bytes
past the row of its first, a row other than scratchpad, and the first granule that another agent holds, those below it changed.
The details of a range in another space or past its row are log entry 28, and WR 0 in RACEINFO is log entry 29. -/
def Sys2Proof.Claims.OwnershipRangesTrap : Prop :=
  ∀ (hd : Hdr) (b c : Reg5) (s : State), acts hd s → 0 < (readS s c).toNat →
    let x := placeOf s (readS s b)
    let n := (readS s c).toNat
    ∀ q ∈ [(Instr.rel hd b c, some Owner.pub), (Instr.ownRet hd b c, none)],
      let fails := fun (detail : BitVec 6) (at_ : Nat) =>
        exec q.1 s = next (raise (cause 5 detail (BitVec.ofNat 64 at_) 0) s)
      (s.seq.supervisor = false → spaceOf x = some .control → ∀ w, encode q.1 = some w →
        exec q.1 s = next (raise (cause 1 0x02 (BitVec.ofNat 64 x) (w.setWidth 64 <<< 32)) s)) ∧
      (s.seq.supervisor = true ∨ spaceOf x ≠ some .control →
        (rowOf x = none → fails 0x01 x) ∧
        (∀ k stop, rowOf x = some (k, stop) → (stop < x + n → fails 0x01 stop) ∧
          (x + n ≤ stop → k ≠ .scratchpad → fails 0x06 x)) ∧
        (x + n ≤ 0x14000000 → ∀ lo hi g w, granulesOf x n = lo ++ g :: hi → ownerOf s.mem g = some (.excl w) → w ≠ s.agent →
          (∀ y ∈ lo, ∀ v, ownerOf s.mem y = some (.excl v) → v = s.agent) →
            ∃ t, exec q.1 s = next (raise (cause 7 0x04 (BitVec.ofNat 64 (max x (64 * g))) 0) t) ∧
              t = { s with mem := { s.mem with owner := t.mem.owner },
                           seq := { s.seq with raceinfo := raceWord s false (64 * g) } } ∧
              ∀ y, ownerOf t.mem y = if y ∈ lo then q.2 else ownerOf s.mem y))

/-- R134 to R136, R139, R151, R203, R205, R239, R334, R335: the address map, the covering descriptor, and what every memory word
but those of tiles traps on, in order. -/
def Obligations.MemoryWordsTrapInOrder : Prop :=
  AddressMapRows ∧ DescriptorsCover ∧ MemoryWordsTrapOnTheFirstCheck ∧ MemoryWordsCheckTags ∧ OwnershipRangesTrap

namespace Sys2Proof.Claims

/-- What the atomics of 32 and 64 bits do at a memory word (R147, R148): `old` bytes of it are read and `put` writes n bytes of
it; the old word pends for sA unless that is s0, and the flags of `fadd` are atomic flags. -/
def atomicsGive (hd : Hdr) (a b c : Reg5) (s : State) (n old : Nat) (put : Nat → Nat → State) : Prop :=
  let gives := fun (r : Host.Outcome State Fault Refusal) (flags : Flags) (new : Nat) =>
    r = .next (pend { Pending.none .atomic with
        sregs := if a = 0 then [] else [(a, BitVec.ofNat 64 old)], atomFlags := flags } (put n new))
  (n = 4 →
    let o : W32 := BitVec.ofNat 32 old
    let y : W32 := (readS s c).setWidth 32
    let k : W32 := (readS s a).setWidth 32
    gives (exec (.atom32Add hd a b c) s) 0 (o + y).toNat ∧ gives (exec (.atom32And hd a b c) s) 0 (o &&& y).toNat ∧
    gives (exec (.atom32Or hd a b c) s) 0 (o ||| y).toNat ∧ gives (exec (.atom32Xor hd a b c) s) 0 (o ^^^ y).toNat ∧
    gives (exec (.atom32Min hd a b c) s) 0 (BitVec.ofInt 32 (min o.toInt y.toInt)).toNat ∧
    gives (exec (.atom32Max hd a b c) s) 0 (BitVec.ofInt 32 (max o.toInt y.toInt)).toNat ∧
    gives (exec (.atom32Minu hd a b c) s) 0 (min o.toNat y.toNat) ∧
    gives (exec (.atom32Maxu hd a b c) s) 0 (max o.toNat y.toNat) ∧
    gives (exec (.atom32Swap hd a b c) s) 0 y.toNat ∧
    gives (exec (.atom32Cas hd a b c) s) 0 (if o = k then y else o).toNat ∧
    gives (exec (.atom32Fadd hd a b c) s) (addF32 o y).flags (addF32 o y).val.toNat ∧
    gives (exec (.atom32Fmin hd a b c) s) 0 (minF32 o y).toNat ∧
    gives (exec (.atom32Fmax hd a b c) s) 0 (maxF32 o y).toNat) ∧
  (n = 8 →
    let o : W64 := BitVec.ofNat 64 old
    let y : W64 := readS s c
    let k : W64 := readS s a
    gives (exec (.atom64Add hd a b c) s) 0 (o + y).toNat ∧ gives (exec (.atom64And hd a b c) s) 0 (o &&& y).toNat ∧
    gives (exec (.atom64Or hd a b c) s) 0 (o ||| y).toNat ∧ gives (exec (.atom64Xor hd a b c) s) 0 (o ^^^ y).toNat ∧
    gives (exec (.atom64Min hd a b c) s) 0 (BitVec.ofInt 64 (min o.toInt y.toInt)).toNat ∧
    gives (exec (.atom64Max hd a b c) s) 0 (BitVec.ofInt 64 (max o.toInt y.toInt)).toNat ∧
    gives (exec (.atom64Minu hd a b c) s) 0 (min o.toNat y.toNat) ∧
    gives (exec (.atom64Maxu hd a b c) s) 0 (max o.toNat y.toNat) ∧
    gives (exec (.atom64Swap hd a b c) s) 0 y.toNat ∧
    gives (exec (.atom64Cas hd a b c) s) 0 (if o = k then y else o).toNat)

/-- What `faddg` does at its 16 bytes (R150): it reads next and N, hands out the guided chunk, and returns chunk and next
together. -/
def faddgGives (hd : Hdr) (a b c : Reg5) (s : State) (next n : Nat) (put : Nat → Nat → State) : Prop :=
  let mc := ((readS s c).extractLsb' 0 16).toNat
  let dv := max 1 ((readS s c).extractLsb' 16 16).toNat
  let chunk := if n ≤ next then 0 else min (n - next) (min 0xFFFFFF (max mc ((n - next + dv - 1) / dv)))
  exec (.faddg hd a b c) s = .next (pend { Pending.none .atomic with
    sregs := if a = 0 then [] else [(a, BitVec.ofNat 64 (chunk * 2 ^ 40 + next % 2 ^ 40))] } (put 8 (next + chunk)))

end Sys2Proof.Claims

/-- R147, R148, R150: the atomics on scratchpad: the new word in memory at once, the old word pending; ownership is neither checked
nor changed. The word holds no uncorrectable error (R334). -/
def Sys2Proof.Claims.AtomicsUpdateScratchpad : Prop :=
  ∀ (hd : Hdr) (a b c : Reg5) (s : State), acts hd s →
    let x := placeOf s (readS s b)
    let old := fun (o n : Nat) => natOfBytes (memRead s.mem.spad (x + o) n)
    let put := fun (n new : Nat) => onMem (fun m => { m with spad := memWrite m.spad x (bytesOfNat n new) }) s
    (∀ n, n = 4 ∨ n = 8 → x + n ≤ 0x14000000 → x % n = 0 → s.mem.badByte x n = none → atomicsGive hd a b c s n (old 0 n) put) ∧
    (x + 16 ≤ 0x14000000 → x % 16 = 0 → s.mem.badByte x 16 = none → faddgGives hd a b c s (old 0 8) (old 8 8) put)

/-- R135, R147, R148, R150, R205, R206, R296: the atomics on a resident page of an extent that grants W and, where the old word is
returned, R: as on scratchpad, charged to the region's budget of HBM accesses (log entry 48). -/
def Sys2Proof.Claims.AtomicsUpdateExtents : Prop :=
  ∀ (hd : Hdr) (a b c : Reg5) (e : Extent) (s : State), acts hd s →
    let x := placeOf s (readS s b)
    let at_ := e.phys + (x - e.base)
    let old := fun (o n : Nat) => natOfBytes (memRead s.mem.hbm (at_ + o) n)
    let put := fun (n new : Nat) => onMem (fun m => { m with hbm := memWrite m.hbm at_ (bytesOfNat n new) })
      (charge s.east s.regionHandle 0 1 s)
    0x100000000 ≤ x → x < 0x10000000000 → coverOf s.mem (coreWho s) x = some e → isResident s.mem e x = true →
      e.attr.getLsbD 2 = true → (a ≠ 0 → e.attr.getLsbD 1 = true) → admitted s s.east s.regionHandle 0 = true →
        (∀ n, n = 4 ∨ n = 8 → x % n = 0 → atomicsGive hd a b c s n (old 0 n) put) ∧
        (x % 16 = 0 → coverOf s.mem (coreWho s) (x + 8) = some e → isResident s.mem e (x + 8) = true →
          faddgGives hd a b c s (old 0 8) (old 8 8) put)

/-- R135, R147, R149, R240, R296: an atomic without a result on a transmit window that permits its FN: posted as one write when it
fits within ALLOW, with an acknowledgement pending for its number; what does not fit waits. The flags of the applications at the
targets come with the acknowledgement (log entry 35). -/
def Sys2Proof.Claims.AtomicsOnWindowsArePosted : Prop :=
  ∀ (hd : Hdr) (b c : Reg5) (w : TxWindow) (s : State), acts hd s →
    let x := placeOf s (readS s b)
    0x10000000000 ≤ x → x < 0x20000000000 → txWindowAt s.refl s.regionHandle x = some w → w.loop ≠ 1 →
      ∀ q ∈ [(Instr.atom32Add hd 0 b c, 0, 4), (.atom32And hd 0 b c, 1, 4), (.atom32Or hd 0 b c, 2, 4),
          (.atom32Xor hd 0 b c, 3, 4), (.atom32Min hd 0 b c, 4, 4), (.atom32Max hd 0 b c, 5, 4), (.atom32Minu hd 0 b c, 6, 4),
          (.atom32Maxu hd 0 b c, 7, 4), (.atom32Swap hd 0 b c, 8, 4), (.atom32Cas hd 0 b c, 9, 4),
          (.atom32Fadd hd 0 b c, 10, 4), (.atom32Fmin hd 0 b c, 11, 4), (.atom32Fmax hd 0 b c, 12, 4),
          (.atom64Add hd 0 b c, 0, 8), (.atom64And hd 0 b c, 1, 8), (.atom64Or hd 0 b c, 2, 8), (.atom64Xor hd 0 b c, 3, 8),
          (.atom64Min hd 0 b c, 4, 8), (.atom64Max hd 0 b c, 5, 8), (.atom64Minu hd 0 b c, 6, 8), (.atom64Maxu hd 0 b c, 7, 8),
          (.atom64Swap hd 0 b c, 8, 8), (.atom64Cas hd 0 b c, 9, 8)],
        let n := q.2.2
        let paid := charge s.east s.regionHandle 2 n s
        w.ops.getLsbD q.2.1 = true → x % n = 0 → x + n ≤ w.base.toNat + w.len.toNat →
          exec q.1 s = next (if n + outstanding s.refl w ≤ w.allowance then
            (if admitted s s.east s.regionHandle 2 then
              pend { Pending.none .atomic with
                  hold := some (.applied s.refl.nextSerial (w.targets.any (fun t => t.1 != s.seq.chipId))) }
                ((tryPost w (x - w.base.toNat) (bytesOfNat n (readS s c).toNat) (some (BitVec.ofNat 4 q.2.1)) s.agent paid).getD
                  paid)
              else stallOn (.budget 2) s)
            else stallOn .other s)

/-- R135, R147 to R150, R240: the atomics of 32 and 64 bits and `faddg`, in scratchpad, in extents and on transmit windows. -/
def Obligations.AtomicWords : Prop :=
  AtomicsUpdateScratchpad ∧ AtomicsUpdateExtents ∧ AtomicsOnWindowsArePosted

/-- R151, R153: `rel` and `ret` of OWN over granules none of which another agent holds, and a fence: complete at once when what
it orders has performed, else pending until then. -/
def Sys2Proof.Claims.OwnershipWordsAndFencesComplete : Prop :=
  ∀ (hd : Hdr) (b c : Reg5) (k : BitVec 3) (m : BitVec 6) (s : State), acts hd s →
    let x := placeOf s (readS s b)
    let n := (readS s c).toNat
    let gives := fun (r : Host.Outcome State Fault Refusal) (o : Option Owner) =>
      ∃ t, r = .next t ∧ (∀ g, ownerOf t.mem g = if g ∈ granulesOf x n then o else ownerOf s.mem g) ∧
        t.mem.spad = s.mem.spad ∧ t.mem.hbm = s.mem.hbm ∧ t.mem.full = s.mem.full ∧ t = { s with mem := t.mem }
    (x + n ≤ 0x14000000 → (∀ g ∈ granulesOf x n, ∀ w, ownerOf s.mem g = some (.excl w) → w = s.agent) →
      gives (exec (.rel hd b c) s) (some .pub) ∧ gives (exec (.ownRet hd b c) s) none) ∧
    (fenceMet s s.seq.sb k m = true → exec (.fence hd k m) s = .next s) ∧
    (fenceMet s s.seq.sb k m = false →
      exec (.fence hd k m) s = .next (pend { Pending.none .memory with hold := some (.fence k m) } s))

/-- R153, R198, R207, R247, R248: what a fence waits for. With mask bit 0, the atomics pending before it; at scope 3 and 4 with
bit 2, every reflected write of the bay and of its copies on a path that lives, and every copy issued that writes a window; at
scope 4, the bay's stores to host space, and with bit 1 those of its copy engine. A word of pipe M or E of a later group waits for
a fence that pends. That every other core access that bit 0 covers has performed when its word issued is the model's choice (log
entry 6); which writes of copies bits 1 and 2 cover is log entry 77. -/
def Sys2Proof.Claims.FencesWaitForTheirPaths : Prop :=
  ∀ (s : State) (k : BitVec 3) (m : BitVec 6),
    (∀ sb : List Pending, fenceMet s sb k m = true ↔
      (m.getLsbD 0 = true → ∀ p ∈ sb, p.kind ≠ .atomic) ∧
      (3 ≤ k.toNat → m.getLsbD 2 = true →
        (∀ p ∈ s.refl.send, p.dead = false → ∀ w ∈ p.unacked, w.agent ≠ s.agent ∧ w.agent ≠ s.copyAgent) ∧
        ∀ op ∈ s.copy.queue ++ s.copy.fired, op.writesWindow none = false) ∧
      (k = 4 → ∀ p ∈ s.host.posted, p.agent ≠ s.agent ∧ (m.getLsbD 1 = true → p.agent ≠ s.copyAgent))) ∧
    (∀ u : Use, (∃ p ∈ s.seq.sb, p.hold = some (.fence k m)) → u.pipe = .m ∨ u.pipe = .e → u.waits s = true)

/-- R151, R153, R198, R207, R248: `rel` and `ret` of OWN, fences, and what a fence waits for. -/
def Obligations.OwnershipWordsAndFences : Prop :=
  OwnershipWordsAndFencesComplete ∧ FencesWaitForTheirPaths

/-! ### Tile words -/

namespace Sys2Proof.Claims

/-- An X word acts: its group is open, its guard passes in lane 0, and the bay is in user mode (R323). -/
def xacts (hd : Hdr) (s : State) : Prop := acts hd s ∧ s.seq.supervisor = false

/-- The parts of a tile store lie in scratchpad without a race, and its place keeps the alignment of R158. -/
def tileStored (s : State) (p : TilePlace) (f : BitVec 4) : Prop :=
  p.align = none ∧ ∀ q ∈ p.parts f true, q.addr + q.len ≤ 0x14000000 ∧ raceOf s.mem s.agent true q.addr q.len = none

/-- What a tile load reads, the zero blocks of an ht tile apart (R42), lies in scratchpad without a race or an uncorrectable
error, and its place keeps the alignment of R158. -/
def tileReaches (s : State) (p : TilePlace) (f : BitVec 4) (trailer : Bool) : Prop :=
  p.align = none ∧ ∀ q ∈ p.loadParts f trailer (match p.scale with
      | some a => memRead s.mem.spad a (scaleBytes f)
      | none => []),
    q.addr + q.len ≤ 0x14000000 ∧ raceOf s.mem s.agent false q.addr q.len = none ∧ s.mem.badByte q.addr q.len = none

/-- The tile that memory holds at a place. -/
def memTile (s : State) (p : TilePlace) (f : BitVec 4) : MemTile :=
  parseTile f (p.rows.map (fun a => memRead s.mem.spad a (rowBytes f)))
    (match p.trailer with
      | some a => memRead s.mem.spad a (trailerBytes f)
      | none => [])
    (match p.scale with
      | some a => memRead s.mem.spad a (scaleBytes f)
      | none => [])

/-- A word's next state is that of its tile's landing, with nothing else changed. -/
def tileLands (r : Host.Outcome State Fault Refusal) (d : Reg4) (t : Tile) (s : State) : Prop :=
  r = .next (onSeq (fun q => q.setT d t) s)

/-- A vector register's landing, with nothing else changed. -/
def vecLands (r : Host.Outcome State Fault Refusal) (x : Reg5) (data : BitVec 2048) (fmt : BitVec 4) (s : State) : Prop :=
  r = .next (onSeq (fun q => q.setV x { data := data, tag := mkTag fmt false false }) s)

end Sys2Proof.Claims

/-- R56, R158: where a tile's rows, trailer and scale block lie: row after row from the base without a stride register; else row m
at the base plus m pitches, no trailer, and the scale block at the base plus the signed offset. -/
def Sys2Proof.Claims.TileFormsPlaceTheirRows : Prop :=
  ∀ (s : State) (f : BitVec 4) (b c : Reg5),
    let base := placeOf s (readS s b)
    let p := tilePlace s f b c
    (c = 0 → p.rows = (List.range 64).map (fun m => base + m * rowBytes f) ∧ p.trailer = some (base + 64 * rowBytes f) ∧
      (scalable f = true → p.scale = some (base + 64 * rowBytes f + 256 + 256 * packOf f)) ∧
      (p.align = none ↔ base % 256 = 0 ∧ base / 0x200000 = (base + tileBytes f - 1) / 0x200000)) ∧
    (c ≠ 0 →
      p.rows = (List.range 64).map (fun m =>
        placeOf s (readS s b + BitVec.ofNat 64 m * ((readS s c).setWidth 32).setWidth 64)) ∧
      p.trailer = none ∧
      (scalable f = true → p.scale = some (placeOf s (readS s b + ((readS s c).extractLsb' 32 32).signExtend 64)))) ∧
    (scalable f = false → p.scale = none)

/-- R42, R159: `tld` from scratchpad gives the tile's data with fresh sums, CV 1 and NACC 0, and p15 zero; `.chk` does so when the
stored sums verify. That `.gen` asks nothing of a contiguous tile's trailer is log entry 31. -/
def Sys2Proof.Claims.TileLoadsFormCheckedTiles : Prop :=
  ∀ (hd : Hdr) (d : Reg4) (b c : Reg5) (f : BitVec 4) (s : State), acts hd s →
    let gives := fun (r : Host.Outcome State Fault Refusal) (m : MemTile) =>
      r = .next (onSeq (fun q => (q.setP 15 0).setT d (loadedTile f m.data m.scales
        (formSums f (tileValues f (scalable f) m.data m.scales)) (readT s d))) s)
    (let p := tilePlace s f b c
     tileReaches s p f false → (memTile s p f).badScale = none → gives (exec (.tldGen hd d b c f) s) (memTile s p f)) ∧
    (let p := tilePlace s f b 0
     let m := memTile s p f
     let v := verifySums f (tileValues f (scalable f) m.data m.scales) { rows := m.rows, cols := m.cols }
     tileReaches s p f true → m.badScale = none → v.rows = [] → v.cols = [] →
       gives (exec (.tldChk hd d b f) s) m)

namespace Sys2Proof.Claims

/-- CKLOG of a correction or repair (R16): V, KIND, REXP from the residual, COL, ROW and TILE. -/
def fixWord (kind row col tile : Nat) (res : W32) : W64 :=
  BitVec.ofNat 64 (2 ^ 27 + kind * 2 ^ 24 + res.toNat / 2 ^ 23 % 256 * 2 ^ 16 + col * 2 ^ 10 + row * 2 ^ 4 + tile)

/-- A correction or repair is counted, and logged with CKCTL.LE (R59, R67). -/
def fixNoted (kind row col tile : Nat) (res : W32) (s : State) : State :=
  onSeq (fun q => { q with ckcnt := q.ckcnt + 1,
                           cklog := if q.ckctl.getLsbD 2 then fixWord kind row col tile res else q.cklog,
                           cklog2 := if q.ckctl.getLsbD 2 then res else q.cklog2 }) s

/-- The residual of a sum: the rounded difference, or for integers the difference converted to f32 by RNE. -/
def residue (fmt : BitVec 4) (now was : W32) : W32 :=
  if isIntFmt fmt then (convertTo 1 false (Machine.ofInt (now.toInt - was.toInt))).val else (subF32 now was).val

end Sys2Proof.Claims

/-- R59: `tld .chk` of a tile with one row sum or one column sum that does not match repairs that sum with CKCTL.CE, counts and
logs it, and then traps with CKCTL.TC; without CE, and with any other mismatch, it traps with the destination unchanged. That an
integer residual is an exact difference is log entry 32. -/
def Sys2Proof.Claims.CheckedLoadsRepairOrTrap : Prop :=
  ∀ (hd : Hdr) (d : Reg4) (b : Reg5) (f : BitVec 4) (s : State), acts hd s →
    let p := tilePlace s f b 0
    let m := memTile s p f
    let v := verifySums f (tileValues f (scalable f) m.data m.scales) { rows := m.rows, cols := m.cols }
    let info := sumInfo v.rows v.cols d.toNat
    let bad := fun (detail : BitVec 6) =>
      exec (.tldChk hd d b f) s = next (raise (cause 4 detail (BitVec.ofNat 64 p.base) info) s)
    let loaded := onSeq (fun q => (q.setP 15 0).setT d (loadedTile f m.data m.scales v.fresh (readT s d))) s
    let repairs := fun (kind row col : Nat) (now was : W32) =>
      let u := fixNoted kind row col d.toNat (residue f now was) loaded
      (s.seq.ckctl.getLsbD 0 = false → bad 0x03) ∧
      (s.seq.ckctl.getLsbD 0 = true → exec (.tldChk hd d b f) s =
        next (if s.seq.ckctl.getLsbD 1 then raiseAfter (cause 4 0x04 (BitVec.ofNat 64 p.base) info) u else u))
    tileReaches s p f true → m.badScale = none →
      (∀ i, v.rows = [i] → v.cols = [] → repairs 2 i 0 (v.fresh.rows.getD i 0) (m.rows.getD i 0)) ∧
      (∀ i, v.rows = [] → v.cols = [i] → repairs 3 0 (i / packOf f) (v.fresh.cols.getD i 0) (m.cols.getD i 0)) ∧
      (1 < v.rows.length + v.cols.length → bad 0x08)

/-- R56, R58, R59, R158, R159: the memory forms of a tile, and `tld` from scratchpad. -/
def Obligations.TileFormsAndLoads : Prop :=
  TileFormsPlaceTheirRows ∧ TileLoadsFormCheckedTiles ∧ CheckedLoadsRepairOrTrap

/-- R56, R160: `tst` into scratchpad stores a tile of its format: the rows, then the trailer where the form has one, with the
held sums for `.chk` and fresh ones for `.gen`, then the scale block. -/
def Obligations.TileStoresWriteImages : Prop :=
  ∀ (hd : Hdr) (d : Reg4) (b c : Reg5) (f : BitVec 4) (s : State), acts hd s →
    let t := readT s d
    let stores := fun (p : TilePlace) (sums : Sums) =>
      p.rows.zip (memRows f (tagSc t.tag) t.data t.scales) ++
        (match p.trailer with
          | some a => [(a, memTrailer sums)]
          | none => []) ++
        (match p.scale with
          | some a => [(a, memScales f (tagSc t.tag) t.scales)]
          | none => [])
    let gives := fun (r : Host.Outcome State Fault Refusal) (p : TilePlace) (sums : Sums) =>
      r = .next ((stores p sums).foldl (fun u x =>
        onMem (fun m => ownRange (m.putSpad x.1 x.2) s.agent x.1 x.2.length) u) s)
    tagFmt t.tag = f → badTag t.tag = false →
      (tileStored s (tilePlace s f b c) f →
        gives (exec (.tstGen hd d b c f) s) (tilePlace s f b c) (formSums f t.values)) ∧
      (tagCv t.tag = true → tileStored s (tilePlace s f b 0) f →
        gives (exec (.tstChk hd d b f) s) (tilePlace s f b 0) (heldSums t))

/-- R61, R161: `tlds` makes W′ of a checked tile, with its column sums and the magnitudes of them, the source read until it is
done; `tswap` exchanges W and W′. Both pend in the array. -/
def Sys2Proof.Claims.PlanesLoadAndSwap : Prop :=
  ∀ (hd : Hdr) (a : Reg4) (s : State), xacts hd s →
    let t := readT s a
    (badTag t.tag = false → tagCv t.tag = true →
      exec (.tlds hd a) s = .next (pendX { Pending.none .array with reads := [a] }
        (onSeq (fun q => { q with w' := { data := t.data, csw := t.colSum,
                                          acsw := ofWords 16384 (formMags (tagFmt t.tag) t.values).cols,
                                          scales := t.scales, tag := t.tag } }) s))) ∧
    (badTag t.tag = false → tagCv t.tag = false →
      exec (.tlds hd a) s = .next (raise (cause 4 0x09 0 (BitVec.ofNat 64 a.toNat)) s)) ∧
    exec (.tswap hd) s = .next (pendX (Pending.none .array) (onSeq (fun q => { q with w := q.w', w' := q.w }) s))

/-- R136, R162 to R165, R334: an `mma` whose checks pass pends its accumulator in the array, reading its feed until it has; a
streamed `mma` takes the next element of its buffer, when the element verifies, and releases it, and traps where the buffer's
descriptor holds an uncorrectable error. -/
def Sys2Proof.Claims.MatrixMultipliesEnterTheArray : Prop :=
  ∀ (hd : Hdr) (d a : Reg4) (k : BitVec 4) (e z w v t : BitVec 1) (s : State), xacts hd s →
    let o : MmaOpts := { acc := e == 1, sat := z == 1, sb := w == 1, sa := v == 1, tr := t == 1 }
    (let feed := readT s a
     let r := mmaResult o d feed s
     mmaCheck o d feed.tag a.toNat (tagCv feed.tag) s = none → (t = 1 → transposeCheck feed a.toNat a.toNat = none) →
       exec (.mma hd d a e z w v t) s =
         .next (pendX { Pending.none .array with tiles := [(d, r.1)], reads := [a], coreFlags := r.2 } s)) ∧
    (let f := tagFmt s.seq.vtag
     let slot := s.seq.slots.get k.toFin
     let c := cbRead s.mem slot.desc.toNat
     let m := tileOf f (memRead s.mem.spad (c.elem c.ccnt) (tileBytes f))
     let sums := verifySums f (tileValues f (scalable f) m.data m.scales) { rows := m.rows, cols := m.cols }
     let r := mmaResult o d (loadedTile f m.data m.scales sums.fresh Tile.zero) s
     (f.toNat ≤ 10 → tagSc s.seq.vtag = false → mmaCheck o d s.seq.vtag k.toNat true s = none → slot.bound = true →
       slot.producer = false → slot.engine = false → ∀ x, s.mem.badByte slot.desc.toNat 64 = some x →
         exec (.mmaCb hd d k e z w v t) s = .next (raise (cause 5 0x09 (BitVec.ofNat 64 x) 0) s)) ∧
     (f.toNat ≤ 10 → tagSc s.seq.vtag = false → mmaCheck o d s.seq.vtag k.toNat true s = none → slot.bound = true →
     slot.producer = false → slot.engine = false → c.esize = tileBytes f → c.state < 3 → 0 < c.avail → m.badScale = none →
     sums.rows = [] → sums.cols = [] →
     (t = 1 → transposeCheck (loadedTile f m.data m.scales sums.fresh Tile.zero) k.toNat 0 = none) →
     c.elem c.ccnt % 256 = 0 → s.mem.badByte slot.desc.toNat 64 = none → s.mem.badByte (c.elem c.ccnt) (tileBytes f) = none →
     (∀ g ∈ granulesOf (c.elem c.ccnt) c.esize, ∀ x, ownerOf s.mem g = some (.excl x) → x = s.agent) →
       ∃ u, exec (.mmaCb hd d k e z w v t) s = .next u ∧
         u.seq = (pendX { Pending.none .array with tiles := [(d, r.1)], coreFlags := r.2 } s).seq ∧
         u.mem.spad = (setSpadWord s.mem (slot.desc.toNat + 24) 8 (c.ccnt + 1)).spad ∧
         ∀ g, ownerOf u.mem g = if g ∈ granulesOf (c.elem c.ccnt) c.esize then none else ownerOf s.mem g))

/-- R61, R161 to R165: the planes and the matrix multiplies. -/
def Obligations.PlanesAndMatrixMultiplies : Prop :=
  PlanesLoadAndSwap ∧ MatrixMultipliesEnterTheArray

/-- R52: an element of an integer product without saturation is the exact sum of the products of its elements, wrapped to 32
bits, and no row or column is marked. -/
def Sys2Proof.Claims.IntegerProductsAreExactSums : Prop :=
  ∀ (a w : Operand), isIntFmt a.fmt = true →
    let dot := fun (x y : List (W32 × Byte)) => (List.zipWith (fun p q =>
      (List.zipWith (fun i j => numInt i * numInt j) (slotElems a.fmt p.1) (slotElems w.fmt q.1)).sum) x y).sum
    (arrayProduct false none a w).rows =
      a.rows.map (fun x => w.rows.map (fun y => BitVec.ofInt 32 (dot x y))) ∧
    (arrayProduct false none a w).satRows = 0 ∧ (arrayProduct false none a w).flags = 0

namespace Sys2Proof.Claims

/-- An element of an integer operand (R52): i8 signed, ui8 unsigned. -/
def intOf (f : BitVec 4) (slot : W32) (j : Nat) : Int :=
  if f = 4 then (slot.extractLsb' (8 * j) 8).toInt else ((slot.extractLsb' (8 * j) 8).toNat : Int)

/-- The 32-bit range, and a sum brought into it: clamped, or wrapped (R52). -/
def inI32 (x : Int) : Prop := -2 ^ 31 ≤ x ∧ x < 2 ^ 31
def narrowI (sat : Bool) (x : Int) : Int := if sat then max (-2 ^ 31) (min (2 ^ 31 - 1) x) else (BitVec.ofInt 32 x).toInt

/-- The running sum over slots 0 to k, each addition narrowed (R52). -/
def runI (sat : Bool) (q : Nat → Int) : Nat → Int
  | 0 => q 0
  | k + 1 => narrowI sat (runI sat q k + q (k + 1))

/-- The running sum of cells 0 to k, one rounding each, with the flags of all (R51). -/
def runF (q : Nat → Res W32) : Nat → Res W32
  | 0 => q 0
  | k + 1 =>
    let s := runF q k
    let r := addF32 s.val (q (k + 1)).val
    { val := r.val, flags := s.flags ||| (q (k + 1)).flags ||| r.flags }

/-- The slot of row m, and its shift count, of tile or plane contents (R51). -/
def tileSlot (tag : Byte) (d : BitVec 131072) (sc : BitVec 8192) (m k : Nat) : List Machine.Num × Byte :=
  ((List.range (packOf (tagFmt tag))).map (elemValue (tagFmt tag) (lane (rowBits d m) k)),
    if tagSc tag then (scaleRow sc m).getD (k * packOf (tagFmt tag) / 32) 0 else 0)

/-- A chain of checksum steps from -0 over c < n (R57, R62). -/
def chainF (x : Nat → Machine.Num) : Nat → W32
  | 0 => 0x80000000
  | c + 1 => addTo (chainF x c) (x c)

end Sys2Proof.Claims

/-- R52, R63: an integer product narrows every addition, in slot order, saturating or wrapping, and the held element last; a row
and a column are marked when an addition of one of their elements was clamped; no flag is raised. -/
def Sys2Proof.Claims.IntegerProductsNarrowEachAddition : Prop :=
  ∀ (sat : Bool) (acc : Option (List (List W32))) (ta tw : Byte) (da dw : BitVec 131072) (sa sw : BitVec 8192),
    tagFmt ta = 4 ∨ tagFmt ta = 5 → tagFmt tw = 4 ∨ tagFmt tw = 5 →
    let p := arrayProduct sat acc (operandOf ta da sa) (operandOf tw dw sw)
    let q := fun (m n k : Nat) => ((List.range 4).map (fun j =>
      intOf (tagFmt ta) (lane (rowBits da m) k) j * intOf (tagFmt tw) (lane (rowBits dw n) k) j)).sum
    let held := fun (x : List (List W32)) (m n : Nat) => ((x.getD m []).getD n 0).toInt
    let clamped := fun (m n : Nat) => (sat = true ∧ ((∃ k, k < 63 ∧ ¬ inI32 (runI sat (q m n) k + q m n (k + 1))) ∨
      ∃ x, acc = some x ∧ ¬ inI32 (held x m n + runI sat (q m n) 63)) : Prop)
    p.flags = 0 ∧
    (∀ m n, m < 64 → n < 64 → (p.rows.getD m []).getD n 0 = BitVec.ofInt 32 (match acc with
      | none => runI sat (q m n) 63
      | some x => narrowI sat (held x m n + runI sat (q m n) 63))) ∧
    (∀ i, i < 64 → (p.satRows.getLsbD i = true ↔ ∃ n, n < 64 ∧ clamped i n) ∧
      (p.satCols.getLsbD i = true ↔ ∃ m, m < 64 ∧ clamped m i))

/-- R51, R53: an element of a floating product adds its 64 cells in slot order, one rounding each, and the held element last; the
flags of all go together. What a cell is, and that an addition rounds once, is stated with the numbers. -/
def Sys2Proof.Claims.FloatProductsAddCellsInOrder : Prop :=
  ∀ (sat : Bool) (acc : Option (List (List W32))) (ta tw : Byte) (da dw : BitVec 131072) (sa sw : BitVec 8192),
    isIntFmt (tagFmt ta) = false →
    let p := arrayProduct sat acc (operandOf ta da sa) (operandOf tw dw sw)
    let s := fun (m n : Nat) => runF (fun k => cellF (tileSlot ta da sa m k) (tileSlot tw dw sw n k)) 63
    let c := fun (m n : Nat) => match acc with
      | none => s m n
      | some x =>
        let r := addF32 ((x.getD m []).getD n 0) (s m n).val
        { val := r.val, flags := (s m n).flags ||| r.flags }
    p.satRows = 0 ∧ p.satCols = 0 ∧ (∀ m n, m < 64 → n < 64 → (p.rows.getD m []).getD n 0 = (c m n).val) ∧
    ∀ i, p.flags.getLsbD i = true ↔ ∃ m n, m < 64 ∧ n < 64 ∧ (c m n).flags.getLsbD i = true

/-- R62: the prediction parts: chains of rounded steps over the columns, of the values times the other side's column sums and of
the magnitudes times those of the magnitudes; wrapping sums for integers, which form no magnitudes. -/
def Sys2Proof.Claims.PredictionsChainOverColumns : Prop :=
  ∀ (va vw : List (List Machine.Num)) (csa csw acsw : List W32) (n i : Nat), i < 64 → va.length = 64 → vw.length = 64 →
    (∀ r ∈ va ++ vw, r.length = n) → csa.length = n → csw.length = n → acsw.length = n →
    let a := fun (m c : Nat) => (va.getD m []).getD c .nan
    let w := fun (m c : Nat) => (vw.getD m []).getD c .nan
    let code := fun (xs : List W32) (c : Nat) => decodeF32 (xs.getD c 0)
    let aca := fun (c : Nat) => decodeF32 (chainF (fun m => (a m c).abs) 64)
    let wrap := fun (x : Nat → Int) => BitVec.ofInt 32 ((List.range n).map x).sum
    (let q := predict false va vw csa csw acsw n
     q.r[i]? = some (chainF (fun c => Machine.Num.mul (a i c) (code csw c) |>.val) n) ∧
     q.mr[i]? = some (chainF (fun c => Machine.Num.mul (a i c).abs (code acsw c) |>.val) n) ∧
     q.c[i]? = some (chainF (fun c => Machine.Num.mul (code csa c) (w i c) |>.val) n) ∧
     q.mc[i]? = some (chainF (fun c => Machine.Num.mul (aca c) (w i c).abs |>.val) n)) ∧
    (let q := predict true va vw csa csw acsw n
     q.r[i]? = some (wrap (fun c => numInt (a i c) * (csw.getD c 0).toInt)) ∧
     q.c[i]? = some (wrap (fun c => (csa.getD c 0).toInt * numInt (w i c))))

/-- R60, R63: the accumulator of a product: its elements, CV 0, NACC advanced to at most 0xFFFF, and predictions that replace the
held ones or are added to them by one addition each; the saturation masks replace the held ones or join them. -/
def Sys2Proof.Claims.AccumulatorsCombinePredictions : Prop :=
  ∀ (held : Option Tile) (status : BitVec 256) (int : Bool) (p : Product) (q : Parts),
    p.rows.length = 64 → (∀ r ∈ p.rows, r.length = 64) → q.r.length = 64 → q.c.length = 64 → q.mr.length = 64 →
    q.mc.length = 64 →
    let u := accumulate held status int p q
    let was := fun (g : Tile → W32) (x : W32) => match held with
      | none => x
      | some t => if int then g t + x else (addF32 (g t) x).val
    let masks := fun (lo : Nat) (x : W64) => (lane u.colSum (lo + 1) ++ lane u.colSum lo : W64) = (match held with
      | none => x
      | some t => (lane t.colSum (lo + 1) ++ lane t.colSum lo) ||| x)
    (∀ m n, m < 64 → n < 64 → lane (rowBits u.data m) n = (p.rows.getD m []).getD n 0) ∧
    u.tag = mkTag (if int then 3 else 1) false false ∧
    u.nacc = (match held with
      | none => 1
      | some t => min 0xFFFF (t.nacc + 1)) ∧
    (∀ i, i < 64 → lane u.rowSum i = was (fun t => lane t.rowSum i) (q.r.getD i 0) ∧
      lane u.colSum i = was (fun t => lane t.colSum i) (q.c.getD i 0) ∧
      (int = false → lane u.colSum (64 + i) = was (fun t => lane t.colSum (64 + i)) (q.mc.getD i 0) ∧
        lane u.colSum (128 + i) = was (fun t => lane t.colSum (128 + i)) (q.mr.getD i 0))) ∧
    masks 192 p.satRows ∧ masks 194 p.satCols ∧ ∀ i, i < 4 → lane u.colSum (196 + i) = 0

/-- R51 to R53, R60, R62, R63: what an `mma` computes: integer and floating products, their predictions, and the accumulator. -/
def Obligations.ProductsAddCellsAndPredict : Prop :=
  IntegerProductsAreExactSums ∧ IntegerProductsNarrowEachAddition ∧ FloatProductsAddCellsInOrder ∧
    PredictionsChainOverColumns ∧ AccumulatorsCombinePredictions

/-- R64 to R67, R166: a drain without a flagged line recomputes the sums, clears NACC and sets CV unless a line is exempt; a
drain, or `tchk`, of a checked tile that verifies changes nothing; one that does not verify traps. -/
def Sys2Proof.Claims.DrainsRecomputeSums : Prop :=
  ∀ (hd : Hdr) (d : Reg4) (s : State), xacts hd s →
    let t := readT s d
    let v := verifySums (tagFmt t.tag) t.values (heldSums t)
    let w := drainView t
    badTag t.tag = false →
      (t.nacc = 0 → v.rows = [] → v.cols = [] → exec (.tdrain hd d) s = .next s ∧ exec (.tchk hd d) s = .next s) ∧
      (t.nacc = 0 → ¬ (v.rows = [] ∧ v.cols = []) →
        let bad := Host.Outcome.next (φ := Fault) (ρ := Refusal) (raise (cause 4 0x0B 0 (sumInfo v.rows v.cols d.toNat)) s)
        exec (.tdrain hd d) s = bad ∧ exec (.tchk hd d) s = bad) ∧
      (t.nacc ≠ 0 → (∀ x ∈ w.rows ++ w.cols, x ≠ .flagged) →
        let u := drained t w.act w.rows w.cols
        tileLands (exec (.tdrain hd d) s) d u s ∧ exec (.tchk hd d) s = .next s ∧ u.data = t.data ∧ u.nacc = 0 ∧
        u.rowSum = ofWords 2048 w.act.rows)

/-- R60, R64, R67: the actual sums of an accumulator and the class of each of its lines, and the tile a drain leaves. -/
def Sys2Proof.Claims.DrainsClassifyLines : Prop :=
  (∀ (nacc : Nat) (sat : Bool) (act pred mag : W32),
    (classify true nacc sat act pred mag = if sat then .exempt else if act = pred then .clean else .flagged) ∧
    (classify false nacc sat act pred mag = .exempt ↔ ¬ (f32Fin pred ∧ f32Fin mag)) ∧
    (f32Fin pred → f32Fin mag → (classify false nacc sat act pred mag = .clean ↔
      f32Fin act ∧ |f32Q act - f32Q pred| ≤ (nacc + 4) / 2 ^ 22 * f32Q mag))) ∧
  ∀ (t : Tile) (i : Nat), i < 64 →
    let w := drainView t
    let int := tagFmt t.tag == 3
    let item := fun (m n : Nat) => if int then .fin (lane (rowBits t.data m) n).msb (lane (rowBits t.data m) n).toInt.natAbs 0
      else decodeF32 (lane (rowBits t.data m) n)
    let total := fun (x : Nat → Machine.Num) =>
      if int then BitVec.ofInt 32 ((List.range 64).map (fun c => numInt (x c))).sum else chainF x 64
    let mask := fun (lo : Nat) => (lane t.colSum (lo + 1) ++ lane t.colSum lo : W64)
    w.act.rows[i]? = some (total (fun n => item i n)) ∧ w.act.cols[i]? = some (total (fun m => item m i)) ∧
    w.rows[i]? = some (classify int t.nacc ((mask 192).getLsbD i) (w.act.rows.getD i 0) (lane t.rowSum i)
      (lane t.colSum (128 + i))) ∧
    w.cols[i]? = some (classify int t.nacc ((mask 194).getLsbD i) (w.act.cols.getD i 0) (lane t.colSum i)
      (lane t.colSum (64 + i))) ∧
    let u := drained t w.act w.rows w.cols
    u.nacc = 0 ∧ u.data = t.data ∧ lane u.rowSum i = w.act.rows.getD i 0 ∧ lane u.colSum i = w.act.cols.getD i 0 ∧
    lane u.colSum (64 + i) = 0 ∧ lane u.colSum (128 + i) = 0 ∧
    (∀ j, j < 4 → lane u.colSum (192 + j) = lane t.colSum (192 + j)) ∧
    ((lane u.colSum 197 ++ lane u.colSum 196 : W64).getLsbD i = true ↔ w.rows[i]? = some .exempt) ∧
    ((lane u.colSum 199 ++ lane u.colSum 198 : W64).getLsbD i = true ↔ w.cols[i]? = some .exempt) ∧
    (tagCv u.tag = true ↔ ∀ x ∈ w.rows ++ w.cols, x ≠ .exempt) ∧ tagFmt u.tag = tagFmt t.tag

/-- R66: the corrected element: of an i32 tile the value that row and column agree on; of an f32 tile the change of one bit whose
value is finite and lies within both tolerances, the nearest to the row's own, then the lowest bit. Magnitudes are finite where
lines are flagged (R64). -/
def Sys2Proof.Claims.CorrectionsChangeOneBit : Prop :=
  ∀ (t : Tile) (m0 n0 : Nat), m0 < 64 → n0 < 64 →
    let c := fun (m n : Nat) => lane (rowBits t.data m) n
    let others := fun (i : Nat) => (List.range 64).filter (fun k => k != i)
    let rp := lane t.rowSum m0
    let cp := lane t.colSum n0
    (tagFmt t.tag = 3 →
      let cr := rp - ((others n0).map (fun n => c m0 n)).sum
      let cc := cp - ((others m0).map (fun m => c m n0)).sum
      correctElement t m0 n0 = if cr = cc then some cr else none) ∧
    (tagFmt t.tag ≠ 3 →
      let minus := fun (p : W32) (xs : List W32) =>
        (subF32 p (xs.foldl (fun s x => addTo s (decodeF32 x)) 0x80000000)).val
      let cr := minus rp ((others n0).map (fun n => c m0 n))
      let cc := minus cp ((others m0).map (fun m => c m n0))
      let far := fun (x y : W32) => |f32Q x - f32Q y|
      let slack := fun (m : W32) => (t.nacc + 4 : Rat) / 2 ^ 22 * f32Q m
      let cand := fun (b : Nat) => c m0 n0 ^^^ (1 <<< b)
      let fits := fun (x : W32) => (f32Fin x ∧ f32Fin cr ∧ f32Fin cc ∧ far x cr ≤ slack (lane t.colSum (128 + m0)) ∧
        far x cc ≤ slack (lane t.colSum (64 + n0)) : Prop)
      f32Fin (lane t.colSum (128 + m0)) → f32Fin (lane t.colSum (64 + n0)) →
        ((∀ b, b < 32 → ¬ fits (cand b)) → correctElement t m0 n0 = none) ∧
        ∀ b, b < 32 → fits (cand b) → (∀ y, y < 32 → fits (cand y) →
            far (cand b) cr < far (cand y) cr ∨ (far (cand b) cr = far (cand y) cr ∧ b ≤ y)) →
          correctElement t m0 n0 = some (cand b))

namespace Sys2Proof.Claims

/-- A count of the error map for the bay the step is of (R74, R341): in each of the words listed, field k goes up by one unless
it is full, and nothing else of the state changes. -/
def counts (k : Nat) (words : List Nat) (s u : State) : Prop :=
  let bay := s.seq.bayId.toNat
  u = { s with fw := { s.fw with errmap := u.fw.errmap } } ∧
  ∀ b i, errmapWord u.fw b i =
    (if b = bay ∧ b < 160 ∧ i ∈ words ∧ (errmapWord s.fw b i).toNat / 2 ^ (21 * k) % 2 ^ 21 ≠ 2 ^ 21 - 1 then
      errmapWord s.fw b i + BitVec.ofNat 64 (2 ^ (21 * k)) else errmapWord s.fw b i)

/-- The error map's words of rows, which are physical, and of columns (R74, R341). -/
def mapWords (s : State) (rows cols : List Nat) : List Nat :=
  rows.map (fun m => 65 + physicalRow (errmapWord s.fw s.seq.bayId.toNat 132) m) ++ cols

/-- A drain of tile r with NACC of at least 1 (R64 to R67, R74): the word either traps with a detail of class 4, in a state, or
goes on in a state, with a correction or repair made or without. -/
def drains (r : Reg4) (s : State) (traps : BitVec 6 → State → Prop) (goesOn : Bool → State → Prop) : Prop :=
  let t := readT s r
  let w := drainView t
  let fr := indicesOf .flagged w.rows
  let fc := indicesOf .flagged w.cols
  let ce := s.seq.ckctl.getLsbD 0
  let left := fun (u : Tile) => onSeq (fun q => q.setT r u) s
  let fixed := fun (kind row col : Nat) (res : W32) (u : Tile) (words : List Nat) => ∃ v, goesOn true v ∧
    counts (if kind = 1 then 0 else 1) words (fixNoted kind row col r.toNat res (left u)) v
  let kind := if tagFmt t.tag = 3 then (3 : BitVec 4) else 1
  let rowRes := fun (m : Nat) => residue kind (w.act.rows.getD m 0) (lane t.rowSum m)
  let fails : Prop := ∃ v, traps 0x01 v ∧ counts 2 (mapWords s fr fc) s v
  (fr = [] → fc = [] → goesOn false (left (drained t w.act w.rows w.cols))) ∧
  (∀ m n, fr = [m] → fc = [n] → (ce = false → traps 0x02 s) ∧
    (ce = true → correctElement t m n = none → fails) ∧
    ∀ x, ce = true → correctElement t m n = some x →
      let u := { t with data := setSlot t.data m n x }
      fixed 1 m n (rowRes m) (drained u (drainView u).act w.rows w.cols) (mapWords s [m] [n])) ∧
  (∀ m, fr = [m] → fc = [] → (ce = false → traps 0x03 s) ∧
    (ce = true → fixed 2 m 0 (rowRes m) (drained t w.act w.rows w.cols) (64 :: mapWords s [m] []))) ∧
  (∀ n, fr = [] → fc = [n] → (ce = false → traps 0x03 s) ∧
    (ce = true → fixed 3 0 n (residue kind (w.act.cols.getD n 0) (lane t.colSum n))
      (drained t w.act w.rows w.cols) (mapWords s [] [n]))) ∧
  (1 < fr.length ∨ 1 < fc.length → fails)

/-- The tile that `tdrq` forms of an accumulator's elements (R167). -/
def requantised (s : State) (v : Reg5) (f : BitVec 4) (e : BitVec 1) (t u : Tile) : Prop :=
  let par := fun (i n : Nat) => lane (readV s (v + BitVec.ofNat 5 i)).data n
  let value := fun (m n : Nat) =>
    let x := (lane (rowBits t.data m) n).toInt + (if e = 1 then (par 2 n).toInt else 0)
    let y := (x * (par 0 n).toInt + 2 ^ (30 + (par 1 n).toNat % 32)) / 2 ^ (31 + (par 1 n).toNat % 32) + (par 3 n).toInt
    if f = 5 then max 0 (min 255 y) else max (-128) (min 127 y)
  u.tag = mkTag f false true ∧ u.nacc = 0 ∧
  ∀ m k j, m < 64 → k < 64 → j < 4 →
    (lane (rowBits u.data m) k).extractLsb' (8 * j) 8 = if k < 16 then BitVec.ofInt 8 (value m (4 * k + j)) else 0

end Sys2Proof.Claims

/-- R64 to R67, R74, R166: `tdrain` of a tile with NACC of at least 1: one flagged row and column are corrected, one flagged line is
repaired, with CKCTL.CE, and the word completes with the trap of CKCTL.TC after it; any other flagged lines, and any without CE,
trap. `tchk` traps on any flagged line and changes nothing. That a repaired row is counted at the checksum column too is log
entry 32. -/
def Sys2Proof.Claims.FlaggedDrainsCorrectOrTrap : Prop :=
  ∀ (hd : Hdr) (d : Reg4) (s : State), xacts hd s →
    let t := readT s d
    let w := drainView t
    let fr := indicesOf .flagged w.rows
    let fc := indicesOf .flagged w.cols
    let info := sumInfo fr fc d.toNat
    badTag t.tag = false → t.nacc ≠ 0 →
      drains d s (fun detail u => exec (.tdrain hd d) s = next (raise (cause 4 detail 0 info) u))
        (fun fixed u => exec (.tdrain hd d) s =
          next (if fixed && s.seq.ckctl.getLsbD 1 then raiseAfter (cause 4 0x04 0 info) u else u)) ∧
      (fr ++ fc ≠ [] → exec (.tchk hd d) s = next (raise (cause 4 0x0B 0 info) s))

/-- R167: `tdrq` of an i32 tile that verifies writes tile tD with each element scaled, shifted, rounded, offset and clamped, the
elements of a slot from its low byte up. With NACC of at least 1 it drains first, and requantises what the drain leaves; a drain that
traps, and one with a correction or repair under CKCTL.TC, leaves tD unwritten. -/
def Sys2Proof.Claims.RequantisationClampsElements : Prop :=
  ∀ (hd : Hdr) (d a : Reg4) (v : Reg5) (f : BitVec 4) (e : BitVec 1) (s : State), xacts hd s →
    let t := readT s a
    let sums := verifySums 3 t.values (heldSums t)
    let word := exec (.tdrq hd d a v f e) s
    let w := drainView t
    let info := sumInfo (indicesOf .flagged w.rows) (indicesOf .flagged w.cols) a.toNat
    tagFmt t.tag = 3 → tagSc t.tag = false → (f = 4 ∨ f = 5) → (∀ i, i < 4 → intReg s (v + BitVec.ofNat 5 i)) →
      (t.nacc = 0 → sums.rows = [] → sums.cols = [] → ∃ u : Tile, tileLands word d u s ∧ requantised s v f e t u) ∧
      (t.nacc = 0 → ¬ (sums.rows = [] ∧ sums.cols = []) →
        word = next (raise (cause 4 0x0B 0 (sumInfo sums.rows sums.cols a.toNat)) s)) ∧
      (t.nacc ≠ 0 → drains a s (fun detail u => word = next (raise (cause 4 detail 0 info) u))
        (fun fixed u => if fixed && s.seq.ckctl.getLsbD 1 then word = next (raise (cause 4 0x04 0 info) u)
          else ∃ x : Tile, tileLands word d x u ∧ requantised s v f e (readT u a) x))

/-- R60, R64 to R67, R74, R166, R167: `tdrain`, `tchk` and `tdrq`, with clean lines and with flagged ones. -/
def Obligations.DrainsAndRequantisation : Prop :=
  DrainsRecomputeSums ∧ DrainsClassifyLines ∧ CorrectionsChangeOneBit ∧ FlaggedDrainsCorrectOrTrap ∧
    RequantisationClampsElements

/-- R12, R73, R168, R170: `tzero`, `tmark`, `tmov` and `ttr`. A mark holds the packet, the loop depth and the remaining counts of
up to six loops, innermost first. A copy keeps the destination's mark and takes the source's NACC; a transpose exchanges rows with
columns and row sums with column sums. -/
def Sys2Proof.Claims.TileMovesKeepTheMark : Prop :=
  ∀ (hd : Hdr) (d a f : Reg4) (s : State), xacts hd s →
    let t := readT s a
    let old := readT s d
    let keeps := fun (u : Tile) (n : Nat) => u.nacc = n ∧ u.status.extractLsb' 16 240 = old.status.extractLsb' 16 240
    (∃ u : Tile, tileLands (exec (.tzero hd d f) s) d u s ∧ keeps u 0 ∧ u.data = 0 ∧ u.rowSum = 0 ∧ u.colSum = 0 ∧
      u.tag = mkTag f false true) ∧
    (∃ u : Tile, tileLands (exec (.tmark hd d) s) d u s ∧ u = { old with status := u.status } ∧ u.nacc = old.nacc ∧
      u.status.getLsbD 16 = true ∧ u.status.extractLsb' 24 40 = s.seq.pc ∧
      u.status.extractLsb' 20 3 = BitVec.ofNat 3 s.seq.loops.length ∧
      ∀ i, i < 6 → u.status.extractLsb' (64 + 32 * i) 32 = match s.seq.loops[i]? with
        | some e => e.remain.setWidth 32
        | none => 0) ∧
    (badTag t.tag = false → ∃ u : Tile, tileLands (exec (.tmov hd d a) s) d u s ∧ keeps u t.nacc ∧
      u = { t with status := u.status }) ∧
    (badTag t.tag = false → tagFmt t.tag = 1 ∨ tagFmt t.tag = 3 →
      ∃ u : Tile, tileLands (exec (.ttr hd d a) s) d u s ∧ keeps u t.nacc ∧ u.tag = t.tag ∧
        (∀ m n, m < 64 → n < 64 → lane (rowBits u.data m) n = lane (rowBits t.data n) m) ∧
        ∀ i, i < 64 → lane u.rowSum i = lane t.colSum i ∧ lane u.colSum i = lane t.rowSum i)

/-- R70, R169, R171: `tadd` adds accumulators of one format element by element, adds their row and column predictions and their
magnitudes word by word, and joins their saturation masks; `tcvt` converts a checked tile that verifies, traps on one that is not
checked or does not verify, and traps with its destination unwritten when its lanes disagree. That an input tells of that
disagreement, which the trap takes, is log entry 95, and that EINFO names the source log entry 112. -/
def Sys2Proof.Claims.TileSumsAndConversions : Prop :=
  ∀ (hd : Hdr) (d a b f : Reg4) (z : BitVec 1) (s : State), xacts hd s →
    let x := readT s a
    let y := readT s b
    let v := verifySums (tagFmt x.tag) x.values (heldSums x)
    let c := convertTile f (z == 1) x (readT s d)
    let added := fun (u : Tile) (plus : W32 → W32 → W32) => u.nacc = min 0xFFFF (x.nacc + y.nacc) ∧
      u.tag = mkTag (tagFmt x.tag) false false ∧
      (∀ m n, m < 64 → n < 64 → lane (rowBits u.data m) n = plus (lane (rowBits x.data m) n) (lane (rowBits y.data m) n)) ∧
      (∀ i, i < 64 → lane u.rowSum i = plus (lane x.rowSum i) (lane y.rowSum i)) ∧
      (∀ i, i < 192 → lane u.colSum i = plus (lane x.colSum i) (lane y.colSum i)) ∧
      (∀ i, 192 ≤ i → i < 196 → lane u.colSum i = lane x.colSum i ||| lane y.colSum i)
    (badTag x.tag = false → badTag y.tag = false → tagFmt x.tag = tagFmt y.tag → x.nacc ≠ 0 → y.nacc ≠ 0 →
      (tagFmt x.tag = 3 → ∃ u : Tile, tileLands (exec (.tadd hd d a b) s) d u s ∧ added u (· + ·)) ∧
      (tagFmt x.tag = 1 → ∃ u : Tile, ∃ g : Flags, exec (.tadd hd d a b) s = .next (landTiles [(d, u)] g s) ∧
        added u (fun m n => (addF32 m n).val))) ∧
    (badTag x.tag = false → tagCv x.tag = false →
      exec (.tcvt hd d a f z) s = next (raise (cause 4 0x09 0 (sumInfo [] [] a.toNat)) s)) ∧
    (badTag x.tag = false → tagCv x.tag = true → ¬ (v.rows = [] ∧ v.cols = []) →
      exec (.tcvt hd d a f z) s = next (raise (cause 4 0x0B 0 (sumInfo v.rows v.cols a.toNat)) s)) ∧
    (badTag x.tag = false → tagCv x.tag = true → v.rows = [] → v.cols = [] →
      (s.seq.lanesDiffer = false → exec (.tcvt hd d a f z) s = .next (landTiles [(d, c.1)] c.2 s) ∧ tagFmt c.1.tag = f ∧
        tagCv c.1.tag = true ∧ c.1.nacc = 0) ∧
      (s.seq.lanesDiffer = true → exec (.tcvt hd d a f z) s =
        .next (raise (cause 4 0x0A 0 (sumInfo [] [] a.toNat)) (onSeq (fun q => { q with lanesDiffer := false }) s))))

/-- R73, R168 to R171: the words between tiles. -/
def Obligations.TileMovesSumsAndConversions : Prop :=
  TileMovesKeepTheMark ∧ TileSumsAndConversions

/-- R172 to R174: the words between tiles and vectors: rows, column sums, row sums and status; `trset` clears CV and NACC;
`tinj` in debug mode XORs one word of the area that sX selects. -/
def Obligations.TileRowsSumsAndStatus : Prop :=
  ∀ (hd : Hdr) (t : Reg4) (x y w : Reg5) (s : State), xacts hd s →
    let u := readT s t
    let sums : BitVec 4 := if isIntFmt (tagFmt u.tag) then 3 else 1
    let k := (readS s y).toNat
    (badTag u.tag = false →
      vecLands (exec (.trget hd t x y) s) x (rowBits u.data (k % 64)) (tagFmt u.tag) s ∧
      vecLands (exec (.tcsum hd t x y) s) x (u.colSum.extractLsb' (2048 * (k % 8)) 2048) sums s ∧
      vecLands (exec (.trsum hd t x) s) x u.rowSum sums s ∧
      (tagFmt (readV s x).tag = tagFmt u.tag →
        ∃ n : Tile, tileLands (exec (.trset hd t x y) s) t n s ∧ n.nacc = 0 ∧ tagCv n.tag = false ∧
          ∀ m, m < 64 → rowBits n.data m = if m = k % 64 then (readV s x).data else rowBits u.data m)) ∧
    exec (.tstat hd t x w) s = .next (putS x (u.status.extractLsb' (64 * (w.toNat % 4)) 64) s) ∧
    (s.seq.debug = true → ∃ n : Tile, tileLands (exec (.tinj hd t x y) s) t n s ∧ n.tag = u.tag ∧ n.status = u.status ∧
      n.scales = u.scales ∧
      let area := (readS s x).toNat / 4096 % 4
      let flip := fun (p : Prop) [Decidable p] => if p then (readS s y).setWidth 32 else (0 : W32)
      (∀ m i, m < 64 → i < 64 → lane (rowBits n.data m) i = lane (rowBits u.data m) i ^^^
        flip (area = 0 ∧ m = (readS s x).toNat % 64 ∧ i = (readS s x).toNat / 64 % 64)) ∧
      (∀ i, i < 64 → lane n.rowSum i = lane u.rowSum i ^^^ flip (area = 1 ∧ i = (readS s x).toNat % 64)) ∧
      (∀ i, i < 512 → lane n.colSum i = lane u.colSum i ^^^ flip (area = 2 ∧ i = (readS s x).toNat % 512))) ∧
    (s.seq.debug = false → exec (.tinj hd t x y) s =
      .next (raise (cause 1 0x03 0 ((packWord hd 0x2F (packTV t x y 4)).setWidth 64 <<< 32)) s))

/-- R323: in supervisor mode the X pipe takes no word: each traps with class 12 detail 0x06 before any effect. -/
def Sys2Proof.Claims.ArrayWordsTrapInSupervisorMode : Prop :=
  ∀ (hd : Hdr) (d a b : Reg4) (x y w : Reg5) (k f : BitVec 4) (e z p q r : BitVec 1) (s : State), acts hd s →
    s.seq.supervisor = true →
      ∀ i ∈ [Instr.tlds hd a, .tswap hd, .mma hd d a e z p q r, .mmaCb hd d k e z p q r, .tdrain hd d, .tchk hd a,
          .tdrq hd d a x f e, .tzero hd d a, .tmark hd d, .tcvt hd d a b z, .ttr hd d a, .tmov hd d a, .tadd hd d a b,
          .trget hd d x y, .trset hd d x y, .tcsum hd d x y, .trsum hd d x, .tinj hd d x y, .tstat hd d x w],
        exec i s = .next (raise (cause 12 0x06 0 0) s)

/-! ### System words -/

namespace Sys2Proof.Claims

/-- A word's next state is that of one scalar written in its step. -/
def putsS (r : Host.Outcome State Fault Refusal) (a : Reg5) (x : W64) (s : State) : Prop :=
  r = .next (onSeq (fun q => q.setS a x) s)

end Sys2Proof.Claims

/-- R13 to R16, R118, R119: `srr` reads a register that its mode may read, TIME latching its fraction; `srw` leaves its value to
be written after its group. A number of the supervisor traps in user mode with the word in EINFO (R290). That supervisor code's
reads of TIME and STEPS are not of the region's record is log entry 42. -/
def Sys2Proof.Claims.SpecialRegisterWords : Prop :=
  ∀ (hd : Hdr) (a : Reg5) (k : BitVec 9) (w : W32) (s : State), acts hd s →
    let may := k.toNat < 0x100 ∨ s.seq.supervisor = true
    (may → k ≠ 0x006 → k ≠ 0x008 → putsS (exec (.srr hd a k) s) a (specialWord s k) s) ∧
    ((s.seq.supervisor = true ∨ replaying s = false) →
      (∃ t, exec (.srr hd a 0x006) s = .next t ∧ t.seq.s = (s.seq.setS a s.clock.time).s ∧ t.seq.timef = s.clock.frac ∧
        (unlogged s → t.mem = s.mem)) ∧
      (∃ t, exec (.srr hd a 0x008) s = .next t ∧ t.seq.s = (s.seq.setS a s.seq.steps).s ∧ (unlogged s → t.mem = s.mem))) ∧
    (may → k ≠ 0x107 → exec (.srw hd a k) s = next (onGroup (fun g => { g with srw := some (k, readS s a) }) s)) ∧
    (¬ may → (encode (.srr hd a k) = some w → exec (.srr hd a k) s = next (raise (cause 1 0x01 0 (w.setWidth 64 <<< 32)) s)) ∧
      (encode (.srw hd a k) = some w → exec (.srw hd a k) s = next (raise (cause 1 0x01 0 (w.setWidth 64 <<< 32)) s)))

/-- R13 to R16, R288, R289, R297, R341: what each number reads: a field of the state, and 0 for a number that no rule assigns. -/
def Sys2Proof.Claims.SpecialRegisterReads : Prop :=
  ∀ (s : State),
    let q := s.seq
    let reads := fun (k : BitVec 9) (x : W64) => specialWord s k = x
    let wide := fun {w : Nat} (x : BitVec w) => x.setWidth 64
    (reads 0x000 (wide q.bayId) ∧ reads 0x001 (wide q.chipId) ∧ reads 0x002 (wide q.unitIdx) ∧ reads 0x003 (wide q.nunits) ∧
      reads 0x004 q.region ∧ reads 0x005 q.task ∧ reads 0x006 s.clock.time ∧ reads 0x007 (wide q.timef) ∧ reads 0x008 q.steps ∧
      reads 0x009 (s.clock.ofs ++ (0 : BitVec 30) ++ BitVec.ofBool s.clock.hold ++ BitVec.ofBool s.clock.lock) ∧
      reads 0x00A (wide q.iter) ∧ reads 0x00B (wide q.trip) ∧ reads 0x00C (wide q.member)) ∧
    (reads 0x010 q.fstat ∧ reads 0x011 (wide q.vtag) ∧ reads 0x012 (wide q.ckctl) ∧ reads 0x013 (wide q.ckcnt) ∧
      reads 0x014 q.cklog ∧ reads 0x015 (wide q.cklog2) ∧ reads 0x018 (BitVec.ofNat 64 q.loops.length) ∧
      reads 0x020 q.raceinfo) ∧
    (∀ i, i < 6 → reads (0x019 + BitVec.ofNat 9 i) (match q.loops[i]? with
      | some e => wide e.index
      | none => 0)) ∧
    reads 0x01F (match q.loops with
      | e :: _ => wide e.remain
      | [] => 0) ∧
    (reads 0x100 ((0 : BitVec 60) ++ BitVec.ofBool q.debug ++ BitVec.ofBool q.masked ++ BitVec.ofBool q.prevSupervisor ++
        BitVec.ofBool q.supervisor) ∧
      reads 0x101 (wide q.evec) ∧ reads 0x102 (wide q.epc) ∧ reads 0x103 (wide q.ecause) ∧ reads 0x104 q.eaddr ∧
      reads 0x105 q.einfo ∧ reads 0x106 q.saveptr ∧ reads 0x107 0 ∧ reads 0x110 q.xtbl ∧ reads 0x111 (wide q.pasid) ∧
      reads 0x112 q.rcbp ∧ reads 0x120 q.budget ∧ reads 0x130 q.errmap) ∧
    (∀ c, (slotsOf s.fw s.east).toList[q.budget.toNat % 64]? = some c →
      let word := q.budget.toNat / 256 % 16
      (word = 0 → reads 0x121 (wide c.handle)) ∧ (word = 13 → reads 0x121 c.stalls) ∧ (word = 14 → reads 0x121 c.periods) ∧
      (word = 15 → reads 0x121 0) ∧
      (∀ i : Fin 6, (word = 1 + i → reads 0x121 (wide c.limits[i])) ∧
        (word = 7 + i → reads 0x121 (BitVec.ofNat 64 c.used[i])))) ∧
    reads 0x131 (errmapWord s.fw (q.errmap.toNat % 256) (q.errmap.toNat / 256)) ∧
    (∀ i : Fin 8, reads (0x1F8 + BitVec.ofNat 9 i) q.k[i]) ∧
    ∀ k : BitVec 9, k.toNat ∈ [0x00D, 0x00E, 0x00F, 0x016, 0x017] ∨ (0x021 ≤ k.toNat ∧ k.toNat < 0x100) ∨
      (0x108 ≤ k.toNat ∧ k.toNat < 0x110) ∨ (0x113 ≤ k.toNat ∧ k.toNat < 0x120) ∨ (0x122 ≤ k.toNat ∧ k.toNat < 0x130) ∨
      (0x132 ≤ k.toNat ∧ k.toNat < 0x1F8) → reads k 0

/-- R13 to R16, R288, R289, R297, R341: what a register write after a group does: FSTAT keeps only its flags and those raised
beside it, the masked registers their defined bits, XTBL and PASID drop the bay's host translations, BUDGETD writes the word that
BUDGET selects, CLR of ERRMAP zeroes a counter word, and a read-only number changes nothing. That a write of XTBL empties the
instruction cache is log entry 24. -/
def Sys2Proof.Claims.SpecialRegisterWritesKeepDefinedBits : Prop :=
  ∀ (k : BitVec 9) (x : W64) (r : BitVec 4) (s : State),
    writeSpecial 0x010 x r s = onSeq (fun q => { q with fstat := (x &&& 0xF0F) ||| r.setWidth 64 }) s ∧
    writeSpecial 0x011 x r s = onSeq (fun q => { q with vtag := x.setWidth 8 &&& 0x3F }) s ∧
    writeSpecial 0x012 x r s = onSeq (fun q => { q with ckctl := x.setWidth 3 }) s ∧
    writeSpecial 0x020 x r s = onSeq (fun q => { q with raceinfo := x &&& 0x80000FFFFFFFFFFF }) s ∧
    writeSpecial 0x100 x r s = onSeq (fun q => { q with prevSupervisor := x.getLsbD 1 }) s ∧
    writeSpecial 0x102 x r s = onSeq (fun q => { q with epc := x.setWidth 40 }) s ∧
    writeSpecial 0x013 x r s = onSeq (fun q => { q with ckcnt := x.setWidth 32 }) s ∧
    writeSpecial 0x014 x r s = onSeq (fun q => { q with cklog := (x.setWidth 28).setWidth 64 }) s ∧
    writeSpecial 0x015 x r s = onSeq (fun q => { q with cklog2 := x.setWidth 32 }) s ∧
    writeSpecial 0x101 x r s = onSeq (fun q => { q with evec := x.setWidth 40 }) s ∧
    writeSpecial 0x103 x r s = onSeq (fun q => { q with ecause := x.setWidth 10 }) s ∧
    writeSpecial 0x104 x r s = onSeq (fun q => { q with eaddr := x }) s ∧
    writeSpecial 0x105 x r s = onSeq (fun q => { q with einfo := x }) s ∧
    writeSpecial 0x106 x r s = onSeq (fun q => { q with saveptr := x &&& ~~~0xFF }) s ∧
    writeSpecial 0x120 x r s = onSeq (fun q => { q with budget := x &&& 0xF3F }) s ∧
    (∀ i : Fin 8, writeSpecial (0x1F8 + BitVec.ofNat 9 i) x r s = onSeq (fun q => { q with k := q.k.set i x }) s) ∧
    (let word := s.seq.budget.toNat / 256 % 16
     let slot := s.seq.budget.toNat % 64
     let t := writeSpecial 0x121 x r s
     (7 ≤ word → t = s) ∧ t = { s with fw := t.fw } ∧ slotsOf t.fw (!s.east) = slotsOf s.fw (!s.east) ∧
     ∀ j : Fin 64, let c := (slotsOf s.fw s.east)[j]
       let d := (slotsOf t.fw s.east)[j]
       (j.val ≠ slot → d = c) ∧
       (j.val = slot → (word = 0 → d.handle = x.setWidth 32 ∧ (∀ i : Fin 6, d.used[i] = 0) ∧ d.stalls = 0 ∧ d.periods = 0 ∧
           ∀ n, x.setWidth 32 ≠ (0 : W32) → nodeOf s.fw (x.setWidth 32) = some n → ∀ i : Fin 6, d.limits[i] = effLimit s.fw n i) ∧
         ∀ i : Fin 6, word = 1 + i → d = { c with limits := c.limits.set i (x.setWidth 32) })) ∧
    (let t := writeSpecial 0x130 x r s
     t = { s with seq := { s.seq with errmap := x &&& 0xFFFF }, fw := { s.fw with errmap := t.fw.errmap } } ∧
     ∀ b i, errmapWord t.fw b i = if x.getLsbD 16 = true ∧ b = x.toNat % 256 ∧ i = x.toNat / 256 % 256 ∧ i ≠ 132 then 0
       else errmapWord s.fw b i) ∧
    (let t := writeSpecial 0x110 x r s
     t.seq = { s.seq with xtbl := x &&& ~~~0x7FF, icache := [] } ∧ t.host = { s.host with tlb := [] } ∧ t.mem = s.mem) ∧
    (let t := writeSpecial 0x111 x r s
     t.seq = { s.seq with pasid := x.setWidth 20 } ∧ t.host = { s.host with tlb := [] } ∧ t.mem = s.mem) ∧
    ((k.toNat ≤ 0x00C ∨ (0x018 ≤ k.toNat ∧ k.toNat ≤ 0x01F) ∨ k = 0x112 ∨ k = 0x131) → writeSpecial k x r s = s)

/-- R13 to R16, R118, R119, R288 to R290, R297, R341: `srr` and `srw`, what each number reads, and what a write leaves. -/
def Obligations.SpecialRegistersReadAndWritten : Prop :=
  SpecialRegisterWords ∧ SpecialRegisterReads ∧ SpecialRegisterWritesKeepDefinedBits

/-- R82, R200, R201, R320, R332: the system words where they act: nothing, the ends of sections and of traps, a software trap,
the breakpoint of debug mode, and the snapshot in memory. EADDR of `brk` is log entry 25, that of a malformed snapshot log entry
43, and `yield` in supervisor mode log entry 45. -/
def Sys2Proof.Claims.SystemWordsAct : Prop :=
  ∀ (hd : Hdr) (a : Reg5) (n : BitVec 6) (k : BitVec 9) (s : State), acts hd s →
    let q := s.seq
    let at_ := placeOf s (if a = 0 then q.saveptr else readS s a)
    exec (.nop hd) s = next s ∧
    exec (.trap hd n) s = next (raise (cause 15 n 0 0) s) ∧
    exec (.brk hd k) s = next (if q.debug then raise (cause 12 0x10 0 (k.setWidth 64)) s else s) ∧
    (q.group.trap = none →
      (q.loops = [] → q.held = none → (lastSection s = false ∨ writesDrained s = true) →
        exec (.exit hd) s = next (transfer .endSection s)) ∧
      (q.loops ≠ [] → exec (.exit hd) s =
        next (raise (cause 12 0x09 (BitVec.ofNat 64 (12 * q.pc.toNat)) (BitVec.ofNat 64 q.loops.length)) s)) ∧
      (q.loops = [] → ∀ h, q.held = some h →
        exec (.exit hd) s = next (raise (cause 11 0x08 h.buffer (h.idx.setWidth 64)) s)) ∧
      (q.supervisor = true → exec (.halt hd) s = next (transfer .halt s)) ∧
      (q.supervisor = true → q.masked = false → exec (.eret hd) s = next (transfer .eret s)) ∧
      exec (.yield hd) s = next (if q.preempt = some .soft ∧ q.supervisor = false then
        onSeq (fun q => { q with preempt := some .saving }) s else s)) ∧
    (q.supervisor = true →
      exec (.snaprel hd) s = next (onSeq (fun q => { q with masked := false }) s) ∧
      (q.masked = true → exec (.eret hd) s = next (raise (cause 12 0x05 (BitVec.ofNat 64 (12 * q.pc.toNat)) 0) s)) ∧
      ((snapshotBytes q.snapshot).length = 8192 → reaches s true at_ 8192 256 →
        ∃ t, exec (.snapst hd a) s = .next t ∧ storedAt at_ (snapshotBytes q.snapshot) s t) ∧
      (reaches s false at_ 8192 256 →
        let b := memRead s.mem.spad at_ 8192
        exec (.snapld hd a) s = next (if snapshotOk b then onSeq (fun q => { q with snapshot := parseSnapshot q.snapshot b }) s
          else raise (cause 12 0x07 (BitVec.ofNat 64 (12 * q.pc.toNat)) 0) s)))

/-- R19, R22, R307, R332: what the end of a section does in a group that issues: after the prologue the kernel, if it has trips;
after an iteration of the kernel the next, with the save of a soft request between them once nothing is in flight; after the last
the epilogue; and after that the next record of the command list, with s1 to s7 kept and every other register as at the start of a
unit, or the unit's completion. Results of the section's last group land first where the registers pass on. That a soft request
between records waits for the copies of the unit is log entry 20. -/
def Sys2Proof.Claims.SectionsFollowEachOther : Prop :=
  ∀ (n : Nat) (s : State),
    let q := s.seq
    let r := q.record
    let soft := q.preempt == some .soft
    let enters := fun (sec : Section) (a : W64) (u : Seq) => ({ s with seq :=
      { u with sect := sec, pc := BitVec.ofNat 40 (min (a.toNat / 12) (2 ^ 40 - 1)), gpos := 0, loops := [] } } : State)
    let ends := applyTransfer n (some .endSection) s
    let more := q.iter.toNat + 1 < r.trip.toNat
    let last : Prop := q.sect = .epilogue ∨
      (r.epilogue = 0 ∧ ((q.sect = .prologue ∧ r.trip = 0) ∨ (q.sect = .kernel ∧ ¬ more)))
    let landed := onSeq (fun q => landScoreboard (landAll q)) s
    let follows := nextRecord landed (entriesLeft q.cmdp landed) q.cmdp
    (q.sect = .prologue → r.trip ≠ 0 → ends = enters .kernel r.kernel q) ∧
    (q.sect = .kernel → more →
      let u := enters .kernel r.kernel { q with iter := q.iter + 1 }
      ends = if soft then (if saveReady u then iterationSave none u
        else onSeq (fun q => { q with preempt := some .saving }) u) else u) ∧
    (r.epilogue ≠ 0 → (q.sect = .prologue ∧ r.trip = 0) ∨ (q.sect = .kernel ∧ ¬ more) → ends = enters .epilogue r.epilogue q) ∧
    (last → follows = none → ends = completeUnit landed) ∧
    (last → ∀ x p, follows = some (x, p) →
      (soft = true → s.copy.queue = [] → s.copy.fired = [] → ends = nodeSave landed) ∧
      (soft = false ∨ ¬ (s.copy.queue = [] ∧ s.copy.fired = []) →
        ∃ t, ends = t ∧ t = { landed with seq := t.seq } ∧ t.seq.record = x ∧ t.seq.cmdp = p ∧ t.seq.iter = 0 ∧
          t.seq.trip = x.trip ∧ t.seq.ckctl = 5 ∧ t.seq.fstat = 0 ∧ t.seq.steps = 0 ∧ t.seq.loops = [] ∧
          ∀ i : Fin 32, t.seq.s[i] = if 1 ≤ i.val ∧ i.val ≤ 7 then landed.seq.s[i] else 0))

/-- R19, R22, R82, R117, R200, R201, R307, R320, R332: the system words, and what the end of a section leads to. -/
def Obligations.SystemWordsTakeEffect : Prop :=
  SystemWordsAct ∧ SectionsFollowEachOther

/-- R90, R201, R290: a supervisor word in user mode traps with class 1 detail 0x04 and the word in EINFO, before any effect. -/
def Sys2Proof.Claims.SupervisorWordsTrapInUserMode : Prop :=
  ∀ (hd : Hdr) (a : Reg5) (w : W32) (s : State), acts hd s → s.seq.supervisor = false →
    ∀ i ∈ [Instr.halt hd, .eret hd, .snapst hd a, .snapld hd a, .snaprel hd], encode i = some w →
      exec i s = .next (raise (cause 1 0x04 0 (w.setWidth 64 <<< 32)) s)

/-- R90, R201, R290, R323: X words trap in supervisor mode, and supervisor words trap in user mode. -/
def Obligations.WordsOfTheOtherModeTrap : Prop :=
  ArrayWordsTrapInSupervisorMode ∧ SupervisorWordsTrapInUserMode

/-! ### Engine words -/

/-- R136, R179 to R182, R334: the circular-buffer words on a bound slot of the bay's sequencer; on a descriptor that holds an
uncorrectable error they trap. -/
def Sys2Proof.Claims.BufferWordsMoveElements : Prop :=
  ∀ (hd : Hdr) (a b : Reg5) (s : State), acts hd s →
    let x := (readS s b).toNat
    let c := slotAt s x
    let d := cbRead s.mem c.desc.toNat
    let n := (readS s a).toNat % 2 ^ 32
    let stalls := next (stallOn (.buffer (BitVec.ofNat 4 x)) s)
    let mine := fun (e : Nat) => ∀ g ∈ cbGranules d e n, ∀ w, ownerOf s.mem g = some (.excl w) → w = s.agent
    let moves := fun (r : Host.Outcome State Fault Refusal) (e o : Nat) (own : Option Owner) =>
      ∃ t, r = .next t ∧ t.mem.spad = memWrite s.mem.spad (c.desc.toNat + o) (bytesOfNat 8 (e + n)) ∧
        (∀ g, ownerOf t.mem g = if g ∈ cbGranules d e n then own else ownerOf s.mem g) ∧ t.seq = s.seq
    (x < 16 → c.bound = false → exec (.cbst hd a b) s = next (putS a 0 s)) ∧
    (x < 16 → c.bound = true → ∀ e, s.mem.badByte c.desc.toNat 64 = some e →
      ∀ i ∈ [Instr.cbput hd a b, .cbwait hd a b, .cbtake hd a b, .cbclose hd b, .cbst hd a b],
        exec i s = next (raise (cause 5 0x09 (BitVec.ofNat 64 e) 0) s)) ∧
    (x < 16 → c.bound = true → s.mem.badByte c.desc.toNat 64 = none →
      (c.producer = true → c.engine = false → d.state = 0 → n ≤ d.room → mine d.pcnt →
        moves (exec (.cbput hd a b) s) d.pcnt 16 (some .pub)) ∧
      (c.producer = false → c.engine = false → n ≤ d.avail → mine d.ccnt → moves (exec (.cbtake hd a b) s) d.ccnt 24 none) ∧
      (c.producer = true → exec (.cbclose hd b) s = next (onMem (fun m =>
        if d.state = 0 then m.putSpad (c.desc.toNat + 15) [1] else m) s)) ∧
      putsS (exec (.cbst hd a b) s) a (BitVec.ofNat 64 (d.avail % 2 ^ 32 + d.state * 2 ^ 32 + c.producer.toNat * 2 ^ 40 +
        c.engine.toNat * 2 ^ 41 + 2 ^ 42)) s ∧
      (let k := if c.producer then d.room else d.avail
       (d.state = 0 → d.quant ≤ k → putsS (exec (.cbwait hd a b) s) a (BitVec.ofNat 64 k) s) ∧
       (d.state = 0 → k < d.quant → exec (.cbwait hd a b) s = stalls) ∧
       (d.state = 3 → putsS (exec (.cbwait hd a b) s) a (BitVec.ofInt 64 (-2)) s) ∧
       (d.state = 4 → putsS (exec (.cbwait hd a b) s) a (BitVec.ofInt 64 (-3)) s) ∧
       (d.state = 1 ∨ d.state = 2 → putsS (exec (.cbwait hd a b) s) a
         (if c.producer = false ∧ 0 < d.avail then BitVec.ofNat 64 k else BitVec.ofInt 64 (-1)) s)))

/-- R179, R180, R181: `cbdef` binds a slot to a legal descriptor, with the bay's sequencer or its copy engine as the agent of the
side. -/
def Sys2Proof.Claims.CbdefBindsASlot : Prop :=
  ∀ (hd : Hdr) (a b : Reg5) (s : State), acts hd s →
    let x := readS s a
    let y := placeOf s (readS s b)
    let d := cbRead s.mem y
    let side := if x.getLsbD 4 then d.pagent else d.cagent
    let agent := if x.getLsbD 5 then 160 + s.seq.bayId.toNat else s.seq.bayId.toNat
    d.ok y = true → x.toNat < 64 → (side = 0x1FF ∨ side = agent) → s.mem.badByte y 64 = none →
      ∃ t, exec (.cbdef hd a b) s = .next t ∧
        slotAt t (x.toNat % 16) = { bound := true, desc := BitVec.ofNat 64 y, producer := x.getLsbD 4, engine := x.getLsbD 5 } ∧
        (∀ i, i < 16 → i ≠ x.toNat % 16 → slotAt t i = slotAt s i) ∧ BitVec.ofNat 64 y ∈ t.seq.buffers ∧
        t.mem.spad = memWrite s.mem.spad (y + (if x.getLsbD 4 then 32 else 34)) (bytesOfNat 2 agent) ∧
        ownerOf t.mem (y / 64) = some .pub

/-- R136, R179 to R182, R334: the circular-buffer words. -/
def Obligations.CircularBufferWords : Prop :=
  BufferWordsMoveElements ∧ CbdefBindsASlot

/-- R136, R184 to R190, R334: a copy word whose descriptor is legal joins the queue, or the armed table, as the operation it
describes, and a `cpyc` that reads its size from a buffer with an uncorrectable error traps; `cpyst` reports completions, busy, armed
and queued. -/
def Obligations.CopyWordsEnterTheEngine : Prop :=
  ∀ (hd : Hdr) (a b : Reg5) (e : BitVec 6) (s : State), acts hd s →
    let x := placeOf s (readS s a)
    let d := fun (op : Nat) => placeDesc s op (readS s b) (parseCopyDesc (memRead s.mem.spad x 64))
    let sized := (d 3).scb ≠ (d 3).dcb ∧ ((d 3).sizeSlot s).bound = true
    let ok := fun (op : Nat) => reaches s false x 64 64 ∧ (d op).ok op ((d op).elements s) = true ∧ ((d op).sync = 0 ∨ syncPlaced (d op).sync = true) ∧
      (op = 3 → sized → s.mem.badByte ((d 3).sizeSlot s).desc.toNat 64 = none)
    let queued := fun (op : Nat) => next (onCopy (fun c => { c with queue := c.queue ++ [(d op).toOp op x e] }) s)
    (s.copy.queue.length < 16 →
      (ok 0 → exec (.cpy hd a b e) s = queued 0) ∧ (ok 1 → exec (.cpyt hd a b e) s = queued 1) ∧
      (ok 3 → exec (.cpyc hd a b e) s = queued 3)) ∧
    (reaches s false x 64 64 → sized → ∀ y, s.mem.badByte ((d 3).sizeSlot s).desc.toNat 64 = some y →
      exec (.cpyc hd a b e) s = next (raise (cause 5 0x09 (BitVec.ofNat 64 y) 0) s)) ∧
    (s.copy.armed.length + s.copy.fired.length < 16 → ok 2 → syncPlaced (d 2).trig = true →
      exec (.cpya hd a b e) s = next (onCopy (fun c => { c with armed := c.armed ++ [(d 2).toOp 2 x e] }) s)) ∧
    (s.copy.queue.length ≤ 16 → s.copy.armed.length + s.copy.fired.length ≤ 16 →
      ∃ v : W64, putsS (exec (.cpyst hd a) s) a v s ∧ v.extractLsb' 32 32 = s.copy.doneCount ∧
        v.getLsbD 16 = s.copy.queue.any (·.started) ∧
        (v.extractLsb' 8 8).toNat = s.copy.armed.length + s.copy.fired.length ∧
        (v.extractLsb' 0 8).toNat = s.copy.queue.length)

/-- R136, R176, R178, R191 to R193, R334: the sync words. A word on a misplaced sync word traps, and so does `sinit` of TARGET 0, and `sadd`,
`swait` and `swait.y` of a sync word whose TARGET is 0; one that reads an uncorrectable error traps. `sinit` sets the word; `sadd` of 0 does nothing, and any other carries
COUNT into GEN at TARGET; `swait` answers at once when GEN differs from sA and waits otherwise. -/
def Obligations.SyncWordsCountAndWait : Prop :=
  ∀ (hd : Hdr) (a b : Reg5) (s : State), acts hd s →
    let y := placeOf s (readS s b)
    let word := fun (m : Mem) (o : Nat) => natOfBytes (memRead m.spad (y + o) 4)
    let t := word s.mem 0
    let n := (readS s a).toNat % 2 ^ 32
    let status := BitVec.ofNat 64 (word s.mem 8 + word s.mem 12 * 2 ^ 32)
    let bad := next (raise (cause 8 0x0C (BitVec.ofNat 64 y) 0) s)
    (¬ (y % 16 = 0 ∧ y + 16 ≤ 0x14000000) →
      ∀ i ∈ [Instr.sinit hd a b, .swait hd a b, .swaitY hd a b, .sadd hd a b, .sstat hd a b], exec i s = bad) ∧
    (y % 16 = 0 → y + 16 ≤ 0x14000000 →
      (n = 0 → exec (.sinit hd a b) s = bad) ∧
      (n ≠ 0 → exec (.sinit hd a b) s = next (onMem (fun m => m.putSpad y (bytesOfNat 4 n ++ List.replicate 12 0)) s)) ∧
      (∀ e, s.mem.badByte y 16 = some e →
        ∀ i ∈ [Instr.swait hd a b, .swaitY hd a b, .sadd hd a b, .sstat hd a b],
          exec i s = next (raise (cause 5 0x09 (BitVec.ofNat 64 e) 0) s))) ∧
    (y % 16 = 0 → y + 16 ≤ 0x14000000 → s.mem.badByte y 16 = none →
      putsS (exec (.sstat hd a b) s) a status s ∧
      (t = 0 → ∀ i ∈ [Instr.swait hd a b, .swaitY hd a b, .sadd hd a b], exec i s = bad) ∧
      (t ≠ 0 → n = 0 → exec (.sadd hd a b) s = next s) ∧
      (t ≠ 0 → n ≠ 0 → ∃ u, exec (.sadd hd a b) s = .next u ∧ u.seq = s.seq ∧ word u.mem 0 = t ∧
        word u.mem 4 = (word s.mem 4 + n) % t ∧ word u.mem 8 = (word s.mem 8 + (word s.mem 4 + n) / t) % 2 ^ 32 ∧
        word u.mem 12 = word s.mem 12 ∧
        ∀ x, x < y + 4 ∨ y + 12 ≤ x → memByte u.mem.spad x = memByte s.mem.spad x) ∧
      (t ≠ 0 → word s.mem 8 ≠ n →
        putsS (exec (.swait hd a b) s) a status s ∧ putsS (exec (.swaitY hd a b) s) a status s) ∧
      (t ≠ 0 → word s.mem 8 = n →
        exec (.swait hd a b) s = next (stallOn (.sync (BitVec.ofNat 64 y) (BitVec.ofNat 32 n) false) s) ∧
        exec (.swaitY hd a b) s = next (stallOn (.sync (BitVec.ofNat 64 y) (BitVec.ofNat 32 n) true) s)))

/-- R202, R221 to R228, R295, R296, R334: the stage-router words of a unit: submission, taking a record, passing and dropping it,
side entries and their traps, status. A word that reads or writes a record's store entry in HBM pays for its lines, and waits
while the budget is spent. That store entries are charged and waited for, the bytes of an entry, and that a pass checks the
range of its field alone, are the model's choices (log entries 48, 58 and 39). -/
def Obligations.RouterWordsMoveRecords : Prop :=
  ∀ (hd : Hdr) (a b : Reg5) (t : StageSet) (s : State), acts hd s →
    let x := readS s b
    let addr := placeOf s (x &&& ~~~0x1FF)
    let from_ := placeOf s (x &&& ~~~0x3F)
    let g := x.extractLsb' 4 3
    let paid := fun (n : BitVec 48) =>
      if entryLines t n = 0 then s else charge s.east s.regionHandle 0 (entryLines t n) s
    let may := fun (n : BitVec 48) => entryLines t n = 0 ∨ admitted s s.east s.regionHandle 0 = true
    let waits := next (stallOn (.budget 0) s)
    (∀ h, s.seq.held = some h → h.sides.length < 8 →
      let y := readS s a
      let place := placeOf s (y &&& ~~~7)
      y.toNat % 8 ≤ 2 → place + (if y.toNat % 8 = 2 then 4 else 8) ≤ 0x14000000 →
        exec (.rside hd a b) s = next (onSeq (fun q => { q with held := some { h with
          sides := h.sides ++ [(y.setWidth 3, BitVec.ofNat 64 place, x)] } }) s)) ∧
    (∀ h, s.seq.held = some h →
      let record := fun (detail : BitVec 6) => next (raise (cause 11 detail h.buffer (h.idx.setWidth 64)) s)
      (2 < (readS s a).toNat % 8 → exec (.rside hd a b) s = record 0x06) ∧
      ((readS s a).toNat % 8 ≤ 2 → 8 ≤ h.sides.length → exec (.rside hd a b) s = record 0x05)) ∧
    (setFor s (x.setWidth 4) = some t →
      putsS (exec (.rstat hd a b) s) a (BitVec.ofNat 64 (t.inFlight % 2048 + t.retired.toNat % 2 ^ 32 * 2 ^ 32)) s ∧
      (x.extractLsb' 4 2 = 0 → from_ + t.rsize ≤ 0x14000000 → t.isRetired = false → (t.limit = 0 ∨ t.next ≠ t.limit) →
        t.broken = false → raceOf s.mem s.agent false from_ t.rsize = none → t.recs.length < 1024 →
        s.mem.badByte from_ t.rsize = none →
          (may t.next → exec (.rsub hd a b) s = next (putS a (t.next.setWidth 64) (keepRecord t.east t.idx t.next
            (onSet t.east t.idx (submitRecord (memRead s.mem.spad from_ t.rsize)) (paid t.next))))) ∧
          (¬ may t.next → exec (.rsub hd a b) s = waits)) ∧
      (∀ (st : Stage) (r : Rec) (rest : List (BitVec 48)), t.stages[g.toNat]? = some st →
        st.pool.getLsbD (dieIndex s.seq.bayId.toNat) = true → s.seq.held = none → x.extractLsb' 7 2 = 0 →
        0x200000 * s.seq.bayId.toNat ≤ addr → addr + t.rsize ≤ 0x200000 * (s.seq.bayId.toNat + 1) →
        raceOf s.mem s.agent true addr t.rsize = none → st.queue = r.rnum :: rest → t.rec? r.rnum = some r →
          (entryDamaged s.mem t r.rnum = true → exec (.rtake hd a b) s = next (alarm t.region s)) ∧
          (entryDamaged s.mem t r.rnum = false → ¬ may r.rnum → exec (.rtake hd a b) s = waits) ∧
          (entryDamaged s.mem t r.rnum = false → may r.rnum →
            ∃ u h, exec (.rtake hd a b) s = .next u ∧ u.seq.held = some h ∧ h.idx = t.idx ∧ h.stage = g ∧ h.rnum = r.rnum ∧
              h.buffer = BitVec.ofNat 64 addr ∧ h.sides = [] ∧ readS u a = (if a = 0 then 0 else r.rnum.setWidth 64) ∧
              u.sets = (onSet t.east t.idx (takeFront g.toNat) s).sets ∧ u.fw = (paid r.rnum).fw)) ∧
      (∀ h, s.seq.held = some h → h.idx = t.idx → h.stage = g → h.buffer = BitVec.ofNat 64 addr → x.extractLsb' 7 2 = 0 →
        let cost := (s.seq.steps - h.since).toNat + 1
        let ends := fun (passed : Bool) (f : StageSet → StageSet) => next (onSeq (fun q => { q with held := none })
          (keepRecord t.east t.idx h.rnum (onSet t.east t.idx (fun y => countCompletion g.toNat cost passed (f y)) (paid h.rnum))))
        (may h.rnum → exec (.rdrop hd b) s = ends false (finishRecord h.rnum .dropped)) ∧
        (¬ may h.rnum → exec (.rdrop hd b) s = waits) ∧
        (∀ st, t.stages[g.toNat]? = some st →
          (st.flen = 0 ∨ raceOf s.mem s.agent false (h.buffer.toNat + st.fofs) st.flen = none) →
          s.mem.badByte (h.buffer.toNat + st.fofs) st.flen = none →
            (may h.rnum → exec (.rpass hd b) s = ends true (passRecord h.rnum g.toNat
              (memRead s.mem.spad (h.buffer.toNat + st.fofs) st.flen) h.sides)) ∧
            (¬ may h.rnum → exec (.rpass hd b) s = waits))))

/-- R195, R257, R258, R265, R295, R334: the collective words on an aligned parameter block. `coll` pays for the lines of its
group table and does not wait for them (log entry 48). -/
def Obligations.CollectiveWordsStartAndWait : Prop :=
  ∀ (hd : Hdr) (a b : Reg5) (s : State), acts hd s →
    let y := placeOf s (readS s b)
    let block := BitVec.ofNat 64 y
    let c := parseColl (memRead s.mem.spad y 128)
    let t := readGroup s.mem (coreWho s) c.gtab
    let state := natOfBytes (memRead s.mem.spad (y + 0x50) 4)
    let done : W64 := if state = 3 then 0 else if state = 4 then BitVec.ofInt 64 (-6) else BitVec.ofInt 64 (-7)
    let paid := charge s.east s.regionHandle 0 (hbmAccesses [{ lane := 0, addr := c.gtab, len := 16 + 2 * t.g }]) s
    let trap := fun (e : Nat) => next (raise (cause 5 0x09 (BitVec.ofNat 64 e) 0) s)
    y % 128 = 0 → y + 128 ≤ 0x14000000 →
      (callOf s block = none →
        (s.mem.badByte y 128 = none → s.mem.badByte c.gtab (16 + 2 * t.g) = none →
          (collOk s (coreWho s) c t = false → exec (.coll hd a b) s = next (raise (cause 10 0x03 block 0) paid)) ∧
          (collOk s (coreWho s) c t = true → syncPlaced c.sync = true →
            (callsOn s s.east < 64 → ∃ u k, exec (.coll hd a b) s = .next u ∧ callOf u block = some k ∧ k.pkt = c.pkt ∧
              k.g = t.g ∧ k.rank = t.rank ∧ k.state = (if t.g = 1 then .running else .matching) ∧ readS u a = 0) ∧
            (64 ≤ callsOn s s.east → putsS (exec (.coll hd a b) s) a (BitVec.ofInt 64 (-4)) paid))) ∧
        (∀ e, s.mem.badByte y 128 = some e → exec (.coll hd a b) s = trap e) ∧
        (s.mem.badByte (y + 0x50) 4 = none →
          putsS (exec (.cwait hd a b) s) a done s ∧ putsS (exec (.cstat hd a b) s) a done s) ∧
        (∀ e, s.mem.badByte (y + 0x50) 4 = some e → exec (.cwait hd a b) s = trap e ∧ exec (.cstat hd a b) s = trap e) ∧
        exec (.cabort hd b) s = next s) ∧
      (∀ k, callOf s block = some k →
        exec (.coll hd a b) s = next (raise (cause 10 0x02 block 0) s) ∧
        exec (.cwait hd a b) s = next (stallOn (.call block) s) ∧ putsS (exec (.cstat hd a b) s) a 1 s ∧
        (k.ending = none → ∃ u, exec (.cabort hd b) s = .next u ∧
          u.coll.aborts = s.coll.aborts ++ [(block, k.rank)] ∧
          (callOf u block).map (·.ending) = some (some (4, 0, BitVec.ofNat 16 k.rank))))

/-- R177, R196, R197, R202, R301, R305, R314: `launch` of a queue number beyond 4,095 traps; it answers -8 for a queue that is
not the region's valid device queue, -4 for a full one, and else appends its record and rings the queue, whatever the budget: it
never waits. `lstat` returns what stands in the queue and its binding, also of a queue never written. `waitt` waits until TIME
has reached its deadline and then completes, and `tnow` completes, outside replay. The EINFO of the trap and the charge of the
ring's line are the model's choices (log entries 25 and 48). -/
def Obligations.LaunchAndTimeWords : Prop :=
  ∀ (hd : Hdr) (a b : Reg5) (s : State), acts hd s →
    let x := placeOf s (readS s b)
    let n := (readS s a).setWidth 12
    let m := (readS s b).setWidth 12
    (4096 ≤ (readS s a).toNat → exec (.launch hd a b) s = next (raise (cause 8 0x0D (BitVec.ofNat 64 x) (readS s a)) s)) ∧
    ((readS s a).toNat < 4096 → reaches s false x 64 64 →
      ((∀ q, queueOf s n = some q → q.valid = false ∨ q.region ≠ s.regionHandle ∨ q.device = false) →
        putsS (exec (.launch hd a b) s) a (BitVec.ofInt 64 (-8)) s) ∧
      (∀ q, queueOf s n = some q → q.valid = true → q.region = s.regionHandle → q.device = true →
        (2 ^ q.log2n ≤ (q.tail - q.head).toNat → putsS (exec (.launch hd a b) s) a (BitVec.ofInt 64 (-4)) s) ∧
        ((q.tail - q.head).toNat < 2 ^ q.log2n →
          let at_ := q.ring.toNat + 64 * (q.tail.toNat % 2 ^ q.log2n)
          ∃ t, exec (.launch hd a b) s = .next t ∧ t.seq = s.seq.setS a 0 ∧
            t.mem = writeMem s.mem (regionWho s s.agent q.region) at_ (memRead s.mem.spad x 64) ∧
            (queueOf t n).map (fun y => (y.tail, y.head)) = some (q.tail + 1, q.head) ∧
            t.fw = (charge s.east s.regionHandle 0 1 s).fw ∧
            (isBound s.disp n = false → t.disp.bitmap.getLsbD n.toNat = true) ∧
            (isBound s.disp n = true → t.disp.bitmap = s.disp.bitmap)))) ∧
    (∃ v : W64, putsS (exec (.lstat hd a b) s) a v s ∧ v.getLsbD 32 = isBound s.disp m ∧
      v.extractLsb' 0 16 = (match queueOf s m with
        | some q => (q.tail - q.head).setWidth 16
        | none => 0) ∧
      v &&& 0xFFFFFFFEFFFF0000 = 0) ∧
    ((s.seq.supervisor = true ∨ replaying s = false) →
      (s.clock.time.toNat < (readS s b).toNat → exec (.waitt hd a b) s = next (stallOn (.time (readS s b)) s)) ∧
      ((readS s b).toNat ≤ s.clock.time.toNat → ∃ t, exec (.waitt hd a b) s = .next t ∧ (unlogged s → t.mem = s.mem) ∧
        t.seq.s = (s.seq.setS a ((if s.clock.lock then 0 else 2) |||
          (if (readS s b).toNat < s.clock.time.toNat ∧ s.seq.wait ≠ some (.time (readS s b)) then 1 else 0))).s) ∧
      (∃ t, exec (.tnow hd a b) s = .next t ∧ (unlogged s → t.mem = s.mem) ∧
        t.seq.s = ((s.seq.setS a s.clock.time).setS b (s.clock.frac.setWidth 64 |||
          (((if s.clock.hold then 2 else 0) ||| (if s.clock.lock then 1 else 0)) <<< 16))).s))

/-- R198, R199, R247, R338: the window words, and the residency words at a covered page of extent space. `rfence` and `rfencew`
wait while a write that they cover has not been applied: every one of the bay's on a path that lives, or those into the one window,
and copies issued that still write there; in a group already open that wait is over, which is the model's choice (log entries 16 and
77). That a page request joins the event ring at once, and the bytes of its entry, are its choices too (log entries 41 and 107). -/
def Obligations.WindowAndResidencyWords : Prop :=
  ∀ (hd : Hdr) (a b : Reg5) (w : TxWindow) (e : Extent) (s : State), acts hd s →
    let x := placeOf s (readS s b)
    let page := BitVec.ofNat 64 (x / 65536 * 65536)
    let pages := if s.east then s.host.pagesEast else s.host.pagesWest
    let pending := pages.any (fun p => p.page == page && p.pasid == s.seq.pasid)
    let closed := onSeq (fun q => { q with group := Group.closed, ifq := [], sb := [] }) s
    let covered := fun (o : Option TxWindow) =>
      (∃ p ∈ s.refl.send, p.dead = false ∧ ∃ y ∈ p.unacked, (y.agent = s.agent ∨ y.agent = s.copyAgent) ∧
        ∀ v, o = some v → y.window = v.id) ∨ ∃ op ∈ s.copy.queue ++ s.copy.fired, op.writesWindow o = true
    (covered none → exec (.rfence hd a) closed = next (stalledStep (.reflected none) false closed)) ∧
    (windowOf s x = some w → s.refl.tx.find? (·.id == w.id) = some w → covered (some w) →
      exec (.rfencew hd a b) closed = next (stalledStep (.reflected (some w.id)) false closed)) ∧
    putsS (exec (.rfence hd a) s) a (if anyLost s none then BitVec.ofInt 64 (-5) else 0) s ∧
    (windowOf s x = some w →
      putsS (exec (.rfencew hd a b) s) a (if anyLost s (some w.id) then BitVec.ofInt 64 (-5) else 0) s ∧
      putsS (exec (.wstat hd a b) s) a (windowStatus s.refl w) s) ∧
    (windowOf s x = none →
      let bad := next (raise (cause 9 0x01 (BitVec.ofNat 64 x) 0) s)
      exec (.rfencew hd a b) s = bad ∧ exec (.wstat hd a b) s = bad) ∧
    (0x100000000 ≤ x → x < 0x10000000000 → coverOf s.mem (coreWho s) x = some e →
      (isResident s.mem e x = true → putsS (exec (.pagereq hd a b) s) a 1 s) ∧
      (isResident s.mem e x = false →
        (pending = true → putsS (exec (.pagereq hd a b) s) a 0 s) ∧
        (pending = false → 64 ≤ pages.length → putsS (exec (.pagereq hd a b) s) a (BitVec.ofInt 64 (-4)) s) ∧
        (pending = false → pages.length < 64 → ∃ (t : State) (p : PageEvent), exec (.pagereq hd a b) s = .next t ∧ readS t a = 0 ∧
          p.page = page ∧ p.region = s.regionHandle ∧ p.pasid = s.seq.pasid ∧
          t.host.eventRing = s.host.eventRing ++ [(p.part, p.bytes)] ∧
          (if s.east then t.host.pagesEast else t.host.pagesWest) = pages ++ [p])) ∧
      ((s.seq.supervisor = true ∨ replaying s = false) → ∃ t, exec (.pstat hd a b) s = .next t ∧ (unlogged s → t.mem = s.mem) ∧
        t.seq.s = (s.seq.setS a (if isResident s.mem e x then 1 else if pending then 0 else 2)).s))

/-! ### Events of the bay -/

namespace Sys2Proof.Claims

/-- Bring-up has not failed: firmware and the host act on the device (R347). -/
def active (s : State) : Prop := ∀ n, s.fw.boot ≠ .failed n

end Sys2Proof.Claims

/-- R8, R9, R84, R145, R149, R155, R156, R178: a wait that is over is lifted; an acknowledged or landing result is written and
leaves the pending list; the X word that has not started starts once those before it have and its resource is free; and nothing
of this happens while the clamp holds the bay. The order in which what could land does so, which flags an acknowledgement brings,
and when a wait is seen to be over are the model's choices (log entries 11, 12, 17 and 35). -/
def Obligations.WaitsEndAndResultsLand : Prop :=
  ∀ (k : Nat) (fl : BitVec 4) (s : State),
    let freed := next (onSeq (fun q => { q with wait := none }) s)
    let lands := fun (p : Pending) => next (onSeq (fun q => landPending p { q with sb := q.sb.eraseIdx k }) s)
    (frozen s = true → ∀ i ∈ [Instr.feRequestServed, .waitConditionMet, .scoreboardedResultLanding k,
      .atomicAcknowledgement k fl, .xWordStart], exec i s = next s) ∧
    (frozen s = false →
      (∀ a full, s.seq.wait = some (.fullEmpty a full) →
        exec .feRequestServed s = if isFull s.mem (a.toNat / 8) = full then freed else next s) ∧
      (∀ a g y, s.seq.wait = some (.sync a g y) →
        exec .waitConditionMet s =
          if BitVec.ofNat 32 (natOfBytes (memRead s.mem.spad (a.toNat + 8) 4)) = g then next s else freed) ∧
      (∀ b, s.seq.wait = some (.call b) → exec .waitConditionMet s = if callOf s b = none then freed else next s) ∧
      (∀ i, s.seq.wait = some (.buffer i) →
        let c := slotAt s i.toNat
        let d := cbRead s.mem c.desc.toNat
        exec .waitConditionMet s =
          if d.state = 0 ∧ (if c.producer then d.room else d.avail) < d.quant then next s else freed) ∧
      (∀ i t, s.seq.wait = some (.submit i) → setFor s i = some t →
        exec .waitConditionMet s = if t.recs.length < 1024 then freed else next s) ∧
      (∀ i, s.seq.wait = some (.budget i) →
        exec .waitConditionMet s = if admitted s s.east s.regionHandle i = true then freed else next s) ∧
      (s.seq.wait = none → exec .feRequestServed s = next s ∧ exec .waitConditionMet s = next s) ∧
      (∀ p, s.seq.sb[k]? = some p →
        (canLand s k = true → p.awaitsAck = false → exec (.scoreboardedResultLanding k) s = lands p) ∧
        (canLand s k = true → p.kind = .atomic → exec (.atomicAcknowledgement k fl) s =
          lands (match p.hold with
            | some (.applied _ true) => { p with atomFlags := p.atomFlags ||| fl }
            | _ => p)) ∧
        (p.awaitsAck = true → exec (.scoreboardedResultLanding k) s = next s)) ∧
      (canLand s k = false →
        exec (.scoreboardedResultLanding k) s = next s ∧ exec (.atomicAcknowledgement k fl) s = next s) ∧
      (∀ before p after, s.seq.sb = before ++ p :: after → (∀ x ∈ before, x.started = true) → p.started = false →
        frozenNow s p = false →
        (∀ x ∈ before, (p.isMma = true → x.isMma = false) ∧ (p.isTlds = true → x.isTlds = false) ∧
          (p.isMma = false → p.isTlds = false → x.isMma = false ∧ x.isTlds = false)) →
          exec .xWordStart s = next (onSeq (fun q => { q with sb := before ++ { p with started := true } :: after }) s)) ∧
      ((∀ j, canStart s j = false) → exec .xWordStart s = next s))

/-- R8, R69, R86, R189, R292, R318, R324, R325, R334, R341: the nullifier moves the program counter alone; a corrected error and
a first residue mismatch are counted and hold the clamp until the last of their cycles passes; a trap that is due before the
words of the group is entered; a pre-emption request of dispatch ends a lock-step hold; a machine check stops the bay and kills
the fault domain that its unit was placed with, and an engine's kills the domain of the region it works for. Which errors come
about, and when, is the model's choice (log entry 95); so are the unit of another bay that leaves (log entry 4), the last cycle
that passes with a hold (log entry 10), the place of an engine's fault before the causes of the group (log entry 19), and the trap
of a malformed record at each boundary (log entry 46). -/
def Obligations.ClampAndTrapEvents : Prop :=
  ∀ (reader : SramReader) (bay : Nat) (d : BitVec 6) (x : W64) (h : W32) (s : State),
    let own := s.seq.bayId.toNat
    let logged := onFw (fun f => { f with checks := f.checks ++
      [{ detail := d, bay := s.seq.bayId, epc := s.seq.epc, einfo := x }] }) s
    let halted := onSeq (fun q => { q with stopped := true, group := Group.closed }) logged
    (isRunning s = true → frozen s = false → fetchFailure s = none → fetchAdmitted s = true →
      nullified s (groupWords s) = true →
      let n := (groupWords s).length
      ∃ t, exec .lookAheadNullifier s = .next t ∧
        t = { fetched s with seq := { (fetched s).seq with
          pc := t.seq.pc, gpos := t.seq.gpos, loops := t.seq.loops, resumeDone := 0, wait := none } } ∧
        (s.seq.gpos + n < 3 → t.seq.pc = s.seq.pc ∧ t.seq.gpos = s.seq.gpos + n ∧ t.seq.loops = s.seq.loops) ∧
        (3 ≤ s.seq.gpos + n → s.seq.loops = [] → t.seq.pc = s.seq.pc + 1 ∧ t.seq.gpos = 0)) ∧
    (bay < 160 → ∃ t, exec (.correctableSramError reader bay) s = .next t ∧
      errmapWord t.fw bay 131 = errmapWord s.fw bay 131 + 1 ∧ t.mem = s.mem ∧
      t.seq = if reader = .bay ∧ bay = own then { s.seq with corrections := s.seq.corrections ++ [32] } else s.seq) ∧
    (own < 160 → ∀ v : Bool, ∃ t, exec (.residueGuardMismatch v false) s = .next t ∧
      errmapWord t.fw own 133 = errmapWord s.fw own 133 + 1 ∧ t.mem = s.mem ∧
      t.seq = if v then { s.seq with residue := 8 } else s.seq) ∧
    (let passed := next (passCycle (copyRetest (onSeq (fun q => { q with
        corrections := (q.corrections.map (· - 1)).filter (· != 0), residue := q.residue - 1
        cpycHold := q.cpycHold && (q.supervisor || q.engineFaults.isEmpty) }) s)))
     (1 ∈ s.seq.corrections → s.seq.stopped = false → exec .correctionHoldEnd s = passed) ∧
     (s.seq.residue = 1 → s.seq.stopped = false → exec .residueHoldEnd s = passed) ∧
     (1 ∉ s.seq.corrections → exec .correctionHoldEnd s = next s) ∧
     (s.seq.residue ≠ 1 → exec .residueHoldEnd s = next s)) ∧
    (frozen s = true → exec .trapEntry s = next s ∧ exec .lookAheadNullifier s = next s) ∧
    (isRunning s = true → frozen s = false →
      (∀ t rest, s.seq.supervisor = false → s.seq.engineFaults = t :: rest →
        exec .trapEntry s = next (deliverTrap t 0 (onSeq (fun q => { q with engineFaults := rest }) s))) ∧
      (s.seq.supervisor = false → s.seq.engineFaults = [] → s.seq.record.malformed = true →
        exec .trapEntry s = next (deliverTrap (cause 12 0x08 (BitVec.ofNat 64 (12 * s.seq.pc.toNat)) s.seq.record.addr) 0 s)) ∧
      (s.seq.supervisor = true ∨ (s.seq.engineFaults = [] ∧ s.seq.record.malformed = false) →
        (fetchFailure s = none → exec .trapEntry s = next s) ∧
        ∀ t, fetchFailure s = some t → exec .trapEntry s = next (deliverTrap t 0 s))) ∧
    (∀ u, isRunning s = true → s.disp.elsewhere = [] → placedUnit s = some u → ∃ t, exec .preemptionRequest s = .next t ∧
      t.mem = s.mem ∧ t.seq = { s.seq with preempt := some .hard, cpycHold := false }) ∧
    (∀ u rest, s.disp.elsewhere = some u.key :: rest → unitOf s u.key = some u → u.phase = .placed → u.bay ≠ own →
      u.asked = some .hard → ∃ t, exec .preemptionRequest s = .next t ∧ t.disp.elsewhere = rest ∧
        (unitOf t u.key).map (fun x => (x.phase, x.asked)) = some (.savedHard, none)) ∧
    (s.seq.stopped = false → d = 2 ∨ d = 3 ∨ d = 4 ∨ d = 7 →
      (checkUnitOf s = none → exec (.machineCheck .bay d x) s = next halted) ∧
      (∀ u, checkUnitOf s = some u → exec (.machineCheck .bay d x) s =
        next (if u.domain = 0 then killDomain u.region halted else killBeneath u.domain halted))) ∧
    (s.seq.stopped = false → exec (.residueGuardMismatch true true) s = exec (.machineCheck .bay 0x07 0) s) ∧
    (d = 4 → exec (.machineCheck (.engine h) d x) s = next (killDomain h logged)) ∧
    (bay < 0x14000000 → ∃ t, exec (.machineCheck (.slice bay) d x) s = .next t ∧ t.seq = s.seq ∧
      (t.mem.badByte bay 1).isSome = true ∧ t.mem.spad = s.mem.spad) ∧
    exec (.machineCheck .lanes d x) s = next (onSeq (fun q => { q with lanesDiffer := true }) s) ∧
    exec (.machineCheck .chain d x) s = next (onSeq (fun q => { q with chainFails := true }) s)

/-! ### Events of the copy engine and the stage router -/

/-- R8, R186 to R189, R295, R296, R324, R326, R334: the copy engine's events: the start of a due head operation that its budget
admits, the retest of a held lock-step start, the completion of an operation that has moved all its bytes, the firing of armed
copies, and a fault; the engine stands still while the clamp holds the bay and once a context command has captured it, and an
uncorrectable error that it comes to is a machine check of the bay. A start that a hard request or a fault of an engine has
withdrawn is not tested until the unit resumes. EINFO of a class 4 fault, and until when a start stays withdrawn, are the model's
choices (log entries 86 and 101). -/
def Obligations.CopyEngineEvents : Prop :=
  ∀ (op : CopyOp) (rest : List CopyOp) (s : State), s.copy.queue = op :: rest →
    let started := fun (n : Nat) => charge s.east s.regionHandle 3 n
      (onCopy (fun c => { c with queue := { op with started := true, total := n, waiting := false } :: rest })
        (onSeq (fun q => { q with cpycHold := false }) s))
    let may := admitted (onFw settleCharges s) s.east s.regionHandle 3
    let hit := fun (o : CopyOp) =>
      decide ((BitVec.ofNat 32 (natOfBytes (memRead s.mem.spad (o.trig.toNat + 8) 4)) - o.tgen).toNat < 2 ^ 31)
    (engineHeld s = true → ∀ i ∈ [Instr.copyOperationStart, .copyOperationComplete, .cpyaFire, .copyEngineFault],
      exec i s = next s) ∧
    (s.seq.cpycHold = false → exec .cpycHoldEnd s = next s) ∧
    (op.kind = .lockstep → s.seq.supervisor = true ∨ s.seq.preempt = some .hard ∨ s.seq.engineFaults ≠ [] →
      exec .cpycHoldEnd s = next s ∧
      (engineHeld s = false → copyDamaged s = false → exec .copyOperationStart s = next s)) ∧
    (s.seq.cpycHold = true → s.seq.supervisor = false → s.seq.preempt ≠ some .hard → s.seq.engineFaults = [] →
      op.started = false → op.left = 0 → op.kind = .lockstep → headDamaged s = false →
      (lockstepTest op s = .inr none → exec .cpycHoldEnd s = next s) ∧
      (∀ n, lockstepTest op s = .inr (some n) → may = true → exec .cpycHoldEnd s = next (started n))) ∧
    (engineHeld s = false →
      (headDamaged s = true → exec .copyOperationStart s = next (machineCheck 0x04 0 s)) ∧
      (op.started = true ∨ op.left ≠ 0 → copyDamaged s = false → exec .copyOperationStart s = next s) ∧
      (op.started = false → op.left = 0 → op.kind ≠ .lockstep → headDamaged s = false →
        (may = true → copyDamaged (started op.total) = false → exec .copyOperationStart s = next (started op.total)) ∧
        (may = true → copyDamaged (started op.total) = true →
          exec .copyOperationStart s = next (machineCheck 0x04 0 (started op.total))) ∧
        (may = false → triggerDamaged s = false → ∃ t, exec .copyOperationStart s = .next t ∧ t.mem = s.mem ∧
          t.seq = { s.seq with cpycHold := false } ∧ t.copy.queue = { op with waiting := true } :: rest)) ∧
      (op.started = true → op.done = op.total → op.kind ≠ .lockstep → headDamaged s = false →
        let settled := onFw settleCharges s
        let published := onMem (fun m => s.copy.written.foldl (fun m g => publishRange m s.copyAgent (64 * g) 64) m) settled
        let counted := if op.sync = 0 then published else countArrival op.sync.toNat op.total published
        let completed := onCopy (fun c => { c with queue := rest, doneCount := c.doneCount + 1, written := [] }) counted
        copyDamaged completed = false → exec .copyOperationComplete s = next completed) ∧
      (let fired := onCopy (fun c => { c with
        armed := c.armed.filter (fun o => !hit o), fired := c.fired ++ c.armed.filter hit }) s
       triggerDamaged s = false → copyDamaged fired = false → exec .cpyaFire s = next fired) ∧
      (∀ f : Failure, op.started = true → op.unitLen s ≠ 0 → op.done % op.unitLen s = 0 → op.done < op.total →
        checkUnit s op (op.done / op.unitLen s) = some f → f.trap.cls ≠ 6 →
          ∃ t, exec .copyEngineFault s = .next t ∧ t.copy = { s.copy with queue := [], written := [] } ∧
            t.seq.engineFaults = s.seq.engineFaults ++ [{ f.trap with
              einfo := if f.trap.cls = 4 then f.trap.einfo
                else (op.descAddr &&& 0xFFFFFFFFFFFF) ||| (BitVec.ofNat 64 rest.length <<< 48)
              source := faultSource f.trap }] ∧
            t.seq.pc = s.seq.pc ∧ t.seq.s = s.seq.s))

/-- R179, R219, R220, R229, R231 to R233, R295, R296, R334: a legal stage set is installed in an entry that is not in use, with the
router as its sink's producer, and any other is refused; a record is routed to the stage drawn, or in fixed order to its first
stage not done; a finished record retires into the sink, when its budget admits the lines of its store entry and nothing that is
read is damaged; a removed set in use is broken, and a retired or broken one is removed. That an entry in use is refused, the log's
line of a refusal, the charges of store entries, the entry's bytes and when a removed set's entry becomes empty are the model's
choices (log entries 83, 48, 58 and 136). -/
def Obligations.StageRouterEvents : Prop :=
  ∀ (east : Bool) (idx : BitVec 4) (region : W32) (desc : List Byte) (s : State), active s →
    let inUse := ∃ t, setEntry s east idx = some t ∧ t.isRetired = false ∧ t.broken = false
    (parseSet s.mem east idx region (regionXtbl s region) desc = none ∨ inUse →
      exec (.stageSetInstall east idx region desc) s = next (logEntry .refusedInstall s)) ∧
    (∀ t, parseSet s.mem east idx region (regionXtbl s region) desc = some t → ¬ inUse →
      ∃ u, exec (.stageSetInstall east idx region desc) s = .next u ∧ setEntry u east idx = some t ∧
        (∀ e i, ¬ (e = east ∧ i = idx) → setEntry u e i = setEntry s e i) ∧ u.seq = s.seq ∧
        (cbRead u.mem t.sink.toNat).pagent = (routerAgent east).toNat ∧
        (0x14000000 ≤ t.store.toNat → ownerOf u.mem (t.sink.toNat / 64) = some .pub)) ∧
    (setEntry s east idx = none → exec (.routing east idx) s = next s ∧ exec (.retirement east idx) s = next s ∧
      exec (.stageSetRemoval east idx) s = next s) ∧
    (∀ t, setEntry s east idx = some t →
      (t.isRetired = false → t.broken = false →
        exec (.stageSetRemoval east idx) s = next (onMem (fun m => cbEnd m t.sink.toNat 4)
          (onSet east idx (fun x => { x with
            broken := true, recs := [], route := [], stages := x.stages.map (fun y => { y with queue := [] }) }) s))) ∧
      (t.isRetired = true ∨ t.broken = true → ∃ u, exec (.stageSetRemoval east idx) s = .next u ∧
        setEntry u east idx = none ∧ (∀ e i, ¬ (e = east ∧ i = idx) → setEntry u e i = setEntry s e i) ∧
        u.mem = s.mem ∧ u.seq = s.seq) ∧
      (t.route = [] → exec (.routing east idx) s = next s) ∧
      (∀ n rest r g l, t.route = n :: rest → t.rec? n = some r → chooseStage t r = some (g, l) →
        (admitted s east t.region 4 = true → exec (.routing east idx) s = next (onSet east idx (fun t =>
          onStage g (fun x => { x with queue := x.queue ++ [n] }) { t with route := rest, lfsr := l })
            (charge east t.region 4 1 (onSet east idx (fun x => { x with waiting := x.waiting.filter (· != 4) }) s)))) ∧
        (admitted s east t.region 4 = false → ∃ u, exec (.routing east idx) s = .next u ∧
          (setEntry u east idx).map (·.route) = some t.route ∧ u.mem = s.mem ∧ u.seq = s.seq)) ∧
      (∀ r g st, t.fixed = true → t.stages[g]? = some st → r.done.getLsbD g = false →
        (∀ j, j < g → r.done.getLsbD j = true) → st.queue.length < st.qdepth → chooseStage t r = some (g, t.lfsr)) ∧
      (∀ r, t.rec? t.retired = some r →
        (r.status = .inFlight → exec (.retirement east idx) s = next s) ∧
        (r.status ≠ .inFlight → t.broken = false → r.sides = [] →
          (s.mem.badByte t.sink.toNat 64 ≠ none ∨ entryDamaged s.mem t r.rnum = true →
            exec (.retirement east idx) s = next (alarm t.region s)) ∧
          (s.mem.badByte t.sink.toNat 64 = none → entryDamaged s.mem t r.rnum = false →
            let d := cbRead s.mem t.sink.toNat
            let a := d.elem d.pcnt
            let lines := entryLines t r.rnum
            let paid := if lines = 0 then s else charge t.east t.region 0 lines
              (onSet t.east t.idx (fun x => { x with waiting := x.waiting.filter (· != 0) }) s)
            (d.room = 0 → exec (.retirement east idx) s = next s) ∧
            (d.room ≠ 0 → t.stats = 0 → t.limit = 0 → (r.rnum.toNat + 1) % 2 ^ t.lwin ≠ 0 →
              (lines ≠ 0 → admitted s t.east t.region 0 = false → ∃ u, exec (.retirement east idx) s = .next u ∧
                u.mem = s.mem ∧ u.seq = s.seq ∧ (setEntry u east idx).map (·.recs) = some t.recs) ∧
              (lines = 0 ∨ admitted s t.east t.region 0 = true →
                (∀ p ∈ granuleParts a t.rsize, writeRaceAt s.mem (routerAgent t.east) p.1 = none) →
                exec (.retirement east idx) s = next (onSet t.east t.idx
                  (fun t => { t with retired := t.retired + 1, recs := t.recs.filter (·.rnum != r.rnum) })
                  (onMem (fun m => cbAddP (publishRange (m.putSpad a (sinkElement t r))
                    (routerAgent t.east) a t.rsize) t.sink.toNat 1) paid))) ∧
              (lines = 0 ∨ admitted s t.east t.region 0 = true →
                (∃ p ∈ granuleParts a t.rsize, writeRaceAt s.mem (routerAgent t.east) p.1 ≠ none) →
                exec (.retirement east idx) s = next (breakSet t.east t.idx paid)))))))

/-! ### Events of collective calls -/

/-- R255, R258, R259, R262 to R265, R295, R296, R334: how a call in flight moves: matching and its failures, its timeouts, an abort,
a chunk, the reduction in rank order, its end, and the eviction of its region. PEER as the lowest rank that disagrees or is
missing, an eviction that asks the region's units on every bay to leave hard, and the order of chunks are the model's choices
(log entries 60, 57, 4 and 82). -/
def Obligations.CollectiveEvents : Prop :=
  ∀ (block : W64) (rank : Nat) (p : FirstPacket) (c : Call) (s : State), callOf s block = some c → active s →
    let ends := fun (r : Host.Outcome State Fault Refusal) (st : Byte) (code : BitVec 10) (peer : BitVec 16) =>
      ∃ t, r = .next t ∧ (callOf t block).map (·.ending) = some (some (st, code, peer))
    let elapsed := (s.clock.time - c.since).toNat
    let a := block.toNat
    let seen := c.packets ++ [(rank, p)]
    (c.ending = none → ends (exec (.collAbortReceived block rank) s) 4 0 (BitVec.ofNat 16 rank)) ∧
    (c.state = .matching → rank < c.g → rank ≠ c.rank → (∀ x ∈ c.packets, x.1 ≠ rank) →
      (∀ r x, c.ending = none ∨ (∃ peer, c.ending = some (5, 0x284, peer)) → x ∈ seen → x.1 = r → x.2 ≠ c.pkt → r < c.g →
        (∀ y ∈ seen, y.1 < r → y.2 = c.pkt) →
          ends (exec (.collFirstPacket block rank p) s) 5 0x284 (BitVec.ofNat 16 r)) ∧
      (c.ending = none → (∀ x ∈ seen, x.2 = c.pkt) →
        (seen.length + 1 = c.g → ∃ t, exec (.collFirstPacket block rank p) s = .next t ∧
          (callOf t block).map (fun k => (k.state, k.since)) = some (.running, s.clock.time) ∧
          natOfBytes (memRead t.mem.spad (a + 0x50) 4) = 2) ∧
        (seen.length + 1 ≠ c.g → exec (.collFirstPacket block rank p) s =
          next (onCall block (fun k => { k with packets := seen }) s)))) ∧
    (c.ending = none → c.state = .matching → ∀ r, r < c.g → r ≠ c.rank → (∀ x ∈ c.packets, x.1 ≠ r) →
      (∀ j, j < r → j = c.rank ∨ ∃ x ∈ c.packets, x.1 = j) →
      (if c.t1 = 0 then 10000 else c.t1.toNat) * 1000 ≤ elapsed →
        ends (exec (.collMatchTimeout block) s) 5 0x285 (BitVec.ofNat 16 r)) ∧
    (c.ending = none → c.state = .running → (if c.t2 = 0 then 1000 else c.t2.toNat) * 1000 ≤ elapsed →
      (c.evicted = false → ∃ peer, ends (exec (.collChunkTimeout block) s) 5 0x286 peer) ∧
      (c.evicted = true → ends (exec (.collChunkTimeout block) s) 4 0 (BitVec.ofNat 16 c.rank))) ∧
    (∀ east credited peers, (∀ k ∈ s.coll.calls, k.evicted = false) →
      let ready := s.coll.calls.filter (fun k => k.east == east && k.hasChunk && credited.contains k.block)
      (ready = [] → exec (.collChunkStart east credited peers) s = next s) ∧
      (∀ k, ready = [k] → chunkAdmitted s k = true →
        (chunkDamaged s k = false → (k.fits peers = false → exec (.collChunkStart east credited peers) s = next s) ∧
          exec (.collChunkStart east credited peers) s = next (runChunk k peers s)) ∧
        (chunkDamaged s k = true → exec (.collChunkStart east credited peers) s = next (engineCheck k.region 0x04 0 s))) ∧
      (∀ k, ready = [k] → chunkAdmitted s k = false → exec (.collChunkStart east credited peers) s =
        next (if k.waiting then s else countStall k.east k.region (onCall k.block (fun x => { x with waiting := true }) s)))) ∧
    (∀ (g key : Nat) (x : W32) (xs : List W32), p.ord = true → p.dtype = 1 → p.carry = 0 ∨ p.carry = 1 → p.rop = 0 →
      (reduceWord p g key (x :: xs)).val = xs.foldl (fun u y => (addF32 u y).val) x) ∧
    (c.ending = none → c.state = .running → c.chunks ≤ c.chunk → s.mem.badByte c.sync.toNat 16 = none →
      c.sync.toNat + 16 ≤ a ∨ a + 128 ≤ c.sync.toNat →
      let t0 := syncTarget s.mem c.sync.toNat
      ∃ t, exec (.collCallEnd block) s = .next t ∧ callOf t block = none ∧
        natOfBytes (memRead t.mem.spad (a + 0x50) 4) = 3 ∧
        (t0 ≠ 0 → syncCount s.mem c.sync.toNat < t0 →
          syncGen t.mem c.sync.toNat = syncGen s.mem c.sync.toNat + 1 ∧ syncCount t.mem c.sync.toNat = 0)) ∧
    (∃ t, exec (.hardEviction c.region) s = .next t ∧
      t.coll.calls = s.coll.calls.map (fun x => if x.region == c.region then { x with evicted := true } else x) ∧
      (∀ u, placedUnit s = some u → u.region = c.region → u.phase = .placed → holdsIssue s u = false →
        t.mem = s.mem ∧ t.seq = { s.seq with preempt := some .hard, cpycHold := false }) ∧
      (∀ u, unitOf s u.key = some u → u.region = c.region → u.phase = .placed → holdsIssue s u = false →
        s.seq.unit ≠ some u.key → (unitOf t u.key).map (·.asked) = some (some .hard)) ∧
      ((∀ u ∈ s.disp.units, s.seq.unit = some u.key → u.region ≠ c.region) → t.seq = s.seq))

/-! ### Events of contexts and replies -/

/-- R22, R23, R25 to R27, R293, R296, R311, R318, R322, R324, R326, R332: context commands of supervisor code, the replies of a
fault handler, soft pre-emption, and what the killing of a region leaves of its node and queues. Forwarding without a fault area or
a handler, the failure of a save area, the units of other bays, the saved queue and loop-back writes that an abort waits for, that
op 0 waits for its region's budget, and when a chain check fails are the model's choices (log entries 54, 56, 4, 109, 48 and 95). -/
def Obligations.ContextAndReplyEvents : Prop :=
  ∀ (u : UnitRec) (s : State),
    let phaseOf := fun (t : State) => (unitOf t u.key).map (·.phase)
    let command := s.seq.supervisor = true ∧ s.seq.masked = false ∧ s.seq.unit.isSome = true ∧ frozen s = false
    (¬ command → ∀ i ∈ [Instr.ctxcmdSave, .ctxcmdRelease, .ctxcmdForward], exec i s = next s) ∧
    (command → (∀ p ∈ s.seq.sb, frozenNow s p = true) → atBoundary s = true →
      (areaOk s s.seq.saveptr.toNat 614400 = true → admitted s s.east s.regionHandle 0 = false → exec .ctxcmdSave s = next s) ∧
      (areaOk s s.seq.saveptr.toNat 614400 = true → admitted s s.east s.regionHandle 0 = true →
        (s.seq.chainFails = true → exec .ctxcmdSave s =
          next (machineCheck 0x06 s.seq.einfo (onSeq (fun q => { q with chainFails := false }) s))) ∧
        (s.seq.chainFails = false → ∃ t, exec .ctxcmdSave s = .next t ∧
          t.seq = { s.seq with saved := true } ∧ t.copy = s.copy ∧ t.disp = s.disp ∧
          t.mem = (writeContext .hard Kept.all s.seq.saveptr.toNat s).mem)) ∧
      (areaOk s s.seq.saveptr.toNat 614400 = false → exec .ctxcmdSave s = next (machineCheck 0x05 s.seq.einfo s))) ∧
    ((∃ p ∈ s.seq.sb, frozenNow s p = false) ∨ atBoundary s = false → exec .ctxcmdSave s = next s) ∧
    (s.seq.saved = false → exec .ctxcmdRelease s = next s ∧ exec .ctxcmdForward s = next s) ∧
    (command → s.seq.saved = true → placedUnit s = some u →
      (∃ t, exec .ctxcmdRelease s = .next t ∧ t.seq.unit = none ∧ t.seq.last = some u.key ∧ t.seq.saved = false ∧
        t.copy.queue = [] ∧ t.copy.armed = [] ∧ phaseOf t = some .savedHard) ∧
      (∀ n, nodeOf s.fw u.region = some n → isHandler s u = false →
        (u.farea ≠ 0 → u.fhrec ≠ 0 → ∃ t l, exec .ctxcmdForward s = .next t ∧ t.seq.unit = none ∧
          phaseOf t = some .faulted ∧ t.disp.launches = s.disp.launches ++ [l] ∧ l.handles = some u.key ∧
          l.region = u.region ∧ l.recAddr = u.fhrec ∧ l.argp = u.farea + 128 * BitVec.ofNat 64 (n.faults.toNat % 64)) ∧
        (u.farea = 0 ∨ u.fhrec = 0 → s.copy.queue = [] → loopbackDrained s u.bay = true →
          ∃ t, exec .ctxcmdForward s = .next t ∧ t.seq.unit = none ∧ phaseOf t = some .ended))) ∧
    (unitOf s u.key = some u →
      let answer := fun (ok : Byte → Bool) => s.disp.replies.find? (fun r => r.unit == u.key && ok r.action)
      let answered := fun r => onDisp (fun d => { d with replies := d.replies.erase r }) s
      let aborts := fun (e : Host.Outcome State Fault Refusal) (r : Reply) =>
        let later := onDisp (fun d => { d with replies := d.replies ++ [{ unit := u.key, action := 0, tile := 0 }] })
        (u.queue = [] → loopbackDrained s u.bay = true →
          ∃ t, e = .next t ∧ phaseOf t = some .ended ∧ t.disp.replies = s.disp.replies.erase r) ∧
        (∀ w, drainSaved u (answered r) = some w → loopbackDrained w u.bay = false → e = next (later w)) ∧
        (drainSaved u (answered r) = none → e = next (later (answered r)))
      (answer (· == 0) = none → exec (.replyAbort u.key) s = next s) ∧
      (answer (· == 1) = none → exec (.replyResume u.key) s = next s) ∧
      (answer (· == 2) = none → exec (.replyRetryFromMark u.key) s = next s) ∧
      (answer (3 ≤ ·) = none → exec (.replyKillRegion u.key) s = next s) ∧
      (∀ r, answer (· == 0) = some r → aborts (exec (.replyAbort u.key) s) r) ∧
      (∀ r, answer (· == 1) = some r → ∃ t, exec (.replyResume u.key) s = .next t ∧ phaseOf t = some .savedHard ∧
        t.disp.replies = s.disp.replies.erase r ∧ t.mem = s.mem) ∧
      (∀ r, answer (· == 2) = some r →
        (canRetry s u r.tile = true → ∃ t, exec (.replyRetryFromMark u.key) s = .next t ∧
          (unitOf t u.key).map (fun x => (x.phase, x.retry)) = some (.savedHard, some r.tile)) ∧
        (canRetry s u r.tile = false → aborts (exec (.replyRetryFromMark u.key) s) r)) ∧
      (∀ r, answer (3 ≤ ·) = some r → exec (.replyKillRegion u.key) s = next (killRegion u.region (answered r)))) ∧
    (∀ h, (∀ n ∈ (killRegion h s).fw.nodes, n.handle = h → n.killed = true) ∧
      ∀ q ∈ (killRegion h s).disp.queues, q.region = h → q.valid = false) ∧
    (s.disp.elsewhere = [] → softReady s = false →
      exec .iterationPreemption s = next s ∧ exec .nodePreemption s = next s) ∧
    (s.disp.elsewhere = [] → softReady s = true → placedUnit s = some u → areaOk s (slotBase s u) 614400 = true →
      s.seq.chainFails = false →
      let leaves := fun (r : Host.Outcome State Fault Refusal) (ph : UnitPhase) (w : Option (W64 × W32)) =>
        ∃ t, r = .next t ∧ t.seq.unit = none ∧ t.seq.last = some u.key ∧ t.copy.queue = [] ∧
          (unitOf t u.key).map (fun x => (x.phase, x.waiting)) = some (ph, w) ∧
          (ph = .savedNode → (unitOf t u.key).map (·.cmdp) = some (s.seq.cmdp - 8))
      (∀ a g, s.seq.wait = some (.sync a g true) → s.seq.preempt = some .soft →
        leaves (exec .iterationPreemption s) .savedIteration (some (a, g))) ∧
      (s.seq.preempt = some .saving → leaves (exec .iterationPreemption s) .savedIteration none) ∧
      (s.seq.preempt = some .soft → s.copy.queue = [] → s.copy.fired = [] → atNode s = true →
        leaves (exec .nodePreemption s) .savedNode none)) ∧
    (∀ rest, s.disp.elsewhere = some u.key :: rest → unitOf s u.key = some u → u.phase = .placed →
      u.bay ≠ s.seq.bayId.toNat → u.asked = some .soft →
      let leaves := fun (r : Host.Outcome State Fault Refusal) (ph : UnitPhase) => ∃ t, r = .next t ∧
        (unitOf t u.key).map (fun x => (x.phase, x.waiting, x.asked)) = some (ph, none, none)
      leaves (exec .iterationPreemption s) .savedIteration ∧
      ((launchOf s u.launch).map (·.kind) = some 1 → leaves (exec .nodePreemption s) .savedNode))

/-! ### Events of queues and dispatch -/

/-- R267, R293, R294, R296, R301 to R310, R313, R315, R334: the queue table, doorbells and head mirrors, the slot table and the activity
bitmap, records taken and judged, and a launch's dependency, completion, ageing, timed start and ready word. The checks of a
queue-table entry, what a killed region's entries and launches wait for, the place of ready words and the judgement of gangs,
refusals across partitions, the units of other bays, and when an engine's machine check is due are the model's choices (log entries
55, 74, 90, 4 and 78). -/
def Obligations.QueueAndLaunchEvents : Prop :=
  (∀ (fn queue off : Nat) (data : List Byte) (s : State), active s →
    let n := natOfBytes data
    let refused := next (mailboxError fn (4096 * queue + off) s)
    (queueOf s (BitVec.ofNat 12 queue) = none → exec (.tailWrite fn queue off data) s = refused) ∧
    (∀ q, queueOf s (BitVec.ofNat 12 queue) = some q →
      let takes := queue < 4096 ∧ off = 0 ∧ data.length = 8 ∧ q.valid = true ∧ q.device = false ∧
        functionOwns s fn q.region = true ∧ q.tail.toNat ≤ n ∧ n ≤ q.head.toNat + 2 ^ q.log2n
      (¬ takes → exec (.tailWrite fn queue off data) s = refused) ∧
      (takes → n = q.tail.toNat → exec (.tailWrite fn queue off data) s = next s) ∧
      (takes → n ≠ q.tail.toNat → ∃ t, exec (.tailWrite fn queue off data) s = .next t ∧ t.mem = s.mem ∧ t.seq = s.seq ∧
        (queueOf t q.idx).map (fun x => (x.tail, x.head)) = some (BitVec.ofNat 64 n, q.head) ∧
        (isBound s.disp q.idx = false → t.disp.bitmap.getLsbD q.idx.toNat = true) ∧
        (isBound s.disp q.idx = true → t.disp.bitmap = s.disp.bitmap)))) ∧
  (∀ (idx : BitVec 12) (entry : List Byte) (s : State), active s →
    let theirs := fun (q : Queue) => ∃ x ∈ s.disp.queues, x.idx = idx ∧ x.valid = true ∧ sharesPart s x.region q.region = false
    let breaks := ∃ o, queueOf s idx = some o ∧ isBreaking s o.region = true
    (∀ q, parseQueue s idx entry = some q →
      (breaks → exec (.queueTableWrite idx entry) s = next s) ∧
      (¬ breaks → ¬ theirs q → ∃ t, exec (.queueTableWrite idx entry) s = .next t ∧
        queueOf t idx = some { q with epoch := ((queueOf s idx).map (·.epoch + 1)).getD 0 } ∧
        (∀ j, j ≠ idx → queueOf t j = queueOf s j) ∧ t.mem = s.mem ∧ t.seq = s.seq) ∧
      (¬ breaks → theirs q → exec (.queueTableWrite idx entry) s = next (logEntry .refusedInstall s))) ∧
    (parseQueue s idx entry = none → exec (.queueTableWrite idx entry) s = next (logEntry .refusedInstall s))) ∧
  (∀ (q : Queue) (n c : Rcb) (hi : Nat) (s : State), queueOf s q.idx = some q →
    let a := q.hmirr.toNat
    (q.due = false → exec (.headMirrorStore q.idx) s = next s) ∧
    (q.due = true → q.mirrored = none → q.hmirr ≠ 0 →
      (rowOf a = some (.extent, hi) → ∃ t, exec (.headMirrorStore q.idx) s = .next t ∧
        t.mem = writeMem s.mem (regionWho s 0x1FF q.region) a (bytesOfBits q.head) ∧ t.seq = s.seq ∧
        (queueOf t q.idx).map (fun x => (x.due, x.mirrored)) = some (false, some s.clock.time)) ∧
      (rowOf a = some (.host, hi) → nodeOf s.fw q.region = some n → contextOf s.fw n = some c →
        hostReady (onSeq (fun x => { x with pasid := c.pasid }) s) a 8 = true →
          ∃ t, exec (.headMirrorStore q.idx) s = .next t ∧ t.mem = s.mem ∧ t.seq = s.seq ∧
            (queueOf t q.idx).map (fun x => (x.due, x.mirrored)) = some (false, some s.clock.time) ∧
            (t.host.posted.drop s.host.posted.length).map (·.data) =
              (hostWords a 8).map (fun p => bytesAt (bytesOfBits q.head) (p.1 - a) p.2)))) ∧
  (∀ (i : BitVec 8) (k : BitVec 6) (x : W64) (s : State), active s →
    (∃ t, exec (.dispatchSlotTableWrite i x) s = .next t ∧ slotEntry t.disp i.toNat = x &&& 0x000000FFFC001FFF ∧
      (∀ j : BitVec 8, j ≠ i → slotEntry t.disp j.toNat = slotEntry s.disp j.toNat) ∧ t.mem = s.mem ∧ t.seq = s.seq) ∧
    (∃ t, exec (.activityBitmapClear k x) s = .next t ∧ t.mem = s.mem ∧ t.seq = s.seq ∧ ∀ j, j < 4096 →
      t.disp.bitmap.getLsbD j = (s.disp.bitmap.getLsbD j && !(j / 64 == k.toNat && x.getLsbD (j % 64))))) ∧
  (∀ (q : Queue) (s : State), queueOf s q.idx = some q → q.valid = true → isBound s.disp q.idx = true →
    q.head.toNat < q.tail.toNat → (∀ l ∈ s.disp.launches, l.queue ≠ some q.idx) →
    (∀ l ∈ s.disp.launches, l.key ≠ s.disp.fresh) → isBreaking s q.region = false →
      let b := queueRecord s q q.head.toNat
      let bad := (judgeRecord s q b).1
      let units := fieldAt b 0xC 4
      ∃ t, exec (.recordTake q.idx) s = .next t ∧ (queueOf t q.idx).map (·.head) = some (q.head + 1) ∧ t.seq = s.seq ∧
        ∃ l, launchOf t s.disp.fresh = some l ∧ l.number = q.head ∧ l.units = units ∧ l.prio = q.prio ∧
          l.region = q.region ∧ l.csync = BitVec.ofNat 64 (fieldAt b 0x20 8) ∧
          (bad = true → l.phase = .ended ∧ l.outcome = 3) ∧
          (bad = false → 2 ^ 24 < units → l.phase = .ended ∧ l.outcome = 2) ∧
          (bad = false → units = 0 → l.phase = .ended ∧ l.outcome = 1) ∧
          (bad = false → units ≠ 0 → units ≤ 2 ^ 24 → t.mem = s.mem ∧ l.phase =
            (if fieldAt b 1 1 % 2 = 1 then .dependency else if fieldAt b 1 1 / 2 % 2 = 1 then .timed else .ready))) ∧
  (∀ (l : Launch) (s : State), launchOf s l.key = some l →
    (l.phase = .dependency → syncPlaced l.dsync.toNat = true → s.mem.badByte l.dsync.toNat 16 ≠ none →
      exec (.dependencyMet l.key) s = next (alarm l.region s)) ∧
    (l.phase = .dependency → syncPlaced l.dsync.toNat = true → s.mem.badByte l.dsync.toNat 16 = none →
      syncReached s.mem l.dsync.toNat l.dgen = true → ∃ t, exec (.dependencyMet l.key) s = .next t ∧ t.mem = s.mem ∧ t.seq = s.seq ∧
        (launchOf t l.key).map (·.phase) = some (if l.tt then .timed else .ready)) ∧
    (syncReached s.mem l.dsync.toNat l.dgen = false → s.mem.badByte l.dsync.toNat 16 = none →
      exec (.dependencyMet l.key) s = next s) ∧
    (l.phase = .started → isBreaking s l.region = false → l.ndone + l.ended = l.units → ∃ t, exec (.launchCompletion (l.key, [])) s = .next t ∧
      t.seq = s.seq ∧ (launchOf t l.key).map (fun x => (x.phase, x.outcome)) = some (.ended, if l.ended = 0 then 0 else 4) ∧
      (l.csync = 0 → t.mem = s.mem)) ∧
    (l.ndone + l.ended ≠ l.units → exec (.launchCompletion (l.key, [])) s = next s) ∧
    (∀ u, unitOf s u.key = some u → u.launch = l.key → u.phase = .placed → u.bay ≠ s.seq.bayId.toNat → l.phase ≠ .timed →
      ∃ t, exec (.launchCompletion (l.key, [u.key])) s = .next t ∧ t.seq = s.seq ∧
        (unitOf t u.key).map (fun x => (x.phase, x.cause)) = some (.ended, 0)) ∧
    (∃ t, exec (.priorityAgeing l.key) s = .next t ∧ t.mem = s.mem ∧ t.seq = s.seq ∧
      let since := if l.phase = .timed then max l.waitSince.toNat (l.tstart.toNat - (marginOf s l + 10000)) else l.waitSince.toNat
      (launchOf t l.key).map (·.aged) = some (min 3 ((s.clock.time.toNat - since) / 50000))) ∧
    (l.phase ≠ .timed ∨ s.clock.time.toNat < l.tstart.toNat → exec (.ttStartAttempt l.key) s = next s) ∧
    (l.phase = .timed → l.gang = 0 → l.tstart.toNat ≤ s.clock.time.toNat →
      (s.clock.lock = true → placedBy s l l.tstart.toNat = true →
        ∃ t, exec (.ttStartAttempt l.key) s = .next t ∧ t.seq = s.seq ∧ t.mem = s.mem ∧
          (launchOf t l.key).map (fun x => (x.phase, x.waitSince, x.readyAt)) =
            some (.started, waitFrom s l l.waitSince, waitFrom s l l.readyAt)) ∧
      (s.clock.lock = false ∨ placedBy s l l.tstart.toNat = false →
        (l.skip + 1 ≠ 16 → ∃ t, exec (.ttStartAttempt l.key) s = .next t ∧ t.seq = s.seq ∧ t.mem = s.mem ∧
          (launchOf t l.key).map (fun x => (x.phase, x.skip, x.tstart)) =
            some (.timed, l.skip + 1, l.tstart + l.period.setWidth 64)) ∧
        (l.skip + 1 = 16 → isBreaking s l.region = false → ∃ t, exec (.ttStartAttempt l.key) s = .next t ∧
          (launchOf t l.key).map (fun x => (x.phase, x.outcome)) = some (.ended, if s.clock.lock then 7 else 6)))) ∧
    (∀ (g : StartGroup), s.fw.startGroups.find? (fun x => x.id == l.gang) = some g →
      l.phase = .timed → l.gang ≠ 0 → l.stamps = [] →
      (s.clock.time.toNat < l.tstart.toNat - g.delta → exec (.readyWord l.key) s = next s) ∧
      (s.clock.time.toNat = l.tstart.toNat - g.delta →
        let stamped := onLaunch l.key (fun x => { x with stamps := [s.clock.time], refusing := false }) s
        (s.clock.lock = false →
          exec (.readyWord l.key) s = next (onLaunch l.key (fun x => { x with refusing := true }) s)) ∧
        (s.clock.lock = true → placedBy s l s.clock.time.toNat = false →
          exec (.readyWord l.key) s = next (onLaunch l.key (fun x => { x with refusing := false }) s)) ∧
        (s.clock.lock = true → placedBy s l s.clock.time.toNat = true →
          ∀ (w : TxWindow) (i : Nat), s.refl.tx.find? (fun x => x.id == g.tx) = some w →
            (List.range g.members.length).find? (fun j => g.members.getD j 0 == s.seq.chipId) = some i →
            exec (.readyWord l.key) s = next ((tryPost w (16 * i) (bytesOfBits l.tstart ++ bytesOfBits s.clock.time) none 0x1FF
              stamped).getD s)))))

/-- R307, R310, R311, R313: dispatch's decision for a bay, the end of a soft point's grace of 2 ms, and a gang instance placed
whole. A decision notes the units that have become ready and counts the waiting into levels of priority first. That the bay is the
event's argument, and what happens to units on other bays, are the model's choices (log entries 75 and 4). -/
def Obligations.PlacementEvents : Prop :=
  ∀ (b : Nat) (waiting : List (Nat × W64 × W32)) (s0 : State),
    let s := ageWaiting none (noteReady s0)
    let best := bestCandidate s (candidatesFor s b)
    (best = none → exec (.placeUnit (b, waiting)) s0 = next s) ∧
    (∀ c, best = some c →
      (∀ t, placeCandidate c b s = some t → exec (.placeUnit (b, waiting)) s0 = next t) ∧
      (∀ t, placeCandidate c b s = none → makeRoom c waiting s = some t → exec (.placeUnit (b, waiting)) s0 = next t) ∧
      (placeCandidate c b s ≠ none ↔ bayFree s b = true ∧ ∀ n ∈ c.needs s, n.1 ≤ (n.2.filter (bayFree s)).length)) ∧
    (∀ (l : Launch) (i : Nat), best = some (.fresh l) → bayFree s b = true → canPlace s (.fresh l) = true → l.kind ≠ 2 →
      l.pipes = [] → freeSlot s l.region = some i → b ≠ s.seq.bayId.toNat → lastOn s b = none →
      (∀ x ∈ s.disp.units, ¬ (x.launch = l.key ∧ x.idx = l.nextIdx)) →
        ∃ t, exec (.placeUnit (b, waiting)) s0 = .next t ∧ t.seq = s.seq ∧ t.mem.spad = s.mem.spad ∧ ∃ u,
          t.disp.units = s.disp.units ++ [u] ∧ u.bay = b ∧ u.slot = i ∧ u.phase = .placed ∧ u.launch = l.key ∧
          u.idx = l.nextIdx ∧ u.region = l.region ∧ u.prio = l.prio) ∧
    (s0.disp.elsewhere = [] → placedUnit s0 = none → exec .softPointTimeout s0 = next s0) ∧
    (∀ u, s0.disp.elsewhere = [] → placedUnit s0 = some u → u.phase = .placed →
      (s0.seq.preempt = some .soft ∨ s0.seq.preempt = some .saving →
        (2000000 ≤ (s0.clock.time - u.askedAt).toNat → ∃ t, exec .softPointTimeout s0 = .next t ∧ t.mem = s0.mem ∧
          t.seq = { s0.seq with preempt := some .hard, cpycHold := false }) ∧
        ((s0.clock.time - u.askedAt).toNat < 2000000 → exec .softPointTimeout s0 = next s0)) ∧
      (s0.seq.preempt = none ∨ s0.seq.preempt = some .hard → exec .softPointTimeout s0 = next s0)) ∧
    (∀ u rest, s0.disp.elsewhere = some u.key :: rest → unitOf s0 u.key = some u → u.phase = .placed →
      s0.seq.unit ≠ some u.key → u.asked = some .soft → 2000000 ≤ (s0.clock.time - u.askedAt).toNat → ∃ t, exec .softPointTimeout s0 = .next t ∧ t.mem = s0.mem ∧
        (unitOf t u.key).map (fun x => (x.phase, x.asked)) = some (.placed, some .hard)) ∧
    (∀ (l : Launch) (bays : List Nat), launchOf s l.key = some l →
      (l.kind ≠ 2 → exec (.gangInstancePlacement l.key bays) s0 = next s) ∧
      (l.kind = 2 → launchReady s l = true → bays.length = l.members.length → bays.Nodup →
        (∀ x ∈ bays, bayFree s x = true ∧ admitsBay s l.region l.queue x = true ∧ lastOn s x = none) → canPlace s (.fresh l) = true →
        (∀ x ∈ bays, ∀ y ∈ candidatesFor s x, goesBefore s y (.fresh l) = false) →
        s.seq.bayId.toNat ∉ bays → (∀ x ∈ s.disp.units, ¬ (x.launch = l.key ∧ x.idx = l.nextIdx)) →
          ∃ t, exec (.gangInstancePlacement l.key bays) s0 = .next t ∧ t.seq = s.seq ∧
            (launchOf t l.key).map (·.placed) = some (if l.nextIdx ∈ l.released then l.placed else l.placed + 1) ∧
            t.mem = l.pipes.foldl (fun m p => initPipe p (bays.getD p.prod 0) (bays.getD p.cons 0) m)
              (bays.foldl (fun u x => prepareBay x l.region u) s).mem ∧
            ∃ us, t.disp.units = s.disp.units ++ us ∧ ∀ u ∈ us, u.launch = l.key ∧ u.idx = l.nextIdx ∧ u.bay ∈ bays ∧
              u.region = l.region ∧ u.phase = .placed))

/-! ### Events of budgets, firmware and the host -/

/-- R289, R294 to R297, R341, R347: budget periods and registers, the error map and the translation registers. A period ends once
its 4,000 cycles have passed, and a request in that cycle sees the new one. The cycle in which the event comes, the refusal across partitions and its line in the log, and the instruction
cache emptied by a write of XTBL are the model's choices (log entries 10, 90, 83 and 24). -/
def Obligations.BudgetAndTranslationEvents : Prop :=
  ∀ (east : Bool) (s : State),
    let slots := fun (t : State) (e : Bool) (i : Nat) => (slotsOf t.fw e).toList[i]?
    let left := if east then s.fw.periodEast else s.fw.periodWest
    (left ≠ 0 → exec (.budgetPeriodBoundary east) s = next s) ∧
    (left = 0 → (∀ h act, admitted s east h act = true) ∧ ∃ t, exec (.budgetPeriodBoundary east) s = .next t ∧ t.mem = s.mem ∧ t.seq = s.seq ∧
      (∀ i, slots t (!east) i = slots s (!east) i) ∧ (if east then t.fw.periodEast else t.fw.periodWest) = 4000 ∧
      (∀ i c, slots s east i = some c → slots t east i = some (if c.handle = 0 then c else { c with
        used := Vector.replicate 6 0, charged := Vector.replicate 6 0, periods := c.periods + 1 }))) ∧
    (∀ (i : BitVec 6) (x : W64) (n : Rcb) (c0 : CounterSlot), active s → slots s east i.toNat = some c0 →
      let h : W32 := x.setWidth 32
      let theirs := c0.handle ≠ 0 ∧ h ≠ 0 ∧ sharesPart s c0.handle h = false
      (theirs → exec (.budgetHandleLoad east i x) s = next (logEntry .refusedInstall s)) ∧
      (¬ theirs → h = 0 → ∃ t c, exec (.budgetHandleLoad east i x) s = .next t ∧ slots t east i.toNat = some c ∧
        c.handle = 0 ∧ t.mem = s.mem ∧ ∀ j, j ≠ i.toNat → slots t east j = slots s east j) ∧
      (¬ theirs → h ≠ 0 → nodeOf s.fw h = some n →
        ∃ t c, exec (.budgetHandleLoad east i x) s = .next t ∧ slots t east i.toNat = some c ∧ c.handle = h ∧
          c.used = Vector.replicate 6 0 ∧ c.stalls = 0 ∧ c.periods = 0 ∧
          (∀ k, k < 6 → c.limits.toList.getD k 0 = effLimit s.fw n k) ∧ t.mem = s.mem ∧
          ∀ j, j ≠ i.toNat → slots t east j = slots s east j)) ∧
    (∀ (i : BitVec 6) (k : Nat) (x : W32) (c : CounterSlot), active s → slots s east i.toNat = some c → k < 6 →
      ∃ t d, exec (.budgetLimitWrite east i k x) s = .next t ∧ slots t east i.toNat = some d ∧
        d = { c with limits := d.limits } ∧ t.mem = s.mem ∧
        ∀ j, j < 6 → d.limits.toList.getD j 0 = if j = k then x else c.limits.toList.getD j 0) ∧
    (∀ (bay index : Byte), active s → (index = 132 → exec (.errmapClear bay index) s = next s) ∧
      (index ≠ 132 → ∃ t, exec (.errmapClear bay index) s = .next t ∧ errmapWord t.fw bay.toNat index.toNat = 0 ∧
        (∀ a i, ¬ (a = bay.toNat ∧ i = index.toNat) → errmapWord t.fw a i = errmapWord s.fw a i) ∧ t.mem = s.mem)) ∧
    (∀ x : W64, active s →
      exec (.xtblWrite false x) s = next (onHost (fun h => { h with tlb := [] })
        (onSeq (fun q => { q with xtbl := x &&& ~~~0x7FF, icache := [] }) s)) ∧
      exec (.xtblWrite true x) s =
        next (onHost (fun h => { h with tlb := [] }) (onSeq (fun q => { q with pasid := x.setWidth 20 }) s)))

/-- R292, R294, R296, R298 to R300, R329, R335, R337: a region node, an extent table and a slot fragment are installed when they
are legal and refused otherwise, a table that contexts of several partitions name only with no valid entry; an open-traffic packet
alone in the mesh moves one hop, x first, and leaves at its bay, and what was charged before counts in that cycle. That the node of
a killed region waits until its launches have completed is the model's reading (log entry 55). The mesh's
geometry and the order x first are the model's reading (log entry 73); which tables and nodes are refused beyond the rules' own
words, and that a refusal leaves a line in the log alone, are the model's choices (log entries 51, 52 and 83). -/
def Obligations.InstallAndMeshEvents : Prop :=
  ∀ (addr : W64) (bytes : List Byte) (logs : List (W32 × Nat × Nat)) (s : State), active s →
    let refused := next (logEntry .refusedInstall s)
    let breaks := isBreaking s (parseRcb addr bytes).handle = true
    let legal := rcbFieldsOk addr bytes = true ∧ rcbTreeOk s.fw (parseRcb addr bytes) = true ∧
      saveSlotsOk s (parseRcb addr bytes) = true ∧ sharedTableOk s (parseRcb addr bytes) = true
    (breaks → exec (.regionNodeInstall addr (bytes, logs)) s = next s) ∧
    (¬ breaks → ¬ legal → exec (.regionNodeInstall addr (bytes, logs)) s = refused) ∧
    (¬ breaks → legal → ∃ t n, exec (.regionNodeInstall addr (bytes, logs)) s = .next t ∧ nodeAt t.fw addr = some n ∧
      n = { parseRcb addr bytes with faults := n.faults } ∧ t.mem = { s.mem with hbm := memWrite s.mem.hbm addr.toNat bytes } ∧
      (∀ a, a ≠ addr → nodeAt t.fw a = nodeAt s.fw a)) ∧
    (let named := s.fw.nodes.filter (fun c => c.kind == 1 && c.xtab == addr)
      let es := tableAt (cellsOf addr.toNat bytes) addr.toNat
      let ok := named ≠ [] ∧ bytes.length = 2048 ∧ addr.toNat + 2048 ≤ 2 ^ 39 ∧ physFieldsOk bytes = true ∧ tableOk es = true ∧
        bitmapsOwned s addr es = true ∧ (∀ c ∈ named, tableTrespasses s c.addr c.part es = false) ∧
        ((∀ e ∈ es, e.isValid = false) ∨ ∀ c ∈ named, ∀ d ∈ named, c.part = d.part)
      let kept := onMem (fun m => { m with hbm := memWrite m.hbm addr.toNat bytes }) s
      (ok → exec (.extentTableInstall addr bytes) s =
        next (if s.seq.unit.isSome = true ∧ s.seq.xtbl = addr then writeXtbl addr kept else kept)) ∧
      (¬ ok → exec (.extentTableInstall addr bytes) s = refused)) ∧
    (∀ (n : Rcb) (cslot : BitVec 6) (router first : Nat) (e : W32), router < 160 → first < 256 →
      slotIndex s.fw (eastBay router) n.handle = some cslot.toNat → nodeOf s.fw n.handle = some n →
      let header := bytesOfNat 8 (router + 256 * first + 65536)
      let install := fun (grant : Bool) => exec (.slotFragmentInstall n.handle cslot grant header (bytesOfNat 4 e.toNat)) s
      let old := meshEntry s.fw router first
      let sets := fun (grant : Bool) => ∃ t, install grant = .next t ∧
        t.mem = s.mem ∧ meshEntry t.fw router first = e ||| 0x80000000 ||| (cslot.setWidth 32 <<< 25) ∧
        ∀ r i, ¬ (r = router ∧ i = first) → meshEntry t.fw r i = meshEntry s.fw r i
      let free := old.getLsbD 31 = false ∧ e = 0 ∧ ownedEntries s.fw router cslot + 1 ≤ effSlotn s.fw n
      let fits := entryOwner old = some cslot ∧ e.toNat < 2 ^ 15 ∧ connectionsOk router e = true
      (free → sets true) ∧ (fits → sets false) ∧
      (¬ free → install true = refused) ∧
      (¬ fits → install false = refused)) ∧
    (∀ p : MeshPacket, s.fw.packets = [p] → p.port < 5 → (meshEntry s.fw p.router (s.fw.meshCycle % 256)).getLsbD 31 = false →
      let o := openOutput p.router p.dest
      let to_ := hop p.router o
      exec (.meshScheduledForward []) s = next (onFw (fun f => { settleCharges f with
        meshCycle := f.meshCycle + 1
        packets := if o = 5 then [] else [{ p with router := to_.1, port := to_.2, waiting := false }] }) s)) ∧
    (s.fw.packets = [] → exec (.meshScheduledForward []) s =
      next (onFw (fun f => { settleCharges f with meshCycle := f.meshCycle + 1 }) s))

/-- R208, R217, R342, R344 to R349: the host's mailbox and its registers, self-tests and spare rows, bring-up and attestation,
the bay clock, and the delivery of a logged write in replay. After a failed bring-up the device stands still to firmware and
host. Mailbox writes to a replaying region, the context of a function and the regions of a slice, the repair policy, what a failed
bring-up leaves, and the steps of the clock are the model's choices (log entries 63, 66, 69, 70 and 71). -/
def Obligations.FirmwareAndHostEvents : Prop :=
  ∀ (fn off : Nat) (data : List Byte) (s : State),
    let a := (s.host.apbase.toList.getD fn 0).toNat + off
    let refused := next (mailboxError fn a s)
    let write := exec (.mailboxWrite (.aperture, fn) off data) s
    (∀ n target queue idx slot k (x : W64) (h : W32) (bay : Byte) (spare soft east : Bool), s.fw.boot = .failed n →
      ∀ i ∈ [Instr.mailboxWrite (target, fn) off data, .tailWrite fn queue off data, .queueTableWrite idx data,
        .dispatchSlotTableWrite bay x, .budgetHandleLoad east slot x, .budgetLimitWrite east slot k h, .errmapClear bay bay,
        .xtblWrite soft x, .hardEviction h, .resdone (fn, x), .resfail (fn, x), .arraySelfTest bay none,
        .spareRowSwitch bay spare slot soft, .extentTableInstall x data, .regionNodeInstall x (data, []),
        .thermalThrottle east off], exec i s = next s) ∧
    (active s →
      (fn < 9 → data ≠ [] → off + data.length ≤ 2 ^ 32 →
        ((∃ h ∈ mailboxRegions s fn a data.length, regionReplays s h = true) → write = refused) ∧
        ((∀ h ∈ mailboxRegions s fn a data.length, regionReplays s h = false) →
          (mailboxApply fn (contextFor s fn a data.length) a data s = none → write = refused) ∧
          (∀ u, mailboxApply fn (contextFor s fn a data.length) a data s = some u → s.fw.inputs = [] → write = next u) ∧
          (a + data.length ≤ 0x14000000 →
            (∀ b, b < 160 → rangesMeet a data.length (b * 0x200000) 0x200000 = true → functionHasBay s fn b = true) →
            ((∀ g ∈ granulesOf a data.length, ownerOf s.mem g = none) → s.fw.inputs = [] →
              write = next (onMem (fun m => m.putSpad a data) s)) ∧
            ((∃ g ∈ granulesOf a data.length, ownerOf s.mem g ≠ none) → write = refused)))) ∧
      (9 ≤ fn ∨ data = [] ∨ 2 ^ 32 < off + data.length → write = refused) ∧
      (fn < 9 → natOfBytes data < 2 ^ 64 → ∃ t, exec (.mailboxWrite (.apbase, fn) off data) s = .next t ∧ t.mem = s.mem ∧
        (t.host.apbase.toList.getD fn 0).toNat = natOfBytes data / 2 ^ 32 * 2 ^ 32) ∧
      (natOfBytes data ≤ 2 → exec (.mailboxWrite (.sparePol, 0) off data) s =
        next (onFw (fun f => { f with sparePol := BitVec.ofNat 8 (natOfBytes data) }) s)) ∧
      (∀ (bay : Byte) (row : BitVec 6), bay.toNat < 160 →
        (bayIdle s bay.toNat = true →
          (∃ t, exec (.arraySelfTest bay (some row)) s = .next t ∧ (bay, row) ∈ t.fw.spareRow ∧
            t.fw.log = s.fw.log ++ [.selfTest bay (some row)] ∧ t.mem = s.mem) ∧
          exec (.arraySelfTest bay none) s = next (logEntry (.selfTest bay none) s)) ∧
        (bayIdle s bay.toNat = false → exec (.arraySelfTest bay (some row)) s = next s) ∧
        (∀ spare soft : Bool, bayIdle s bay.toNat = true → (bay, row) ∈ s.fw.spareRow →
          let old := errmapWord s.fw bay.toNat 132
          let used := old.getLsbD (if spare then 14 else 6)
          (s.fw.sparePol = 2 → used = false → ∃ t, exec (.spareRowSwitch bay spare row soft) s = .next t ∧
            (bay, row) ∉ t.fw.spareRow ∧ t.fw.log = s.fw.log ++ [.spareSwitch bay spare row] ∧
            let field := row.setWidth 64 ||| 0x40
            errmapWord t.fw bay.toNat 132 =
              if spare then (old &&& ~~~(0x7F00 : W64)) ||| (field <<< 8) else (old &&& ~~~(0x7F : W64)) ||| field) ∧
          (s.fw.sparePol = 0 ∨ used = true ∨ (s.fw.sparePol = 1 ∧ soft = true) →
            exec (.spareRowSwitch bay spare row soft) s = next s))) ∧
      (∀ (east : Bool) (c : Nat),
        let mhz := fun (t : State) => if east then t.fw.mhzEast else t.fw.mhzWest
        ∃ t, exec (.thermalThrottle east c) s = .next t ∧ t.mem = s.mem ∧ t.seq = s.seq ∧
          (105 < c → 250 < mhz s → mhz t = mhz s - 250) ∧ (95 ≤ c → c ≤ 105 → t = s) ∧
          (c < 95 → mhz t = min 4000 (mhz s + 250)))) ∧
    (∀ x : FlashImage,
      let fails := fun (n : Nat) => next (onFw (fun f => { f with boot := .failed n }) s)
      (s.fw.boot = .up → exec (.bringUp x) s = next (onFw (measureAll x.components) s)) ∧
      (∀ n, s.fw.boot = .failed n → exec (.bringUp x) s = next s) ∧
      (s.fw.boot = .off →
        (romVerify x.firmware x.firmwareSig = false → exec (.bringUp x) s = fails 1) ∧
        (romVerify x.firmware x.firmwareSig = true →
          (romVerify x.config x.configSig = false ∨ baysOk x.bays = false → exec (.bringUp x) s = fails 2) ∧
          (romVerify x.config x.configSig = true → baysOk x.bays = true →
            (x.hbmTrains = false → ∃ t, exec (.bringUp x) s = .next t ∧ t.fw.boot = .failed 3 ∧ t.fw.bays = x.bays) ∧
            (x.hbmTrains = true → ∃ t, exec (.bringUp x) s = .next t ∧ t.fw.boot = .up ∧ t.mem.spad = [] ∧
              t.mem.full = [] ∧ t.mem.owner = [] ∧ t.disp.bitmap = 0 ∧ t.fw.bays = x.bays ∧
              t.fw.measured = s.fw.measured ++ x.firmware :: x.config :: x.components ∧
              t.fw.identity = Config.identityKey x.pufReading x.helper ∧
              t.fw.chain = (x.firmware :: x.config :: x.components).foldl (fun h c => sha512 (h ++ c)) s.fw.chain))))) ∧
    (∀ nonce : BitVec 512,
      (s.fw.boot ≠ .up → exec (.attestationRequest nonce) s = next s) ∧
      (s.fw.boot = .up → ∃ t q, exec (.attestationRequest nonce) s = .next t ∧ t.fw.quotes = s.fw.quotes ++ [q] ∧
        q.nonce = nonce ∧ q.chain = s.fw.chain ∧ q.log = s.fw.measured ∧ q.certificate = s.fw.certificate)) ∧
    (∀ (l : InputLog) (e : InputEntry), s.fw.inputs.find? (fun x => x.region == l.region) = some l →
      nextWrite s.mem l = some e →
      (regionReplays s l.region = false → exec (.replayInputDelivery l.region) s = next s) ∧
      (regionReplays s l.region = true → ∀ n c, nodeOf s.fw l.region = some n → contextOf s.fw n = some c →
        let applied := if e.type = 1 then mailboxApply (n.part + 1) (some c) e.value.toNat (mailboxData e) s
          else applyWrite (forwardDepth s) (arrivalOf e) s
        (applied = none → exec (.replayInputDelivery l.region) s = next s) ∧
        (∀ u, applied = some u → exec (.replayInputDelivery l.region) s =
          next (onFw (fun f => { f with inputs := f.inputs.map (fun x =>
            if x.region == l.region then { x with order := x.order + 1 } else x) }) u))))

/-! ### Events of reflection, time, residency and host translation -/

namespace Sys2Proof.Claims

/-- An element of a backing combined with one of a write, by the op and the type of a reduce window (R250). -/
def reduced (op : BitVec 4) (ty : BitVec 2) (b x : W32) : W32 :=
  if ty = 3 then
    match op.toNat with
    | 1 => BitVec.ofInt 32 (max (-2147483648) (min 2147483647 (b.toInt + x.toInt)))
    | 2 => if b.toInt ≤ x.toInt then b else x
    | 3 => if b.toInt ≤ x.toInt then x else b
    | 4 => b &&& x
    | 5 => b ||| x
    | _ => b ^^^ x
  else if ty = 2 then (toBf16 false (Machine.Num.add (decodeBf16 (b.setWidth 16)) (decodeBf16 (x.setWidth 16))).val).val
  else if op = 1 then (addF32 b x).val
  else if op = 2 then minF32 b x
  else maxF32 b x

/-- Whether an op is one of a type (R241). -/
def reduces (op : BitVec 4) (ty : BitVec 2) : Prop :=
  (ty = 3 ∧ 1 ≤ op.toNat ∧ op.toNat ≤ 6) ∨ (ty = 1 ∧ 1 ≤ op.toNat ∧ op.toNat ≤ 3) ∨ (ty = 2 ∧ op = 1)

/-- A write due on its path that names a window: its sequence number is taken, whatever becomes of it, and `what` is what it leaves
beside that. -/
def arrives (w : Arrival) (s : State) (what : State → Prop) : Prop :=
  ∃ t, exec (.reflectedWriteArrival w) s = .next t ∧ (recvPath t.refl w.src w.vc).next = (recvPath s.refl w.src w.vc).next + 1 ∧
    what t

/-- A write refused (R243, R253): REFUSED, CAUSE and the sync word's STATUS tell of it, and no other byte of memory, no owner and no
path of the sender's side changes. -/
def refusedFor (x : RxWindow) (cause : Nat) (s t : State) : Prop :=
  let st := x.stat.toNat
  let y := x.sync.toNat
  spadWord t.mem (st + 4) 4 = min (spadWord s.mem (st + 4) 4 + 1) 0xFFFFFFFF ∧
    spadWord t.mem (st + 12) 4 = (if spadWord s.mem (st + 12) 4 = 0 then cause else spadWord s.mem (st + 12) 4) ∧
    syncStatus t.mem y = (syncStatus s.mem y ||| 1 |||
      (if (syncStatus s.mem y).extractLsb' 16 10 = 0 then BitVec.ofNat 32 (cause * 0x10000) else 0)) ∧
    (∀ i, i < st ∨ st + 144 ≤ i → i < y + 12 ∨ y + 16 ≤ i → memByte t.mem.spad i = memByte s.mem.spad i) ∧
    t.mem.hbm = s.mem.hbm ∧ (∀ g, ownerOf t.mem g = ownerOf s.mem g) ∧ t.refl.rx = s.refl.rx ∧ t.refl.send = s.refl.send

end Sys2Proof.Claims

/-- R192, R209, R242, R243, R249 to R253: a write that is due at a window of its path. It is refused from a sender not admitted, past
the end, misaligned or an atomic at a reduce window, at an ordered window whose TARGET its senders do not divide, and where ownership
forbids it. Else its bytes, or its atomic's result, are in the backing; a free reduce window combines them element by element; an
ordered one combines those of the sender whose turn it is, holds others as long as they fit, and discards what does not fit. The
write is then marked in its sender's slot, late in a deadline window after its time, counted on the sync word, and posted on by a root;
of a window of checked tiles a tile that is whole is counted when it verifies. That the collective engine's windows admit no sender is
log entry 105; the order of parts in the hold area is log entry 62. -/
def Sys2Proof.Claims.WindowWritesAreApplied : Prop :=
  ∀ (w : Arrival) (x : RxWindow) (s : State),
    let p := recvPath s.refl w.src w.vc
    let n := w.data.length
    let a := x.back.toNat + w.off
    let ag := reflectAgent x.back.toNat
    let st := x.stat.toNat
    let y := x.sync.toNat
    let t0 := syncTarget s.mem y
    let c0 := syncCount s.mem y
    let late := x.dln && decide (x.dbase.toNat + ((syncGen s.mem y).toNat + 1) * x.dper.toNat < s.clock.time.toNat)
    let lateBit : W32 := if late then 4 else 0
    let old := memRead s.mem.spad a n
    let backed := a + n ≤ 0x14000000 ∧ (∀ b, b = st ∨ b = y → a + n ≤ b ∨ b + 144 ≤ a) ∧ t0 ≠ 0 ∧
      ∀ g ∈ s.refl.tx, x.fwd = some g.id → g.loop = 0
    let same := fun (t : State) => ∀ g, ownerOf t.mem g = ownerOf s.mem g
    let noted := fun (t : State) (slot : Nat) =>
      spadWord t.mem (st + 16 + 8 * slot) 4 = w.seq.toNat ∧
      spadWord t.mem (st + 20 + 8 * slot) 4 = (spadWord s.mem (st + 20 + 8 * slot) 4 + 1) % 2 ^ 32 ∧
      spadWord t.mem (st + 8) 4 = (if late then min (spadWord s.mem (st + 8) 4 + 1) 0xFFFFFFFF else spadWord s.mem (st + 8) 4)
    let counted := fun (t : State) => syncCount t.mem y = (c0 + n) % t0 ∧
      syncGen t.mem y = syncGen s.mem y + BitVec.ofNat 32 ((c0 + n) / t0)
    let uncounted := fun (t : State) => syncCount t.mem y = c0 ∧ syncGen t.mem y = syncGen s.mem y
    let posted := fun (t : State) => (x.fwd = none → t.refl.send = s.refl.send) ∧
      (∀ f g z, x.fwd = some f → s.refl.tx.find? (fun q => q.id == f && q.region == x.region) = some g → g.targets = [z] →
        (sendPath s.refl z.1 g.vc).dead = false → ∃ q,
          (sendPath t.refl z.1 g.vc).unacked = (sendPath s.refl z.1 g.vc).unacked ++ [q] ∧ q.rxid = z.2 ∧ q.off = w.off ∧
          q.data = w.data ∧ q.atom = w.atom)
    p.dead = false → w.seq = p.next → p.waiting = [] → rxById s.refl w.rxid = some x → s.fw.inputs = [] →
    replayRefuses w s = false → anyDamaged s.mem (readsOf x w) = false → x.senders.length ≤ 16 → st + 144 ≤ y ∨ y + 16 ≤ st →
      (senderSlot x w.src = none ∨ x.engine = true → arrives w s (refusedFor x 0x243 s)) ∧
      ∀ slot, senderSlot x w.src = some slot → x.engine = false →
        let z := redBytes x.redType
        let ordered := x.free = false ∧ t0 % senderCount x = 0
        let aligned := w.off % z = 0 ∧ n % z = 0 ∧ w.atom = none
        (x.len.toNat < w.off + n → arrives w s (refusedFor x 0x244 s)) ∧
        (w.off + n ≤ x.len.toNat → x.redOp ≠ 0 → ¬ aligned ∨ (x.free = false ∧ t0 % senderCount x ≠ 0) →
          arrives w s (refusedFor x 0x246 s)) ∧
        (w.off + n ≤ x.len.toNat → x.redOp = 0 →
          (w.atom = none → raceOf s.mem ag true a n ≠ none → arrives w s (refusedFor x 0x1C5 s)) ∧
          (w.atom = none → raceOf s.mem ag true a n = none → n ≠ 0 → backed →
            let mine := fun (t : State) => ∀ g, ownerOf t.mem g = if g ∈ granulesOf a n then some (.excl ag) else ownerOf s.mem g
            let written := fun (t : State) => memRead t.mem.spad a n = w.data ∧ noted t slot ∧ posted t
            let whole := x.arrived = [] ∧ n = tileBytes x.ckt ∧ w.off % 256 = 0 ∧ x.back.toNat % 256 = 0 ∧ s.mem.badByte a n = none
            (x.ckt = 0 → arrives w s (fun t => written t ∧ counted t ∧ (c0 + n < t0 → mine t) ∧
              syncStatus t.mem y = syncStatus s.mem y ||| lateBit)) ∧
            (x.ckt ≠ 0 → (∀ r ∈ addRun w.off n x.arrived, tileIn x r = none) → arrives w s (fun t => written t ∧ uncounted t ∧ mine t)) ∧
            (x.ckt ≠ 0 → whole → tileVerifies x.ckt w.data = true →
              arrives w s (fun t => written t ∧ counted t ∧ (c0 + n < t0 → mine t))) ∧
            (x.ckt ≠ 0 → whole → tileVerifies x.ckt w.data = false → arrives w s (fun t => written t ∧ uncounted t ∧ mine t ∧
              syncStatus t.mem y = (syncStatus s.mem y ||| lateBit ||| 3 |||
                (if (syncStatus s.mem y).extractLsb' 16 10 = 0 then 0x02450000 else 0)) ∧
              spadWord t.mem (st + 12) 4 = (if spadWord s.mem (st + 12) 4 = 0 then 0x245 else spadWord s.mem (st + 12) 4)))) ∧
          (∀ fn, w.atom = some fn → x.ckt = 0 → n = 4 ∨ n = 8 → backed →
            let u := natOfBytes old
            let v := natOfBytes w.data
            let r4 := atomicOp fn 32 (BitVec.ofNat 32 u) (BitVec.ofNat 32 v) 0
            let r8 := atomicOp fn 64 (BitVec.ofNat 64 u) (BitVec.ofNat 64 v) 0
            arrives w s (fun t => noted t slot ∧ posted t ∧ counted t ∧ (c0 + n < t0 → same t) ∧
              natOfBytes (memRead t.mem.spad a n) = (if n = 8 then r8.val.toNat else r4.val.toNat) ∧
              BitVec.ofNat 32 (spadWord t.mem st 4) = (BitVec.ofNat 32 (spadWord s.mem st 4) |||
                (if n = 8 then r8.flags else r4.flags).setWidth 32)))) ∧
        (w.off + n ≤ x.len.toNat → reduces x.redOp x.redType → aligned → backed →
          let r := combineBytes x.redOp x.redType old w.data
          let elem := fun (bs : List Byte) (k : Nat) => natOfBytes ((bs.drop (z * k)).take z)
          let combines := arrives w s (fun t => noted t slot ∧ posted t ∧ counted t ∧ (c0 + n < t0 → same t) ∧
            memRead t.mem.spad a n = r.1 ∧
            BitVec.ofNat 32 (spadWord t.mem st 4) = (BitVec.ofNat 32 (spadWord s.mem st 4) ||| r.2.1.setWidth 32) ∧
            syncStatus t.mem y = syncStatus s.mem y ||| lateBit ||| (if r.2.2 then 0x20 else 0))
          let share := t0 / senderCount x
          let turn := progressOf x slot
          let piece := x.held = [] ∧ turn.arrived = turn.combined ∧ 0 < n ∧ n ≤ share - turn.arrived % share
          r.1.length = n ∧ (∀ k, z * k + z ≤ n → elem r.1 k =
            (reduced x.redOp x.redType (BitVec.ofNat 32 (elem old k)) (BitVec.ofNat 32 (elem w.data k))).toNat % 2 ^ (8 * z)) ∧
          (x.free = true → combines) ∧
          (ordered → piece → turnOf x share = some slot → s.mem.badByte a n = none → combines) ∧
          (∀ other, ordered → piece → turnOf x share = some other → other ≠ slot →
            (holdRoom x < n → exec (.reflectedWriteArrival w) s = next s) ∧
            (n ≤ holdRoom x → arrives w s (fun t => same t ∧ t.mem.hbm = s.mem.hbm ∧ t.refl.send = s.refl.send ∧
              memRead t.mem.spad x.hold.toNat n = w.data ∧
              (∀ i, i < x.hold.toNat ∨ x.hold.toNat + n ≤ i → memByte t.mem.spad i = memByte s.mem.spad i) ∧
              (rxById t.refl w.rxid).map (fun q => q.held.map (·.data)) = some [w.data]))))

/-- R192, R209, R239 to R247, R249 to R253, R256, R265, R267, R294, R334: window entries and gang-start groups; an arriving write,
handled when it is due on its path as its window says, logged when no entry matches, acknowledged again when it is old, ignored on a
dead path; acknowledgements; retransmission; planes, with the last of which every path and the calls that use one end; path death and reset. Which windows are
refused, with a line in the log alone, the partition of a window's id, and the conditions of a gang-start group are the model's
choices (log entries 61, 83, 90 and 124). -/
def Obligations.ReflectionEvents : Prop :=
  WindowWritesAreApplied ∧
  (∀ (w : Arrival) (s : State),
    let p := recvPath s.refl w.src w.vc
    let nextOf := fun (t : State) => (recvPath t.refl w.src w.vc).next
    (p.dead = true → exec (.reflectedWriteArrival w) s = next s) ∧
    (p.dead = false → 2 ^ 31 ≤ (w.seq - p.next).toNat →
      exec (.reflectedWriteArrival w) s = next (onRefl (returnAck w.src w.vc) s)) ∧
    (p.dead = false → w.seq = p.next → p.waiting = [] →
      (rxById s.refl w.rxid = none → ∃ t, exec (.reflectedWriteArrival w) s = .next t ∧ nextOf t = p.next + 1 ∧
        t.mem = s.mem ∧ t.refl.errors = s.refl.errors ++
          [{ src := w.src, vc := w.vc, rxid := w.rxid, seq := w.seq, cause := 0x244 }]))) ∧
  (∀ (chip : BitVec 12) (vc : BitVec 4) (high : W32) (plane : BitVec 3) (s : State),
    let q := sendPath s.refl chip vc
    let after := fun (t : State) => sendPath t.refl chip vc
    (∃ t, exec (.acknowledgementSend chip vc) s = .next t ∧
      t.refl.acks = s.refl.acks ++ [(chip, vc, (recvPath s.refl chip vc).next - 1)] ∧
      (recvPath t.refl chip vc).unreturned = 0 ∧ t.mem = s.mem) ∧
    (knownPath s.refl chip vc = false → exec (.acknowledgementReceive chip vc high) s = next s) ∧
    (knownPath s.refl chip vc = true → ∃ t, exec (.acknowledgementReceive chip vc high) s = .next t ∧
      after t = { q with unacked := q.unacked.filter (fun w => 2 ^ 31 ≤ (high - w.seq).toNat) } ∧ t.mem = s.mem) ∧
    (let late := fun (w : Posted) => decide (w.sentAt.toNat + 4000 ≤ s.clock.time.toNat)
     (q.dead = true ∨ s.refl.planes = 0 ∨ (∀ w ∈ q.unacked, late w = false) →
       exec (.retransmission chip vc) s = next s) ∧
     (q.dead = false → s.refl.planes ≠ 0 → (∃ w ∈ q.unacked, late w = true) →
       ∃ t, exec (.retransmission chip vc) s = .next t ∧ t.mem = s.mem ∧
         after t = { q with unacked := q.unacked.map (fun w =>
           if late w then { w with sends := w.sends + 1, sentAt := s.clock.time } else w) } ∧
         t.refl.retransmissions = s.refl.retransmissions + (q.unacked.filter late).length)) ∧
    (let left := s.refl.planes &&& ~~~((1 : Byte) <<< plane.toNat)
     let self := s.seq.chipId
     (s.refl.planes.getLsbD plane.toNat = false → exec (.planeLoss plane) s = next s) ∧
     (s.refl.planes.getLsbD plane.toNat = true →
       (left ≠ 0 → ∃ t, exec (.planeLoss plane) s = .next t ∧ t.refl.planes = left ∧ t.mem = s.mem ∧ t.coll = s.coll ∧
         t.refl.send = s.refl.send.map (fun p => { p with
           unacked := p.unacked.map (fun w => { w with sends := w.sends + 1, sentAt := s.clock.time }) })) ∧
       (left = 0 → ∃ t, exec (.planeLoss plane) s = .next t ∧ t.refl.planes = 0 ∧
         (∀ p ∈ s.refl.send, p.dst ≠ self → (sendPath t.refl p.dst p.vc).dead = true) ∧
         (∀ w ∈ s.refl.tx, ∀ x ∈ w.targets, x.1 ≠ self → (sendPath t.refl x.1 w.vc).dead = true) ∧
         (∀ p ∈ s.refl.recv, p.src ≠ self → (recvPath t.refl p.src p.vc).dead = true) ∧
         (∀ x ∈ s.refl.rx, ∀ i c v, x.mask.getLsbD i = true → x.senders[i]? = some c → c ≠ self →
           (recvPath t.refl c v).dead = true) ∧
         (∀ c r x, s.coll.calls = [c] → c.ending = none → r < c.g → r ≠ c.rank → c.chips[r]? = some x → x ≠ self →
           ∃ peer, t.coll.calls = [{ c with ending := some (5, 0x287, peer) }])))) ∧
    (q.dead = false → ∃ t, exec (.pathDeath true chip vc) s = .next t ∧ (after t).dead = true ∧ (after t).unacked = [] ∧
      (after t).lost = (match q.unacked with
        | w :: _ => w.seq
        | [] => q.next) ∧
      (after t).lostBy = q.unacked.map (fun w => (w.agent, w.window)) ∧ t.mem = s.mem) ∧
    (∃ t, exec (.pathDeath false chip vc) s = .next t ∧ (recvPath t.refl chip vc).dead = true ∧
      (∀ x, s.refl.rx = [x] → (senderSlot x chip = none → t.mem = s.mem) ∧
        ((senderSlot x chip).isSome = true → syncStatus t.mem x.sync.toNat &&& 9 = 9))) ∧
    (∀ (c : Call) (r : Nat) (sender : Bool), s.coll.calls = [c] → c.vc = vc → c.ending = none →
      (List.range c.g).find? (fun r => r != c.rank && c.chips.getD r 0 == chip) = some r →
        ∃ t, exec (.pathDeath sender chip vc) s = .next t ∧
          t.coll.calls = [{ c with ending := some (5, 0x287, BitVec.ofNat 16 r) }]) ∧
    (active s → s.refl.planes ≠ 0 ∨ chip = s.seq.chipId →
      ∃ t, exec (.pathReset chip vc) s = .next t ∧ (after t).next = 0 ∧ (after t).dead = false ∧
        (recvPath t.refl chip vc).next = 0 ∧ (recvPath t.refl chip vc).dead = false ∧ t.mem = s.mem) ∧
    (active s → s.refl.planes = 0 → chip ≠ s.seq.chipId → exec (.pathReset chip vc) s = next s)) ∧
  (∀ (id : BitVec 12) (region : W32) (entry : List Byte) (g : StartGroup) (engine : Bool) (s : State), active s →
    let refused := next (logEntry .refusedInstall s)
    let install := fun (k : WindowKind) => exec (.windowEntryInstall k id region entry) s
    let kind : WindowKind := if engine then .collective else .rx
    (∀ w, parseTx s.refl.domain id region entry = some w →
      let meets := ∃ x ∈ s.refl.tx, x.region = region ∧ x.id ≠ id ∧
        rangesMeet x.base.toNat x.len.toNat w.base.toNat w.len.toNat = true
      let trespasses := ∃ x ∈ s.refl.tx, x.id = id ∧ sharesPart s x.region region = false
      (meets ∨ trespasses → install .tx = refused) ∧
      (¬ meets → ¬ trespasses → ∃ t, install .tx = .next t ∧ t.refl.tx.find? (fun x => x.id == id) = some w ∧
        (s.refl.planes ≠ 0 → t.mem = s.mem))) ∧
    (parseTx s.refl.domain id region entry = none → install .tx = refused) ∧
    (∀ w, parseRx id region (syncTarget s.mem) entry = some w →
      let granted := backOk s w = true ∧ ∀ x ∈ s.refl.rx, x.id = id → sharesPart s x.region region = true
      (granted → ∃ t, install kind = .next t ∧ rxById t.refl id = some { w with engine := engine } ∧ t.mem = s.mem) ∧
      (¬ granted → install kind = refused)) ∧
    (parseRx id region (syncTarget s.mem) entry = none → install kind = refused) ∧
    (let granted := s.seq.chipId ∈ g.members ∧ (∀ c ∈ g.members, c ∈ s.refl.domain) ∧
       (∃ w ∈ s.refl.tx, w.id = g.tx ∧ w.region = region) ∧ (∃ w ∈ s.refl.rx, w.id = g.rx ∧ w.region = region)
     (granted → ∃ t, install (.start g) = .next t ∧ g ∈ t.fw.startGroups ∧ t.mem = s.mem) ∧
     (¬ granted → install (.start g) = refused)))

/-- R14, R266: the messages of the time protocol and the loss of lock. A Sync is followed from a master of the clock's domain that is
better than the clock itself, and either the one it follows or better than that one; how clocks compare is the family's (log entry
106). -/
def Sys2Proof.Claims.TimeProtocolEvents : Prop :=
  ∀ (n : BitVec 16) (x y : W64) (s : State),
    let c := s.clock
    let clocked := fun (f : Clock → Clock) => next (onClock f s)
    (∀ (domain : Byte) (master : ClockId),
      let follows := domain = c.domain ∧ betterClock master c.own = true ∧
        ∀ p, c.parent = some p → p = master ∨ betterClock master p = true
      (follows → exec (.ptpSync (domain, master, n) x) s =
        clocked (fun c => { c with parent := some master, sync := some (n, x) })) ∧
      (¬ follows → exec (.ptpSync (domain, master, n) x) s = next s)) ∧
    (∀ t, c.sync = some (n, t) →
      let offset := t - (x + y + c.linkDelay)
      ∃ u, exec (.ptpFollowUp n x y) s = .next u ∧ u.clock.ofs = offset.setWidth 32 ∧ u.mem = s.mem ∧
        (u.clock.lock = true ↔ -10 ≤ offset.toInt ∧ offset.toInt ≤ 10) ∧ u.clock.hold = !u.clock.lock ∧
        u.clock.delayReq = some (n, u.clock.time)) ∧
    ((∀ t, c.sync ≠ some (n, t)) → exec (.ptpFollowUp n x y) s = next s) ∧
    exec (.ptpPdelayReq n x) s = clocked (fun c => { c with answered := c.answered ++ [(n, x)] }) ∧
    (∀ t, c.delayReq = some (n, t) →
      exec (.ptpPdelayResp n x y) s = clocked (fun c => { c with delayResp := some (n, x, y) })) ∧
    ((∀ t, c.delayReq ≠ some (n, t)) → exec (.ptpPdelayResp n x y) s = next s ∧ exec (.ptpPdelayRespFollowUp n x) s = next s) ∧
    (∀ t1 t2 t4, c.delayReq = some (n, t1) → c.delayResp = some (n, t2, t4) →
      exec (.ptpPdelayRespFollowUp n x) s = clocked (fun c => { c with
        linkDelay := ((t4 - t1) - (x - t2)) >>> 1, delayReq := none, delayResp := none })) ∧
    exec .holdover s = clocked (fun c => { c with lock := false, hold := true, parent := none, sync := none })

/-- R206, R338 to R340: residency answered, refused and cleared; translation requests answered, refused and asked again; and an
invalidation, which drops the entries it meets and returns its completion. -/
def Sys2Proof.Claims.ResidencyAndHostTranslationEvents : Prop :=
  (∀ (p : PageEvent) (e : Extent) (fn : Nat) (s : State), active s → pendingPage s fn p.page = some p →
    let w : Who := { agent := 0x1FF, xtbl := regionXtbl s p.region, sup := true }
    let others := fun (x : PageEvent) => !(x.page == p.page && x.pasid == p.pasid)
    (∃ t, exec (.resfail (fn, p.page)) s = .next t ∧ t.mem = s.mem ∧ t.host.pagesWest = s.host.pagesWest.filter others ∧
      t.host.pagesEast = s.host.pagesEast.filter others) ∧
    (coverOf s.mem w p.page.toNat = some e → ∃ t, exec (.resdone (fn, p.page)) s = .next t ∧
      isResident t.mem e p.page.toNat = true ∧ t.mem.spad = s.mem.spad ∧
      t.host.pagesWest = s.host.pagesWest.filter others ∧ t.host.pagesEast = s.host.pagesEast.filter others)) ∧
  (∀ (page : W64) (region : W32) (e : Extent) (fn : Nat) (s : State), active s →
    (pendingPage s fn page = none → exec (.resdone (fn, page)) s = next s ∧ exec (.resfail (fn, page)) s = next s) ∧
    (contextPlaced s region = true → exec (.residencyBitClear region page) s = next s) ∧
    (contextPlaced s region = false →
      coverOf s.mem { agent := 0x1FF, xtbl := regionXtbl s region, sup := true } page.toNat = some e →
      e.attr.getLsbD 5 = false → ∃ t, exec (.residencyBitClear region page) s = .next t ∧
        isResident t.mem e page.toNat = false ∧ t.mem.spad = s.mem.spad ∧ t.seq = s.seq)) ∧
  (∀ (pasid : BitVec 20) (va phys : W64) (size : Nat) (write : Bool) (s : State),
    let mine := requestIn pasid va [.ats, .atsAgain]
    let rephased := fun (ps : List AtsPhase) (f : AtsPhase → AtsPhase) => next (onHost (fun h => { h with
      requests := h.requests.map (fun r =>
        if requestIn pasid va ps r then { r with phase := f r.phase, since := s.clock.time } else r) }) s)
    ((∀ r ∈ s.host.requests, mine r = false) → exec (.atsTranslationCompletion pasid va size phys write) s = next s) ∧
    ((∃ r ∈ s.host.requests, mine r = true) →
      (write = true → atsSizeOk size = true → ∃ t, exec (.atsTranslationCompletion pasid va size phys write) s = .next t ∧
        t.host.requests = s.host.requests.filter (fun r => !mine r) ∧ t.mem = s.mem ∧
        { pasid := pasid, base := BitVec.ofNat 64 (va.toNat / size * size), size := size,
          phys := BitVec.ofNat 64 (phys.toNat / size * size), write := true } ∈ t.host.tlb) ∧
      (write = false → exec (.atsTranslationCompletion pasid va size phys write) s =
        rephased [.ats, .atsAgain] (fun p => if p = .ats then .pri else .refused))) ∧
    exec (.priResponse pasid va true) s = rephased [.pri] (fun _ => .atsAgain) ∧
    exec (.priResponse pasid va false) s = rephased [.pri] (fun _ => .refused) ∧
    let late := fun (r : AtsRequest) => 10000000 ≤ (s.clock.time - r.since).toNat
    ((∀ r ∈ s.host.requests, requestIn pasid va [.pri] r = true → late r) →
      exec (.priTimeout pasid va) s = rephased [.pri] (fun _ => .refused)) ∧
    ((∀ r ∈ s.host.requests, requestIn pasid va [.pri] r = true → ¬ late r) → exec (.priTimeout pasid va) s = next s)) ∧
  (∀ (pasid : BitVec 20) (base : W64) (len : Nat) (s : State),
    let stays := fun (e : TlbEntry) => !(e.pasid == pasid && rangesMeet e.base.toNat e.size base.toNat len)
    ∃ t, exec (.atsInvalidateRequest pasid base len) s = .next t ∧ t.mem = s.mem ∧ t.seq = s.seq ∧
      t.host.tlb = s.host.tlb.filter stays ∧ t.host.tlbWest = s.host.tlbWest.filter stays ∧
      t.host.tlbEast = s.host.tlbEast.filter stays ∧
      t.host.delivered ++ t.host.posted = s.host.delivered ++ s.host.posted ∧
      t.host.completions = s.host.completions ++ [(pasid, base, len)])

/-- R14, R206, R266, R338 to R340: the events of the clock, of residency and of host translation. HOLD as the absence of LOCK, the
delay request after a Follow_Up, and how translation answers are taken are the model's choices (log entries 72 and 68). -/
def Obligations.TimeResidencyAndHostEvents : Prop :=
  TimeProtocolEvents ∧ ResidencyAndHostTranslationEvents
end

