-- ==== Sys2Proof/Laws/State.lean ====
section
/-! SUPPORT. What each update of a part of the state leaves in each field: one lemma per field and update, true by `rfl`. -/

namespace Sys2Proof.Machine

/-! ### `onSeq` -/

@[simp] theorem onSeq_inbox (f : Seq → Seq) (s : State) : (onSeq f s).inbox = s.inbox := rfl
@[simp] theorem onSeq_seq (f : Seq → Seq) (s : State) : (onSeq f s).seq = f s.seq := rfl
@[simp] theorem onSeq_mem (f : Seq → Seq) (s : State) : (onSeq f s).mem = s.mem := rfl
@[simp] theorem onSeq_copy (f : Seq → Seq) (s : State) : (onSeq f s).copy = s.copy := rfl
@[simp] theorem onSeq_host (f : Seq → Seq) (s : State) : (onSeq f s).host = s.host := rfl
@[simp] theorem onSeq_refl (f : Seq → Seq) (s : State) : (onSeq f s).refl = s.refl := rfl
@[simp] theorem onSeq_coll (f : Seq → Seq) (s : State) : (onSeq f s).coll = s.coll := rfl
@[simp] theorem onSeq_sets (f : Seq → Seq) (s : State) : (onSeq f s).sets = s.sets := rfl
@[simp] theorem onSeq_disp (f : Seq → Seq) (s : State) : (onSeq f s).disp = s.disp := rfl
@[simp] theorem onSeq_fw (f : Seq → Seq) (s : State) : (onSeq f s).fw = s.fw := rfl
@[simp] theorem onSeq_clock (f : Seq → Seq) (s : State) : (onSeq f s).clock = s.clock := rfl
@[simp] theorem onSeq_freeCount (f : Seq → Seq) (s : State) : (onSeq f s).freeCount = s.freeCount := rfl

/-! ### `onMem` -/

@[simp] theorem onMem_inbox (f : Mem → Mem) (s : State) : (onMem f s).inbox = s.inbox := rfl
@[simp] theorem onMem_seq (f : Mem → Mem) (s : State) : (onMem f s).seq = s.seq := rfl
@[simp] theorem onMem_mem (f : Mem → Mem) (s : State) : (onMem f s).mem = f s.mem := rfl
@[simp] theorem onMem_copy (f : Mem → Mem) (s : State) : (onMem f s).copy = s.copy := rfl
@[simp] theorem onMem_host (f : Mem → Mem) (s : State) : (onMem f s).host = s.host := rfl
@[simp] theorem onMem_refl (f : Mem → Mem) (s : State) : (onMem f s).refl = s.refl := rfl
@[simp] theorem onMem_coll (f : Mem → Mem) (s : State) : (onMem f s).coll = s.coll := rfl
@[simp] theorem onMem_sets (f : Mem → Mem) (s : State) : (onMem f s).sets = s.sets := rfl
@[simp] theorem onMem_disp (f : Mem → Mem) (s : State) : (onMem f s).disp = s.disp := rfl
@[simp] theorem onMem_fw (f : Mem → Mem) (s : State) : (onMem f s).fw = s.fw := rfl
@[simp] theorem onMem_clock (f : Mem → Mem) (s : State) : (onMem f s).clock = s.clock := rfl
@[simp] theorem onMem_freeCount (f : Mem → Mem) (s : State) : (onMem f s).freeCount = s.freeCount := rfl

/-! ### `onCopy` -/

@[simp] theorem onCopy_inbox (f : Copy → Copy) (s : State) : (onCopy f s).inbox = s.inbox := rfl
@[simp] theorem onCopy_seq (f : Copy → Copy) (s : State) : (onCopy f s).seq = s.seq := rfl
@[simp] theorem onCopy_mem (f : Copy → Copy) (s : State) : (onCopy f s).mem = s.mem := rfl
@[simp] theorem onCopy_copy (f : Copy → Copy) (s : State) : (onCopy f s).copy = f s.copy := rfl
@[simp] theorem onCopy_host (f : Copy → Copy) (s : State) : (onCopy f s).host = s.host := rfl
@[simp] theorem onCopy_refl (f : Copy → Copy) (s : State) : (onCopy f s).refl = s.refl := rfl
@[simp] theorem onCopy_coll (f : Copy → Copy) (s : State) : (onCopy f s).coll = s.coll := rfl
@[simp] theorem onCopy_sets (f : Copy → Copy) (s : State) : (onCopy f s).sets = s.sets := rfl
@[simp] theorem onCopy_disp (f : Copy → Copy) (s : State) : (onCopy f s).disp = s.disp := rfl
@[simp] theorem onCopy_fw (f : Copy → Copy) (s : State) : (onCopy f s).fw = s.fw := rfl
@[simp] theorem onCopy_clock (f : Copy → Copy) (s : State) : (onCopy f s).clock = s.clock := rfl
@[simp] theorem onCopy_freeCount (f : Copy → Copy) (s : State) : (onCopy f s).freeCount = s.freeCount := rfl

/-! ### `onHost` -/

@[simp] theorem onHost_inbox (f : HostPort → HostPort) (s : State) : (onHost f s).inbox = s.inbox := rfl
@[simp] theorem onHost_seq (f : HostPort → HostPort) (s : State) : (onHost f s).seq = s.seq := rfl
@[simp] theorem onHost_mem (f : HostPort → HostPort) (s : State) : (onHost f s).mem = s.mem := rfl
@[simp] theorem onHost_copy (f : HostPort → HostPort) (s : State) : (onHost f s).copy = s.copy := rfl
@[simp] theorem onHost_host (f : HostPort → HostPort) (s : State) : (onHost f s).host = f s.host := rfl
@[simp] theorem onHost_refl (f : HostPort → HostPort) (s : State) : (onHost f s).refl = s.refl := rfl
@[simp] theorem onHost_coll (f : HostPort → HostPort) (s : State) : (onHost f s).coll = s.coll := rfl
@[simp] theorem onHost_sets (f : HostPort → HostPort) (s : State) : (onHost f s).sets = s.sets := rfl
@[simp] theorem onHost_disp (f : HostPort → HostPort) (s : State) : (onHost f s).disp = s.disp := rfl
@[simp] theorem onHost_fw (f : HostPort → HostPort) (s : State) : (onHost f s).fw = s.fw := rfl
@[simp] theorem onHost_clock (f : HostPort → HostPort) (s : State) : (onHost f s).clock = s.clock := rfl
@[simp] theorem onHost_freeCount (f : HostPort → HostPort) (s : State) : (onHost f s).freeCount = s.freeCount := rfl

/-! ### `onRefl` -/

@[simp] theorem onRefl_inbox (f : Reflect → Reflect) (s : State) : (onRefl f s).inbox = s.inbox := rfl
@[simp] theorem onRefl_seq (f : Reflect → Reflect) (s : State) : (onRefl f s).seq = s.seq := rfl
@[simp] theorem onRefl_mem (f : Reflect → Reflect) (s : State) : (onRefl f s).mem = s.mem := rfl
@[simp] theorem onRefl_copy (f : Reflect → Reflect) (s : State) : (onRefl f s).copy = s.copy := rfl
@[simp] theorem onRefl_host (f : Reflect → Reflect) (s : State) : (onRefl f s).host = s.host := rfl
@[simp] theorem onRefl_refl (f : Reflect → Reflect) (s : State) : (onRefl f s).refl = f s.refl := rfl
@[simp] theorem onRefl_coll (f : Reflect → Reflect) (s : State) : (onRefl f s).coll = s.coll := rfl
@[simp] theorem onRefl_sets (f : Reflect → Reflect) (s : State) : (onRefl f s).sets = s.sets := rfl
@[simp] theorem onRefl_disp (f : Reflect → Reflect) (s : State) : (onRefl f s).disp = s.disp := rfl
@[simp] theorem onRefl_fw (f : Reflect → Reflect) (s : State) : (onRefl f s).fw = s.fw := rfl
@[simp] theorem onRefl_clock (f : Reflect → Reflect) (s : State) : (onRefl f s).clock = s.clock := rfl
@[simp] theorem onRefl_freeCount (f : Reflect → Reflect) (s : State) : (onRefl f s).freeCount = s.freeCount := rfl

/-! ### `onColl` -/

@[simp] theorem onColl_inbox (f : Coll → Coll) (s : State) : (onColl f s).inbox = s.inbox := rfl
@[simp] theorem onColl_seq (f : Coll → Coll) (s : State) : (onColl f s).seq = s.seq := rfl
@[simp] theorem onColl_mem (f : Coll → Coll) (s : State) : (onColl f s).mem = s.mem := rfl
@[simp] theorem onColl_copy (f : Coll → Coll) (s : State) : (onColl f s).copy = s.copy := rfl
@[simp] theorem onColl_host (f : Coll → Coll) (s : State) : (onColl f s).host = s.host := rfl
@[simp] theorem onColl_refl (f : Coll → Coll) (s : State) : (onColl f s).refl = s.refl := rfl
@[simp] theorem onColl_coll (f : Coll → Coll) (s : State) : (onColl f s).coll = f s.coll := rfl
@[simp] theorem onColl_sets (f : Coll → Coll) (s : State) : (onColl f s).sets = s.sets := rfl
@[simp] theorem onColl_disp (f : Coll → Coll) (s : State) : (onColl f s).disp = s.disp := rfl
@[simp] theorem onColl_fw (f : Coll → Coll) (s : State) : (onColl f s).fw = s.fw := rfl
@[simp] theorem onColl_clock (f : Coll → Coll) (s : State) : (onColl f s).clock = s.clock := rfl
@[simp] theorem onColl_freeCount (f : Coll → Coll) (s : State) : (onColl f s).freeCount = s.freeCount := rfl

/-! ### `onDisp` -/

@[simp] theorem onDisp_inbox (f : Dispatch → Dispatch) (s : State) : (onDisp f s).inbox = s.inbox := rfl
@[simp] theorem onDisp_seq (f : Dispatch → Dispatch) (s : State) : (onDisp f s).seq = s.seq := rfl
@[simp] theorem onDisp_mem (f : Dispatch → Dispatch) (s : State) : (onDisp f s).mem = s.mem := rfl
@[simp] theorem onDisp_copy (f : Dispatch → Dispatch) (s : State) : (onDisp f s).copy = s.copy := rfl
@[simp] theorem onDisp_host (f : Dispatch → Dispatch) (s : State) : (onDisp f s).host = s.host := rfl
@[simp] theorem onDisp_refl (f : Dispatch → Dispatch) (s : State) : (onDisp f s).refl = s.refl := rfl
@[simp] theorem onDisp_coll (f : Dispatch → Dispatch) (s : State) : (onDisp f s).coll = s.coll := rfl
@[simp] theorem onDisp_sets (f : Dispatch → Dispatch) (s : State) : (onDisp f s).sets = s.sets := rfl
@[simp] theorem onDisp_disp (f : Dispatch → Dispatch) (s : State) : (onDisp f s).disp = f s.disp := rfl
@[simp] theorem onDisp_fw (f : Dispatch → Dispatch) (s : State) : (onDisp f s).fw = s.fw := rfl
@[simp] theorem onDisp_clock (f : Dispatch → Dispatch) (s : State) : (onDisp f s).clock = s.clock := rfl
@[simp] theorem onDisp_freeCount (f : Dispatch → Dispatch) (s : State) : (onDisp f s).freeCount = s.freeCount := rfl

/-! ### `onFw` -/

@[simp] theorem onFw_inbox (f : Firmware → Firmware) (s : State) : (onFw f s).inbox = s.inbox := rfl
@[simp] theorem onFw_seq (f : Firmware → Firmware) (s : State) : (onFw f s).seq = s.seq := rfl
@[simp] theorem onFw_mem (f : Firmware → Firmware) (s : State) : (onFw f s).mem = s.mem := rfl
@[simp] theorem onFw_copy (f : Firmware → Firmware) (s : State) : (onFw f s).copy = s.copy := rfl
@[simp] theorem onFw_host (f : Firmware → Firmware) (s : State) : (onFw f s).host = s.host := rfl
@[simp] theorem onFw_refl (f : Firmware → Firmware) (s : State) : (onFw f s).refl = s.refl := rfl
@[simp] theorem onFw_coll (f : Firmware → Firmware) (s : State) : (onFw f s).coll = s.coll := rfl
@[simp] theorem onFw_sets (f : Firmware → Firmware) (s : State) : (onFw f s).sets = s.sets := rfl
@[simp] theorem onFw_disp (f : Firmware → Firmware) (s : State) : (onFw f s).disp = s.disp := rfl
@[simp] theorem onFw_fw (f : Firmware → Firmware) (s : State) : (onFw f s).fw = f s.fw := rfl
@[simp] theorem onFw_clock (f : Firmware → Firmware) (s : State) : (onFw f s).clock = s.clock := rfl
@[simp] theorem onFw_freeCount (f : Firmware → Firmware) (s : State) : (onFw f s).freeCount = s.freeCount := rfl

/-! ### `onClock` -/

@[simp] theorem onClock_inbox (f : Clock → Clock) (s : State) : (onClock f s).inbox = s.inbox := rfl
@[simp] theorem onClock_seq (f : Clock → Clock) (s : State) : (onClock f s).seq = s.seq := rfl
@[simp] theorem onClock_mem (f : Clock → Clock) (s : State) : (onClock f s).mem = s.mem := rfl
@[simp] theorem onClock_copy (f : Clock → Clock) (s : State) : (onClock f s).copy = s.copy := rfl
@[simp] theorem onClock_host (f : Clock → Clock) (s : State) : (onClock f s).host = s.host := rfl
@[simp] theorem onClock_refl (f : Clock → Clock) (s : State) : (onClock f s).refl = s.refl := rfl
@[simp] theorem onClock_coll (f : Clock → Clock) (s : State) : (onClock f s).coll = s.coll := rfl
@[simp] theorem onClock_sets (f : Clock → Clock) (s : State) : (onClock f s).sets = s.sets := rfl
@[simp] theorem onClock_disp (f : Clock → Clock) (s : State) : (onClock f s).disp = s.disp := rfl
@[simp] theorem onClock_fw (f : Clock → Clock) (s : State) : (onClock f s).fw = s.fw := rfl
@[simp] theorem onClock_clock (f : Clock → Clock) (s : State) : (onClock f s).clock = f s.clock := rfl
@[simp] theorem onClock_freeCount (f : Clock → Clock) (s : State) : (onClock f s).freeCount = s.freeCount := rfl

/-! ### `onGroup` -/

@[simp] theorem onGroup_inbox (f : Group → Group) (s : State) : (onGroup f s).inbox = s.inbox := rfl
@[simp] theorem onGroup_group (f : Group → Group) (s : State) : (onGroup f s).seq.group = f s.seq.group := rfl
@[simp] theorem onGroup_mem (f : Group → Group) (s : State) : (onGroup f s).mem = s.mem := rfl
@[simp] theorem onGroup_copy (f : Group → Group) (s : State) : (onGroup f s).copy = s.copy := rfl
@[simp] theorem onGroup_host (f : Group → Group) (s : State) : (onGroup f s).host = s.host := rfl
@[simp] theorem onGroup_refl (f : Group → Group) (s : State) : (onGroup f s).refl = s.refl := rfl
@[simp] theorem onGroup_coll (f : Group → Group) (s : State) : (onGroup f s).coll = s.coll := rfl
@[simp] theorem onGroup_sets (f : Group → Group) (s : State) : (onGroup f s).sets = s.sets := rfl
@[simp] theorem onGroup_disp (f : Group → Group) (s : State) : (onGroup f s).disp = s.disp := rfl
@[simp] theorem onGroup_fw (f : Group → Group) (s : State) : (onGroup f s).fw = s.fw := rfl
@[simp] theorem onGroup_clock (f : Group → Group) (s : State) : (onGroup f s).clock = s.clock := rfl
@[simp] theorem onGroup_freeCount (f : Group → Group) (s : State) : (onGroup f s).freeCount = s.freeCount := rfl
@[simp] theorem onGroup_seq_s (f : Group → Group) (s : State) : (onGroup f s).seq.s = s.seq.s := rfl
@[simp] theorem onGroup_seq_p (f : Group → Group) (s : State) : (onGroup f s).seq.p = s.seq.p := rfl
@[simp] theorem onGroup_seq_v (f : Group → Group) (s : State) : (onGroup f s).seq.v = s.seq.v := rfl
@[simp] theorem onGroup_seq_t (f : Group → Group) (s : State) : (onGroup f s).seq.t = s.seq.t := rfl
@[simp] theorem onGroup_seq_w (f : Group → Group) (s : State) : (onGroup f s).seq.w = s.seq.w := rfl
@[simp] theorem onGroup_seq_w' (f : Group → Group) (s : State) : (onGroup f s).seq.w' = s.seq.w' := rfl
@[simp] theorem onGroup_seq_k (f : Group → Group) (s : State) : (onGroup f s).seq.k = s.seq.k := rfl
@[simp] theorem onGroup_seq_pc (f : Group → Group) (s : State) : (onGroup f s).seq.pc = s.seq.pc := rfl
@[simp] theorem onGroup_seq_gpos (f : Group → Group) (s : State) : (onGroup f s).seq.gpos = s.seq.gpos := rfl
@[simp] theorem onGroup_seq_loops (f : Group → Group) (s : State) : (onGroup f s).seq.loops = s.seq.loops := rfl
@[simp] theorem onGroup_seq_bayId (f : Group → Group) (s : State) : (onGroup f s).seq.bayId = s.seq.bayId := rfl
@[simp] theorem onGroup_seq_chipId (f : Group → Group) (s : State) : (onGroup f s).seq.chipId = s.seq.chipId := rfl
@[simp] theorem onGroup_seq_unitIdx (f : Group → Group) (s : State) : (onGroup f s).seq.unitIdx = s.seq.unitIdx := rfl
@[simp] theorem onGroup_seq_nunits (f : Group → Group) (s : State) : (onGroup f s).seq.nunits = s.seq.nunits := rfl
@[simp] theorem onGroup_seq_region (f : Group → Group) (s : State) : (onGroup f s).seq.region = s.seq.region := rfl
@[simp] theorem onGroup_seq_task (f : Group → Group) (s : State) : (onGroup f s).seq.task = s.seq.task := rfl
@[simp] theorem onGroup_seq_timef (f : Group → Group) (s : State) : (onGroup f s).seq.timef = s.seq.timef := rfl
@[simp] theorem onGroup_seq_steps (f : Group → Group) (s : State) : (onGroup f s).seq.steps = s.seq.steps := rfl
@[simp] theorem onGroup_seq_iter (f : Group → Group) (s : State) : (onGroup f s).seq.iter = s.seq.iter := rfl
@[simp] theorem onGroup_seq_trip (f : Group → Group) (s : State) : (onGroup f s).seq.trip = s.seq.trip := rfl
@[simp] theorem onGroup_seq_member (f : Group → Group) (s : State) : (onGroup f s).seq.member = s.seq.member := rfl
@[simp] theorem onGroup_seq_fstat (f : Group → Group) (s : State) : (onGroup f s).seq.fstat = s.seq.fstat := rfl
@[simp] theorem onGroup_seq_vtag (f : Group → Group) (s : State) : (onGroup f s).seq.vtag = s.seq.vtag := rfl
@[simp] theorem onGroup_seq_ckctl (f : Group → Group) (s : State) : (onGroup f s).seq.ckctl = s.seq.ckctl := rfl
@[simp] theorem onGroup_seq_ckcnt (f : Group → Group) (s : State) : (onGroup f s).seq.ckcnt = s.seq.ckcnt := rfl
@[simp] theorem onGroup_seq_cklog (f : Group → Group) (s : State) : (onGroup f s).seq.cklog = s.seq.cklog := rfl
@[simp] theorem onGroup_seq_cklog2 (f : Group → Group) (s : State) : (onGroup f s).seq.cklog2 = s.seq.cklog2 := rfl
@[simp] theorem onGroup_seq_raceinfo (f : Group → Group) (s : State) : (onGroup f s).seq.raceinfo = s.seq.raceinfo := rfl
@[simp] theorem onGroup_seq_supervisor (f : Group → Group) (s : State) : (onGroup f s).seq.supervisor = s.seq.supervisor := rfl
@[simp] theorem onGroup_seq_prevSupervisor (f : Group → Group) (s : State) : (onGroup f s).seq.prevSupervisor = s.seq.prevSupervisor := rfl
@[simp] theorem onGroup_seq_masked (f : Group → Group) (s : State) : (onGroup f s).seq.masked = s.seq.masked := rfl
@[simp] theorem onGroup_seq_debug (f : Group → Group) (s : State) : (onGroup f s).seq.debug = s.seq.debug := rfl
@[simp] theorem onGroup_seq_evec (f : Group → Group) (s : State) : (onGroup f s).seq.evec = s.seq.evec := rfl
@[simp] theorem onGroup_seq_epc (f : Group → Group) (s : State) : (onGroup f s).seq.epc = s.seq.epc := rfl
@[simp] theorem onGroup_seq_ecause (f : Group → Group) (s : State) : (onGroup f s).seq.ecause = s.seq.ecause := rfl
@[simp] theorem onGroup_seq_eaddr (f : Group → Group) (s : State) : (onGroup f s).seq.eaddr = s.seq.eaddr := rfl
@[simp] theorem onGroup_seq_einfo (f : Group → Group) (s : State) : (onGroup f s).seq.einfo = s.seq.einfo := rfl
@[simp] theorem onGroup_seq_saveptr (f : Group → Group) (s : State) : (onGroup f s).seq.saveptr = s.seq.saveptr := rfl
@[simp] theorem onGroup_seq_xtbl (f : Group → Group) (s : State) : (onGroup f s).seq.xtbl = s.seq.xtbl := rfl
@[simp] theorem onGroup_seq_pasid (f : Group → Group) (s : State) : (onGroup f s).seq.pasid = s.seq.pasid := rfl
@[simp] theorem onGroup_seq_rcbp (f : Group → Group) (s : State) : (onGroup f s).seq.rcbp = s.seq.rcbp := rfl
@[simp] theorem onGroup_seq_budget (f : Group → Group) (s : State) : (onGroup f s).seq.budget = s.seq.budget := rfl
@[simp] theorem onGroup_seq_errmap (f : Group → Group) (s : State) : (onGroup f s).seq.errmap = s.seq.errmap := rfl
@[simp] theorem onGroup_seq_ifq (f : Group → Group) (s : State) : (onGroup f s).seq.ifq = s.seq.ifq := rfl
@[simp] theorem onGroup_seq_sb (f : Group → Group) (s : State) : (onGroup f s).seq.sb = s.seq.sb := rfl
@[simp] theorem onGroup_seq_landed1 (f : Group → Group) (s : State) : (onGroup f s).seq.landed1 = s.seq.landed1 := rfl
@[simp] theorem onGroup_seq_landed2 (f : Group → Group) (s : State) : (onGroup f s).seq.landed2 = s.seq.landed2 := rfl
@[simp] theorem onGroup_seq_wait (f : Group → Group) (s : State) : (onGroup f s).seq.wait = s.seq.wait := rfl
@[simp] theorem onGroup_seq_resumeDone (f : Group → Group) (s : State) : (onGroup f s).seq.resumeDone = s.seq.resumeDone := rfl
@[simp] theorem onGroup_seq_snapshot (f : Group → Group) (s : State) : (onGroup f s).seq.snapshot = s.seq.snapshot := rfl
@[simp] theorem onGroup_seq_saved (f : Group → Group) (s : State) : (onGroup f s).seq.saved = s.seq.saved := rfl
@[simp] theorem onGroup_seq_engineFaults (f : Group → Group) (s : State) : (onGroup f s).seq.engineFaults = s.seq.engineFaults := rfl
@[simp] theorem onGroup_seq_preempt (f : Group → Group) (s : State) : (onGroup f s).seq.preempt = s.seq.preempt := rfl
@[simp] theorem onGroup_seq_corrections (f : Group → Group) (s : State) : (onGroup f s).seq.corrections = s.seq.corrections := rfl
@[simp] theorem onGroup_seq_residue (f : Group → Group) (s : State) : (onGroup f s).seq.residue = s.seq.residue := rfl
@[simp] theorem onGroup_seq_cpycHold (f : Group → Group) (s : State) : (onGroup f s).seq.cpycHold = s.seq.cpycHold := rfl
@[simp] theorem onGroup_seq_halted (f : Group → Group) (s : State) : (onGroup f s).seq.halted = s.seq.halted := rfl
@[simp] theorem onGroup_seq_stopped (f : Group → Group) (s : State) : (onGroup f s).seq.stopped = s.seq.stopped := rfl
@[simp] theorem onGroup_seq_unit (f : Group → Group) (s : State) : (onGroup f s).seq.unit = s.seq.unit := rfl
@[simp] theorem onGroup_seq_last (f : Group → Group) (s : State) : (onGroup f s).seq.last = s.seq.last := rfl
@[simp] theorem onGroup_seq_sect (f : Group → Group) (s : State) : (onGroup f s).seq.sect = s.seq.sect := rfl
@[simp] theorem onGroup_seq_record (f : Group → Group) (s : State) : (onGroup f s).seq.record = s.seq.record := rfl
@[simp] theorem onGroup_seq_cmdp (f : Group → Group) (s : State) : (onGroup f s).seq.cmdp = s.seq.cmdp := rfl
@[simp] theorem onGroup_seq_icache (f : Group → Group) (s : State) : (onGroup f s).seq.icache = s.seq.icache := rfl
@[simp] theorem onGroup_seq_lanesDiffer (f : Group → Group) (s : State) : (onGroup f s).seq.lanesDiffer = s.seq.lanesDiffer := rfl
@[simp] theorem onGroup_seq_chainFails (f : Group → Group) (s : State) : (onGroup f s).seq.chainFails = s.seq.chainFails := rfl
@[simp] theorem onGroup_seq_recording (f : Group → Group) (s : State) : (onGroup f s).seq.recording = s.seq.recording := rfl
@[simp] theorem onGroup_seq_replay (f : Group → Group) (s : State) : (onGroup f s).seq.replay = s.seq.replay := rfl
@[simp] theorem onGroup_seq_slots (f : Group → Group) (s : State) : (onGroup f s).seq.slots = s.seq.slots := rfl
@[simp] theorem onGroup_seq_buffers (f : Group → Group) (s : State) : (onGroup f s).seq.buffers = s.seq.buffers := rfl
@[simp] theorem onGroup_seq_held (f : Group → Group) (s : State) : (onGroup f s).seq.held = s.seq.held := rfl
@[simp] theorem onGroup_seq_inputSeq (f : Group → Group) (s : State) : (onGroup f s).seq.inputSeq = s.seq.inputSeq := rfl

/-! ### Free values -/

@[simp] theorem takeFree_inbox (s : State) : (takeFree s).2.inbox = s.inbox := rfl
@[simp] theorem takeFree_seq (s : State) : (takeFree s).2.seq = s.seq := rfl
@[simp] theorem takeFree_mem (s : State) : (takeFree s).2.mem = s.mem := rfl
@[simp] theorem takeFree_copy (s : State) : (takeFree s).2.copy = s.copy := rfl
@[simp] theorem takeFree_host (s : State) : (takeFree s).2.host = s.host := rfl
@[simp] theorem takeFree_refl (s : State) : (takeFree s).2.refl = s.refl := rfl
@[simp] theorem takeFree_coll (s : State) : (takeFree s).2.coll = s.coll := rfl
@[simp] theorem takeFree_sets (s : State) : (takeFree s).2.sets = s.sets := rfl
@[simp] theorem takeFree_disp (s : State) : (takeFree s).2.disp = s.disp := rfl
@[simp] theorem takeFree_fw (s : State) : (takeFree s).2.fw = s.fw := rfl
@[simp] theorem takeFree_clock (s : State) : (takeFree s).2.clock = s.clock := rfl
@[simp] theorem takeFree_freeCount (s : State) : (takeFree s).2.freeCount = s.freeCount + 1 := rfl

/-! ### Register files -/

@[simp] theorem setP_s (q : Seq) (r : Reg4) (x : W64) : (q.setP r x).s = q.s := rfl
@[simp] theorem setP_v (q : Seq) (r : Reg4) (x : W64) : (q.setP r x).v = q.v := rfl
@[simp] theorem setP_t (q : Seq) (r : Reg4) (x : W64) : (q.setP r x).t = q.t := rfl
@[simp] theorem setP_w (q : Seq) (r : Reg4) (x : W64) : (q.setP r x).w = q.w := rfl
@[simp] theorem setP_w' (q : Seq) (r : Reg4) (x : W64) : (q.setP r x).w' = q.w' := rfl
@[simp] theorem setP_k (q : Seq) (r : Reg4) (x : W64) : (q.setP r x).k = q.k := rfl
@[simp] theorem setP_pc (q : Seq) (r : Reg4) (x : W64) : (q.setP r x).pc = q.pc := rfl
@[simp] theorem setP_gpos (q : Seq) (r : Reg4) (x : W64) : (q.setP r x).gpos = q.gpos := rfl
@[simp] theorem setP_loops (q : Seq) (r : Reg4) (x : W64) : (q.setP r x).loops = q.loops := rfl
@[simp] theorem setP_bayId (q : Seq) (r : Reg4) (x : W64) : (q.setP r x).bayId = q.bayId := rfl
@[simp] theorem setP_chipId (q : Seq) (r : Reg4) (x : W64) : (q.setP r x).chipId = q.chipId := rfl
@[simp] theorem setP_unitIdx (q : Seq) (r : Reg4) (x : W64) : (q.setP r x).unitIdx = q.unitIdx := rfl
@[simp] theorem setP_nunits (q : Seq) (r : Reg4) (x : W64) : (q.setP r x).nunits = q.nunits := rfl
@[simp] theorem setP_region (q : Seq) (r : Reg4) (x : W64) : (q.setP r x).region = q.region := rfl
@[simp] theorem setP_task (q : Seq) (r : Reg4) (x : W64) : (q.setP r x).task = q.task := rfl
@[simp] theorem setP_timef (q : Seq) (r : Reg4) (x : W64) : (q.setP r x).timef = q.timef := rfl
@[simp] theorem setP_steps (q : Seq) (r : Reg4) (x : W64) : (q.setP r x).steps = q.steps := rfl
@[simp] theorem setP_iter (q : Seq) (r : Reg4) (x : W64) : (q.setP r x).iter = q.iter := rfl
@[simp] theorem setP_trip (q : Seq) (r : Reg4) (x : W64) : (q.setP r x).trip = q.trip := rfl
@[simp] theorem setP_member (q : Seq) (r : Reg4) (x : W64) : (q.setP r x).member = q.member := rfl
@[simp] theorem setP_fstat (q : Seq) (r : Reg4) (x : W64) : (q.setP r x).fstat = q.fstat := rfl
@[simp] theorem setP_vtag (q : Seq) (r : Reg4) (x : W64) : (q.setP r x).vtag = q.vtag := rfl
@[simp] theorem setP_ckctl (q : Seq) (r : Reg4) (x : W64) : (q.setP r x).ckctl = q.ckctl := rfl
@[simp] theorem setP_ckcnt (q : Seq) (r : Reg4) (x : W64) : (q.setP r x).ckcnt = q.ckcnt := rfl
@[simp] theorem setP_cklog (q : Seq) (r : Reg4) (x : W64) : (q.setP r x).cklog = q.cklog := rfl
@[simp] theorem setP_cklog2 (q : Seq) (r : Reg4) (x : W64) : (q.setP r x).cklog2 = q.cklog2 := rfl
@[simp] theorem setP_raceinfo (q : Seq) (r : Reg4) (x : W64) : (q.setP r x).raceinfo = q.raceinfo := rfl
@[simp] theorem setP_supervisor (q : Seq) (r : Reg4) (x : W64) : (q.setP r x).supervisor = q.supervisor := rfl
@[simp] theorem setP_prevSupervisor (q : Seq) (r : Reg4) (x : W64) : (q.setP r x).prevSupervisor = q.prevSupervisor := rfl
@[simp] theorem setP_masked (q : Seq) (r : Reg4) (x : W64) : (q.setP r x).masked = q.masked := rfl
@[simp] theorem setP_debug (q : Seq) (r : Reg4) (x : W64) : (q.setP r x).debug = q.debug := rfl
@[simp] theorem setP_evec (q : Seq) (r : Reg4) (x : W64) : (q.setP r x).evec = q.evec := rfl
@[simp] theorem setP_epc (q : Seq) (r : Reg4) (x : W64) : (q.setP r x).epc = q.epc := rfl
@[simp] theorem setP_ecause (q : Seq) (r : Reg4) (x : W64) : (q.setP r x).ecause = q.ecause := rfl
@[simp] theorem setP_eaddr (q : Seq) (r : Reg4) (x : W64) : (q.setP r x).eaddr = q.eaddr := rfl
@[simp] theorem setP_einfo (q : Seq) (r : Reg4) (x : W64) : (q.setP r x).einfo = q.einfo := rfl
@[simp] theorem setP_saveptr (q : Seq) (r : Reg4) (x : W64) : (q.setP r x).saveptr = q.saveptr := rfl
@[simp] theorem setP_xtbl (q : Seq) (r : Reg4) (x : W64) : (q.setP r x).xtbl = q.xtbl := rfl
@[simp] theorem setP_pasid (q : Seq) (r : Reg4) (x : W64) : (q.setP r x).pasid = q.pasid := rfl
@[simp] theorem setP_rcbp (q : Seq) (r : Reg4) (x : W64) : (q.setP r x).rcbp = q.rcbp := rfl
@[simp] theorem setP_budget (q : Seq) (r : Reg4) (x : W64) : (q.setP r x).budget = q.budget := rfl
@[simp] theorem setP_errmap (q : Seq) (r : Reg4) (x : W64) : (q.setP r x).errmap = q.errmap := rfl
@[simp] theorem setP_ifq (q : Seq) (r : Reg4) (x : W64) : (q.setP r x).ifq = q.ifq := rfl
@[simp] theorem setP_sb (q : Seq) (r : Reg4) (x : W64) : (q.setP r x).sb = q.sb := rfl
@[simp] theorem setP_landed1 (q : Seq) (r : Reg4) (x : W64) : (q.setP r x).landed1 = q.landed1 := rfl
@[simp] theorem setP_landed2 (q : Seq) (r : Reg4) (x : W64) : (q.setP r x).landed2 = q.landed2 := rfl
@[simp] theorem setP_group (q : Seq) (r : Reg4) (x : W64) : (q.setP r x).group = q.group := rfl
@[simp] theorem setP_wait (q : Seq) (r : Reg4) (x : W64) : (q.setP r x).wait = q.wait := rfl
@[simp] theorem setP_resumeDone (q : Seq) (r : Reg4) (x : W64) : (q.setP r x).resumeDone = q.resumeDone := rfl
@[simp] theorem setP_snapshot (q : Seq) (r : Reg4) (x : W64) : (q.setP r x).snapshot = q.snapshot := rfl
@[simp] theorem setP_saved (q : Seq) (r : Reg4) (x : W64) : (q.setP r x).saved = q.saved := rfl
@[simp] theorem setP_engineFaults (q : Seq) (r : Reg4) (x : W64) : (q.setP r x).engineFaults = q.engineFaults := rfl
@[simp] theorem setP_preempt (q : Seq) (r : Reg4) (x : W64) : (q.setP r x).preempt = q.preempt := rfl
@[simp] theorem setP_corrections (q : Seq) (r : Reg4) (x : W64) : (q.setP r x).corrections = q.corrections := rfl
@[simp] theorem setP_residue (q : Seq) (r : Reg4) (x : W64) : (q.setP r x).residue = q.residue := rfl
@[simp] theorem setP_cpycHold (q : Seq) (r : Reg4) (x : W64) : (q.setP r x).cpycHold = q.cpycHold := rfl
@[simp] theorem setP_halted (q : Seq) (r : Reg4) (x : W64) : (q.setP r x).halted = q.halted := rfl
@[simp] theorem setP_stopped (q : Seq) (r : Reg4) (x : W64) : (q.setP r x).stopped = q.stopped := rfl
@[simp] theorem setP_unit (q : Seq) (r : Reg4) (x : W64) : (q.setP r x).unit = q.unit := rfl
@[simp] theorem setP_last (q : Seq) (r : Reg4) (x : W64) : (q.setP r x).last = q.last := rfl
@[simp] theorem setP_sect (q : Seq) (r : Reg4) (x : W64) : (q.setP r x).sect = q.sect := rfl
@[simp] theorem setP_record (q : Seq) (r : Reg4) (x : W64) : (q.setP r x).record = q.record := rfl
@[simp] theorem setP_cmdp (q : Seq) (r : Reg4) (x : W64) : (q.setP r x).cmdp = q.cmdp := rfl
@[simp] theorem setP_icache (q : Seq) (r : Reg4) (x : W64) : (q.setP r x).icache = q.icache := rfl
@[simp] theorem setP_lanesDiffer (q : Seq) (r : Reg4) (x : W64) : (q.setP r x).lanesDiffer = q.lanesDiffer := rfl
@[simp] theorem setP_chainFails (q : Seq) (r : Reg4) (x : W64) : (q.setP r x).chainFails = q.chainFails := rfl
@[simp] theorem setP_recording (q : Seq) (r : Reg4) (x : W64) : (q.setP r x).recording = q.recording := rfl
@[simp] theorem setP_replay (q : Seq) (r : Reg4) (x : W64) : (q.setP r x).replay = q.replay := rfl
@[simp] theorem setP_slots (q : Seq) (r : Reg4) (x : W64) : (q.setP r x).slots = q.slots := rfl
@[simp] theorem setP_buffers (q : Seq) (r : Reg4) (x : W64) : (q.setP r x).buffers = q.buffers := rfl
@[simp] theorem setP_held (q : Seq) (r : Reg4) (x : W64) : (q.setP r x).held = q.held := rfl
@[simp] theorem setP_inputSeq (q : Seq) (r : Reg4) (x : W64) : (q.setP r x).inputSeq = q.inputSeq := rfl

@[simp] theorem setV_s (q : Seq) (r : Reg5) (x : VReg) : (q.setV r x).s = q.s := rfl
@[simp] theorem setV_p (q : Seq) (r : Reg5) (x : VReg) : (q.setV r x).p = q.p := rfl
@[simp] theorem setV_t (q : Seq) (r : Reg5) (x : VReg) : (q.setV r x).t = q.t := rfl
@[simp] theorem setV_w (q : Seq) (r : Reg5) (x : VReg) : (q.setV r x).w = q.w := rfl
@[simp] theorem setV_w' (q : Seq) (r : Reg5) (x : VReg) : (q.setV r x).w' = q.w' := rfl
@[simp] theorem setV_k (q : Seq) (r : Reg5) (x : VReg) : (q.setV r x).k = q.k := rfl
@[simp] theorem setV_pc (q : Seq) (r : Reg5) (x : VReg) : (q.setV r x).pc = q.pc := rfl
@[simp] theorem setV_gpos (q : Seq) (r : Reg5) (x : VReg) : (q.setV r x).gpos = q.gpos := rfl
@[simp] theorem setV_loops (q : Seq) (r : Reg5) (x : VReg) : (q.setV r x).loops = q.loops := rfl
@[simp] theorem setV_bayId (q : Seq) (r : Reg5) (x : VReg) : (q.setV r x).bayId = q.bayId := rfl
@[simp] theorem setV_chipId (q : Seq) (r : Reg5) (x : VReg) : (q.setV r x).chipId = q.chipId := rfl
@[simp] theorem setV_unitIdx (q : Seq) (r : Reg5) (x : VReg) : (q.setV r x).unitIdx = q.unitIdx := rfl
@[simp] theorem setV_nunits (q : Seq) (r : Reg5) (x : VReg) : (q.setV r x).nunits = q.nunits := rfl
@[simp] theorem setV_region (q : Seq) (r : Reg5) (x : VReg) : (q.setV r x).region = q.region := rfl
@[simp] theorem setV_task (q : Seq) (r : Reg5) (x : VReg) : (q.setV r x).task = q.task := rfl
@[simp] theorem setV_timef (q : Seq) (r : Reg5) (x : VReg) : (q.setV r x).timef = q.timef := rfl
@[simp] theorem setV_steps (q : Seq) (r : Reg5) (x : VReg) : (q.setV r x).steps = q.steps := rfl
@[simp] theorem setV_iter (q : Seq) (r : Reg5) (x : VReg) : (q.setV r x).iter = q.iter := rfl
@[simp] theorem setV_trip (q : Seq) (r : Reg5) (x : VReg) : (q.setV r x).trip = q.trip := rfl
@[simp] theorem setV_member (q : Seq) (r : Reg5) (x : VReg) : (q.setV r x).member = q.member := rfl
@[simp] theorem setV_fstat (q : Seq) (r : Reg5) (x : VReg) : (q.setV r x).fstat = q.fstat := rfl
@[simp] theorem setV_vtag (q : Seq) (r : Reg5) (x : VReg) : (q.setV r x).vtag = q.vtag := rfl
@[simp] theorem setV_ckctl (q : Seq) (r : Reg5) (x : VReg) : (q.setV r x).ckctl = q.ckctl := rfl
@[simp] theorem setV_ckcnt (q : Seq) (r : Reg5) (x : VReg) : (q.setV r x).ckcnt = q.ckcnt := rfl
@[simp] theorem setV_cklog (q : Seq) (r : Reg5) (x : VReg) : (q.setV r x).cklog = q.cklog := rfl
@[simp] theorem setV_cklog2 (q : Seq) (r : Reg5) (x : VReg) : (q.setV r x).cklog2 = q.cklog2 := rfl
@[simp] theorem setV_raceinfo (q : Seq) (r : Reg5) (x : VReg) : (q.setV r x).raceinfo = q.raceinfo := rfl
@[simp] theorem setV_supervisor (q : Seq) (r : Reg5) (x : VReg) : (q.setV r x).supervisor = q.supervisor := rfl
@[simp] theorem setV_prevSupervisor (q : Seq) (r : Reg5) (x : VReg) : (q.setV r x).prevSupervisor = q.prevSupervisor := rfl
@[simp] theorem setV_masked (q : Seq) (r : Reg5) (x : VReg) : (q.setV r x).masked = q.masked := rfl
@[simp] theorem setV_debug (q : Seq) (r : Reg5) (x : VReg) : (q.setV r x).debug = q.debug := rfl
@[simp] theorem setV_evec (q : Seq) (r : Reg5) (x : VReg) : (q.setV r x).evec = q.evec := rfl
@[simp] theorem setV_epc (q : Seq) (r : Reg5) (x : VReg) : (q.setV r x).epc = q.epc := rfl
@[simp] theorem setV_ecause (q : Seq) (r : Reg5) (x : VReg) : (q.setV r x).ecause = q.ecause := rfl
@[simp] theorem setV_eaddr (q : Seq) (r : Reg5) (x : VReg) : (q.setV r x).eaddr = q.eaddr := rfl
@[simp] theorem setV_einfo (q : Seq) (r : Reg5) (x : VReg) : (q.setV r x).einfo = q.einfo := rfl
@[simp] theorem setV_saveptr (q : Seq) (r : Reg5) (x : VReg) : (q.setV r x).saveptr = q.saveptr := rfl
@[simp] theorem setV_xtbl (q : Seq) (r : Reg5) (x : VReg) : (q.setV r x).xtbl = q.xtbl := rfl
@[simp] theorem setV_pasid (q : Seq) (r : Reg5) (x : VReg) : (q.setV r x).pasid = q.pasid := rfl
@[simp] theorem setV_rcbp (q : Seq) (r : Reg5) (x : VReg) : (q.setV r x).rcbp = q.rcbp := rfl
@[simp] theorem setV_budget (q : Seq) (r : Reg5) (x : VReg) : (q.setV r x).budget = q.budget := rfl
@[simp] theorem setV_errmap (q : Seq) (r : Reg5) (x : VReg) : (q.setV r x).errmap = q.errmap := rfl
@[simp] theorem setV_ifq (q : Seq) (r : Reg5) (x : VReg) : (q.setV r x).ifq = q.ifq := rfl
@[simp] theorem setV_sb (q : Seq) (r : Reg5) (x : VReg) : (q.setV r x).sb = q.sb := rfl
@[simp] theorem setV_landed1 (q : Seq) (r : Reg5) (x : VReg) : (q.setV r x).landed1 = q.landed1 := rfl
@[simp] theorem setV_landed2 (q : Seq) (r : Reg5) (x : VReg) : (q.setV r x).landed2 = q.landed2 := rfl
@[simp] theorem setV_group (q : Seq) (r : Reg5) (x : VReg) : (q.setV r x).group = q.group := rfl
@[simp] theorem setV_wait (q : Seq) (r : Reg5) (x : VReg) : (q.setV r x).wait = q.wait := rfl
@[simp] theorem setV_resumeDone (q : Seq) (r : Reg5) (x : VReg) : (q.setV r x).resumeDone = q.resumeDone := rfl
@[simp] theorem setV_snapshot (q : Seq) (r : Reg5) (x : VReg) : (q.setV r x).snapshot = q.snapshot := rfl
@[simp] theorem setV_saved (q : Seq) (r : Reg5) (x : VReg) : (q.setV r x).saved = q.saved := rfl
@[simp] theorem setV_engineFaults (q : Seq) (r : Reg5) (x : VReg) : (q.setV r x).engineFaults = q.engineFaults := rfl
@[simp] theorem setV_preempt (q : Seq) (r : Reg5) (x : VReg) : (q.setV r x).preempt = q.preempt := rfl
@[simp] theorem setV_corrections (q : Seq) (r : Reg5) (x : VReg) : (q.setV r x).corrections = q.corrections := rfl
@[simp] theorem setV_residue (q : Seq) (r : Reg5) (x : VReg) : (q.setV r x).residue = q.residue := rfl
@[simp] theorem setV_cpycHold (q : Seq) (r : Reg5) (x : VReg) : (q.setV r x).cpycHold = q.cpycHold := rfl
@[simp] theorem setV_halted (q : Seq) (r : Reg5) (x : VReg) : (q.setV r x).halted = q.halted := rfl
@[simp] theorem setV_stopped (q : Seq) (r : Reg5) (x : VReg) : (q.setV r x).stopped = q.stopped := rfl
@[simp] theorem setV_unit (q : Seq) (r : Reg5) (x : VReg) : (q.setV r x).unit = q.unit := rfl
@[simp] theorem setV_last (q : Seq) (r : Reg5) (x : VReg) : (q.setV r x).last = q.last := rfl
@[simp] theorem setV_sect (q : Seq) (r : Reg5) (x : VReg) : (q.setV r x).sect = q.sect := rfl
@[simp] theorem setV_record (q : Seq) (r : Reg5) (x : VReg) : (q.setV r x).record = q.record := rfl
@[simp] theorem setV_cmdp (q : Seq) (r : Reg5) (x : VReg) : (q.setV r x).cmdp = q.cmdp := rfl
@[simp] theorem setV_icache (q : Seq) (r : Reg5) (x : VReg) : (q.setV r x).icache = q.icache := rfl
@[simp] theorem setV_lanesDiffer (q : Seq) (r : Reg5) (x : VReg) : (q.setV r x).lanesDiffer = q.lanesDiffer := rfl
@[simp] theorem setV_chainFails (q : Seq) (r : Reg5) (x : VReg) : (q.setV r x).chainFails = q.chainFails := rfl
@[simp] theorem setV_recording (q : Seq) (r : Reg5) (x : VReg) : (q.setV r x).recording = q.recording := rfl
@[simp] theorem setV_replay (q : Seq) (r : Reg5) (x : VReg) : (q.setV r x).replay = q.replay := rfl
@[simp] theorem setV_slots (q : Seq) (r : Reg5) (x : VReg) : (q.setV r x).slots = q.slots := rfl
@[simp] theorem setV_buffers (q : Seq) (r : Reg5) (x : VReg) : (q.setV r x).buffers = q.buffers := rfl
@[simp] theorem setV_held (q : Seq) (r : Reg5) (x : VReg) : (q.setV r x).held = q.held := rfl
@[simp] theorem setV_inputSeq (q : Seq) (r : Reg5) (x : VReg) : (q.setV r x).inputSeq = q.inputSeq := rfl

@[simp] theorem setT_s (q : Seq) (r : Reg4) (x : Tile) : (q.setT r x).s = q.s := rfl
@[simp] theorem setT_p (q : Seq) (r : Reg4) (x : Tile) : (q.setT r x).p = q.p := rfl
@[simp] theorem setT_v (q : Seq) (r : Reg4) (x : Tile) : (q.setT r x).v = q.v := rfl
@[simp] theorem setT_w (q : Seq) (r : Reg4) (x : Tile) : (q.setT r x).w = q.w := rfl
@[simp] theorem setT_w' (q : Seq) (r : Reg4) (x : Tile) : (q.setT r x).w' = q.w' := rfl
@[simp] theorem setT_k (q : Seq) (r : Reg4) (x : Tile) : (q.setT r x).k = q.k := rfl
@[simp] theorem setT_pc (q : Seq) (r : Reg4) (x : Tile) : (q.setT r x).pc = q.pc := rfl
@[simp] theorem setT_gpos (q : Seq) (r : Reg4) (x : Tile) : (q.setT r x).gpos = q.gpos := rfl
@[simp] theorem setT_loops (q : Seq) (r : Reg4) (x : Tile) : (q.setT r x).loops = q.loops := rfl
@[simp] theorem setT_bayId (q : Seq) (r : Reg4) (x : Tile) : (q.setT r x).bayId = q.bayId := rfl
@[simp] theorem setT_chipId (q : Seq) (r : Reg4) (x : Tile) : (q.setT r x).chipId = q.chipId := rfl
@[simp] theorem setT_unitIdx (q : Seq) (r : Reg4) (x : Tile) : (q.setT r x).unitIdx = q.unitIdx := rfl
@[simp] theorem setT_nunits (q : Seq) (r : Reg4) (x : Tile) : (q.setT r x).nunits = q.nunits := rfl
@[simp] theorem setT_region (q : Seq) (r : Reg4) (x : Tile) : (q.setT r x).region = q.region := rfl
@[simp] theorem setT_task (q : Seq) (r : Reg4) (x : Tile) : (q.setT r x).task = q.task := rfl
@[simp] theorem setT_timef (q : Seq) (r : Reg4) (x : Tile) : (q.setT r x).timef = q.timef := rfl
@[simp] theorem setT_steps (q : Seq) (r : Reg4) (x : Tile) : (q.setT r x).steps = q.steps := rfl
@[simp] theorem setT_iter (q : Seq) (r : Reg4) (x : Tile) : (q.setT r x).iter = q.iter := rfl
@[simp] theorem setT_trip (q : Seq) (r : Reg4) (x : Tile) : (q.setT r x).trip = q.trip := rfl
@[simp] theorem setT_member (q : Seq) (r : Reg4) (x : Tile) : (q.setT r x).member = q.member := rfl
@[simp] theorem setT_fstat (q : Seq) (r : Reg4) (x : Tile) : (q.setT r x).fstat = q.fstat := rfl
@[simp] theorem setT_vtag (q : Seq) (r : Reg4) (x : Tile) : (q.setT r x).vtag = q.vtag := rfl
@[simp] theorem setT_ckctl (q : Seq) (r : Reg4) (x : Tile) : (q.setT r x).ckctl = q.ckctl := rfl
@[simp] theorem setT_ckcnt (q : Seq) (r : Reg4) (x : Tile) : (q.setT r x).ckcnt = q.ckcnt := rfl
@[simp] theorem setT_cklog (q : Seq) (r : Reg4) (x : Tile) : (q.setT r x).cklog = q.cklog := rfl
@[simp] theorem setT_cklog2 (q : Seq) (r : Reg4) (x : Tile) : (q.setT r x).cklog2 = q.cklog2 := rfl
@[simp] theorem setT_raceinfo (q : Seq) (r : Reg4) (x : Tile) : (q.setT r x).raceinfo = q.raceinfo := rfl
@[simp] theorem setT_supervisor (q : Seq) (r : Reg4) (x : Tile) : (q.setT r x).supervisor = q.supervisor := rfl
@[simp] theorem setT_prevSupervisor (q : Seq) (r : Reg4) (x : Tile) : (q.setT r x).prevSupervisor = q.prevSupervisor := rfl
@[simp] theorem setT_masked (q : Seq) (r : Reg4) (x : Tile) : (q.setT r x).masked = q.masked := rfl
@[simp] theorem setT_debug (q : Seq) (r : Reg4) (x : Tile) : (q.setT r x).debug = q.debug := rfl
@[simp] theorem setT_evec (q : Seq) (r : Reg4) (x : Tile) : (q.setT r x).evec = q.evec := rfl
@[simp] theorem setT_epc (q : Seq) (r : Reg4) (x : Tile) : (q.setT r x).epc = q.epc := rfl
@[simp] theorem setT_ecause (q : Seq) (r : Reg4) (x : Tile) : (q.setT r x).ecause = q.ecause := rfl
@[simp] theorem setT_eaddr (q : Seq) (r : Reg4) (x : Tile) : (q.setT r x).eaddr = q.eaddr := rfl
@[simp] theorem setT_einfo (q : Seq) (r : Reg4) (x : Tile) : (q.setT r x).einfo = q.einfo := rfl
@[simp] theorem setT_saveptr (q : Seq) (r : Reg4) (x : Tile) : (q.setT r x).saveptr = q.saveptr := rfl
@[simp] theorem setT_xtbl (q : Seq) (r : Reg4) (x : Tile) : (q.setT r x).xtbl = q.xtbl := rfl
@[simp] theorem setT_pasid (q : Seq) (r : Reg4) (x : Tile) : (q.setT r x).pasid = q.pasid := rfl
@[simp] theorem setT_rcbp (q : Seq) (r : Reg4) (x : Tile) : (q.setT r x).rcbp = q.rcbp := rfl
@[simp] theorem setT_budget (q : Seq) (r : Reg4) (x : Tile) : (q.setT r x).budget = q.budget := rfl
@[simp] theorem setT_errmap (q : Seq) (r : Reg4) (x : Tile) : (q.setT r x).errmap = q.errmap := rfl
@[simp] theorem setT_ifq (q : Seq) (r : Reg4) (x : Tile) : (q.setT r x).ifq = q.ifq := rfl
@[simp] theorem setT_sb (q : Seq) (r : Reg4) (x : Tile) : (q.setT r x).sb = q.sb := rfl
@[simp] theorem setT_landed1 (q : Seq) (r : Reg4) (x : Tile) : (q.setT r x).landed1 = q.landed1 := rfl
@[simp] theorem setT_landed2 (q : Seq) (r : Reg4) (x : Tile) : (q.setT r x).landed2 = q.landed2 := rfl
@[simp] theorem setT_group (q : Seq) (r : Reg4) (x : Tile) : (q.setT r x).group = q.group := rfl
@[simp] theorem setT_wait (q : Seq) (r : Reg4) (x : Tile) : (q.setT r x).wait = q.wait := rfl
@[simp] theorem setT_resumeDone (q : Seq) (r : Reg4) (x : Tile) : (q.setT r x).resumeDone = q.resumeDone := rfl
@[simp] theorem setT_snapshot (q : Seq) (r : Reg4) (x : Tile) : (q.setT r x).snapshot = q.snapshot := rfl
@[simp] theorem setT_saved (q : Seq) (r : Reg4) (x : Tile) : (q.setT r x).saved = q.saved := rfl
@[simp] theorem setT_engineFaults (q : Seq) (r : Reg4) (x : Tile) : (q.setT r x).engineFaults = q.engineFaults := rfl
@[simp] theorem setT_preempt (q : Seq) (r : Reg4) (x : Tile) : (q.setT r x).preempt = q.preempt := rfl
@[simp] theorem setT_corrections (q : Seq) (r : Reg4) (x : Tile) : (q.setT r x).corrections = q.corrections := rfl
@[simp] theorem setT_residue (q : Seq) (r : Reg4) (x : Tile) : (q.setT r x).residue = q.residue := rfl
@[simp] theorem setT_cpycHold (q : Seq) (r : Reg4) (x : Tile) : (q.setT r x).cpycHold = q.cpycHold := rfl
@[simp] theorem setT_halted (q : Seq) (r : Reg4) (x : Tile) : (q.setT r x).halted = q.halted := rfl
@[simp] theorem setT_stopped (q : Seq) (r : Reg4) (x : Tile) : (q.setT r x).stopped = q.stopped := rfl
@[simp] theorem setT_unit (q : Seq) (r : Reg4) (x : Tile) : (q.setT r x).unit = q.unit := rfl
@[simp] theorem setT_last (q : Seq) (r : Reg4) (x : Tile) : (q.setT r x).last = q.last := rfl
@[simp] theorem setT_sect (q : Seq) (r : Reg4) (x : Tile) : (q.setT r x).sect = q.sect := rfl
@[simp] theorem setT_record (q : Seq) (r : Reg4) (x : Tile) : (q.setT r x).record = q.record := rfl
@[simp] theorem setT_cmdp (q : Seq) (r : Reg4) (x : Tile) : (q.setT r x).cmdp = q.cmdp := rfl
@[simp] theorem setT_icache (q : Seq) (r : Reg4) (x : Tile) : (q.setT r x).icache = q.icache := rfl
@[simp] theorem setT_lanesDiffer (q : Seq) (r : Reg4) (x : Tile) : (q.setT r x).lanesDiffer = q.lanesDiffer := rfl
@[simp] theorem setT_chainFails (q : Seq) (r : Reg4) (x : Tile) : (q.setT r x).chainFails = q.chainFails := rfl
@[simp] theorem setT_recording (q : Seq) (r : Reg4) (x : Tile) : (q.setT r x).recording = q.recording := rfl
@[simp] theorem setT_replay (q : Seq) (r : Reg4) (x : Tile) : (q.setT r x).replay = q.replay := rfl
@[simp] theorem setT_slots (q : Seq) (r : Reg4) (x : Tile) : (q.setT r x).slots = q.slots := rfl
@[simp] theorem setT_buffers (q : Seq) (r : Reg4) (x : Tile) : (q.setT r x).buffers = q.buffers := rfl
@[simp] theorem setT_held (q : Seq) (r : Reg4) (x : Tile) : (q.setT r x).held = q.held := rfl
@[simp] theorem setT_inputSeq (q : Seq) (r : Reg4) (x : Tile) : (q.setT r x).inputSeq = q.inputSeq := rfl

@[simp] theorem setS_p (q : Seq) (r : Reg5) (x : W64) : (q.setS r x).p = q.p := by
  unfold Seq.setS; split <;> rfl
@[simp] theorem setS_v (q : Seq) (r : Reg5) (x : W64) : (q.setS r x).v = q.v := by
  unfold Seq.setS; split <;> rfl
@[simp] theorem setS_t (q : Seq) (r : Reg5) (x : W64) : (q.setS r x).t = q.t := by
  unfold Seq.setS; split <;> rfl
@[simp] theorem setS_w (q : Seq) (r : Reg5) (x : W64) : (q.setS r x).w = q.w := by
  unfold Seq.setS; split <;> rfl
@[simp] theorem setS_w' (q : Seq) (r : Reg5) (x : W64) : (q.setS r x).w' = q.w' := by
  unfold Seq.setS; split <;> rfl
@[simp] theorem setS_k (q : Seq) (r : Reg5) (x : W64) : (q.setS r x).k = q.k := by
  unfold Seq.setS; split <;> rfl
@[simp] theorem setS_pc (q : Seq) (r : Reg5) (x : W64) : (q.setS r x).pc = q.pc := by
  unfold Seq.setS; split <;> rfl
@[simp] theorem setS_gpos (q : Seq) (r : Reg5) (x : W64) : (q.setS r x).gpos = q.gpos := by
  unfold Seq.setS; split <;> rfl
@[simp] theorem setS_loops (q : Seq) (r : Reg5) (x : W64) : (q.setS r x).loops = q.loops := by
  unfold Seq.setS; split <;> rfl
@[simp] theorem setS_bayId (q : Seq) (r : Reg5) (x : W64) : (q.setS r x).bayId = q.bayId := by
  unfold Seq.setS; split <;> rfl
@[simp] theorem setS_chipId (q : Seq) (r : Reg5) (x : W64) : (q.setS r x).chipId = q.chipId := by
  unfold Seq.setS; split <;> rfl
@[simp] theorem setS_unitIdx (q : Seq) (r : Reg5) (x : W64) : (q.setS r x).unitIdx = q.unitIdx := by
  unfold Seq.setS; split <;> rfl
@[simp] theorem setS_nunits (q : Seq) (r : Reg5) (x : W64) : (q.setS r x).nunits = q.nunits := by
  unfold Seq.setS; split <;> rfl
@[simp] theorem setS_region (q : Seq) (r : Reg5) (x : W64) : (q.setS r x).region = q.region := by
  unfold Seq.setS; split <;> rfl
@[simp] theorem setS_task (q : Seq) (r : Reg5) (x : W64) : (q.setS r x).task = q.task := by
  unfold Seq.setS; split <;> rfl
@[simp] theorem setS_timef (q : Seq) (r : Reg5) (x : W64) : (q.setS r x).timef = q.timef := by
  unfold Seq.setS; split <;> rfl
@[simp] theorem setS_steps (q : Seq) (r : Reg5) (x : W64) : (q.setS r x).steps = q.steps := by
  unfold Seq.setS; split <;> rfl
@[simp] theorem setS_iter (q : Seq) (r : Reg5) (x : W64) : (q.setS r x).iter = q.iter := by
  unfold Seq.setS; split <;> rfl
@[simp] theorem setS_trip (q : Seq) (r : Reg5) (x : W64) : (q.setS r x).trip = q.trip := by
  unfold Seq.setS; split <;> rfl
@[simp] theorem setS_member (q : Seq) (r : Reg5) (x : W64) : (q.setS r x).member = q.member := by
  unfold Seq.setS; split <;> rfl
@[simp] theorem setS_fstat (q : Seq) (r : Reg5) (x : W64) : (q.setS r x).fstat = q.fstat := by
  unfold Seq.setS; split <;> rfl
@[simp] theorem setS_vtag (q : Seq) (r : Reg5) (x : W64) : (q.setS r x).vtag = q.vtag := by
  unfold Seq.setS; split <;> rfl
@[simp] theorem setS_ckctl (q : Seq) (r : Reg5) (x : W64) : (q.setS r x).ckctl = q.ckctl := by
  unfold Seq.setS; split <;> rfl
@[simp] theorem setS_ckcnt (q : Seq) (r : Reg5) (x : W64) : (q.setS r x).ckcnt = q.ckcnt := by
  unfold Seq.setS; split <;> rfl
@[simp] theorem setS_cklog (q : Seq) (r : Reg5) (x : W64) : (q.setS r x).cklog = q.cklog := by
  unfold Seq.setS; split <;> rfl
@[simp] theorem setS_cklog2 (q : Seq) (r : Reg5) (x : W64) : (q.setS r x).cklog2 = q.cklog2 := by
  unfold Seq.setS; split <;> rfl
@[simp] theorem setS_raceinfo (q : Seq) (r : Reg5) (x : W64) : (q.setS r x).raceinfo = q.raceinfo := by
  unfold Seq.setS; split <;> rfl
@[simp] theorem setS_supervisor (q : Seq) (r : Reg5) (x : W64) : (q.setS r x).supervisor = q.supervisor := by
  unfold Seq.setS; split <;> rfl
@[simp] theorem setS_prevSupervisor (q : Seq) (r : Reg5) (x : W64) : (q.setS r x).prevSupervisor = q.prevSupervisor := by
  unfold Seq.setS; split <;> rfl
@[simp] theorem setS_masked (q : Seq) (r : Reg5) (x : W64) : (q.setS r x).masked = q.masked := by
  unfold Seq.setS; split <;> rfl
@[simp] theorem setS_debug (q : Seq) (r : Reg5) (x : W64) : (q.setS r x).debug = q.debug := by
  unfold Seq.setS; split <;> rfl
@[simp] theorem setS_evec (q : Seq) (r : Reg5) (x : W64) : (q.setS r x).evec = q.evec := by
  unfold Seq.setS; split <;> rfl
@[simp] theorem setS_epc (q : Seq) (r : Reg5) (x : W64) : (q.setS r x).epc = q.epc := by
  unfold Seq.setS; split <;> rfl
@[simp] theorem setS_ecause (q : Seq) (r : Reg5) (x : W64) : (q.setS r x).ecause = q.ecause := by
  unfold Seq.setS; split <;> rfl
@[simp] theorem setS_eaddr (q : Seq) (r : Reg5) (x : W64) : (q.setS r x).eaddr = q.eaddr := by
  unfold Seq.setS; split <;> rfl
@[simp] theorem setS_einfo (q : Seq) (r : Reg5) (x : W64) : (q.setS r x).einfo = q.einfo := by
  unfold Seq.setS; split <;> rfl
@[simp] theorem setS_saveptr (q : Seq) (r : Reg5) (x : W64) : (q.setS r x).saveptr = q.saveptr := by
  unfold Seq.setS; split <;> rfl
@[simp] theorem setS_xtbl (q : Seq) (r : Reg5) (x : W64) : (q.setS r x).xtbl = q.xtbl := by
  unfold Seq.setS; split <;> rfl
@[simp] theorem setS_pasid (q : Seq) (r : Reg5) (x : W64) : (q.setS r x).pasid = q.pasid := by
  unfold Seq.setS; split <;> rfl
@[simp] theorem setS_rcbp (q : Seq) (r : Reg5) (x : W64) : (q.setS r x).rcbp = q.rcbp := by
  unfold Seq.setS; split <;> rfl
@[simp] theorem setS_budget (q : Seq) (r : Reg5) (x : W64) : (q.setS r x).budget = q.budget := by
  unfold Seq.setS; split <;> rfl
@[simp] theorem setS_errmap (q : Seq) (r : Reg5) (x : W64) : (q.setS r x).errmap = q.errmap := by
  unfold Seq.setS; split <;> rfl
@[simp] theorem setS_ifq (q : Seq) (r : Reg5) (x : W64) : (q.setS r x).ifq = q.ifq := by
  unfold Seq.setS; split <;> rfl
@[simp] theorem setS_sb (q : Seq) (r : Reg5) (x : W64) : (q.setS r x).sb = q.sb := by
  unfold Seq.setS; split <;> rfl
@[simp] theorem setS_landed1 (q : Seq) (r : Reg5) (x : W64) : (q.setS r x).landed1 = q.landed1 := by
  unfold Seq.setS; split <;> rfl
@[simp] theorem setS_landed2 (q : Seq) (r : Reg5) (x : W64) : (q.setS r x).landed2 = q.landed2 := by
  unfold Seq.setS; split <;> rfl
@[simp] theorem setS_group (q : Seq) (r : Reg5) (x : W64) : (q.setS r x).group = q.group := by
  unfold Seq.setS; split <;> rfl
@[simp] theorem setS_wait (q : Seq) (r : Reg5) (x : W64) : (q.setS r x).wait = q.wait := by
  unfold Seq.setS; split <;> rfl
@[simp] theorem setS_resumeDone (q : Seq) (r : Reg5) (x : W64) : (q.setS r x).resumeDone = q.resumeDone := by
  unfold Seq.setS; split <;> rfl
@[simp] theorem setS_snapshot (q : Seq) (r : Reg5) (x : W64) : (q.setS r x).snapshot = q.snapshot := by
  unfold Seq.setS; split <;> rfl
@[simp] theorem setS_saved (q : Seq) (r : Reg5) (x : W64) : (q.setS r x).saved = q.saved := by
  unfold Seq.setS; split <;> rfl
@[simp] theorem setS_engineFaults (q : Seq) (r : Reg5) (x : W64) : (q.setS r x).engineFaults = q.engineFaults := by
  unfold Seq.setS; split <;> rfl
@[simp] theorem setS_preempt (q : Seq) (r : Reg5) (x : W64) : (q.setS r x).preempt = q.preempt := by
  unfold Seq.setS; split <;> rfl
@[simp] theorem setS_corrections (q : Seq) (r : Reg5) (x : W64) : (q.setS r x).corrections = q.corrections := by
  unfold Seq.setS; split <;> rfl
@[simp] theorem setS_residue (q : Seq) (r : Reg5) (x : W64) : (q.setS r x).residue = q.residue := by
  unfold Seq.setS; split <;> rfl
@[simp] theorem setS_cpycHold (q : Seq) (r : Reg5) (x : W64) : (q.setS r x).cpycHold = q.cpycHold := by
  unfold Seq.setS; split <;> rfl
@[simp] theorem setS_halted (q : Seq) (r : Reg5) (x : W64) : (q.setS r x).halted = q.halted := by
  unfold Seq.setS; split <;> rfl
@[simp] theorem setS_stopped (q : Seq) (r : Reg5) (x : W64) : (q.setS r x).stopped = q.stopped := by
  unfold Seq.setS; split <;> rfl
@[simp] theorem setS_unit (q : Seq) (r : Reg5) (x : W64) : (q.setS r x).unit = q.unit := by
  unfold Seq.setS; split <;> rfl
@[simp] theorem setS_last (q : Seq) (r : Reg5) (x : W64) : (q.setS r x).last = q.last := by
  unfold Seq.setS; split <;> rfl
@[simp] theorem setS_sect (q : Seq) (r : Reg5) (x : W64) : (q.setS r x).sect = q.sect := by
  unfold Seq.setS; split <;> rfl
@[simp] theorem setS_record (q : Seq) (r : Reg5) (x : W64) : (q.setS r x).record = q.record := by
  unfold Seq.setS; split <;> rfl
@[simp] theorem setS_cmdp (q : Seq) (r : Reg5) (x : W64) : (q.setS r x).cmdp = q.cmdp := by
  unfold Seq.setS; split <;> rfl
@[simp] theorem setS_icache (q : Seq) (r : Reg5) (x : W64) : (q.setS r x).icache = q.icache := by
  unfold Seq.setS; split <;> rfl
@[simp] theorem setS_lanesDiffer (q : Seq) (r : Reg5) (x : W64) : (q.setS r x).lanesDiffer = q.lanesDiffer := by
  unfold Seq.setS; split <;> rfl
@[simp] theorem setS_chainFails (q : Seq) (r : Reg5) (x : W64) : (q.setS r x).chainFails = q.chainFails := by
  unfold Seq.setS; split <;> rfl
@[simp] theorem setS_recording (q : Seq) (r : Reg5) (x : W64) : (q.setS r x).recording = q.recording := by
  unfold Seq.setS; split <;> rfl
@[simp] theorem setS_replay (q : Seq) (r : Reg5) (x : W64) : (q.setS r x).replay = q.replay := by
  unfold Seq.setS; split <;> rfl
@[simp] theorem setS_slots (q : Seq) (r : Reg5) (x : W64) : (q.setS r x).slots = q.slots := by
  unfold Seq.setS; split <;> rfl
@[simp] theorem setS_buffers (q : Seq) (r : Reg5) (x : W64) : (q.setS r x).buffers = q.buffers := by
  unfold Seq.setS; split <;> rfl
@[simp] theorem setS_held (q : Seq) (r : Reg5) (x : W64) : (q.setS r x).held = q.held := by
  unfold Seq.setS; split <;> rfl
@[simp] theorem setS_inputSeq (q : Seq) (r : Reg5) (x : W64) : (q.setS r x).inputSeq = q.inputSeq := by
  unfold Seq.setS; split <;> rfl

end Sys2Proof.Machine
end

