-- ==== Sys2Proof/Laws/Memory.lean ====
section
/-! SUPPORT. The laws of memory: bytes and numbers, what a read gives after a write, and that every memory operation keeps the
canonical form. -/

namespace Sys2Proof.Machine

/-! ### Bytes and numbers -/

theorem bytesOfNat_length (n v : Nat) : (bytesOfNat n v).length = n := by
  induction n generalizing v with
  | zero => rfl
  | succ n ih => simp [bytesOfNat, ih]

theorem natOfBytes_bytesOfNat (n v : Nat) : natOfBytes (bytesOfNat n v) = v % 256 ^ n := by
  induction n generalizing v with
  | zero => simp [natOfBytes, bytesOfNat, Nat.mod_one]
  | succ n ih =>
    have h : natOfBytes (bytesOfNat (n + 1) v) = (BitVec.ofNat 8 v).toNat + 256 * natOfBytes (bytesOfNat n (v / 256)) := rfl
    have e : 256 ^ (n + 1) = 256 * 256 ^ n := by rw [pow_succ, Nat.mul_comm]
    rw [h, ih, BitVec.toNat_ofNat, e, Nat.mod_mul]

/-! ### The canonical form -/

theorem cellsRise_iff (m : Memory) : cellsRise m = true ↔ m.Pairwise (fun c d => c.1 < d.1) := by
  induction m with
  | nil => simp [cellsRise]
  | cons c m ih =>
    cases m with
    | nil => simp [cellsRise]
    | cons d m =>
      simp only [cellsRise, Bool.and_eq_true, decide_eq_true_eq, ih]
      constructor
      · rintro ⟨h, hp⟩
        refine List.pairwise_cons.2 ⟨fun x hx => ?_, hp⟩
        rcases List.mem_cons.1 hx with rfl | hx
        · exact h
        · exact h.trans ((List.pairwise_cons.1 hp).1 x hx)
      · intro hp
        exact ⟨(List.pairwise_cons.1 hp).1 d (by simp), (List.pairwise_cons.1 hp).2⟩

theorem wf_iff (m : Memory) : m.wf = true ↔ m.Pairwise (fun c d => c.1 < d.1) ∧ ∀ c ∈ m, c.2 ≠ 0 := by
  simp [Memory.wf, cellsRise_iff]

theorem wf_nil : Memory.wf [] = true := rfl

theorem cellsOf_range (bs : List Byte) (a : Nat) : ∀ c ∈ cellsOf a bs, a ≤ c.1 ∧ c.1 < a + bs.length ∧ c.2 ≠ 0 := by
  induction bs generalizing a with
  | nil => simp [cellsOf]
  | cons b bs ih =>
    intro c hc
    simp only [cellsOf] at hc
    split at hc
    · obtain ⟨h1, h2, h3⟩ := ih (a + 1) c hc
      exact ⟨by omega, by simp only [List.length_cons]; omega, h3⟩
    · rename_i hb
      rcases List.mem_cons.1 hc with rfl | hc
      · exact ⟨le_rfl, by simp, by simpa using hb⟩
      · obtain ⟨h1, h2, h3⟩ := ih (a + 1) c hc
        exact ⟨by omega, by simp only [List.length_cons]; omega, h3⟩

theorem cellsOf_rise (bs : List Byte) (a : Nat) : (cellsOf a bs).Pairwise (fun c d => c.1 < d.1) := by
  induction bs generalizing a with
  | nil => simp [cellsOf]
  | cons b bs ih =>
    simp only [cellsOf]
    split
    · exact ih _
    · refine List.pairwise_cons.2 ⟨fun c hc => ?_, ih _⟩
      have := (cellsOf_range bs (a + 1) c hc).1
      show a < c.1
      omega

/-- Writing keeps the canonical form. -/
theorem memWrite_wf {m : Memory} (h : m.wf = true) (a : Nat) (bs : List Byte) : (memWrite m a bs).wf = true := by
  rw [wf_iff] at h ⊢
  obtain ⟨hp, hz⟩ := h
  refine ⟨?_, ?_⟩
  · unfold memWrite
    refine List.pairwise_append.2 ⟨List.pairwise_append.2 ⟨hp.filter _, cellsOf_rise bs a, ?_⟩, hp.filter _, ?_⟩
    · intro c hc d hd
      have hc := (List.mem_filter.1 hc).2
      have hd := cellsOf_range bs a d hd
      simp only [decide_eq_true_eq] at hc
      omega
    · intro c hc d hd
      have hd := (List.mem_filter.1 hd).2
      simp only [decide_eq_true_eq] at hd
      rcases List.mem_append.1 hc with hc | hc
      · have hc := (List.mem_filter.1 hc).2
        simp only [decide_eq_true_eq] at hc
        omega
      · have hc := cellsOf_range bs a c hc
        omega
  · intro c hc
    unfold memWrite at hc
    rcases List.mem_append.1 hc with hc | hc
    · rcases List.mem_append.1 hc with hc | hc
      · exact hz c (List.mem_filter.1 hc).1
      · exact (cellsOf_range bs a c hc).2.2
    · exact hz c (List.mem_filter.1 hc).1

/-! ### Reading -/

theorem memByte_append (m n : Memory) (x : Nat) (h : ∀ c ∈ m, c.1 ≠ x) : memByte (m ++ n) x = memByte n x := by
  unfold memByte
  rw [List.find?_append]
  have : List.find? (fun c => c.1 == x) m = none := by
    rw [List.find?_eq_none]
    intro c hc
    simpa using h c hc
  rw [this]; rfl

theorem memByte_append_left (m n : Memory) (x : Nat) (h : ∀ c ∈ n, c.1 ≠ x) : memByte (m ++ n) x = memByte m x := by
  unfold memByte
  rw [List.find?_append]
  have : List.find? (fun c => c.1 == x) n = none := by
    rw [List.find?_eq_none]
    intro c hc
    simpa using h c hc
  rw [this]; cases List.find? (fun c => c.1 == x) m <;> rfl

theorem memByte_filter (m : Memory) (p : Host.Cell → Bool) (x : Nat) (h : ∀ c ∈ m, c.1 = x → p c = true) :
    memByte (m.filter p) x = memByte m x := by
  have : List.find? (fun c => c.1 == x) (m.filter p) = List.find? (fun c => c.1 == x) m := by
    induction m with
    | nil => rfl
    | cons c m ih =>
      have ih := ih (fun d hd => h d (List.mem_cons_of_mem _ hd))
      by_cases hx : c.1 = x
      · simp [h c (by simp) hx, hx]
      · by_cases hp : p c = true
        · simp [hp, hx, ih]
        · simp [hp, hx, ih]
  unfold memByte
  rw [this]

theorem memByte_filter_none (m : Memory) (p : Host.Cell → Bool) (x : Nat) (h : ∀ c ∈ m, c.1 = x → p c = false) :
    memByte (m.filter p) x = 0 := by
  have : List.find? (fun c => c.1 == x) (m.filter p) = none := by
    rw [List.find?_eq_none]
    intro c hc
    have hm := List.mem_filter.1 hc
    simp only [beq_iff_eq]
    intro hx
    simp [h c hm.1 hx] at hm
  unfold memByte
  rw [this]

theorem memByte_cellsOf (bs : List Byte) (a x : Nat) :
    memByte (cellsOf a bs) x = if a ≤ x then bs.getD (x - a) 0 else 0 := by
  induction bs generalizing a with
  | nil => simp [cellsOf, memByte]
  | cons b bs ih =>
    have hr : ∀ y, memByte ((a, b) :: cellsOf (a + 1) bs) y = if y = a then b else memByte (cellsOf (a + 1) bs) y := by
      intro y
      by_cases hy : y = a
      · simp [memByte, hy]
      · have : ¬ (a = y) := fun h => hy h.symm
        simp [memByte, hy, this]
    simp only [cellsOf]
    rcases Nat.lt_trichotomy x a with hx | hx | hx
    · have h1 : ¬ a ≤ x := by omega
      have h2 : ¬ a + 1 ≤ x := by omega
      have h3 : x ≠ a := by omega
      split <;> simp [hr, ih, h2, h3]
    · subst hx
      split
      · rename_i hb
        simp only [beq_iff_eq] at hb
        simp [ih, hb]
      · simp [hr]
    · have h1 : a ≤ x := by omega
      have h2 : a + 1 ≤ x := by omega
      have h3 : x ≠ a := by omega
      have h4 : x - a = (x - (a + 1)) + 1 := by omega
      split <;> simp [hr, ih, h2, h3, h4]

/-- A byte read after a write: the byte written, or outside the bytes written what was there. -/
theorem memByte_memWrite (m : Memory) (a : Nat) (bs : List Byte) (x : Nat) :
    memByte (memWrite m a bs) x = if a ≤ x ∧ x < a + bs.length then bs.getD (x - a) 0 else memByte m x := by
  unfold memWrite
  by_cases hx : x < a
  · have : ¬ (a ≤ x ∧ x < a + bs.length) := by omega
    rw [if_neg this, List.append_assoc, memByte_append_left, memByte_filter]
    · intro c _ hc; simp [hc, hx]
    · intro c hc
      rcases List.mem_append.1 hc with hc | hc
      · have := cellsOf_range bs a c hc; omega
      · have := (List.mem_filter.1 hc).2
        simp only [decide_eq_true_eq] at this; omega
  · have hlow : ∀ c ∈ m.filter (fun c => c.1 < a), c.1 ≠ x := by
      intro c hc
      have := (List.mem_filter.1 hc).2
      simp only [decide_eq_true_eq] at this; omega
    rw [List.append_assoc, memByte_append _ _ _ hlow]
    by_cases hy : x < a + bs.length
    · rw [if_pos ⟨by omega, hy⟩, memByte_append_left, memByte_cellsOf, if_pos (by omega)]
      intro c hc
      have := (List.mem_filter.1 hc).2
      simp only [decide_eq_true_eq] at this; omega
    · rw [if_neg (by omega), memByte_append, memByte_filter]
      · intro c _ hc; simp only [decide_eq_true_eq]; omega
      · intro c hc
        have := cellsOf_range bs a c hc; omega

/-- A read gives the bytes at its addresses. -/
theorem memRead_eq (m : Memory) (a n : Nat) : memRead m a n = (List.range n).map (fun i => memByte m (a + i)) := by
  unfold memRead
  refine List.map_congr_left (fun i hi => ?_)
  have := List.mem_range.1 hi
  rw [memByte_filter]
  intro c _ hc
  simp only [Bool.and_eq_true, decide_eq_true_eq]; omega

theorem memRead_length (m : Memory) (a n : Nat) : (memRead m a n).length = n := by simp [memRead]

/-- A read of exactly the bytes written gives them. -/
theorem memRead_memWrite_same (m : Memory) (a : Nat) (bs : List Byte) : memRead (memWrite m a bs) a bs.length = bs := by
  rw [memRead_eq]
  refine List.ext_getElem (by simp) (fun i h1 h2 => ?_)
  simp only [List.getElem_map, List.getElem_range, memByte_memWrite]
  rw [if_pos ⟨by omega, by omega⟩, Nat.add_sub_cancel_left, List.getD_eq_getElem _ _ h2]

/-- A read that meets none of the bytes written gives what it gave before. -/
theorem memRead_memWrite_other (m : Memory) (a : Nat) (bs : List Byte) (b n : Nat) (h : b + n ≤ a ∨ a + bs.length ≤ b) :
    memRead (memWrite m a bs) b n = memRead m b n := by
  rw [memRead_eq, memRead_eq]
  refine List.map_congr_left (fun i hi => ?_)
  have := List.mem_range.1 hi
  rw [memByte_memWrite, if_neg (by omega)]

/-! ### Scratchpad bytes and the errors they hold -/

@[simp] theorem putSpad_spad (m : Mem) (a : Nat) (bs : List Byte) : (m.putSpad a bs).spad = memWrite m.spad a bs := rfl
@[simp] theorem putSpad_hbm (m : Mem) (a : Nat) (bs : List Byte) : (m.putSpad a bs).hbm = m.hbm := rfl
@[simp] theorem putSpad_full (m : Mem) (a : Nat) (bs : List Byte) : (m.putSpad a bs).full = m.full := rfl
@[simp] theorem putSpad_owner (m : Mem) (a : Nat) (bs : List Byte) : (m.putSpad a bs).owner = m.owner := rfl

theorem putSpad_canonical {m : Mem} (h : m.canonical) (a : Nat) (bs : List Byte) : (m.putSpad a bs).canonical :=
  ⟨memWrite_wf h.1 a bs, h.2.1, h.2.2.1, h.2.2.2.1, h.2.2.2.2.filter _⟩

/-- An error put into a word keeps the list rising. -/
theorem damage_canonical {m : Mem} (h : m.canonical) (w : Nat) : (m.damage w).canonical := by
  refine ⟨h.1, h.2.1, h.2.2.1, h.2.2.2.1, ?_⟩
  have hd := h.2.2.2.2
  refine List.pairwise_append.2 ⟨List.pairwise_append.2 ⟨hd.filter _, by simp, ?_⟩, hd.filter _, ?_⟩
  · intro x hx y hy
    have := (List.mem_filter.1 hx).2
    simp only [decide_eq_true_eq] at this
    simp only [List.mem_singleton] at hy; omega
  · intro x hx y hy
    have hy := (List.mem_filter.1 hy).2
    simp only [decide_eq_true_eq] at hy
    rcases List.mem_append.1 hx with hx | hx
    · have hx := (List.mem_filter.1 hx).2
      simp only [decide_eq_true_eq] at hx; omega
    · simp only [List.mem_singleton] at hx; omega

/-! ### Full/empty bits and ownership -/

theorem setFull_canonical {m : Mem} (h : m.canonical) (w : Nat) (b : Bool) : (setFull m w b).canonical := by
  obtain ⟨hs, hh, hf, ho⟩ := h
  refine ⟨hs, hh, ?_, ho⟩
  unfold setFull
  refine List.pairwise_append.2 ⟨List.pairwise_append.2 ⟨hf.filter _, by split <;> simp, ?_⟩, hf.filter _, ?_⟩
  · intro x hx y hy
    have := (List.mem_filter.1 hx).2
    simp only [decide_eq_true_eq] at this
    split at hy
    · simp only [List.mem_singleton] at hy; omega
    · simp at hy
  · intro x hx y hy
    have hy := (List.mem_filter.1 hy).2
    simp only [decide_eq_true_eq] at hy
    rcases List.mem_append.1 hx with hx | hx
    · have hx := (List.mem_filter.1 hx).2
      simp only [decide_eq_true_eq] at hx; omega
    · split at hx
      · simp only [List.mem_singleton] at hx; omega
      · simp at hx

theorem setOwner_canonical {m : Mem} (h : m.canonical) (g : Nat) (o : Option Owner) : (setOwner m g o).canonical := by
  obtain ⟨hs, hh, hf, ho, hd⟩ := h
  refine ⟨hs, hh, hf, ?_, hd⟩
  unfold setOwner
  refine List.pairwise_append.2 ⟨List.pairwise_append.2 ⟨ho.filter _, by split <;> simp, ?_⟩, ho.filter _, ?_⟩
  · intro x hx y hy
    have := (List.mem_filter.1 hx).2
    simp only [decide_eq_true_eq] at this
    split at hy
    · simp only [List.mem_singleton] at hy; subst hy; exact this
    · simp at hy
  · intro x hx y hy
    have hy := (List.mem_filter.1 hy).2
    simp only [decide_eq_true_eq] at hy
    rcases List.mem_append.1 hx with hx | hx
    · have hx := (List.mem_filter.1 hx).2
      simp only [decide_eq_true_eq] at hx; omega
    · split at hx
      · simp only [List.mem_singleton] at hx; subst hx; exact hy
      · simp at hx

/-- A full/empty bit read after one is set. -/
theorem isFull_setFull (m : Mem) (w x : Nat) (b : Bool) : isFull (setFull m w b) x = if x = w then b else isFull m x := by
  unfold isFull setFull
  simp only [List.any_append, List.any_filter]
  rcases Nat.lt_trichotomy x w with h | h | h
  · have h1 : x ≠ w := by omega
    rw [if_neg h1, Bool.eq_iff_iff]
    simp only [Bool.or_eq_true, List.any_eq_true, Bool.and_eq_true, decide_eq_true_eq, beq_iff_eq]
    constructor
    · rintro ((⟨y, hy, _, rfl⟩ | ⟨y, hy, rfl⟩) | ⟨y, hy, h2, rfl⟩)
      · exact ⟨y, hy, rfl⟩
      · split at hy <;> simp at hy; omega
      · omega
    · rintro ⟨y, hy, rfl⟩; exact .inl (.inl ⟨y, hy, h, rfl⟩)
  · subst h
    rw [if_pos rfl, Bool.eq_iff_iff]
    simp only [Bool.or_eq_true, List.any_eq_true, Bool.and_eq_true, decide_eq_true_eq, beq_iff_eq]
    constructor
    · rintro ((⟨y, _, h2, rfl⟩ | ⟨y, hy, rfl⟩) | ⟨y, _, h2, rfl⟩)
      · omega
      · split at hy
        · assumption
        · simp at hy
      · omega
    · intro hb; exact .inl (.inr ⟨x, by simp [hb], rfl⟩)
  · have h1 : x ≠ w := by omega
    rw [if_neg h1, Bool.eq_iff_iff]
    simp only [Bool.or_eq_true, List.any_eq_true, Bool.and_eq_true, decide_eq_true_eq, beq_iff_eq]
    constructor
    · rintro ((⟨y, _, h2, rfl⟩ | ⟨y, hy, rfl⟩) | ⟨y, hy, _, rfl⟩)
      · omega
      · split at hy <;> simp at hy; omega
      · exact ⟨y, hy, rfl⟩
    · rintro ⟨y, hy, rfl⟩; exact .inr ⟨y, hy, h, rfl⟩

/-- Setting ownership leaves the bytes and the full/empty bits alone. -/
@[simp] theorem setOwner_spad (m : Mem) (g : Nat) (o : Option Owner) : (setOwner m g o).spad = m.spad := rfl
@[simp] theorem setOwner_hbm (m : Mem) (g : Nat) (o : Option Owner) : (setOwner m g o).hbm = m.hbm := rfl
@[simp] theorem setOwner_full (m : Mem) (g : Nat) (o : Option Owner) : (setOwner m g o).full = m.full := rfl
@[simp] theorem setOwner_damaged (m : Mem) (g : Nat) (o : Option Owner) : (setOwner m g o).damaged = m.damaged := rfl
@[simp] theorem setFull_damaged (m : Mem) (w : Nat) (b : Bool) : (setFull m w b).damaged = m.damaged := rfl
@[simp] theorem setFull_spad (m : Mem) (w : Nat) (b : Bool) : (setFull m w b).spad = m.spad := rfl
@[simp] theorem setFull_hbm (m : Mem) (w : Nat) (b : Bool) : (setFull m w b).hbm = m.hbm := rfl
@[simp] theorem setFull_owner (m : Mem) (w : Nat) (b : Bool) : (setFull m w b).owner = m.owner := rfl

/-- Ownership of a granule after a granule's is set. -/
theorem ownerOf_setOwner (m : Mem) (g x : Nat) (o : Option Owner) :
    ownerOf (setOwner m g o) x = if x = g then o else ownerOf m x := by
  have hf : ∀ (l : List (Nat × Owner)) (p : Nat × Owner → Bool), (∀ c ∈ l, c.1 = x → p c = true) →
      (l.filter p).find? (fun c => c.1 == x) = l.find? (fun c => c.1 == x) := by
    intro l p h
    induction l with
    | nil => rfl
    | cons c l ih =>
      have ih := ih (fun d hd => h d (List.mem_cons_of_mem _ hd))
      by_cases hx : c.1 = x
      · simp [h c (by simp) hx, hx]
      · by_cases hp : p c = true <;> simp [hp, hx, ih]
  have hn : ∀ (l : List (Nat × Owner)) (p : Nat × Owner → Bool), (∀ c ∈ l, c.1 = x → p c = false) →
      (l.filter p).find? (fun c => c.1 == x) = none := by
    intro l p h
    rw [List.find?_eq_none]
    intro c hc
    have hm := List.mem_filter.1 hc
    simp only [beq_iff_eq]
    intro hx
    simp [h c hm.1 hx] at hm
  unfold ownerOf setOwner
  simp only [List.find?_append]
  rcases Nat.lt_trichotomy x g with h | h | h
  · rw [if_neg (by omega), hf _ _ (fun c _ hc => by simp [hc, h]), hn _ (fun c => decide (g < c.1)) (fun c _ hc => by
      simp only [decide_eq_false_iff_not]; omega)]
    have e : (g == x) = false := by simp; omega
    cases o <;> cases List.find? (fun c => c.1 == x) m.owner <;> simp [e]
  · subst h
    rw [if_pos rfl, hn _ (fun c => decide (c.1 < x)) (fun c _ hc => by simp [hc]),
      hn _ (fun c => decide (x < c.1)) (fun c _ hc => by simp [hc])]
    cases o <;> simp
  · rw [if_neg (by omega), hn _ (fun c => decide (c.1 < g)) (fun c _ hc => by
      simp only [decide_eq_false_iff_not]; omega), hf _ _ (fun c _ hc => by simp [hc, h])]
    have e : (g == x) = false := by simp; omega
    cases o <;> cases List.find? (fun c => c.1 == x) m.owner <;> simp [e]

end Sys2Proof.Machine
end

