-- ==== Sys2Proof/Laws/Access.lean ====
section
/-! SUPPORT. The operations that the machine's units make on memory keep its canonical form. -/

namespace Sys2Proof.Machine

theorem canonical_hbm {m : Mem} (h : m.canonical) (a : Nat) (bs : List Byte) :
    Mem.canonical { m with hbm := memWrite m.hbm a bs } := ⟨h.1, memWrite_wf h.2.1 a bs, h.2.2⟩

/-- A fold of operations that each keep the form keeps it. -/
theorem canonical_foldl {α : Type} (f : Mem → α → Mem) (hf : ∀ m x, m.canonical → (f m x).canonical) (l : List α) {m : Mem}
    (h : m.canonical) : (l.foldl f m).canonical := by
  induction l generalizing m with
  | nil => exact h
  | cons x l ih => exact ih (hf m x h)

theorem writePiece_canonical {m : Mem} (h : m.canonical) (w : Who) (a : Nat) (bs : List Byte) :
    (writePiece m w a bs).canonical := by
  unfold writePiece
  split
  · exact putSpad_canonical h a bs
  · split
    · exact canonical_hbm h _ bs
    · exact h
  · exact h

theorem writeMem_canonical {m : Mem} (h : m.canonical) (w : Who) (a : Nat) (bs : List Byte) :
    (writeMem m w a bs).canonical :=
  canonical_foldl _ (fun _ _ hm => writePiece_canonical hm w _ _) _ h

theorem writeWord_canonical {m : Mem} (h : m.canonical) (w : Who) (a n v : Nat) : (writeWord m w a n v).canonical :=
  writeMem_canonical h w a _

theorem ownRange_canonical {m : Mem} (h : m.canonical) (agent : BitVec 9) (a n : Nat) : (ownRange m agent a n).canonical :=
  canonical_foldl _ (fun _ g hm => setOwner_canonical hm g _) _ h

theorem openRange_canonical {m : Mem} (h : m.canonical) (a n : Nat) : (openRange m a n).canonical :=
  canonical_foldl _ (fun _ g hm => setOwner_canonical hm g _) _ h

theorem publishRange_canonical {m : Mem} (h : m.canonical) (agent : BitVec 9) (a n : Nat) :
    (publishRange m agent a n).canonical := by
  refine canonical_foldl _ (fun m g hm => ?_) _ h
  split
  · split
    · exact setOwner_canonical hm g _
    · exact hm
  · exact setOwner_canonical hm g _

theorem relGranules_canonical (agent : BitVec 9) (o : Option Owner) (gs : List Nat) {m : Mem} (h : m.canonical) :
    (relGranules m agent o gs).1.canonical := by
  induction gs generalizing m with
  | nil => exact h
  | cons g gs ih =>
    simp only [relGranules]
    split
    · split
      · exact ih (setOwner_canonical h g o)
      · exact h
    · exact ih (setOwner_canonical h g o)

theorem setSpadWord_canonical {m : Mem} (h : m.canonical) (a n v : Nat) : (setSpadWord m a n v).canonical :=
  putSpad_canonical h a _

theorem syncMark_canonical {m : Mem} (h : m.canonical) (a : Nat) (bits : W32) (c : BitVec 10) :
    (syncMark m a bits c).canonical := setSpadWord_canonical h _ _ _

theorem syncArrive_canonical {m : Mem} (h : m.canonical) (a b : Nat) : (syncArrive m a b).1.canonical := by
  unfold syncArrive
  dsimp only
  split
  · exact syncMark_canonical h _ _ _
  · exact setSpadWord_canonical (setSpadWord_canonical h _ _ _) _ _ _

theorem syncAdvance_canonical {m : Mem} (h : m.canonical) (a : Nat) : (syncAdvance m a).1.canonical :=
  syncArrive_canonical h _ _

theorem cbEnd_canonical {m : Mem} (h : m.canonical) (a st : Nat) : (cbEnd m a st).canonical := by
  unfold cbEnd
  split
  · exact setSpadWord_canonical h _ _ _
  · exact h

theorem cbAddP_canonical {m : Mem} (h : m.canonical) (a n : Nat) : (cbAddP m a n).canonical := setSpadWord_canonical h _ _ _

theorem cbAddC_canonical {m : Mem} (h : m.canonical) (a n : Nat) : (cbAddC m a n).canonical := setSpadWord_canonical h _ _ _

end Sys2Proof.Machine
end

