-- ==== Sys2Proof/Laws/Issue.lean ====
section
/-! SUPPORT. How a meaning answers: every word is an effect passed to `issue`, every event an effect that is taken at once. -/

namespace Sys2Proof.Machine

/-- In an open group a word acts and leaves the closing to the sequencer. -/
theorem issue_open {u : Use} {f : State → State} {s : State} (h : s.seq.group.isOpen = true) : issue u f s = .next (f s) := by
  simp [issue, h]

/-- With no group open a word is presented as a group of one word. -/
theorem issue_closed {u : Use} {f : State → State} {s : State} (h : s.seq.group.isOpen = false) :
    issue u f s = presentGroup [u] 1 f s := by
  simp [issue, h]

/-- A word is its effect, passed to `issue` with the registers that `useInstr` gives it. -/
theorem exec_word (i : Instr) (u : Use) (h : useInstr i = some u) : ∃ f, ∀ s, exec i s = issue u f s := by
  cases i <;> first
    | (cases h; exact ⟨_, fun _ => rfl⟩)
    | cases h

/-- An event is an effect that is taken at once. -/
theorem exec_event (i : Instr) (h : useInstr i = none) : ∃ f : State → State, ∀ s, exec i s = .next (f s) := by
  cases i <;> first
    | exact ⟨_, fun _ => rfl⟩
    | cases h

/-- A word whose guard fails does nothing. -/
theorem guarded_fail {hd : Hdr} {f : State → State} {s : State} (h : guardPass hd s = false) : guarded hd f s = s := by
  simp [guarded, h]

/-- A word whose guard passes has its effect. -/
theorem guarded_pass {hd : Hdr} {f : State → State} {s : State} (h : guardPass hd s = true) : guarded hd f s = f s := by
  simp [guarded, h]

/-- A transfer word of a group that has not trapped has its effect. -/
theorem unlessTrapped_next {f : State → State} {s : State} (h : s.seq.group.trap = none) : unlessTrapped f s = f s := by
  simp [unlessTrapped, h]

end Sys2Proof.Machine
end

