-- ==== Sys2Proof/Laws/Ops.lean ====
section
/-! SUPPORT. What the shared operations of words do: the parts of the state that each leaves alone, and what each does to the rest. -/

namespace Sys2Proof.Machine

/-! ### Operations on the sequencer alone -/

@[simp] theorem raise_inbox (t : TrapInfo) (s : State) : (raise t s).inbox = s.inbox := rfl
@[simp] theorem raise_mem (t : TrapInfo) (s : State) : (raise t s).mem = s.mem := rfl
@[simp] theorem raise_copy (t : TrapInfo) (s : State) : (raise t s).copy = s.copy := rfl
@[simp] theorem raise_host (t : TrapInfo) (s : State) : (raise t s).host = s.host := rfl
@[simp] theorem raise_refl (t : TrapInfo) (s : State) : (raise t s).refl = s.refl := rfl
@[simp] theorem raise_coll (t : TrapInfo) (s : State) : (raise t s).coll = s.coll := rfl
@[simp] theorem raise_sets (t : TrapInfo) (s : State) : (raise t s).sets = s.sets := rfl
@[simp] theorem raise_disp (t : TrapInfo) (s : State) : (raise t s).disp = s.disp := rfl
@[simp] theorem raise_fw (t : TrapInfo) (s : State) : (raise t s).fw = s.fw := rfl
@[simp] theorem raise_clock (t : TrapInfo) (s : State) : (raise t s).clock = s.clock := rfl
@[simp] theorem raise_freeCount (t : TrapInfo) (s : State) : (raise t s).freeCount = s.freeCount := rfl

@[simp] theorem raiseAfter_inbox (t : TrapInfo) (s : State) : (raiseAfter t s).inbox = s.inbox := rfl
@[simp] theorem raiseAfter_mem (t : TrapInfo) (s : State) : (raiseAfter t s).mem = s.mem := rfl
@[simp] theorem raiseAfter_copy (t : TrapInfo) (s : State) : (raiseAfter t s).copy = s.copy := rfl
@[simp] theorem raiseAfter_host (t : TrapInfo) (s : State) : (raiseAfter t s).host = s.host := rfl
@[simp] theorem raiseAfter_refl (t : TrapInfo) (s : State) : (raiseAfter t s).refl = s.refl := rfl
@[simp] theorem raiseAfter_coll (t : TrapInfo) (s : State) : (raiseAfter t s).coll = s.coll := rfl
@[simp] theorem raiseAfter_sets (t : TrapInfo) (s : State) : (raiseAfter t s).sets = s.sets := rfl
@[simp] theorem raiseAfter_disp (t : TrapInfo) (s : State) : (raiseAfter t s).disp = s.disp := rfl
@[simp] theorem raiseAfter_fw (t : TrapInfo) (s : State) : (raiseAfter t s).fw = s.fw := rfl
@[simp] theorem raiseAfter_clock (t : TrapInfo) (s : State) : (raiseAfter t s).clock = s.clock := rfl
@[simp] theorem raiseAfter_freeCount (t : TrapInfo) (s : State) : (raiseAfter t s).freeCount = s.freeCount := rfl

@[simp] theorem stallOn_inbox (w : Wait) (s : State) : (stallOn w s).inbox = s.inbox := rfl
@[simp] theorem stallOn_mem (w : Wait) (s : State) : (stallOn w s).mem = s.mem := rfl
@[simp] theorem stallOn_copy (w : Wait) (s : State) : (stallOn w s).copy = s.copy := rfl
@[simp] theorem stallOn_host (w : Wait) (s : State) : (stallOn w s).host = s.host := rfl
@[simp] theorem stallOn_refl (w : Wait) (s : State) : (stallOn w s).refl = s.refl := rfl
@[simp] theorem stallOn_coll (w : Wait) (s : State) : (stallOn w s).coll = s.coll := rfl
@[simp] theorem stallOn_sets (w : Wait) (s : State) : (stallOn w s).sets = s.sets := rfl
@[simp] theorem stallOn_disp (w : Wait) (s : State) : (stallOn w s).disp = s.disp := rfl
@[simp] theorem stallOn_fw (w : Wait) (s : State) : (stallOn w s).fw = s.fw := rfl
@[simp] theorem stallOn_clock (w : Wait) (s : State) : (stallOn w s).clock = s.clock := rfl
@[simp] theorem stallOn_freeCount (w : Wait) (s : State) : (stallOn w s).freeCount = s.freeCount := rfl

@[simp] theorem transfer_inbox (t : Transfer) (s : State) : (transfer t s).inbox = s.inbox := rfl
@[simp] theorem transfer_mem (t : Transfer) (s : State) : (transfer t s).mem = s.mem := rfl
@[simp] theorem transfer_copy (t : Transfer) (s : State) : (transfer t s).copy = s.copy := rfl
@[simp] theorem transfer_host (t : Transfer) (s : State) : (transfer t s).host = s.host := rfl
@[simp] theorem transfer_refl (t : Transfer) (s : State) : (transfer t s).refl = s.refl := rfl
@[simp] theorem transfer_coll (t : Transfer) (s : State) : (transfer t s).coll = s.coll := rfl
@[simp] theorem transfer_sets (t : Transfer) (s : State) : (transfer t s).sets = s.sets := rfl
@[simp] theorem transfer_disp (t : Transfer) (s : State) : (transfer t s).disp = s.disp := rfl
@[simp] theorem transfer_fw (t : Transfer) (s : State) : (transfer t s).fw = s.fw := rfl
@[simp] theorem transfer_clock (t : Transfer) (s : State) : (transfer t s).clock = s.clock := rfl
@[simp] theorem transfer_freeCount (t : Transfer) (s : State) : (transfer t s).freeCount = s.freeCount := rfl


@[simp] theorem expose_inbox (e : InFlight) (s : State) : (expose e s).inbox = s.inbox := rfl
@[simp] theorem expose_mem (e : InFlight) (s : State) : (expose e s).mem = s.mem := rfl
@[simp] theorem expose_copy (e : InFlight) (s : State) : (expose e s).copy = s.copy := rfl
@[simp] theorem expose_host (e : InFlight) (s : State) : (expose e s).host = s.host := rfl
@[simp] theorem expose_refl (e : InFlight) (s : State) : (expose e s).refl = s.refl := rfl
@[simp] theorem expose_coll (e : InFlight) (s : State) : (expose e s).coll = s.coll := rfl
@[simp] theorem expose_sets (e : InFlight) (s : State) : (expose e s).sets = s.sets := rfl
@[simp] theorem expose_disp (e : InFlight) (s : State) : (expose e s).disp = s.disp := rfl
@[simp] theorem expose_fw (e : InFlight) (s : State) : (expose e s).fw = s.fw := rfl
@[simp] theorem expose_clock (e : InFlight) (s : State) : (expose e s).clock = s.clock := rfl
@[simp] theorem expose_freeCount (e : InFlight) (s : State) : (expose e s).freeCount = s.freeCount := rfl

@[simp] theorem pend_inbox (p : Pending) (s : State) : (pend p s).inbox = s.inbox := rfl
@[simp] theorem pend_mem (p : Pending) (s : State) : (pend p s).mem = s.mem := rfl
@[simp] theorem pend_copy (p : Pending) (s : State) : (pend p s).copy = s.copy := rfl
@[simp] theorem pend_host (p : Pending) (s : State) : (pend p s).host = s.host := rfl
@[simp] theorem pend_refl (p : Pending) (s : State) : (pend p s).refl = s.refl := rfl
@[simp] theorem pend_coll (p : Pending) (s : State) : (pend p s).coll = s.coll := rfl
@[simp] theorem pend_sets (p : Pending) (s : State) : (pend p s).sets = s.sets := rfl
@[simp] theorem pend_disp (p : Pending) (s : State) : (pend p s).disp = s.disp := rfl
@[simp] theorem pend_fw (p : Pending) (s : State) : (pend p s).fw = s.fw := rfl
@[simp] theorem pend_clock (p : Pending) (s : State) : (pend p s).clock = s.clock := rfl
@[simp] theorem pend_freeCount (p : Pending) (s : State) : (pend p s).freeCount = s.freeCount := rfl

@[simp] theorem landNow_inbox (p : Pending) (s : State) : (landNow p s).inbox = s.inbox := rfl
@[simp] theorem landNow_mem (p : Pending) (s : State) : (landNow p s).mem = s.mem := rfl
@[simp] theorem landNow_copy (p : Pending) (s : State) : (landNow p s).copy = s.copy := rfl
@[simp] theorem landNow_host (p : Pending) (s : State) : (landNow p s).host = s.host := rfl
@[simp] theorem landNow_refl (p : Pending) (s : State) : (landNow p s).refl = s.refl := rfl
@[simp] theorem landNow_coll (p : Pending) (s : State) : (landNow p s).coll = s.coll := rfl
@[simp] theorem landNow_sets (p : Pending) (s : State) : (landNow p s).sets = s.sets := rfl
@[simp] theorem landNow_disp (p : Pending) (s : State) : (landNow p s).disp = s.disp := rfl
@[simp] theorem landNow_fw (p : Pending) (s : State) : (landNow p s).fw = s.fw := rfl
@[simp] theorem landNow_clock (p : Pending) (s : State) : (landNow p s).clock = s.clock := rfl
@[simp] theorem landNow_freeCount (p : Pending) (s : State) : (landNow p s).freeCount = s.freeCount := rfl

@[simp] theorem putS_inbox (r : Reg5) (x : W64) (s : State) : (putS r x s).inbox = s.inbox := rfl
@[simp] theorem putS_mem (r : Reg5) (x : W64) (s : State) : (putS r x s).mem = s.mem := rfl
@[simp] theorem putS_copy (r : Reg5) (x : W64) (s : State) : (putS r x s).copy = s.copy := rfl
@[simp] theorem putS_host (r : Reg5) (x : W64) (s : State) : (putS r x s).host = s.host := rfl
@[simp] theorem putS_refl (r : Reg5) (x : W64) (s : State) : (putS r x s).refl = s.refl := rfl
@[simp] theorem putS_coll (r : Reg5) (x : W64) (s : State) : (putS r x s).coll = s.coll := rfl
@[simp] theorem putS_sets (r : Reg5) (x : W64) (s : State) : (putS r x s).sets = s.sets := rfl
@[simp] theorem putS_disp (r : Reg5) (x : W64) (s : State) : (putS r x s).disp = s.disp := rfl
@[simp] theorem putS_fw (r : Reg5) (x : W64) (s : State) : (putS r x s).fw = s.fw := rfl
@[simp] theorem putS_clock (r : Reg5) (x : W64) (s : State) : (putS r x s).clock = s.clock := rfl
@[simp] theorem putS_freeCount (r : Reg5) (x : W64) (s : State) : (putS r x s).freeCount = s.freeCount := rfl

@[simp] theorem endIssuing_inbox (s : State) : (endIssuing s).inbox = s.inbox := rfl
@[simp] theorem endIssuing_mem (s : State) : (endIssuing s).mem = s.mem := rfl
@[simp] theorem endIssuing_copy (s : State) : (endIssuing s).copy = s.copy := rfl
@[simp] theorem endIssuing_host (s : State) : (endIssuing s).host = s.host := rfl
@[simp] theorem endIssuing_refl (s : State) : (endIssuing s).refl = s.refl := rfl
@[simp] theorem endIssuing_coll (s : State) : (endIssuing s).coll = s.coll := rfl
@[simp] theorem endIssuing_sets (s : State) : (endIssuing s).sets = s.sets := rfl
@[simp] theorem endIssuing_disp (s : State) : (endIssuing s).disp = s.disp := rfl
@[simp] theorem endIssuing_fw (s : State) : (endIssuing s).fw = s.fw := rfl
@[simp] theorem endIssuing_clock (s : State) : (endIssuing s).clock = s.clock := rfl
@[simp] theorem endIssuing_freeCount (s : State) : (endIssuing s).freeCount = s.freeCount := rfl

@[simp] theorem enterTrap_inbox (t : TrapInfo) (d : BitVec 3) (s : State) : (enterTrap t d s).inbox = s.inbox := rfl
@[simp] theorem enterTrap_mem (t : TrapInfo) (d : BitVec 3) (s : State) : (enterTrap t d s).mem = s.mem := rfl
@[simp] theorem enterTrap_copy (t : TrapInfo) (d : BitVec 3) (s : State) : (enterTrap t d s).copy = s.copy := rfl
@[simp] theorem enterTrap_host (t : TrapInfo) (d : BitVec 3) (s : State) : (enterTrap t d s).host = s.host := rfl
@[simp] theorem enterTrap_refl (t : TrapInfo) (d : BitVec 3) (s : State) : (enterTrap t d s).refl = s.refl := rfl
@[simp] theorem enterTrap_coll (t : TrapInfo) (d : BitVec 3) (s : State) : (enterTrap t d s).coll = s.coll := rfl
@[simp] theorem enterTrap_sets (t : TrapInfo) (d : BitVec 3) (s : State) : (enterTrap t d s).sets = s.sets := rfl
@[simp] theorem enterTrap_disp (t : TrapInfo) (d : BitVec 3) (s : State) : (enterTrap t d s).disp = s.disp := rfl
@[simp] theorem enterTrap_fw (t : TrapInfo) (d : BitVec 3) (s : State) : (enterTrap t d s).fw = s.fw := rfl
@[simp] theorem enterTrap_clock (t : TrapInfo) (d : BitVec 3) (s : State) : (enterTrap t d s).clock = s.clock := rfl
@[simp] theorem enterTrap_freeCount (t : TrapInfo) (d : BitVec 3) (s : State) : (enterTrap t d s).freeCount = s.freeCount := rfl

@[simp] theorem returnFromTrap_inbox (s : State) : (returnFromTrap s).inbox = s.inbox := rfl
@[simp] theorem returnFromTrap_mem (s : State) : (returnFromTrap s).mem = s.mem := rfl
@[simp] theorem returnFromTrap_copy (s : State) : (returnFromTrap s).copy = s.copy := rfl
@[simp] theorem returnFromTrap_host (s : State) : (returnFromTrap s).host = s.host := rfl
@[simp] theorem returnFromTrap_refl (s : State) : (returnFromTrap s).refl = s.refl := rfl
@[simp] theorem returnFromTrap_coll (s : State) : (returnFromTrap s).coll = s.coll := rfl
@[simp] theorem returnFromTrap_sets (s : State) : (returnFromTrap s).sets = s.sets := rfl
@[simp] theorem returnFromTrap_disp (s : State) : (returnFromTrap s).disp = s.disp := rfl
@[simp] theorem returnFromTrap_fw (s : State) : (returnFromTrap s).fw = s.fw := rfl
@[simp] theorem returnFromTrap_clock (s : State) : (returnFromTrap s).clock = s.clock := rfl
@[simp] theorem returnFromTrap_freeCount (s : State) : (returnFromTrap s).freeCount = s.freeCount := rfl

theorem exposeS_eq (lat : Nat) (r : Reg5) (x : W64) (fl : BitVec 4) (s : State) :
    exposeS lat r x fl s = if r == 0 && fl == 0 then s else
      expose (InFlight.mk .scalar r lat fl 0 false 0 (BitVec.allOnes 64) (x.setWidth 2048)) s := rfl

/-! ### Causes -/

/-- A raised cause is the group's cause when none was raised at a lower position; the word did not complete. -/
theorem raise_group (t : TrapInfo) (s : State) :
    (raise t s).seq.group = { s.seq.group with failed := s.seq.group.pos :: s.seq.group.failed
                                               trap := lowestTrap s.seq.group.trap (s.seq.group.pos, t) } := rfl

theorem raise_first (t : TrapInfo) (s : State) (h : s.seq.group.trap = none) :
    (raise t s).seq.group.trap = some (s.seq.group.pos, t) := by simp [raise, lowestTrap, h]

theorem stallOn_first (w : Wait) (s : State) (h : s.seq.group.stalled = none) :
    (stallOn w s).seq.group.stalled = some w := by simp [stallOn, h]

theorem transfer_first (t : Transfer) (s : State) (h : s.seq.group.transfer = none) :
    (transfer t s).seq.group.transfer = some t := by simp [transfer, h]

/-! ### Registers -/

/-- An entry of a register file read after one is written. -/
theorem get_set {α : Type} {n : Nat} (v : Vector α (2 ^ n)) (r k : BitVec n) (x : α) :
    (v.set r.toNat x r.isLt).get k.toFin = if k = r then x else v.get k.toFin := by
  have hg : ∀ (u : Vector α (2 ^ n)), u.get k.toFin = u[k.toNat]'k.isLt := fun _ => rfl
  rw [hg, hg, Vector.getElem_set]
  by_cases h : k = r
  · simp [h]
  · have hne : r.toNat ≠ k.toNat := fun e => h (BitVec.eq_of_toNat_eq e.symm)
    simp [h, hne]

/-- A scalar register read after one is written; s0 reads as zero. -/
theorem readS_putS (r q : Reg5) (x : W64) (s : State) :
    readS (putS r x s) q = if q = 0 then 0 else if q = r then x else readS s q := by
  by_cases hq : q = 0#5
  · simp [readS, hq]
  · by_cases hr : r = 0#5
    · subst hr
      simp [readS, putS, Seq.setS, hq]
    · have h := get_set s.seq.s r q x
      simpa [readS, putS, Seq.setS, hq, hr] using h

/-- A write to s0 changes nothing. -/
theorem putS_zero (x : W64) (s : State) : putS 0 x s = s := rfl

theorem get_setP (q : Seq) (r k : Reg4) (x : W64) :
    (q.setP r x).p.get k.toFin = if k = r then x else q.p.get k.toFin := (get_set q.p r k x :)

theorem get_setV (q : Seq) (r k : Reg5) (x : VReg) :
    (q.setV r x).v.get k.toFin = if k = r then x else q.v.get k.toFin := (get_set q.v r k x :)

theorem get_setT (q : Seq) (r k : Reg4) (x : Tile) :
    (q.setT r x).t.get k.toFin = if k = r then x else q.t.get k.toFin := (get_set q.t r k x :)

end Sys2Proof.Machine
end

