-- ==== Sys2Proof/Laws/PerInstr.lean ====
section
/-! SUPPORT. The family WordSize: an instruction has an encoding exactly when it is a word, and then one of 32 bits; an event has
none. -/

/-- An instruction that has a header encodes into one word of 32 bits, and an event, which has none, does not encode. -/
def Sys2Proof.Laws.WordSize.Statement (i : Sys2Proof.Instr) : Prop := (Sys2Proof.encode i).isSome = i.isWord

namespace Sys2Proof.Laws

theorem WordSize.nop : ∀ x0, WordSize.Statement (.nop x0) := fun _ => rfl
theorem WordSize.halt : ∀ x0, WordSize.Statement (.halt x0) := fun _ => rfl
theorem WordSize.exit : ∀ x0, WordSize.Statement (.exit x0) := fun _ => rfl
theorem WordSize.trap : ∀ x0 x1, WordSize.Statement (.trap x0 x1) := fun _ _ => rfl
theorem WordSize.eret : ∀ x0, WordSize.Statement (.eret x0) := fun _ => rfl
theorem WordSize.snapst : ∀ x0 x1, WordSize.Statement (.snapst x0 x1) := fun _ _ => rfl
theorem WordSize.snapld : ∀ x0 x1, WordSize.Statement (.snapld x0 x1) := fun _ _ => rfl
theorem WordSize.snaprel : ∀ x0, WordSize.Statement (.snaprel x0) := fun _ => rfl
theorem WordSize.yield : ∀ x0, WordSize.Statement (.yield x0) := fun _ => rfl
theorem WordSize.srr : ∀ x0 x1 x2, WordSize.Statement (.srr x0 x1 x2) := fun _ _ _ => rfl
theorem WordSize.srw : ∀ x0 x1 x2, WordSize.Statement (.srw x0 x1 x2) := fun _ _ _ => rfl
theorem WordSize.brk : ∀ x0 x1, WordSize.Statement (.brk x0 x1) := fun _ _ => rfl
theorem WordSize.add : ∀ x0 x1 x2 x3, WordSize.Statement (.add x0 x1 x2 x3) := fun _ _ _ _ => rfl
theorem WordSize.sub : ∀ x0 x1 x2 x3, WordSize.Statement (.sub x0 x1 x2 x3) := fun _ _ _ _ => rfl
theorem WordSize.and : ∀ x0 x1 x2 x3, WordSize.Statement (.and x0 x1 x2 x3) := fun _ _ _ _ => rfl
theorem WordSize.or : ∀ x0 x1 x2 x3, WordSize.Statement (.or x0 x1 x2 x3) := fun _ _ _ _ => rfl
theorem WordSize.xor : ∀ x0 x1 x2 x3, WordSize.Statement (.xor x0 x1 x2 x3) := fun _ _ _ _ => rfl
theorem WordSize.andn : ∀ x0 x1 x2 x3, WordSize.Statement (.andn x0 x1 x2 x3) := fun _ _ _ _ => rfl
theorem WordSize.sll : ∀ x0 x1 x2 x3, WordSize.Statement (.sll x0 x1 x2 x3) := fun _ _ _ _ => rfl
theorem WordSize.srl : ∀ x0 x1 x2 x3, WordSize.Statement (.srl x0 x1 x2 x3) := fun _ _ _ _ => rfl
theorem WordSize.sra : ∀ x0 x1 x2 x3, WordSize.Statement (.sra x0 x1 x2 x3) := fun _ _ _ _ => rfl
theorem WordSize.mul : ∀ x0 x1 x2 x3, WordSize.Statement (.mul x0 x1 x2 x3) := fun _ _ _ _ => rfl
theorem WordSize.mulh : ∀ x0 x1 x2 x3, WordSize.Statement (.mulh x0 x1 x2 x3) := fun _ _ _ _ => rfl
theorem WordSize.mulhu : ∀ x0 x1 x2 x3, WordSize.Statement (.mulhu x0 x1 x2 x3) := fun _ _ _ _ => rfl
theorem WordSize.min : ∀ x0 x1 x2 x3, WordSize.Statement (.min x0 x1 x2 x3) := fun _ _ _ _ => rfl
theorem WordSize.max : ∀ x0 x1 x2 x3, WordSize.Statement (.max x0 x1 x2 x3) := fun _ _ _ _ => rfl
theorem WordSize.minu : ∀ x0 x1 x2 x3, WordSize.Statement (.minu x0 x1 x2 x3) := fun _ _ _ _ => rfl
theorem WordSize.maxu : ∀ x0 x1 x2 x3, WordSize.Statement (.maxu x0 x1 x2 x3) := fun _ _ _ _ => rfl
theorem WordSize.div : ∀ x0 x1 x2 x3, WordSize.Statement (.div x0 x1 x2 x3) := fun _ _ _ _ => rfl
theorem WordSize.divu : ∀ x0 x1 x2 x3, WordSize.Statement (.divu x0 x1 x2 x3) := fun _ _ _ _ => rfl
theorem WordSize.rem : ∀ x0 x1 x2 x3, WordSize.Statement (.rem x0 x1 x2 x3) := fun _ _ _ _ => rfl
theorem WordSize.remu : ∀ x0 x1 x2 x3, WordSize.Statement (.remu x0 x1 x2 x3) := fun _ _ _ _ => rfl
theorem WordSize.clz : ∀ x0 x1 x2, WordSize.Statement (.clz x0 x1 x2) := fun _ _ _ => rfl
theorem WordSize.ctz : ∀ x0 x1 x2, WordSize.Statement (.ctz x0 x1 x2) := fun _ _ _ => rfl
theorem WordSize.popc : ∀ x0 x1 x2, WordSize.Statement (.popc x0 x1 x2) := fun _ _ _ => rfl
theorem WordSize.sextB : ∀ x0 x1 x2, WordSize.Statement (.sextB x0 x1 x2) := fun _ _ _ => rfl
theorem WordSize.sextH : ∀ x0 x1 x2, WordSize.Statement (.sextH x0 x1 x2) := fun _ _ _ => rfl
theorem WordSize.sextW : ∀ x0 x1 x2, WordSize.Statement (.sextW x0 x1 x2) := fun _ _ _ => rfl
theorem WordSize.zextW : ∀ x0 x1 x2, WordSize.Statement (.zextW x0 x1 x2) := fun _ _ _ => rfl
theorem WordSize.bswap : ∀ x0 x1 x2, WordSize.Statement (.bswap x0 x1 x2) := fun _ _ _ => rfl
theorem WordSize.addi : ∀ x0 x1 x2 x3, WordSize.Statement (.addi x0 x1 x2 x3) := fun _ _ _ _ => rfl
theorem WordSize.andi : ∀ x0 x1 x2 x3, WordSize.Statement (.andi x0 x1 x2 x3) := fun _ _ _ _ => rfl
theorem WordSize.ori : ∀ x0 x1 x2 x3, WordSize.Statement (.ori x0 x1 x2 x3) := fun _ _ _ _ => rfl
theorem WordSize.xori : ∀ x0 x1 x2 x3, WordSize.Statement (.xori x0 x1 x2 x3) := fun _ _ _ _ => rfl
theorem WordSize.slli : ∀ x0 x1 x2 x3, WordSize.Statement (.slli x0 x1 x2 x3) := fun _ _ _ _ => rfl
theorem WordSize.srli : ∀ x0 x1 x2 x3, WordSize.Statement (.srli x0 x1 x2 x3) := fun _ _ _ _ => rfl
theorem WordSize.srai : ∀ x0 x1 x2 x3, WordSize.Statement (.srai x0 x1 x2 x3) := fun _ _ _ _ => rfl
theorem WordSize.li : ∀ x0 x1 x2, WordSize.Statement (.li x0 x1 x2) := fun _ _ _ => rfl
theorem WordSize.lsh : ∀ x0 x1 x2, WordSize.Statement (.lsh x0 x1 x2) := fun _ _ _ => rfl
theorem WordSize.cmpEq : ∀ x0 x1 x2 x3, WordSize.Statement (.cmpEq x0 x1 x2 x3) := fun _ _ _ _ => rfl
theorem WordSize.cmpNe : ∀ x0 x1 x2 x3, WordSize.Statement (.cmpNe x0 x1 x2 x3) := fun _ _ _ _ => rfl
theorem WordSize.cmpLt : ∀ x0 x1 x2 x3, WordSize.Statement (.cmpLt x0 x1 x2 x3) := fun _ _ _ _ => rfl
theorem WordSize.cmpGe : ∀ x0 x1 x2 x3, WordSize.Statement (.cmpGe x0 x1 x2 x3) := fun _ _ _ _ => rfl
theorem WordSize.cmpLtu : ∀ x0 x1 x2 x3, WordSize.Statement (.cmpLtu x0 x1 x2 x3) := fun _ _ _ _ => rfl
theorem WordSize.cmpGeu : ∀ x0 x1 x2 x3, WordSize.Statement (.cmpGeu x0 x1 x2 x3) := fun _ _ _ _ => rfl
theorem WordSize.cmpeqi : ∀ x0 x1 x2 x3, WordSize.Statement (.cmpeqi x0 x1 x2 x3) := fun _ _ _ _ => rfl
theorem WordSize.cmplti : ∀ x0 x1 x2 x3, WordSize.Statement (.cmplti x0 x1 x2 x3) := fun _ _ _ _ => rfl
theorem WordSize.cmpltui : ∀ x0 x1 x2 x3, WordSize.Statement (.cmpltui x0 x1 x2 x3) := fun _ _ _ _ => rfl
theorem WordSize.br : ∀ x0 x1, WordSize.Statement (.br x0 x1) := fun _ _ => rfl
theorem WordSize.call : ∀ x0 x1, WordSize.Statement (.call x0 x1) := fun _ _ => rfl
theorem WordSize.jr : ∀ x0 x1, WordSize.Statement (.jr x0 x1) := fun _ _ => rfl
theorem WordSize.jalr : ∀ x0 x1 x2, WordSize.Statement (.jalr x0 x1 x2) := fun _ _ _ => rfl
theorem WordSize.ret : ∀ x0, WordSize.Statement (.ret x0) := fun _ => rfl
theorem WordSize.loop : ∀ x0 x1 x2, WordSize.Statement (.loop x0 x1 x2) := fun _ _ _ => rfl
theorem WordSize.loopi : ∀ x0 x1 x2, WordSize.Statement (.loopi x0 x1 x2) := fun _ _ _ => rfl
theorem WordSize.pand : ∀ x0 x1 x2 x3, WordSize.Statement (.pand x0 x1 x2 x3) := fun _ _ _ _ => rfl
theorem WordSize.por : ∀ x0 x1 x2 x3, WordSize.Statement (.por x0 x1 x2 x3) := fun _ _ _ _ => rfl
theorem WordSize.pxor : ∀ x0 x1 x2 x3, WordSize.Statement (.pxor x0 x1 x2 x3) := fun _ _ _ _ => rfl
theorem WordSize.pandn : ∀ x0 x1 x2 x3, WordSize.Statement (.pandn x0 x1 x2 x3) := fun _ _ _ _ => rfl
theorem WordSize.pnot : ∀ x0 x1 x2, WordSize.Statement (.pnot x0 x1 x2) := fun _ _ _ => rfl
theorem WordSize.pmov : ∀ x0 x1 x2, WordSize.Statement (.pmov x0 x1 x2) := fun _ _ _ => rfl
theorem WordSize.pset : ∀ x0 x1, WordSize.Statement (.pset x0 x1) := fun _ _ => rfl
theorem WordSize.pclr : ∀ x0 x1, WordSize.Statement (.pclr x0 x1) := fun _ _ => rfl
theorem WordSize.pcnt : ∀ x0 x1 x2, WordSize.Statement (.pcnt x0 x1 x2) := fun _ _ _ => rfl
theorem WordSize.pfirst : ∀ x0 x1 x2, WordSize.Statement (.pfirst x0 x1 x2) := fun _ _ _ => rfl
theorem WordSize.ld8 : ∀ x0 x1 x2 x3, WordSize.Statement (.ld8 x0 x1 x2 x3) := fun _ _ _ _ => rfl
theorem WordSize.ld8u : ∀ x0 x1 x2 x3, WordSize.Statement (.ld8u x0 x1 x2 x3) := fun _ _ _ _ => rfl
theorem WordSize.ld16 : ∀ x0 x1 x2 x3, WordSize.Statement (.ld16 x0 x1 x2 x3) := fun _ _ _ _ => rfl
theorem WordSize.ld16u : ∀ x0 x1 x2 x3, WordSize.Statement (.ld16u x0 x1 x2 x3) := fun _ _ _ _ => rfl
theorem WordSize.ld32 : ∀ x0 x1 x2 x3, WordSize.Statement (.ld32 x0 x1 x2 x3) := fun _ _ _ _ => rfl
theorem WordSize.ld32u : ∀ x0 x1 x2 x3, WordSize.Statement (.ld32u x0 x1 x2 x3) := fun _ _ _ _ => rfl
theorem WordSize.ld64 : ∀ x0 x1 x2 x3, WordSize.Statement (.ld64 x0 x1 x2 x3) := fun _ _ _ _ => rfl
theorem WordSize.st8 : ∀ x0 x1 x2 x3, WordSize.Statement (.st8 x0 x1 x2 x3) := fun _ _ _ _ => rfl
theorem WordSize.st16 : ∀ x0 x1 x2 x3, WordSize.Statement (.st16 x0 x1 x2 x3) := fun _ _ _ _ => rfl
theorem WordSize.st32 : ∀ x0 x1 x2 x3, WordSize.Statement (.st32 x0 x1 x2 x3) := fun _ _ _ _ => rfl
theorem WordSize.st64 : ∀ x0 x1 x2 x3, WordSize.Statement (.st64 x0 x1 x2 x3) := fun _ _ _ _ => rfl
theorem WordSize.ldf : ∀ x0 x1 x2 x3, WordSize.Statement (.ldf x0 x1 x2 x3) := fun _ _ _ _ => rfl
theorem WordSize.lde : ∀ x0 x1 x2 x3, WordSize.Statement (.lde x0 x1 x2 x3) := fun _ _ _ _ => rfl
theorem WordSize.stf : ∀ x0 x1 x2 x3, WordSize.Statement (.stf x0 x1 x2 x3) := fun _ _ _ _ => rfl
theorem WordSize.stfo : ∀ x0 x1 x2 x3, WordSize.Statement (.stfo x0 x1 x2 x3) := fun _ _ _ _ => rfl
theorem WordSize.feRequestServed : WordSize.Statement .feRequestServed := rfl
theorem WordSize.vldRaw : ∀ x0 x1 x2 x3, WordSize.Statement (.vldRaw x0 x1 x2 x3) := fun _ _ _ _ => rfl
theorem WordSize.vldF32 : ∀ x0 x1 x2 x3, WordSize.Statement (.vldF32 x0 x1 x2 x3) := fun _ _ _ _ => rfl
theorem WordSize.vldBf16 : ∀ x0 x1 x2 x3, WordSize.Statement (.vldBf16 x0 x1 x2 x3) := fun _ _ _ _ => rfl
theorem WordSize.vldI32 : ∀ x0 x1 x2 x3, WordSize.Statement (.vldI32 x0 x1 x2 x3) := fun _ _ _ _ => rfl
theorem WordSize.vldI8 : ∀ x0 x1 x2 x3, WordSize.Statement (.vldI8 x0 x1 x2 x3) := fun _ _ _ _ => rfl
theorem WordSize.vldUi8 : ∀ x0 x1 x2 x3, WordSize.Statement (.vldUi8 x0 x1 x2 x3) := fun _ _ _ _ => rfl
theorem WordSize.vldHt8 : ∀ x0 x1 x2 x3, WordSize.Statement (.vldHt8 x0 x1 x2 x3) := fun _ _ _ _ => rfl
theorem WordSize.vldVtag : ∀ x0 x1 x2 x3, WordSize.Statement (.vldVtag x0 x1 x2 x3) := fun _ _ _ _ => rfl
theorem WordSize.vst : ∀ x0 x1 x2 x3, WordSize.Statement (.vst x0 x1 x2 x3) := fun _ _ _ _ => rfl
theorem WordSize.vstHt6 : ∀ x0 x1 x2 x3, WordSize.Statement (.vstHt6 x0 x1 x2 x3) := fun _ _ _ _ => rfl
theorem WordSize.vldg : ∀ x0 x1 x2 x3 x4, WordSize.Statement (.vldg x0 x1 x2 x3 x4) := fun _ _ _ _ _ => rfl
theorem WordSize.vsts : ∀ x0 x1 x2 x3, WordSize.Statement (.vsts x0 x1 x2 x3) := fun _ _ _ _ => rfl
theorem WordSize.atom32Add : ∀ x0 x1 x2 x3, WordSize.Statement (.atom32Add x0 x1 x2 x3) := fun _ _ _ _ => rfl
theorem WordSize.atom32And : ∀ x0 x1 x2 x3, WordSize.Statement (.atom32And x0 x1 x2 x3) := fun _ _ _ _ => rfl
theorem WordSize.atom32Or : ∀ x0 x1 x2 x3, WordSize.Statement (.atom32Or x0 x1 x2 x3) := fun _ _ _ _ => rfl
theorem WordSize.atom32Xor : ∀ x0 x1 x2 x3, WordSize.Statement (.atom32Xor x0 x1 x2 x3) := fun _ _ _ _ => rfl
theorem WordSize.atom32Min : ∀ x0 x1 x2 x3, WordSize.Statement (.atom32Min x0 x1 x2 x3) := fun _ _ _ _ => rfl
theorem WordSize.atom32Max : ∀ x0 x1 x2 x3, WordSize.Statement (.atom32Max x0 x1 x2 x3) := fun _ _ _ _ => rfl
theorem WordSize.atom32Minu : ∀ x0 x1 x2 x3, WordSize.Statement (.atom32Minu x0 x1 x2 x3) := fun _ _ _ _ => rfl
theorem WordSize.atom32Maxu : ∀ x0 x1 x2 x3, WordSize.Statement (.atom32Maxu x0 x1 x2 x3) := fun _ _ _ _ => rfl
theorem WordSize.atom32Swap : ∀ x0 x1 x2 x3, WordSize.Statement (.atom32Swap x0 x1 x2 x3) := fun _ _ _ _ => rfl
theorem WordSize.atom32Cas : ∀ x0 x1 x2 x3, WordSize.Statement (.atom32Cas x0 x1 x2 x3) := fun _ _ _ _ => rfl
theorem WordSize.atom32Fadd : ∀ x0 x1 x2 x3, WordSize.Statement (.atom32Fadd x0 x1 x2 x3) := fun _ _ _ _ => rfl
theorem WordSize.atom32Fmin : ∀ x0 x1 x2 x3, WordSize.Statement (.atom32Fmin x0 x1 x2 x3) := fun _ _ _ _ => rfl
theorem WordSize.atom32Fmax : ∀ x0 x1 x2 x3, WordSize.Statement (.atom32Fmax x0 x1 x2 x3) := fun _ _ _ _ => rfl
theorem WordSize.atom64Add : ∀ x0 x1 x2 x3, WordSize.Statement (.atom64Add x0 x1 x2 x3) := fun _ _ _ _ => rfl
theorem WordSize.atom64And : ∀ x0 x1 x2 x3, WordSize.Statement (.atom64And x0 x1 x2 x3) := fun _ _ _ _ => rfl
theorem WordSize.atom64Or : ∀ x0 x1 x2 x3, WordSize.Statement (.atom64Or x0 x1 x2 x3) := fun _ _ _ _ => rfl
theorem WordSize.atom64Xor : ∀ x0 x1 x2 x3, WordSize.Statement (.atom64Xor x0 x1 x2 x3) := fun _ _ _ _ => rfl
theorem WordSize.atom64Min : ∀ x0 x1 x2 x3, WordSize.Statement (.atom64Min x0 x1 x2 x3) := fun _ _ _ _ => rfl
theorem WordSize.atom64Max : ∀ x0 x1 x2 x3, WordSize.Statement (.atom64Max x0 x1 x2 x3) := fun _ _ _ _ => rfl
theorem WordSize.atom64Minu : ∀ x0 x1 x2 x3, WordSize.Statement (.atom64Minu x0 x1 x2 x3) := fun _ _ _ _ => rfl
theorem WordSize.atom64Maxu : ∀ x0 x1 x2 x3, WordSize.Statement (.atom64Maxu x0 x1 x2 x3) := fun _ _ _ _ => rfl
theorem WordSize.atom64Swap : ∀ x0 x1 x2 x3, WordSize.Statement (.atom64Swap x0 x1 x2 x3) := fun _ _ _ _ => rfl
theorem WordSize.atom64Cas : ∀ x0 x1 x2 x3, WordSize.Statement (.atom64Cas x0 x1 x2 x3) := fun _ _ _ _ => rfl
theorem WordSize.faddg : ∀ x0 x1 x2 x3, WordSize.Statement (.faddg x0 x1 x2 x3) := fun _ _ _ _ => rfl
theorem WordSize.atomicAcknowledgement : ∀ x0 x1, WordSize.Statement (.atomicAcknowledgement x0 x1) := fun _ _ => rfl
theorem WordSize.fence : ∀ x0 x1 x2, WordSize.Statement (.fence x0 x1 x2) := fun _ _ _ => rfl
theorem WordSize.rel : ∀ x0 x1 x2, WordSize.Statement (.rel x0 x1 x2) := fun _ _ _ => rfl
theorem WordSize.ownRet : ∀ x0 x1 x2, WordSize.Statement (.ownRet x0 x1 x2) := fun _ _ _ => rfl
theorem WordSize.valuAdd : ∀ x0 x1 x2 x3, WordSize.Statement (.valuAdd x0 x1 x2 x3) := fun _ _ _ _ => rfl
theorem WordSize.valuSub : ∀ x0 x1 x2 x3, WordSize.Statement (.valuSub x0 x1 x2 x3) := fun _ _ _ _ => rfl
theorem WordSize.valuAnd : ∀ x0 x1 x2 x3, WordSize.Statement (.valuAnd x0 x1 x2 x3) := fun _ _ _ _ => rfl
theorem WordSize.valuOr : ∀ x0 x1 x2 x3, WordSize.Statement (.valuOr x0 x1 x2 x3) := fun _ _ _ _ => rfl
theorem WordSize.valuXor : ∀ x0 x1 x2 x3, WordSize.Statement (.valuXor x0 x1 x2 x3) := fun _ _ _ _ => rfl
theorem WordSize.valuAndn : ∀ x0 x1 x2 x3, WordSize.Statement (.valuAndn x0 x1 x2 x3) := fun _ _ _ _ => rfl
theorem WordSize.valuSll : ∀ x0 x1 x2 x3, WordSize.Statement (.valuSll x0 x1 x2 x3) := fun _ _ _ _ => rfl
theorem WordSize.valuSrl : ∀ x0 x1 x2 x3, WordSize.Statement (.valuSrl x0 x1 x2 x3) := fun _ _ _ _ => rfl
theorem WordSize.valuSra : ∀ x0 x1 x2 x3, WordSize.Statement (.valuSra x0 x1 x2 x3) := fun _ _ _ _ => rfl
theorem WordSize.valuMul : ∀ x0 x1 x2 x3, WordSize.Statement (.valuMul x0 x1 x2 x3) := fun _ _ _ _ => rfl
theorem WordSize.valuMulh : ∀ x0 x1 x2 x3, WordSize.Statement (.valuMulh x0 x1 x2 x3) := fun _ _ _ _ => rfl
theorem WordSize.valuMulhu : ∀ x0 x1 x2 x3, WordSize.Statement (.valuMulhu x0 x1 x2 x3) := fun _ _ _ _ => rfl
theorem WordSize.valuMin : ∀ x0 x1 x2 x3, WordSize.Statement (.valuMin x0 x1 x2 x3) := fun _ _ _ _ => rfl
theorem WordSize.valuMax : ∀ x0 x1 x2 x3, WordSize.Statement (.valuMax x0 x1 x2 x3) := fun _ _ _ _ => rfl
theorem WordSize.valuMinu : ∀ x0 x1 x2 x3, WordSize.Statement (.valuMinu x0 x1 x2 x3) := fun _ _ _ _ => rfl
theorem WordSize.valuMaxu : ∀ x0 x1 x2 x3, WordSize.Statement (.valuMaxu x0 x1 x2 x3) := fun _ _ _ _ => rfl
theorem WordSize.valusAdd : ∀ x0 x1 x2 x3, WordSize.Statement (.valusAdd x0 x1 x2 x3) := fun _ _ _ _ => rfl
theorem WordSize.valusSub : ∀ x0 x1 x2 x3, WordSize.Statement (.valusSub x0 x1 x2 x3) := fun _ _ _ _ => rfl
theorem WordSize.valusAnd : ∀ x0 x1 x2 x3, WordSize.Statement (.valusAnd x0 x1 x2 x3) := fun _ _ _ _ => rfl
theorem WordSize.valusOr : ∀ x0 x1 x2 x3, WordSize.Statement (.valusOr x0 x1 x2 x3) := fun _ _ _ _ => rfl
theorem WordSize.valusXor : ∀ x0 x1 x2 x3, WordSize.Statement (.valusXor x0 x1 x2 x3) := fun _ _ _ _ => rfl
theorem WordSize.valusAndn : ∀ x0 x1 x2 x3, WordSize.Statement (.valusAndn x0 x1 x2 x3) := fun _ _ _ _ => rfl
theorem WordSize.valusSll : ∀ x0 x1 x2 x3, WordSize.Statement (.valusSll x0 x1 x2 x3) := fun _ _ _ _ => rfl
theorem WordSize.valusSrl : ∀ x0 x1 x2 x3, WordSize.Statement (.valusSrl x0 x1 x2 x3) := fun _ _ _ _ => rfl
theorem WordSize.valusSra : ∀ x0 x1 x2 x3, WordSize.Statement (.valusSra x0 x1 x2 x3) := fun _ _ _ _ => rfl
theorem WordSize.valusMul : ∀ x0 x1 x2 x3, WordSize.Statement (.valusMul x0 x1 x2 x3) := fun _ _ _ _ => rfl
theorem WordSize.valusMulh : ∀ x0 x1 x2 x3, WordSize.Statement (.valusMulh x0 x1 x2 x3) := fun _ _ _ _ => rfl
theorem WordSize.valusMulhu : ∀ x0 x1 x2 x3, WordSize.Statement (.valusMulhu x0 x1 x2 x3) := fun _ _ _ _ => rfl
theorem WordSize.valusMin : ∀ x0 x1 x2 x3, WordSize.Statement (.valusMin x0 x1 x2 x3) := fun _ _ _ _ => rfl
theorem WordSize.valusMax : ∀ x0 x1 x2 x3, WordSize.Statement (.valusMax x0 x1 x2 x3) := fun _ _ _ _ => rfl
theorem WordSize.valusMinu : ∀ x0 x1 x2 x3, WordSize.Statement (.valusMinu x0 x1 x2 x3) := fun _ _ _ _ => rfl
theorem WordSize.valusMaxu : ∀ x0 x1 x2 x3, WordSize.Statement (.valusMaxu x0 x1 x2 x3) := fun _ _ _ _ => rfl
theorem WordSize.fadd : ∀ x0 x1 x2 x3, WordSize.Statement (.fadd x0 x1 x2 x3) := fun _ _ _ _ => rfl
theorem WordSize.fsub : ∀ x0 x1 x2 x3, WordSize.Statement (.fsub x0 x1 x2 x3) := fun _ _ _ _ => rfl
theorem WordSize.fmul : ∀ x0 x1 x2 x3, WordSize.Statement (.fmul x0 x1 x2 x3) := fun _ _ _ _ => rfl
theorem WordSize.fmin : ∀ x0 x1 x2 x3, WordSize.Statement (.fmin x0 x1 x2 x3) := fun _ _ _ _ => rfl
theorem WordSize.fmax : ∀ x0 x1 x2 x3, WordSize.Statement (.fmax x0 x1 x2 x3) := fun _ _ _ _ => rfl
theorem WordSize.fabs : ∀ x0 x1 x2, WordSize.Statement (.fabs x0 x1 x2) := fun _ _ _ => rfl
theorem WordSize.fneg : ∀ x0 x1 x2, WordSize.Statement (.fneg x0 x1 x2) := fun _ _ _ => rfl
theorem WordSize.fsqrt : ∀ x0 x1 x2, WordSize.Statement (.fsqrt x0 x1 x2) := fun _ _ _ => rfl
theorem WordSize.frcp : ∀ x0 x1 x2, WordSize.Statement (.frcp x0 x1 x2) := fun _ _ _ => rfl
theorem WordSize.frsq : ∀ x0 x1 x2, WordSize.Statement (.frsq x0 x1 x2) := fun _ _ _ => rfl
theorem WordSize.fexp2 : ∀ x0 x1 x2, WordSize.Statement (.fexp2 x0 x1 x2) := fun _ _ _ => rfl
theorem WordSize.flog2 : ∀ x0 x1 x2, WordSize.Statement (.flog2 x0 x1 x2) := fun _ _ _ => rfl
theorem WordSize.fma : ∀ x0 x1 x2 x3, WordSize.Statement (.fma x0 x1 x2 x3) := fun _ _ _ _ => rfl
theorem WordSize.fms : ∀ x0 x1 x2 x3, WordSize.Statement (.fms x0 x1 x2 x3) := fun _ _ _ _ => rfl
theorem WordSize.fnma : ∀ x0 x1 x2 x3, WordSize.Statement (.fnma x0 x1 x2 x3) := fun _ _ _ _ => rfl
theorem WordSize.vcmpEq : ∀ x0 x1 x2 x3, WordSize.Statement (.vcmpEq x0 x1 x2 x3) := fun _ _ _ _ => rfl
theorem WordSize.vcmpNe : ∀ x0 x1 x2 x3, WordSize.Statement (.vcmpNe x0 x1 x2 x3) := fun _ _ _ _ => rfl
theorem WordSize.vcmpLt : ∀ x0 x1 x2 x3, WordSize.Statement (.vcmpLt x0 x1 x2 x3) := fun _ _ _ _ => rfl
theorem WordSize.vcmpLe : ∀ x0 x1 x2 x3, WordSize.Statement (.vcmpLe x0 x1 x2 x3) := fun _ _ _ _ => rfl
theorem WordSize.vcmpLtu : ∀ x0 x1 x2 x3, WordSize.Statement (.vcmpLtu x0 x1 x2 x3) := fun _ _ _ _ => rfl
theorem WordSize.vcmpFeq : ∀ x0 x1 x2 x3, WordSize.Statement (.vcmpFeq x0 x1 x2 x3) := fun _ _ _ _ => rfl
theorem WordSize.vcmpFlt : ∀ x0 x1 x2 x3, WordSize.Statement (.vcmpFlt x0 x1 x2 x3) := fun _ _ _ _ => rfl
theorem WordSize.vcmpFle : ∀ x0 x1 x2 x3, WordSize.Statement (.vcmpFle x0 x1 x2 x3) := fun _ _ _ _ => rfl
theorem WordSize.vcmpFunord : ∀ x0 x1 x2 x3, WordSize.Statement (.vcmpFunord x0 x1 x2 x3) := fun _ _ _ _ => rfl
theorem WordSize.vcvtF32I32 : ∀ x0 x1 x2 x3, WordSize.Statement (.vcvtF32I32 x0 x1 x2 x3) := fun _ _ _ _ => rfl
theorem WordSize.vcvtI32F32 : ∀ x0 x1 x2 x3, WordSize.Statement (.vcvtI32F32 x0 x1 x2 x3) := fun _ _ _ _ => rfl
theorem WordSize.vcvtBf16F32 : ∀ x0 x1 x2 x3 x4, WordSize.Statement (.vcvtBf16F32 x0 x1 x2 x3 x4) := fun _ _ _ _ _ => rfl
theorem WordSize.vcvtF32Bf16 : ∀ x0 x1 x2 x3, WordSize.Statement (.vcvtF32Bf16 x0 x1 x2 x3) := fun _ _ _ _ => rfl
theorem WordSize.vcvtE4m3F32 : ∀ x0 x1 x2 x3 x4, WordSize.Statement (.vcvtE4m3F32 x0 x1 x2 x3 x4) := fun _ _ _ _ _ => rfl
theorem WordSize.vcvtF32E4m3 : ∀ x0 x1 x2 x3, WordSize.Statement (.vcvtF32E4m3 x0 x1 x2 x3) := fun _ _ _ _ => rfl
theorem WordSize.vcvtE5m2F32 : ∀ x0 x1 x2 x3 x4, WordSize.Statement (.vcvtE5m2F32 x0 x1 x2 x3 x4) := fun _ _ _ _ _ => rfl
theorem WordSize.vcvtF32E5m2 : ∀ x0 x1 x2 x3, WordSize.Statement (.vcvtF32E5m2 x0 x1 x2 x3) := fun _ _ _ _ => rfl
theorem WordSize.vcvtE2m1F32 : ∀ x0 x1 x2 x3 x4, WordSize.Statement (.vcvtE2m1F32 x0 x1 x2 x3 x4) := fun _ _ _ _ _ => rfl
theorem WordSize.vcvtF32E2m1 : ∀ x0 x1 x2 x3, WordSize.Statement (.vcvtF32E2m1 x0 x1 x2 x3) := fun _ _ _ _ => rfl
theorem WordSize.vcvtHt8F32 : ∀ x0 x1 x2 x3, WordSize.Statement (.vcvtHt8F32 x0 x1 x2 x3) := fun _ _ _ _ => rfl
theorem WordSize.vcvtF32Ht8 : ∀ x0 x1 x2 x3, WordSize.Statement (.vcvtF32Ht8 x0 x1 x2 x3) := fun _ _ _ _ => rfl
theorem WordSize.vcvtHt6F32 : ∀ x0 x1 x2 x3, WordSize.Statement (.vcvtHt6F32 x0 x1 x2 x3) := fun _ _ _ _ => rfl
theorem WordSize.vcvtF32Ht6 : ∀ x0 x1 x2 x3, WordSize.Statement (.vcvtF32Ht6 x0 x1 x2 x3) := fun _ _ _ _ => rfl
theorem WordSize.vcvtI32I8 : ∀ x0 x1 x2 x3, WordSize.Statement (.vcvtI32I8 x0 x1 x2 x3) := fun _ _ _ _ => rfl
theorem WordSize.vcvtI8I32 : ∀ x0 x1 x2 x3 x4 x5, WordSize.Statement (.vcvtI8I32 x0 x1 x2 x3 x4 x5) := fun _ _ _ _ _ _ => rfl
theorem WordSize.vredSumI32 : ∀ x0 x1 x2, WordSize.Statement (.vredSumI32 x0 x1 x2) := fun _ _ _ => rfl
theorem WordSize.vredSumF32 : ∀ x0 x1 x2, WordSize.Statement (.vredSumF32 x0 x1 x2) := fun _ _ _ => rfl
theorem WordSize.vredMin : ∀ x0 x1 x2, WordSize.Statement (.vredMin x0 x1 x2) := fun _ _ _ => rfl
theorem WordSize.vredMax : ∀ x0 x1 x2, WordSize.Statement (.vredMax x0 x1 x2) := fun _ _ _ => rfl
theorem WordSize.vredFmin : ∀ x0 x1 x2, WordSize.Statement (.vredFmin x0 x1 x2) := fun _ _ _ => rfl
theorem WordSize.vredFmax : ∀ x0 x1 x2, WordSize.Statement (.vredFmax x0 x1 x2) := fun _ _ _ => rfl
theorem WordSize.vredAnd : ∀ x0 x1 x2, WordSize.Statement (.vredAnd x0 x1 x2) := fun _ _ _ => rfl
theorem WordSize.vredOr : ∀ x0 x1 x2, WordSize.Statement (.vredOr x0 x1 x2) := fun _ _ _ => rfl
theorem WordSize.vperm : ∀ x0 x1 x2 x3, WordSize.Statement (.vperm x0 x1 x2 x3) := fun _ _ _ _ => rfl
theorem WordSize.vrot : ∀ x0 x1 x2 x3, WordSize.Statement (.vrot x0 x1 x2 x3) := fun _ _ _ _ => rfl
theorem WordSize.vbcast : ∀ x0 x1 x2 x3, WordSize.Statement (.vbcast x0 x1 x2 x3) := fun _ _ _ _ => rfl
theorem WordSize.vext : ∀ x0 x1 x2 x3, WordSize.Statement (.vext x0 x1 x2 x3) := fun _ _ _ _ => rfl
theorem WordSize.vins : ∀ x0 x1 x2 x3, WordSize.Statement (.vins x0 x1 x2 x3) := fun _ _ _ _ => rfl
theorem WordSize.vcompress : ∀ x0 x1 x2 x3, WordSize.Statement (.vcompress x0 x1 x2 x3) := fun _ _ _ _ => rfl
theorem WordSize.vexpand : ∀ x0 x1 x2 x3, WordSize.Statement (.vexpand x0 x1 x2 x3) := fun _ _ _ _ => rfl
theorem WordSize.vid : ∀ x0 x1, WordSize.Statement (.vid x0 x1) := fun _ _ => rfl
theorem WordSize.vsplat : ∀ x0 x1 x2, WordSize.Statement (.vsplat x0 x1 x2) := fun _ _ _ => rfl
theorem WordSize.tldChk : ∀ x0 x1 x2 x3, WordSize.Statement (.tldChk x0 x1 x2 x3) := fun _ _ _ _ => rfl
theorem WordSize.tldGen : ∀ x0 x1 x2 x3 x4, WordSize.Statement (.tldGen x0 x1 x2 x3 x4) := fun _ _ _ _ _ => rfl
theorem WordSize.tstChk : ∀ x0 x1 x2 x3, WordSize.Statement (.tstChk x0 x1 x2 x3) := fun _ _ _ _ => rfl
theorem WordSize.tstGen : ∀ x0 x1 x2 x3 x4, WordSize.Statement (.tstGen x0 x1 x2 x3 x4) := fun _ _ _ _ _ => rfl
theorem WordSize.tlds : ∀ x0 x1, WordSize.Statement (.tlds x0 x1) := fun _ _ => rfl
theorem WordSize.mma : ∀ x0 x1 x2 x3 x4 x5 x6 x7, WordSize.Statement (.mma x0 x1 x2 x3 x4 x5 x6 x7) := fun _ _ _ _ _ _ _ _ => rfl
theorem WordSize.mmaCb : ∀ x0 x1 x2 x3 x4 x5 x6 x7, WordSize.Statement (.mmaCb x0 x1 x2 x3 x4 x5 x6 x7) := fun _ _ _ _ _ _ _ _ => rfl
theorem WordSize.tswap : ∀ x0, WordSize.Statement (.tswap x0) := fun _ => rfl
theorem WordSize.tzero : ∀ x0 x1 x2, WordSize.Statement (.tzero x0 x1 x2) := fun _ _ _ => rfl
theorem WordSize.tmark : ∀ x0 x1, WordSize.Statement (.tmark x0 x1) := fun _ _ => rfl
theorem WordSize.tdrain : ∀ x0 x1, WordSize.Statement (.tdrain x0 x1) := fun _ _ => rfl
theorem WordSize.tcvt : ∀ x0 x1 x2 x3 x4, WordSize.Statement (.tcvt x0 x1 x2 x3 x4) := fun _ _ _ _ _ => rfl
theorem WordSize.ttr : ∀ x0 x1 x2, WordSize.Statement (.ttr x0 x1 x2) := fun _ _ _ => rfl
theorem WordSize.tchk : ∀ x0 x1, WordSize.Statement (.tchk x0 x1) := fun _ _ => rfl
theorem WordSize.tmov : ∀ x0 x1 x2, WordSize.Statement (.tmov x0 x1 x2) := fun _ _ _ => rfl
theorem WordSize.tadd : ∀ x0 x1 x2 x3, WordSize.Statement (.tadd x0 x1 x2 x3) := fun _ _ _ _ => rfl
theorem WordSize.tdrq : ∀ x0 x1 x2 x3 x4 x5, WordSize.Statement (.tdrq x0 x1 x2 x3 x4 x5) := fun _ _ _ _ _ _ => rfl
theorem WordSize.trget : ∀ x0 x1 x2 x3, WordSize.Statement (.trget x0 x1 x2 x3) := fun _ _ _ _ => rfl
theorem WordSize.trset : ∀ x0 x1 x2 x3, WordSize.Statement (.trset x0 x1 x2 x3) := fun _ _ _ _ => rfl
theorem WordSize.tcsum : ∀ x0 x1 x2 x3, WordSize.Statement (.tcsum x0 x1 x2 x3) := fun _ _ _ _ => rfl
theorem WordSize.trsum : ∀ x0 x1 x2, WordSize.Statement (.trsum x0 x1 x2) := fun _ _ _ => rfl
theorem WordSize.tinj : ∀ x0 x1 x2 x3, WordSize.Statement (.tinj x0 x1 x2 x3) := fun _ _ _ _ => rfl
theorem WordSize.tstat : ∀ x0 x1 x2 x3, WordSize.Statement (.tstat x0 x1 x2 x3) := fun _ _ _ _ => rfl
theorem WordSize.xWordStart : WordSize.Statement .xWordStart := rfl
theorem WordSize.cbdef : ∀ x0 x1 x2, WordSize.Statement (.cbdef x0 x1 x2) := fun _ _ _ => rfl
theorem WordSize.cbput : ∀ x0 x1 x2, WordSize.Statement (.cbput x0 x1 x2) := fun _ _ _ => rfl
theorem WordSize.cbwait : ∀ x0 x1 x2, WordSize.Statement (.cbwait x0 x1 x2) := fun _ _ _ => rfl
theorem WordSize.cbtake : ∀ x0 x1 x2, WordSize.Statement (.cbtake x0 x1 x2) := fun _ _ _ => rfl
theorem WordSize.cbclose : ∀ x0 x1, WordSize.Statement (.cbclose x0 x1) := fun _ _ => rfl
theorem WordSize.cbst : ∀ x0 x1 x2, WordSize.Statement (.cbst x0 x1 x2) := fun _ _ _ => rfl
theorem WordSize.cpy : ∀ x0 x1 x2 x3, WordSize.Statement (.cpy x0 x1 x2 x3) := fun _ _ _ _ => rfl
theorem WordSize.cpyt : ∀ x0 x1 x2 x3, WordSize.Statement (.cpyt x0 x1 x2 x3) := fun _ _ _ _ => rfl
theorem WordSize.cpya : ∀ x0 x1 x2 x3, WordSize.Statement (.cpya x0 x1 x2 x3) := fun _ _ _ _ => rfl
theorem WordSize.cpyc : ∀ x0 x1 x2 x3, WordSize.Statement (.cpyc x0 x1 x2 x3) := fun _ _ _ _ => rfl
theorem WordSize.cpyst : ∀ x0 x1, WordSize.Statement (.cpyst x0 x1) := fun _ _ => rfl
theorem WordSize.copyOperationStart : WordSize.Statement .copyOperationStart := rfl
theorem WordSize.cpycHoldEnd : WordSize.Statement .cpycHoldEnd := rfl
theorem WordSize.copyOperationComplete : WordSize.Statement .copyOperationComplete := rfl
theorem WordSize.cpyaFire : WordSize.Statement .cpyaFire := rfl
theorem WordSize.copyEngineFault : WordSize.Statement .copyEngineFault := rfl
theorem WordSize.sinit : ∀ x0 x1 x2, WordSize.Statement (.sinit x0 x1 x2) := fun _ _ _ => rfl
theorem WordSize.swait : ∀ x0 x1 x2, WordSize.Statement (.swait x0 x1 x2) := fun _ _ _ => rfl
theorem WordSize.swaitY : ∀ x0 x1 x2, WordSize.Statement (.swaitY x0 x1 x2) := fun _ _ _ => rfl
theorem WordSize.sadd : ∀ x0 x1 x2, WordSize.Statement (.sadd x0 x1 x2) := fun _ _ _ => rfl
theorem WordSize.sstat : ∀ x0 x1 x2, WordSize.Statement (.sstat x0 x1 x2) := fun _ _ _ => rfl
theorem WordSize.waitConditionMet : WordSize.Statement .waitConditionMet := rfl
theorem WordSize.rsub : ∀ x0 x1 x2, WordSize.Statement (.rsub x0 x1 x2) := fun _ _ _ => rfl
theorem WordSize.rtake : ∀ x0 x1 x2, WordSize.Statement (.rtake x0 x1 x2) := fun _ _ _ => rfl
theorem WordSize.rpass : ∀ x0 x1, WordSize.Statement (.rpass x0 x1) := fun _ _ => rfl
theorem WordSize.rdrop : ∀ x0 x1, WordSize.Statement (.rdrop x0 x1) := fun _ _ => rfl
theorem WordSize.rside : ∀ x0 x1 x2, WordSize.Statement (.rside x0 x1 x2) := fun _ _ _ => rfl
theorem WordSize.rstat : ∀ x0 x1 x2, WordSize.Statement (.rstat x0 x1 x2) := fun _ _ _ => rfl
theorem WordSize.stageSetInstall : ∀ x0 x1 x2 x3, WordSize.Statement (.stageSetInstall x0 x1 x2 x3) := fun _ _ _ _ => rfl
theorem WordSize.routing : ∀ x0 x1, WordSize.Statement (.routing x0 x1) := fun _ _ => rfl
theorem WordSize.retirement : ∀ x0 x1, WordSize.Statement (.retirement x0 x1) := fun _ _ => rfl
theorem WordSize.coll : ∀ x0 x1 x2, WordSize.Statement (.coll x0 x1 x2) := fun _ _ _ => rfl
theorem WordSize.cwait : ∀ x0 x1 x2, WordSize.Statement (.cwait x0 x1 x2) := fun _ _ _ => rfl
theorem WordSize.cstat : ∀ x0 x1 x2, WordSize.Statement (.cstat x0 x1 x2) := fun _ _ _ => rfl
theorem WordSize.cabort : ∀ x0 x1, WordSize.Statement (.cabort x0 x1) := fun _ _ => rfl
theorem WordSize.collFirstPacket : ∀ x0 x1 x2, WordSize.Statement (.collFirstPacket x0 x1 x2) := fun _ _ _ => rfl
theorem WordSize.collMatchTimeout : ∀ x0, WordSize.Statement (.collMatchTimeout x0) := fun _ => rfl
theorem WordSize.collChunkStart : ∀ x0 x1 x2, WordSize.Statement (.collChunkStart x0 x1 x2) := fun _ _ _ => rfl
theorem WordSize.collChunkTimeout : ∀ x0, WordSize.Statement (.collChunkTimeout x0) := fun _ => rfl
theorem WordSize.collAbortReceived : ∀ x0 x1, WordSize.Statement (.collAbortReceived x0 x1) := fun _ _ => rfl
theorem WordSize.collCallEnd : ∀ x0, WordSize.Statement (.collCallEnd x0) := fun _ => rfl
theorem WordSize.launch : ∀ x0 x1 x2, WordSize.Statement (.launch x0 x1 x2) := fun _ _ _ => rfl
theorem WordSize.lstat : ∀ x0 x1 x2, WordSize.Statement (.lstat x0 x1 x2) := fun _ _ _ => rfl
theorem WordSize.waitt : ∀ x0 x1 x2, WordSize.Statement (.waitt x0 x1 x2) := fun _ _ _ => rfl
theorem WordSize.tnow : ∀ x0 x1 x2, WordSize.Statement (.tnow x0 x1 x2) := fun _ _ _ => rfl
theorem WordSize.rfence : ∀ x0 x1, WordSize.Statement (.rfence x0 x1) := fun _ _ => rfl
theorem WordSize.rfencew : ∀ x0 x1 x2, WordSize.Statement (.rfencew x0 x1 x2) := fun _ _ _ => rfl
theorem WordSize.wstat : ∀ x0 x1 x2, WordSize.Statement (.wstat x0 x1 x2) := fun _ _ _ => rfl
theorem WordSize.pagereq : ∀ x0 x1 x2, WordSize.Statement (.pagereq x0 x1 x2) := fun _ _ _ => rfl
theorem WordSize.pstat : ∀ x0 x1 x2, WordSize.Statement (.pstat x0 x1 x2) := fun _ _ _ => rfl
theorem WordSize.exposedResultLanding : WordSize.Statement .exposedResultLanding := rfl
theorem WordSize.scoreboardedResultLanding : ∀ x0, WordSize.Statement (.scoreboardedResultLanding x0) := fun _ => rfl
theorem WordSize.lookAheadNullifier : WordSize.Statement .lookAheadNullifier := rfl
theorem WordSize.correctableSramError : ∀ x0 x1, WordSize.Statement (.correctableSramError x0 x1) := fun _ _ => rfl
theorem WordSize.correctionHoldEnd : WordSize.Statement .correctionHoldEnd := rfl
theorem WordSize.residueGuardMismatch : ∀ x0 x1, WordSize.Statement (.residueGuardMismatch x0 x1) := fun _ _ => rfl
theorem WordSize.residueHoldEnd : WordSize.Statement .residueHoldEnd := rfl
theorem WordSize.trapEntry : WordSize.Statement .trapEntry := rfl
theorem WordSize.preemptionRequest : WordSize.Statement .preemptionRequest := rfl
theorem WordSize.machineCheck : ∀ x0 x1 x2, WordSize.Statement (.machineCheck x0 x1 x2) := fun _ _ _ => rfl
theorem WordSize.ctxcmdSave : WordSize.Statement .ctxcmdSave := rfl
theorem WordSize.ctxcmdRelease : WordSize.Statement .ctxcmdRelease := rfl
theorem WordSize.ctxcmdForward : WordSize.Statement .ctxcmdForward := rfl
theorem WordSize.replyAbort : ∀ x0, WordSize.Statement (.replyAbort x0) := fun _ => rfl
theorem WordSize.replyResume : ∀ x0, WordSize.Statement (.replyResume x0) := fun _ => rfl
theorem WordSize.replyRetryFromMark : ∀ x0, WordSize.Statement (.replyRetryFromMark x0) := fun _ => rfl
theorem WordSize.replyKillRegion : ∀ x0, WordSize.Statement (.replyKillRegion x0) := fun _ => rfl
theorem WordSize.iterationPreemption : WordSize.Statement .iterationPreemption := rfl
theorem WordSize.nodePreemption : WordSize.Statement .nodePreemption := rfl
theorem WordSize.tailWrite : ∀ x0 x1 x2 x3, WordSize.Statement (.tailWrite x0 x1 x2 x3) := fun _ _ _ _ => rfl
theorem WordSize.mailboxWrite : ∀ x0 x1 x2, WordSize.Statement (.mailboxWrite x0 x1 x2) := fun _ _ _ => rfl
theorem WordSize.headMirrorStore : ∀ x0, WordSize.Statement (.headMirrorStore x0) := fun _ => rfl
theorem WordSize.dispatchSlotTableWrite : ∀ x0 x1, WordSize.Statement (.dispatchSlotTableWrite x0 x1) := fun _ _ => rfl
theorem WordSize.activityBitmapClear : ∀ x0 x1, WordSize.Statement (.activityBitmapClear x0 x1) := fun _ _ => rfl
theorem WordSize.recordTake : ∀ x0, WordSize.Statement (.recordTake x0) := fun _ => rfl
theorem WordSize.dependencyMet : ∀ x0, WordSize.Statement (.dependencyMet x0) := fun _ => rfl
theorem WordSize.placeUnit : ∀ x0, WordSize.Statement (.placeUnit x0) := fun _ => rfl
theorem WordSize.priorityAgeing : ∀ x0, WordSize.Statement (.priorityAgeing x0) := fun _ => rfl
theorem WordSize.softPointTimeout : WordSize.Statement .softPointTimeout := rfl
theorem WordSize.gangInstancePlacement : ∀ x0 x1, WordSize.Statement (.gangInstancePlacement x0 x1) := fun _ _ => rfl
theorem WordSize.ttStartAttempt : ∀ x0, WordSize.Statement (.ttStartAttempt x0) := fun _ => rfl
theorem WordSize.readyWord : ∀ x0, WordSize.Statement (.readyWord x0) := fun _ => rfl
theorem WordSize.launchCompletion : ∀ x0, WordSize.Statement (.launchCompletion x0) := fun _ => rfl
theorem WordSize.budgetPeriodBoundary : ∀ x0, WordSize.Statement (.budgetPeriodBoundary x0) := fun _ => rfl
theorem WordSize.budgetHandleLoad : ∀ x0 x1 x2, WordSize.Statement (.budgetHandleLoad x0 x1 x2) := fun _ _ _ => rfl
theorem WordSize.budgetLimitWrite : ∀ x0 x1 x2 x3, WordSize.Statement (.budgetLimitWrite x0 x1 x2 x3) := fun _ _ _ _ => rfl
theorem WordSize.errmapClear : ∀ x0 x1, WordSize.Statement (.errmapClear x0 x1) := fun _ _ => rfl
theorem WordSize.xtblWrite : ∀ x0 x1, WordSize.Statement (.xtblWrite x0 x1) := fun _ _ => rfl
theorem WordSize.meshScheduledForward : ∀ x0, WordSize.Statement (.meshScheduledForward x0) := fun _ => rfl
theorem WordSize.reflectedWriteArrival : ∀ x0, WordSize.Statement (.reflectedWriteArrival x0) := fun _ => rfl
theorem WordSize.acknowledgementSend : ∀ x0 x1, WordSize.Statement (.acknowledgementSend x0 x1) := fun _ _ => rfl
theorem WordSize.acknowledgementReceive : ∀ x0 x1 x2, WordSize.Statement (.acknowledgementReceive x0 x1 x2) := fun _ _ _ => rfl
theorem WordSize.retransmission : ∀ x0 x1, WordSize.Statement (.retransmission x0 x1) := fun _ _ => rfl
theorem WordSize.planeLoss : ∀ x0, WordSize.Statement (.planeLoss x0) := fun _ => rfl
theorem WordSize.pathDeath : ∀ x0 x1 x2, WordSize.Statement (.pathDeath x0 x1 x2) := fun _ _ _ => rfl
theorem WordSize.pathReset : ∀ x0 x1, WordSize.Statement (.pathReset x0 x1) := fun _ _ => rfl
theorem WordSize.ptpSync : ∀ x0 x1, WordSize.Statement (.ptpSync x0 x1) := fun _ _ => rfl
theorem WordSize.ptpFollowUp : ∀ x0 x1 x2, WordSize.Statement (.ptpFollowUp x0 x1 x2) := fun _ _ _ => rfl
theorem WordSize.ptpPdelayReq : ∀ x0 x1, WordSize.Statement (.ptpPdelayReq x0 x1) := fun _ _ => rfl
theorem WordSize.ptpPdelayResp : ∀ x0 x1 x2, WordSize.Statement (.ptpPdelayResp x0 x1 x2) := fun _ _ _ => rfl
theorem WordSize.ptpPdelayRespFollowUp : ∀ x0 x1, WordSize.Statement (.ptpPdelayRespFollowUp x0 x1) := fun _ _ => rfl
theorem WordSize.resdone : ∀ x0, WordSize.Statement (.resdone x0) := fun _ => rfl
theorem WordSize.resfail : ∀ x0, WordSize.Statement (.resfail x0) := fun _ => rfl
theorem WordSize.atsTranslationCompletion : ∀ x0 x1 x2 x3 x4, WordSize.Statement (.atsTranslationCompletion x0 x1 x2 x3 x4) := fun _ _ _ _ _ => rfl
theorem WordSize.priResponse : ∀ x0 x1 x2, WordSize.Statement (.priResponse x0 x1 x2) := fun _ _ _ => rfl
theorem WordSize.priTimeout : ∀ x0 x1, WordSize.Statement (.priTimeout x0 x1) := fun _ _ => rfl
theorem WordSize.atsInvalidateRequest : ∀ x0 x1 x2, WordSize.Statement (.atsInvalidateRequest x0 x1 x2) := fun _ _ _ => rfl
theorem WordSize.arraySelfTest : ∀ x0 x1, WordSize.Statement (.arraySelfTest x0 x1) := fun _ _ => rfl
theorem WordSize.spareRowSwitch : ∀ x0 x1 x2 x3, WordSize.Statement (.spareRowSwitch x0 x1 x2 x3) := fun _ _ _ _ => rfl
theorem WordSize.bringUp : ∀ x0, WordSize.Statement (.bringUp x0) := fun _ => rfl
theorem WordSize.attestationRequest : ∀ x0, WordSize.Statement (.attestationRequest x0) := fun _ => rfl
theorem WordSize.thermalThrottle : ∀ x0 x1, WordSize.Statement (.thermalThrottle x0 x1) := fun _ _ => rfl
theorem WordSize.windowEntryInstall : ∀ x0 x1 x2 x3, WordSize.Statement (.windowEntryInstall x0 x1 x2 x3) := fun _ _ _ _ => rfl
theorem WordSize.stageSetRemoval : ∀ x0 x1, WordSize.Statement (.stageSetRemoval x0 x1) := fun _ _ => rfl
theorem WordSize.residencyBitClear : ∀ x0 x1, WordSize.Statement (.residencyBitClear x0 x1) := fun _ _ => rfl
theorem WordSize.regionNodeInstall : ∀ x0 x1, WordSize.Statement (.regionNodeInstall x0 x1) := fun _ _ => rfl
theorem WordSize.queueTableWrite : ∀ x0 x1, WordSize.Statement (.queueTableWrite x0 x1) := fun _ _ => rfl
theorem WordSize.extentTableInstall : ∀ x0 x1, WordSize.Statement (.extentTableInstall x0 x1) := fun _ _ => rfl
theorem WordSize.slotFragmentInstall : ∀ x0 x1 x2 x3 x4, WordSize.Statement (.slotFragmentInstall x0 x1 x2 x3 x4) := fun _ _ _ _ _ => rfl
theorem WordSize.hardEviction : ∀ x0, WordSize.Statement (.hardEviction x0) := fun _ => rfl
theorem WordSize.holdover : WordSize.Statement .holdover := rfl
theorem WordSize.replayInputDelivery : ∀ x0, WordSize.Statement (.replayInputDelivery x0) := fun _ => rfl

end Sys2Proof.Laws
end

