-- ==== Sys2Proof/Laws/Spad.lean ====
section
/-! SUPPORT. Accesses of scratchpad: what a checked access, a read and a write come to when all their bytes lie there. -/

namespace Sys2Proof.Machine

theorem rowOf_spad {a : Nat} (h : a < 0x14000000) : rowOf a = some (.scratchpad, 0x14000000) := by simp [rowOf, h]

theorem memRead_append (m : Memory) (a k n : Nat) (h : k ≤ n) : memRead m a k ++ memRead m (a + k) (n - k) = memRead m a n := by
  simp only [memRead_eq]
  obtain ⟨j, rfl⟩ := Nat.exists_eq_add_of_le h
  simp only [Nat.add_sub_cancel_left, List.range_add, List.map_append, List.map_map]
  congr 1
  refine List.map_congr_left (fun i _ => ?_)
  simp [Nat.add_assoc]

theorem cellsOf_append (xs ys : List Byte) (a : Nat) : cellsOf a (xs ++ ys) = cellsOf a xs ++ cellsOf (a + xs.length) ys := by
  induction xs generalizing a with
  | nil => simp [cellsOf]
  | cons x xs ih =>
    simp only [List.cons_append, cellsOf, List.length_cons, ih]
    rw [show a + 1 + xs.length = a + (xs.length + 1) by omega]
    split <;> simp

/-- Two writes side by side are one. -/
theorem memWrite_append (m : Memory) (a : Nat) (xs ys : List Byte) :
    memWrite (memWrite m a xs) (a + xs.length) ys = memWrite m a (xs ++ ys) := by
  have hx := cellsOf_range xs a
  have e1 : (memWrite m a xs).filter (fun c => c.1 < a + xs.length) = m.filter (fun c => c.1 < a) ++ cellsOf a xs := by
    simp only [memWrite, List.filter_append, List.filter_filter]
    have h1 : m.filter (fun c => decide (c.1 < a + xs.length) && decide (c.1 < a)) = m.filter (fun c => c.1 < a) := by
      refine List.filter_congr (fun c _ => ?_)
      by_cases h : c.1 < a <;> (simp [h]; try omega)
    have h2 : (cellsOf a xs).filter (fun c => decide (c.1 < a + xs.length)) = cellsOf a xs := by
      rw [List.filter_eq_self]; intro c hc; simpa using (hx c hc).2.1
    have h3 : m.filter (fun c => decide (c.1 < a + xs.length) && decide (a + xs.length ≤ c.1)) = [] := by
      rw [List.filter_eq_nil_iff]; intro c _; simp
    rw [h1, h2, h3, List.append_nil]
  have e2 : (memWrite m a xs).filter (fun c => a + xs.length + ys.length ≤ c.1) =
      m.filter (fun c => a + xs.length + ys.length ≤ c.1) := by
    simp only [memWrite, List.filter_append, List.filter_filter]
    have h1 : m.filter (fun c => decide (a + xs.length + ys.length ≤ c.1) && decide (c.1 < a)) = [] := by
      rw [List.filter_eq_nil_iff]; intro c _; simp; omega
    have h2 : (cellsOf a xs).filter (fun c => decide (a + xs.length + ys.length ≤ c.1)) = [] := by
      rw [List.filter_eq_nil_iff]; intro c hc; have := hx c hc; simp; omega
    have h3 : m.filter (fun c => decide (a + xs.length + ys.length ≤ c.1) && decide (a + xs.length ≤ c.1)) =
        m.filter (fun c => a + xs.length + ys.length ≤ c.1) := by
      refine List.filter_congr (fun c _ => ?_)
      by_cases h : a + xs.length + ys.length ≤ c.1 <;> (simp [h]; try omega)
    rw [h1, h2, h3]; rfl
  rw [memWrite, e1, e2, memWrite, cellsOf_append]
  simp [List.append_assoc, Nat.add_assoc]

/-- Two writes of scratchpad side by side are one, when they meet at a word. -/
theorem putSpad_append (m : Mem) (a : Nat) (xs ys : List Byte) (h : (a + xs.length) % 8 = 0) :
    (m.putSpad a xs).putSpad (a + xs.length) ys = m.putSpad a (xs ++ ys) := by
  have hd : (m.damaged.filter (fun d => !(a ≤ 8 * d && 8 * d + 8 ≤ a + xs.length))).filter
      (fun d => !(a + xs.length ≤ 8 * d && 8 * d + 8 ≤ a + xs.length + ys.length)) =
      m.damaged.filter (fun d => !(a ≤ 8 * d && 8 * d + 8 ≤ a + (xs ++ ys).length)) := by
    rw [List.filter_filter]
    refine List.filter_congr (fun d _ => ?_)
    rw [Bool.eq_iff_iff]
    simp only [Bool.and_eq_true, Bool.not_eq_true', Bool.and_eq_false_iff, decide_eq_false_iff_not, List.length_append]
    omega
  simp only [Mem.putSpad, memWrite_append, hd]

/-- A read whose bytes all lie in scratchpad. -/
theorem readMem_spad (m : Mem) (w : Who) (a n : Nat) (h : a + n ≤ 0x14000000) : readMem m w a n = memRead m.spad a n := by
  have key : ∀ fuel a n, n < 65536 * (fuel - 1) + (65536 - a % 65536) + 1 → 0 < fuel → a + n ≤ 0x14000000 →
      (cutsFrom 65536 fuel a n).foldr (fun p acc => readPiece m w p.1 p.2 ++ acc) [] = memRead m.spad a n := by
    intro fuel
    induction fuel with
    | zero => intro a n _ h0; omega
    | succ fuel ih =>
      intro a n hn _ hl
      simp only [cutsFrom]
      by_cases h0 : n = 0
      · subst h0; simp [memRead_eq]
      · by_cases hk : n ≤ 65536 - a % 65536
        · simp [h0, hk, readPiece, rowOf_spad (show a < 0x14000000 by omega)]
        · have hf : 0 < fuel := by
            rcases Nat.eq_zero_or_pos fuel with rfl | h
            · omega
            · exact h
          have hm : (a + (65536 - a % 65536)) % 65536 = 0 := by omega
          simp only [beq_iff_eq, h0, if_false, hk, List.foldr_cons]
          rw [ih _ _ (by rw [hm]; omega) hf (by omega)]
          simp only [readPiece, rowOf_spad (show a < 0x14000000 by omega)]
          exact memRead_append _ _ _ _ (by omega)
  exact key _ _ _ (by omega) (by omega) h

/-- A write of bytes that all lie in scratchpad. -/
theorem writeMem_spad (m : Mem) (w : Who) (a : Nat) (bs : List Byte) (h0 : bs ≠ []) (h : a + bs.length ≤ 0x14000000) :
    writeMem m w a bs = m.putSpad a bs := by
  have key : ∀ fuel b n m, n < 65536 * (fuel - 1) + (65536 - b % 65536) + 1 → 0 < fuel → 0 < n → a ≤ b → b + n = a + bs.length →
      (cutsFrom 65536 fuel b n).foldl (fun m p => writePiece m w p.1 (bytesAt bs (p.1 - a) p.2)) m =
        m.putSpad b (bs.drop (b - a)) := by
    intro fuel
    induction fuel with
    | zero => intro b n m _ h1; omega
    | succ fuel ih =>
      intro b n m hn _ hp hb he
      simp only [cutsFrom]
      by_cases hk : n ≤ 65536 - b % 65536
      · have hd : bytesAt bs (b - a) n = bs.drop (b - a) := by
          rw [bytesAt, List.take_of_length_le]; simp; omega
        simp [show n ≠ 0 by omega, hk, writePiece, rowOf_spad (show b < 0x14000000 by omega), hd]
      · have hf : 0 < fuel := by
          rcases Nat.eq_zero_or_pos fuel with rfl | h
          · omega
          · exact h
        have hm : (b + (65536 - b % 65536)) % 65536 = 0 := by omega
        simp only [beq_iff_eq, show n ≠ 0 by omega, if_false, hk, List.foldl_cons]
        rw [ih _ _ _ (by rw [hm]; omega) hf (by omega) (by omega) (by omega)]
        simp only [writePiece, rowOf_spad (show b < 0x14000000 by omega)]
        have hl : (bytesAt bs (b - a) (65536 - b % 65536)).length = 65536 - b % 65536 := by
          simp [bytesAt]; omega
        have hs : bytesAt bs (b - a) (65536 - b % 65536) ++ bs.drop (b + (65536 - b % 65536) - a) = bs.drop (b - a) := by
          rw [bytesAt, show b + (65536 - b % 65536) - a = (b - a) + (65536 - b % 65536) by omega, ← List.drop_drop,
            List.take_append_drop]
        have := putSpad_append m b (bytesAt bs (b - a) (65536 - b % 65536)) (bs.drop (b + (65536 - b % 65536) - a))
          (by rw [hl]; omega)
        rw [hl, hs] at this
        exact this
  have hpos : 0 < bs.length := List.length_pos_of_ne_nil h0
  have := key (bs.length / 65536 + 2) a bs.length m (by omega) (by omega) hpos (Nat.le_refl a) rfl
  rw [Nat.sub_self, List.drop_zero] at this
  exact this

/-- The checks of an access of one scratchpad range that is aligned, raises no race and reads no damaged word. -/
theorem checkAccess_spad {s : State} {kind : AccessKind} {narrow : Bool} {a n align : Nat} (h0 : 0 < n)
    (h : a + n ≤ 0x14000000) (ha : a % align = 0)
    (hr : kind = .load ∨ kind = .store → raceOf s.mem s.agent (kind == .store) a n = none)
    (hd : kind.reads = true → s.mem.badByte a n = none) :
    checkAccess s (rangeAccess kind narrow a n align) = none := by
  have hrow := rowOf_spad (show a < 0x14000000 by omega)
  have h1 : checkMap { lane := 0, addr := a, len := n } = none := by simp [checkMap, hrow]; omega
  have h2 : checkSpace s kind narrow 0#4 { lane := 0, addr := a, len := n } = none := by simp [checkSpace, hrow]
  have h3 : checkRights s.mem (coreWho s) kind { lane := 0, addr := a, len := n } = none := by simp [checkRights, hrow]
  have h4 : checkExtent s.mem (coreWho s) kind { lane := 0, addr := a, len := n } = none := by simp [checkExtent, hrow]
  have h5 : checkWindow s { lane := 0, addr := a, len := n } = none := by simp [checkWindow, hrow]
  have h6 : checkHost s { lane := 0, addr := a, len := n } = none := by simp [checkHost, hrow]
  have h7 : checkOwner s.mem s.agent kind { lane := 0, addr := a, len := n } = none := by
    simp only [checkOwner]
    split
    · rename_i hk
      rw [hr (by simpa using hk)]
    · rfl
  have h8 : checkDamage s.mem kind { lane := 0, addr := a, len := n } = none := by
    cases hk : kind.reads <;> simp [checkDamage, hrow, hk]
    exact hd hk
  simp [checkAccess, rangeAccess, alignCheck, ha, List.findSome?, h1, h2, h3, h4, h5, h6, h7, h8]

/-- A checked word of one scratchpad range goes on to its effect. -/
theorem checkedAccess_spad {w : W32} {s : State} {kind : AccessKind} {narrow : Bool} {a n align : Nat} {f : State → State}
    (h0 : 0 < n) (h : a + n ≤ 0x14000000) (ha : a % align = 0)
    (hr : kind = .load ∨ kind = .store → raceOf s.mem s.agent (kind == .store) a n = none)
    (hd : kind.reads = true → s.mem.badByte a n = none) :
    checkedAccess w noPre true (fun _ => rangeAccess kind narrow a n align) f s = f s := by
  have hrow := rowOf_spad (show a < 0x14000000 by omega)
  have hp : checkPrivilege s (rangeAccess kind narrow a n align).parts = none := by
    simp [checkPrivilege, rangeAccess, hrow]
  have hs : checkSameRow (rangeAccess kind narrow a n align).parts = none := by
    have hl : rowLow a = 0 := by simp [rowLow, hrow]
    simp only [checkSameRow, rangeAccess, hrow, hl, List.findSome?_cons, List.findSome?_nil]
    rw [if_neg (by simp; omega), if_neg (by omega)]
  simp [checkedAccess, hp, noPre, hs, checkAccess_spad h0 h ha hr hd]

end Sys2Proof.Machine
end

