-- ==== Sys2Proof/Laws/Vector.lean ====
section
/-! SUPPORT. Lanes and vector words: what a vector made of lanes holds, and what a vector word whose operands pass does. -/

namespace Sys2Proof.Machine

/-- The number whose base-2^32 digits are the lanes. -/
theorem lanes_digit (f : Nat → W32) (n k i : Nat) (h : i < n) :
    (((List.range' k n).foldr (fun j acc => (f j).toNat + 2 ^ 32 * acc) 0) / 2 ^ (32 * i)) % 2 ^ 32 = (f (k + i)).toNat := by
  induction n generalizing k i with
  | zero => omega
  | succ n ih =>
    simp only [List.range'_succ, List.foldr_cons]
    cases i with
    | zero =>
      have := (f k).isLt
      simp [Nat.add_mul_mod_self_left, Nat.mod_eq_of_lt this]
    | succ i =>
      have hi := ih (k + 1) i (by omega)
      rw [show 32 * (i + 1) = 32 + 32 * i by ring, Nat.pow_add, ← Nat.div_div_eq_div_mul,
        Nat.add_mul_div_left _ _ (by positivity), Nat.div_eq_of_lt (f k).isLt, Nat.zero_add, hi]
      congr 2; omega

/-- Lane i of a register made of 64 lanes. -/
theorem lane_vecOf (f : Nat → W32) (i : Nat) (h : i < 64) : lane (vecOf f) i = f i := by
  have key := lanes_digit f 64 0 i h
  rw [Nat.zero_add] at key
  apply BitVec.eq_of_getLsbD_eq
  intro j hj
  have : (f i).getLsbD j = (f i).toNat.testBit j := rfl
  rw [this, ← key, Nat.testBit_mod_two_pow, Nat.testBit_div_two_pow]
  simp only [lane, vecOf, ofLanes, BitVec.getLsbD_extractLsb', BitVec.getLsbD_ofNat, List.range_eq_range']
  have hb : 32 * i + j < 2048 := by omega
  simp [hj, hb, Nat.add_comm j]

/-- The number whose binary digits are the truths. -/
theorem mask_digit (f : Nat → Bool) (n k i : Nat) (h : i < n) :
    ((List.range' k n).foldr (fun j acc => (f j).toNat + 2 * acc) 0).testBit i = f (k + i) := by
  induction n generalizing k i with
  | zero => omega
  | succ n ih =>
    simp only [List.range'_succ, List.foldr_cons]
    cases i with
    | zero => cases f k <;> simp
    | succ i =>
      have hd : ∀ x, ((f k).toNat + 2 * x) / 2 = x := by intro x; cases f k <;> (simp; try omega)
      rw [Nat.testBit_succ, hd, ih (k + 1) i (by omega)]
      congr 1; omega

/-- Bit i of a mask made of 64 truths. -/
theorem getLsbD_maskOf (f : Nat → Bool) (i : Nat) (h : i < 64) : (maskOf f).getLsbD i = f i := by
  have key := mask_digit f 64 0 i h
  rw [Nat.zero_add] at key
  simp only [maskOf, BitVec.getLsbD_ofNat, h, decide_true, Bool.true_and, List.range_eq_range']
  exact key

/-- A vector word acts when its group is open, some lane passes or it has no guard, and its operands' tags are accepted. -/
theorem laneWord_acts {u : Use} {ops : List (Reg5 × Nat × TagClass)} {run : W64 → State → State} {s : State}
    (ho : s.seq.group.isOpen = true) (hg : u.hd.g = false ∨ guardMask u.hd s ≠ 0) (ht : checkTags ops s = none) :
    laneWord u ops run s = .next (run (guardMask u.hd s) s) := by
  rw [laneWord, issue_open ho]
  rcases hg with h | h
  · simp [h, ht]
  · have hm : (guardMask u.hd s == 0) = false := by simpa using h
    simp only [hm, Bool.and_false, ht]; rfl

/-- An operand of another class traps, and the word takes no effect. -/
theorem laneWord_traps {u : Use} {ops : List (Reg5 × Nat × TagClass)} {run : W64 → State → State} {s : State} {t : TrapInfo}
    (ho : s.seq.group.isOpen = true) (hg : u.hd.g = false ∨ guardMask u.hd s ≠ 0) (ht : checkTags ops s = some t) :
    laneWord u ops run s = .next (raise t s) := by
  rw [laneWord, issue_open ho]
  rcases hg with h | h
  · simp [h, ht]
  · have hm : (guardMask u.hd s == 0) = false := by simpa using h
    simp only [hm, Bool.and_false, ht]; rfl

end Sys2Proof.Machine
end

