-- ==== Sys2Proof/Tests/Slice0.lean ====
section
/-! SUPPORT. The model's own tests: words written out from the encoding tables of R77 and R87 to R91, the checks of
well-formedness, single steps whose results are worked out from the manual, and for each statement a state and operands that
meet its hypotheses. They are elaborated one after another, since each is one evaluation in the kernel. -/

set_option Elab.async false

open Sys2Proof Sys2Proof.Machine Sys2Proof.Claims

namespace Sys2Proof.Tests

/-- An unguarded word that ends its group. -/
def h0 : Hdr := Hdr.mk false false 0 false

/-- A word guarded by p1, which is clear after reset. -/
def h1 : Hdr := Hdr.mk false true 1 false

/-- The state an answer goes on in. -/
def after (r : Host.Outcome State Fault Refusal) : State :=
  match r with
  | .next t => t
  | .fault _ => State.reset
  | .refused _ => State.reset

/-- The state after reset with a group open, and the same in supervisor mode. -/
def base : State := onGroup (fun g => { g with isOpen := true }) State.reset
def super : State := onSeq (fun q => { q with supervisor := true }) base

/-- A scalar, a vector register of a format, a tile of a tag, and bytes of scratchpad. -/
def withS (r : Reg5) (x : W64) (s : State) : State := onSeq (fun q => q.setS r x) s
def withV (r : Reg5) (f : BitVec 4) (x : BitVec 2048) (s : State) : State :=
  onSeq (fun q => q.setV r { data := x, tag := mkTag f false false }) s
def withT (r : Reg4) (f : BitVec 4) (s : State) : State :=
  onSeq (fun q => q.setT r { Tile.zero with tag := mkTag f false true }) s
def withSpad (a : Nat) (bs : List Byte) (s : State) : State := onMem (fun m => { m with spad := memWrite m.spad a bs }) s

/-- A word placed for the next step, and two words placed in one packet. -/
def placed (w : Nat) : State := State.reset.withFetchWord 32 w
def placed2 (w x : Nat) : State :=
  onSeq (fun q => { q with icache := [] })
    (onMem (fun m => { m with hbm := memWrite m.hbm (placedPhys + (12 * placedPc.toNat - 0x100000000) + 4) (bytesOfNat 4 x) })
      (placed w))

/-- A region of handle 7 whose every budget is spent on both dies. -/
def spent (s : State) : State :=
  let c := { CounterSlot.free with handle := 7, limits := Vector.replicate 6 1, used := Vector.replicate 6 1 }
  onFw (fun f => { f with west := f.west.set 0 c, east := f.east.set 0 c }) (onSeq (fun q => { q with region := 7 }) s)

/-! ### Decoding: at least one word of every major, written out from R77 and R87 to R91 -/

theorem test_decode_sys : decodeWord 0b0_0_0000_0_000000_00101_01001_000010000 = .ok (.srr h0 5 0x010) := rfl
theorem test_decode_trap : decodeWord 0b0_0_0000_0_000000_00000_00011_000000111 = .ok (.trap h0 7) := rfl
theorem test_decode_alu : decodeWord 0b0_0_0000_0_000001_00011_00001_00010_0001 = .ok (.sub h0 3 1 2) := rfl
theorem test_decode_alu2 : decodeWord 0b0_0_0000_0_000010_00100_00111_00000_1011 = .ok (.bswap h0 4 7) := rfl
theorem test_decode_addi : decodeWord 0b0_0_0000_0_000011_00001_00010_111111101 = .ok (.addi h0 1 2 0x1FD) := rfl
theorem test_decode_andi : decodeWord 0b0_0_0000_0_000100_00001_00010_000001001 = .ok (.andi h0 1 2 9) := rfl
theorem test_decode_ori : decodeWord 0b0_0_0000_0_000101_00001_00010_000001001 = .ok (.ori h0 1 2 9) := rfl
theorem test_decode_xori : decodeWord 0b0_0_0000_0_000110_00001_00010_111111111 = .ok (.xori h0 1 2 0x1FF) := rfl
theorem test_decode_shi : decodeWord 0b0_0_0000_0_000111_00011_00100_10_0_111111 = .ok (.srai h0 3 4 63) := rfl
theorem test_decode_li : decodeWord 0b0_0_0000_0_001000_00011_10000000000000 = .ok (.li h0 3 0x2000) := rfl
theorem test_decode_lsh : decodeWord 0b0_0_0000_0_001001_00011_11111111111111 = .ok (.lsh h0 3 0x3FFF) := rfl
theorem test_decode_cmp : decodeWord 0b0_0_0000_0_001010_01111_00001_00010_0011 = .ok (.cmpGe h0 15 1 2) := rfl
theorem test_decode_cmpeqi : decodeWord 0b0_0_0000_0_001011_00001_00010_000000100 = .ok (.cmpeqi h0 1 2 4) := rfl
theorem test_decode_cmplti : decodeWord 0b0_0_0000_0_001100_00001_00010_000000100 = .ok (.cmplti h0 1 2 4) := rfl
theorem test_decode_cmpltui : decodeWord 0b0_0_0000_0_001101_00001_00010_000000100 = .ok (.cmpltui h0 1 2 4) := rfl
theorem test_decode_br : decodeWord 0b0_0_0000_0_001110_1111111111111111101 = .ok (.br h0 0x7FFFD) := rfl
theorem test_decode_call : decodeWord 0b0_0_0000_0_001111_0000000000000000101 = .ok (.call h0 5) := rfl
theorem test_decode_jmp : decodeWord 0b0_0_0000_0_010000_00110_00111_00000_0001 = .ok (.jalr h0 6 7) := rfl
theorem test_decode_loop : decodeWord 0b0_0_0000_0_010001_00000_01000_011111111 = .ok (.loop h0 8 255) := rfl
theorem test_decode_loopi : decodeWord 0b0_0_0000_0_010010_1111111111_111111111 = .ok (.loopi h0 1023 511) := rfl
theorem test_decode_pred : decodeWord 0b0_0_0000_0_010011_00001_00010_00011_0011 = .ok (.pandn h0 1 2 3) := rfl
theorem test_decode_pcnt : decodeWord 0b0_0_0000_0_010011_11111_00010_00000_1000 = .ok (.pcnt h0 31 2) := rfl
theorem test_decode_ld : decodeWord 0b0_0_0000_0_010101_00001_00010_100000_101 = .ok (.ld32u h0 1 2 0x20) := rfl
theorem test_decode_st : decodeWord 0b0_0_0000_0_010110_00001_00010_011111_011 = .ok (.st64 h0 1 2 31) := rfl
theorem test_decode_fe : decodeWord 0b0_0_0000_0_010111_00001_00010_000011_010 = .ok (.stf h0 1 2 3) := rfl
theorem test_decode_vld : decodeWord 0b0_0_0000_0_011000_00001_00010_000011_110 = .ok (.vldHt8 h0 1 2 3) := rfl
theorem test_decode_vst : decodeWord 0b0_0_0000_0_011001_00001_00010_000011_001 = .ok (.vstHt6 h0 1 2 3) := rfl
theorem test_decode_vldg : decodeWord 0b0_0_0000_0_011010_00001_00010_00011_0100 = .ok (.vldg h0 1 2 3 4) := rfl
theorem test_decode_vsts : decodeWord 0b0_0_0000_0_011011_00001_00010_00011_0000 = .ok (.vsts h0 1 2 3) := rfl
theorem test_decode_atom32 : decodeWord 0b0_0_0000_0_011100_00001_00010_00011_1001 = .ok (.atom32Cas h0 1 2 3) := rfl
theorem test_decode_atom64 : decodeWord 0b0_0_0000_0_011101_00001_00010_00011_1101 = .ok (.faddg h0 1 2 3) := rfl
theorem test_decode_fence : decodeWord 0b0_0_0000_0_011110_00000_00000_100_100001 = .ok (.fence h0 4 0x21) := rfl
theorem test_decode_own : decodeWord 0b0_0_0000_0_011111_00000_00010_00011_0001 = .ok (.ownRet h0 2 3) := rfl
theorem test_decode_valu : decodeWord 0b0_0_0000_0_100000_00001_00010_00011_1111 = .ok (.valuMaxu h0 1 2 3) := rfl
theorem test_decode_valus : decodeWord 0b0_0_0000_0_100001_00001_00010_00011_1000 = .ok (.valusSra h0 1 2 3) := rfl
theorem test_decode_vfalu : decodeWord 0b0_0_0000_0_100010_00001_00010_00000_1011 = .ok (.flog2 h0 1 2) := rfl
theorem test_decode_vfma : decodeWord 0b0_0_0000_0_100011_00001_00010_00011_0010 = .ok (.fnma h0 1 2 3) := rfl
theorem test_decode_vcmp : decodeWord 0b0_0_0000_0_100100_00001_00010_00011_1000 = .ok (.vcmpFunord h0 1 2 3) := rfl
theorem test_decode_vcvt : decodeWord 0b0_0_0000_0_100101_00001_00010_1_0_11_1_1111 = .ok (.vcvtI8I32 h0 1 2 1 3 1) := rfl
theorem test_decode_vred : decodeWord 0b0_0_0000_0_100110_00001_00010_00000_0101 = .ok (.vredFmax h0 1 2) := rfl
theorem test_decode_vperm : decodeWord 0b0_0_0000_0_100111_00001_00010_00011_0100 = .ok (.vins h0 1 2 3) := rfl
theorem test_decode_vsplat : decodeWord 0b0_0_0000_0_101000_00001_11111111111110 = .ok (.vsplat h0 1 0x3FFE) := rfl
theorem test_decode_tld : decodeWord 0b0_0_0000_0_101001_0011_00100_00101_0010_1 = .ok (.tldGen h0 3 4 5 2) := rfl
theorem test_decode_tst : decodeWord 0b0_0_0000_0_101010_0011_00100_00000_1010_0 = .ok (.tstChk h0 3 4 10) := rfl
theorem test_decode_tlds : decodeWord 0b0_0_0000_0_101011_0000_0011_0000_0000000 = .ok (.tlds h0 3) := rfl
theorem test_decode_mma : decodeWord 0b0_0_0000_0_101100_0001_0010_0000_0011010 = .ok (.mma h0 1 2 1 1 0 1 0) := rfl
theorem test_decode_tops : decodeWord 0b0_0_0000_0_101101_0001_0010_1001_0100000 = .ok (.tcvt h0 1 2 9 0) := rfl
theorem test_decode_tdrq : decodeWord 0b0_0_0000_0_101110_0001_0010_11100_0101_1_0 = .ok (.tdrq h0 1 2 28 5 1) := rfl
theorem test_decode_tvec : decodeWord 0b0_0_0000_0_101111_0001_00010_00011_00101 = .ok (.tstat h0 1 2 3) := rfl
theorem test_decode_cb : decodeWord 0b0_0_0000_0_110000_00001_00010_000000010 = .ok (.cbwait h0 1 2) := rfl
theorem test_decode_cpy : decodeWord 0b0_0_0000_0_110001_00001_00010_011_111111 = .ok (.cpyc h0 1 2 63) := rfl
theorem test_decode_sync : decodeWord 0b0_0_0000_0_110010_00001_00010_000000010 = .ok (.swaitY h0 1 2) := rfl
theorem test_decode_rec : decodeWord 0b0_0_0000_0_110011_00001_00010_000000001 = .ok (.rtake h0 1 2) := rfl
theorem test_decode_coll : decodeWord 0b0_0_0000_0_110100_00001_00010_000000000 = .ok (.coll h0 1 2) := rfl
theorem test_decode_launch : decodeWord 0b0_0_0000_0_110101_00001_00010_000000001 = .ok (.lstat h0 1 2) := rfl
theorem test_decode_time : decodeWord 0b0_0_0000_0_110110_00001_00010_000000001 = .ok (.tnow h0 1 2) := rfl
theorem test_decode_win : decodeWord 0b0_0_0000_0_110111_00001_00010_000000100 = .ok (.pstat h0 1 2) := rfl

theorem test_decode_guard : decodeWord 0b0_1_0010_1_001110_1111111111111111101 = .ok (.br (Hdr.mk false true 2 true) 0x7FFFD) := rfl
theorem test_reject_reserved_major : decodeWord 0b0_0_0000_0_010100_0000000000000000000 = .error .reservedMajor := rfl
theorem test_reject_top_major : decodeWord 0b0_0_0000_0_111111_0000000000000000000 = .error .reservedMajor := rfl
theorem test_reject_minor : decodeWord 0b0_0_0000_0_000010_00001_00010_00000_1100 = .error .reservedMinor := rfl
theorem test_reject_atom64_fadd : decodeWord 0b0_0_0000_0_011101_00001_00010_00011_1010 = .error .reservedMinor := rfl
theorem test_reject_guard_fields : decodeWord 0b0_0_0001_0_000001_00011_00001_00010_0000 = .error .guardFields := rfl
theorem test_reject_predicate_bit : decodeWord 0b0_0_0000_0_001010_10000_00001_00010_0000 = .error .predicateBit := rfl
theorem test_reject_format_code : decodeWord 0b0_0_0000_0_101001_0001_00010_00000_1011_0 = .error .formatCode := rfl
theorem test_reject_limit : decodeWord 0b0_0_0000_0_010010_0000000001_000000000 = .error .limit := rfl
theorem test_reject_mask : decodeWord 0b0_0_0000_0_011110_00000_00000_000_000000 = .error .limit := rfl
theorem test_reject_must_be_zero : decodeWord 0b0_0_0000_0_000010_00001_00010_00001_0100 = .error .mustBeZero := rfl
theorem test_reject_order : decodeWord 0b0_0_0001_0_101001_0001_00010_00001_1011_0 = .error .guardFields := rfl

/-! ### Well-formedness: one term per check, which the check refuses -/

theorem test_wf_guard : (Instr.add (Hdr.mk false false 1 false) 1 2 3).wellFormed = false := rfl
theorem test_wf_sense : (Instr.add (Hdr.mk false false 0 true) 1 2 3).wellFormed = false := rfl
theorem test_wf_guard_ok : (Instr.add (Hdr.mk false true 1 true) 1 2 3).wellFormed = true := rfl
theorem test_wf_format_zero : (Instr.tldGen h0 1 2 3 0).wellFormed = false := rfl
theorem test_wf_format_eleven : (Instr.tstChk h0 1 2 11).wellFormed = false := rfl
theorem test_wf_format_tzero : (Instr.tzero h0 1 0).wellFormed = false := rfl
theorem test_wf_loop_length : (Instr.loop h0 1 256).wellFormed = false := rfl
theorem test_wf_loopi_length : (Instr.loopi h0 1 0).wellFormed = false := rfl
theorem test_wf_fence_scope : (Instr.fence h0 5 1).wellFormed = false := rfl
theorem test_wf_fence_mask : (Instr.fence h0 0 0).wellFormed = false := rfl
theorem test_wf_tdrq_base : (Instr.tdrq h0 1 2 29 4 0).wellFormed = false := rfl
theorem test_wf_tdrq_format : (Instr.tdrq h0 1 2 0 3 0).wellFormed = false := rfl
theorem test_wf_tstat_word : (Instr.tstat h0 1 2 4).wellFormed = false := rfl
theorem test_wf_mma_feed : (Instr.mma h0 1 1 0 0 0 0 0).wellFormed = false := rfl
theorem test_wf_tnow_same : (Instr.tnow h0 1 1).wellFormed = false := rfl
theorem test_wf_half : (Instr.vcvtBf16F32 h0 1 2 2 0).wellFormed = false := rfl
theorem test_wf_pair : (Instr.vcvtE2m1F32 h0 1 3 0 0).wellFormed = false := rfl
theorem test_wf_pair_dest : (Instr.vcvtF32E2m1 h0 1 2 0).wellFormed = false := rfl
theorem test_wf_ht_rounding : (Instr.tcvt h0 1 2 9 1).wellFormed = false := rfl
theorem test_wf_snaprel_chain : (Instr.snaprel (Hdr.mk true false 0 false)).wellFormed = false := rfl

/-! ### Witnesses: the step, traps and reset -/

theorem witness_encode : encode (.add h0 3 1 2) = some 0x0008C220 ∧ (Instr.add h0 3 1 2).wellFormed = true := ⟨rfl, rfl⟩

theorem witness_one_word : presents (placed 0x0008C220) [(0x0008C220, 0)] ∧
    encodingTrap (placed 0x0008C220) (packetWords (placed 0x0008C220)) [(0x0008C220, 0)] = none ∧ nullified (placed 0x0008C220) [(0x0008C220, 0)] = false ∧
    (placed 0x0008C220).seq.resumeDone.getLsbD 0 = false ∧ decodeWord 0x0008C220 = .ok (.add h0 3 1 2) :=
  ⟨⟨rfl, rfl, rfl, rfl, rfl, rfl, rfl, rfl, rfl, rfl, rfl, rfl⟩, rfl, rfl, rfl, rfl⟩

/-- `add` with C = 1, and `vid` in the same group. -/
theorem witness_two_words : let s := placed2 0x8008C220 0x01380007
    presents s [(0x8008C220, 0), (0x01380007, 1)] ∧ encodingTrap s (packetWords s) [(0x8008C220, 0), (0x01380007, 1)] = none ∧
    nullified s [(0x8008C220, 0), (0x01380007, 1)] = false :=
  ⟨⟨rfl, rfl, rfl, rfl, rfl, rfl, rfl, rfl, rfl, rfl, rfl, rfl⟩, rfl, rfl⟩

/-- A packet that the cache does not hold, and one that it holds as it stood before a store. -/
theorem witness_fetches : cachedPacket (placed2 0 1) = none ∧ cachedPacket (placed 5) = some (memoryPacket (placed 5)) ∧
    cachedPacket (onSeq (fun q => { q with icache := [(placedPc, [1, 2, 3])] }) (placed 5)) = some [1, 2, 3] :=
  ⟨rfl, rfl, rfl⟩

theorem witness_illegal_group : presents (placed 0x00000401) [(0x00000401, 0)] ∧
    (encodingTrap (placed 0x00000401) (packetWords (placed 0x00000401)) [(0x00000401, 0)]).isSome = true :=
  ⟨⟨rfl, rfl, rfl, rfl, rfl, rfl, rfl, rfl, rfl, rfl, rfl, rfl⟩, rfl⟩

theorem witness_event : ({ State.reset with inbox := [.holdover] } : State).inbox = .holdover :: [] ∧
    useInstr .holdover = none := ⟨rfl, rfl⟩

/-- A copy of 64 bytes, and a window with one write on its path that is unacknowledged. -/
def rowOp : CopyOp := (parseCopyDesc (bytesOfNat 8 0x100 ++ bytesOfNat 8 0x200 ++ bytesOfNat 4 64 ++ bytesOfNat 4 1 ++ zeroBytes 40)).toOp
  0 0x1000 0
def waitingPath : State := onRefl (fun r => { r with
  tx := [{ id := 4, region := 0, base := 0x10000000000, len := 0x1000, allow := 0, vc := 0, loop := 0, ops := 0, rooted := false,
           targets := [(1, 5)] }]
  send := [{ dst := 1, vc := 0, next := 1, dead := false, lost := 0, lostBy := [], unacked :=
    [{ serial := 0, window := 4, rxid := 5, seq := 0, off := 0, data := [0], atom := none, agent := State.reset.agent, sends := 1,
       sentAt := 0 }] }] }) State.reset

theorem witness_word_alone : ∃ u, useInstr (.add h0 3 1 2) = some u ∧ State.reset.seq.group.isOpen = false ∧
    free u State.reset := ⟨_, rfl, rfl, rfl, rfl, rfl, rfl⟩

/-- A load of s3 while an exposed result for s3 is in flight; and a sum that reads s3 while an atomic's result for it pends. -/
theorem witness_word_drains : let s := exposeS 1 3 9 0 State.reset
    (useInstr (.ld64 h0 3 1 0)).map (fun u => (u.timing, u.writes.contains (.s 3), u.drains s)) = some (.scoreboarded, true, true) ∧
    (s.seq.ifq.map (fun e => e.writesReg (.s 3))) = [true] ∧ s.seq.group.isOpen = false := by decide +kernel

/-- A pending result of s3 and p1, and a tile that a pending word reads. -/
theorem witness_word_waits :
    let p := { Pending.none .atomic with sregs := [(3, 9)], pregs := [(1, 0)] }
    let x := { Pending.none .array with reads := [2], started := false }
    let s := pend x (pend p State.reset)
    p.writesReg (.s 3) = true ∧ p.writesReg (.p h1.pg) = true ∧ h1.g = true ∧ p.kind = .atomic ∧ (2 : Reg4) ∈ x.reads ∧
    s.seq.sb.map (·.started) = [true, false] ∧
    (useInstr (.add h0 4 3 1)).map (fun u => (u.reads.contains (.s 3), u.drains s, u.settleDrains s, u.waits s)) =
      some (true, false, false, true) ∧
    (useInstr (.add h1 4 5 6)).map (fun u => (u.hd.g, u.drains s, u.waits s)) = some (true, false, true) ∧
    (useInstr (.tzero h0 2 3)).map (fun u => (u.writes.contains (.t 2), u.pipe, u.waits s)) = some (true, .x, true) ∧
    (useInstr (.st64 h0 6 1 0)).map (fun u => (u.pipe, u.waits s)) = some (.m, true) := by decide +kernel

/-- What `exit`, `halt`, `eret`, a releasing word, a context command and the reflection fences wait for. -/
theorem witness_settling : let s := exposeS 1 3 9 0 State.reset
    let sup := pend (Pending.none .atomic) (onSeq (fun q => { q with supervisor := true }) State.reset)
    let copies := { State.reset with copy := { State.reset.copy with queue := [{ rowOp with started := true, done := 1 }] } }
    s.seq.ifq ≠ [] ∧ guardPass h0 s = true ∧ h0.g = false ∧ sup.seq.sb ≠ [] ∧ sup.seq.ifq = [] ∧
    (∃ p ∈ sup.seq.sb, p.sup = true) ∧ (∃ p ∈ sup.seq.sb, p.kind = .atomic) ∧ (∃ p ∈ sup.seq.sb, frozenNow sup p = false) ∧
    atBoundary copies = false ∧ reflectionSettled waitingPath none = false ∧ reflectionSettled waitingPath (some 4) = false ∧
    (windowOf waitingPath 0x10000000000).map (·.id) = some 4 ∧ waitingPath.seq.sb = [] := by decide +kernel

theorem witness_guard_fails : (useInstr (.add h1 3 1 2)).map (fun u => (u.pipe, u.hd)) = some (.s, h1) ∧
    base.seq.group.isOpen = true ∧ guardPass h1 base = false := ⟨rfl, rfl, rfl⟩

theorem witness_no_lane_passes : (useInstr (.vid h1 3)).map (fun u => (u.pipe, u.reduces, u.hd.g)) = some (.v, false, true) ∧
    guardMask h1 base = 0 := ⟨rfl, rfl⟩

/-- Two results due for s3, of which the later stands, and one of p2 that has a step to go. -/
theorem witness_due_results :
    let s := exposeP 2 2 5 7 0 (exposeS 1 3 8 0 (exposeS 1 3 9 0 base))
    (∃ a e b, s.seq.ifq.filter (fun e => e.remain ≤ 1) = a ++ e :: b ∧ e.kind = .scalar ∧ e.reg ≠ 0 ∧
      ∀ x ∈ b, x.kind = .scalar → x.reg ≠ e.reg) ∧
    (∀ x ∈ s.seq.ifq.filter (fun e => e.remain ≤ 1), x.kind = .predicate → x.reg.setWidth 4 ≠ (2 : Reg4)) := by
  refine ⟨⟨[_], _, [], rfl, rfl, by decide, by simp⟩, by decide⟩

theorem witness_holds : frozen base = false ∧ frozen (onSeq (fun q => { q with corrections := [1] }) base) = true := ⟨rfl, rfl⟩

theorem witness_due_predicate : ∃ e, (exposeP 1 2 5 7 0 base).seq.ifq.filter (fun e => e.remain ≤ 1) = [e] ∧
    e.kind = .predicate := ⟨_, rfl, rfl⟩

theorem witness_user_mode : State.reset.seq.supervisor = false ∧ State.reset.seq.held = none := ⟨rfl, rfl⟩

theorem witness_canonical : State.reset.mem.canonical ∧ ∃ t, step State.reset = .next t :=
  ⟨⟨rfl, rfl, List.Pairwise.nil, List.Pairwise.nil, List.Pairwise.nil⟩, _, rfl⟩

/-! ### Witnesses: scalar words -/

theorem witness_acts : acts h0 base := ⟨rfl, rfl⟩
theorem witness_transfers : transfers h0 base := ⟨⟨rfl, rfl⟩, rfl⟩
theorem witness_divisors : readS base 3 = 0 ∧ readS (withS 3 1 base) 3 ≠ 0 := ⟨rfl, by decide⟩
theorem witness_last_target : (readS (withS 3 0xFFFFFFFFFF base) 3).toNat < 2 ^ 40 := by decide
theorem witness_wild_target : 2 ^ 40 ≤ (readS (withS 31 0x10000000000 base) 31).toNat := by decide

/-- One entry of the loop stack. -/
def entry (a b : BitVec 40) (n : W32) : LoopEntry := { start := a, stop := b, remain := n, index := 0 }
def inLoops (l : List LoopEntry) (s : State) : State := onSeq (fun q => { q with loops := l }) s

theorem witness_loop_counts : 0xFFFFFFFF < (readS (withS 3 0x100000000 base) 3).toNat ∧ (readS base 3).toNat = 0 ∧
    (readS (withS 3 0xFFFFFFFF base) 3).toNat ≤ 0xFFFFFFFF ∧ 0 < (readS (withS 3 1 base) 3).toNat := by decide

theorem witness_loop_depths : (inLoops (List.replicate 6 (entry 0 9 1)) base).seq.loops.length = 6 ∧
    base.seq.loops.length ≠ 6 := by decide

/-- A guard that fails, and a group with a later one in its packet. -/
theorem witness_loop_guard : base.seq.group.isOpen = true ∧ guardPass h1 base = false ∧ base.seq.gpos + 1 < 3 := by decide

/-- At packet 0 in a body of packets 0 to 9, a loop of 10 packets overlaps its end and one of 9 does not. -/
theorem witness_loop_overlap : let s := inLoops [entry 0 9 1] base
    ∃ top rest, s.seq.loops = top :: rest ∧ top.start.toNat ≤ s.seq.pc.toNat ∧ s.seq.pc.toNat ≤ top.stop.toNat ∧
      top.stop.toNat < s.seq.pc.toNat + (10 : BitVec 9).toNat ∧ ¬ top.stop.toNat < s.seq.pc.toNat + (9 : BitVec 9).toNat :=
  ⟨_, _, rfl, by decide⟩

/-- At packet 0, an inner entry in its last iteration and an outer one with two left, both ending there; and an outer one that
ends later. -/
theorem witness_end_of_body : 3 ≤ base.seq.gpos + 3 ∧ (entry 0 0 1).stop = base.seq.pc ∧ (entry 0 0 1).remain = 1 ∧
    1 < (entry 0 0 2).remain.toNat ∧ (entry 0 1 2).stop ≠ base.seq.pc := by decide

/-! ### Witnesses: vector words -/

theorem witness_vacts : vacts h0 base := ⟨rfl, .inl rfl⟩
theorem witness_vacts_guarded : vacts h1 (onSeq (fun q => q.setP 1 1) base) := ⟨rfl, .inr (by decide)⟩
theorem witness_int_registers : intReg base 2 ∧ intReg (withV 2 3 0 base) 2 ∧ ¬ intReg (withV 2 1 0 base) 2 := by
  unfold intReg; decide
theorem witness_float_registers : floatReg (withV 2 1 0 base) 2 ∧ ¬ floatReg base 2 := by unfold floatReg; decide
theorem witness_any_registers : anyReg base 2 ∧ anyReg (withV 2 10 0 base) 2 ∧ ¬ anyReg (withV 2 11 0 base) 2 := by
  unfold anyReg; decide
theorem witness_conversion_sources : ∀ f : BitVec 4, f.toNat ≤ 10 → tagFmt (readV (withV 2 f 0 base) 2).tag = f := by
  decide +kernel
theorem witness_vins_lane : (guardMask h0 base).getLsbD 63 = true ∧
    (guardMask h1 (onSeq (fun q => q.setP 1 1) base)).getLsbD 63 = false := by decide

/-! ### Witnesses: memory words -/

/-- s1 at the last aligned doubleword of scratchpad: each width reaches its last unit from there, and none reaches past it. -/
theorem witness_last_words : let s := withS 1 0x13FFFFF8 base
    reaches s false (wordAddr s 1 0 8) 8 8 ∧ reaches s true (wordAddr s 1 0 8) 8 8 ∧ reaches s true (wordAddr s 1 1 4) 4 4 ∧
    reaches s true (wordAddr s 1 3 2) 2 2 ∧ reaches s true (wordAddr s 1 7 1) 1 1 ∧ ¬ reaches s false (wordAddr s 1 1 8) 8 8 := by
  unfold reaches; decide +kernel

/-- The first doubleword of extent space, in a resident extent with R, and the next page of a table that gives none. -/
def extents : State := onSeq (fun q => { q with xtbl := 0 }) (withS 1 0x100000000 (onGroup (fun g => { g with isOpen := true })
  (placed 0)))

theorem witness_extent_load : acts h0 extents ∧ (replaying extents = false ∧ extents.seq.recording = false) ∧
    admitted extents extents.east extents.regionHandle 0 = true ∧
    (let x := wordAddr extents 1 0 8
     0x100000000 ≤ x ∧ x + 8 ≤ 0x10000000000 ∧ x % 8 = 0 ∧ ∃ e, coverOf extents.mem (coreWho extents) x = some e ∧
       e.attr.getLsbD 1 = true ∧ isResident extents.mem e x = true) :=
  ⟨⟨rfl, rfl⟩, ⟨rfl, rfl⟩, rfl, by decide, by decide, rfl, _, rfl, rfl, rfl⟩

/-- The same extent without ALLRES, its residency bitmap at an HBM address that reads 0. -/
def absent : State := onMem (fun m => { m with hbm := memWrite (memWrite m.hbm 24 (bytesOfNat 8 0x0F)) 32 (bytesOfNat 8 0x300000) })
  extents

theorem witness_absent_page : ∃ e, coverOf absent.mem (coreWho absent) 0x100000000 = some e ∧ e.attr.getLsbD 1 = true ∧
    isResident absent.mem e 0x100000000 = false := ⟨_, rfl, rfl, rfl⟩

/-- The last word of scratchpad, empty, and full. -/
theorem witness_full_empty : let s := withS 1 0x13FFFFF8 base
    wordAddr s 1 0 8 + 8 ≤ 0x14000000 ∧ wordAddr s 1 0 8 % 8 = 0 ∧ isFull s.mem (wordAddr s 1 0 8 / 8) = false ∧
    isFull (setFull s.mem (wordAddr s 1 0 8 / 8) true) (wordAddr s 1 0 8 / 8) = true := by decide +kernel

theorem witness_last_vector : let s := withS 1 0x13FFFF00 base
    vreaches s false (wordAddr s 1 0 256) 4 ∧ vreaches s true (wordAddr s 1 0 256) 4 ∧ vreaches s true (wordAddr s 1 0 256) 3 := by
  unfold vreaches; decide +kernel

theorem witness_vtag_formats : tagFmt (onSeq (fun q => { q with vtag := 9 }) base).seq.vtag = 9 ∧
    tagSc (onSeq (fun q => { q with vtag := 9 }) base).seq.vtag = false ∧
    tagFmt (onSeq (fun q => { q with vtag := 10 }) base).seq.vtag = 10 ∧
    tagSc (onSeq (fun q => { q with vtag := 10 }) base).seq.vtag = false ∧
    tagFmt (readV (withV 4 10 0 base) 4).tag = 10 := by decide +kernel

theorem witness_gather_lanes : let s := withS 1 0x13FFFFFC base
    (tagFmt (readV s 2).tag = 3 ∨ tagFmt (readV s 2).tag = 0) ∧ (tagFmt s.seq.vtag).toNat < 10 ∧ tagSc s.seq.vtag = false ∧
    ∀ i, i < 64 → reaches s true (placeOf s (readS s 1 + (lane (readV s 2).data i).signExtend 64)) 4 4 := by
  unfold reaches; decide +kernel

theorem witness_atomic_places : placeOf (withS 1 0x13FFFFFC base) 0x13FFFFFC + 4 ≤ 0x14000000 ∧
    placeOf base 0x13FFFFF8 + 8 ≤ 0x14000000 ∧ placeOf base 0x13FFFFF0 + 16 ≤ 0x14000000 ∧ 0x13FFFFF0 % 16 = 0 := by decide +kernel

/-- A range whose granule the bay itself owns: no other agent holds it. -/
theorem witness_own_range : let s := onMem (fun m => { m with owner := [(0, .excl 0)] }) base
    placeOf s (readS s 1) + 64 ≤ 0x14000000 ∧ ∀ g ∈ granulesOf 0 64, ownerOf s.mem g = some (.excl s.agent) := by
  decide +kernel

theorem witness_fences : fenceMet base base.seq.sb 0 1 = true ∧
    fenceMet (pend (Pending.none .atomic) base) (pend (Pending.none .atomic) base).seq.sb 0 1 = false := by decide +kernel

/-! ### Witnesses: tile words -/

theorem witness_xacts : xacts h0 base ∧ acts h0 super ∧ super.seq.supervisor = true := ⟨⟨⟨rfl, rfl⟩, rfl⟩, ⟨rfl, rfl⟩, rfl⟩

/-- A contiguous i32 tile at scratchpad address 0, and a strided one with rows 256 bytes apart. -/
theorem witness_tile_places : tileReaches base (tilePlace base 3 1 0) 3 true ∧ tileStored base (tilePlace base 3 1 0) 3 ∧
    tileReaches (withS 2 256 base) (tilePlace (withS 2 256 base) 3 1 2) 3 false ∧
    tileStored (withS 2 256 base) (tilePlace (withS 2 256 base) 3 1 2) 3 := by
  unfold tileReaches tileStored; decide +kernel

/-- 64 rows of 64 integer zeros, and their sums. -/
def zeros : List (List Machine.Num) := List.replicate 64 (List.replicate 64 (.fin false 0 0))
def zeroSums : Sums := { rows := List.replicate 64 0, cols := List.replicate 64 0 }

theorem zero_row (sc : List Byte) : rowValues 3 false 0 sc = List.replicate 64 (.fin false 0 0) := by
  have h : rowValues 3 false 0 sc = rowValues 3 false 0 [] := by simp only [rowValues, slotShift, Bool.false_eq_true, if_false]
  rw [h]; decide +kernel

theorem zero_tile (sc : BitVec 8192) : tileValues 3 false 0 sc = zeros := by
  have h : ∀ m, rowBits 0 m = 0 := fun m => by simp [rowBits]
  simp only [tileValues, h, zero_row, zeros, List.map_const', List.length_range]

theorem zeros_verify : (verifySums 3 zeros zeroSums).rows = [] ∧ (verifySums 3 zeros zeroSums).cols = [] := by decide +kernel

theorem empty_read (a n : Nat) : memRead [] a n = List.replicate n 0 := by
  simp [memRead_eq, memByte, List.map_const']

theorem zero_memory : let m := memTile base (tilePlace base 3 1 0) 3
    m.data = 0 ∧ m.rows = zeroSums.rows ∧ m.cols = zeroSums.cols ∧ m.badScale = none := by
  have hm : base.mem.spad = [] := rfl
  simp only [memTile, hm, empty_read, List.map_const']
  decide +kernel

/-- Scratchpad of zeros holds a checked i32 tile. -/
theorem witness_checked_tile : let m := memTile base (tilePlace base 3 1 0) 3
    let v := verifySums 3 (tileValues 3 (scalable 3) m.data m.scales) { rows := m.rows, cols := m.cols }
    m.badScale = none ∧ v.rows = [] ∧ v.cols = [] := by
  obtain ⟨hd, hr, hc, hb⟩ := zero_memory
  refine ⟨hb, ?_⟩
  rw [hd, hr, hc, show scalable 3 = false from rfl, zero_tile]
  exact zeros_verify

/-- A checked i32 tile of zeros in t1, and the same with one row sum off. -/
def tiled : State := withT 1 3 base
def spoilt : State := onSeq (fun q => { q with t := q.t.set 1 { q.t[1] with rowSum := 1 } }) tiled

theorem witness_stored_tile : tagFmt (readT tiled 1).tag = 3 ∧ badTag (readT tiled 1).tag = false ∧
    tagCv (readT tiled 1).tag = true := by decide +kernel

theorem tiled_values : (readT tiled 1).values = zeros := zero_tile _
theorem spoilt_values : (readT spoilt 1).values = zeros := zero_tile _
theorem held_sums : heldSums (readT tiled 1) = zeroSums := by decide +kernel

theorem witness_checked_register : let v := verifySums 3 (readT tiled 1).values (heldSums (readT tiled 1))
    (readT tiled 1).nacc = 0 ∧ v.rows = [] ∧ v.cols = [] := by
  refine ⟨by decide +kernel, ?_⟩
  rw [tiled_values, held_sums]
  exact zeros_verify

theorem witness_spoilt_register : (readT spoilt 1).nacc = 0 ∧
    (verifySums 3 (readT spoilt 1).values (heldSums (readT spoilt 1))).rows = [0] := by
  rw [spoilt_values]
  decide +kernel

/-- An accumulator of zeros: NACC 1, and no line flagged. -/
def accumulated : State := onSeq (fun q => { q with t := q.t.set 1 { q.t[1] with status := 1 } }) tiled

theorem witness_accumulator : (readT accumulated 1).nacc ≠ 0 ∧
    ∀ x ∈ (drainView (readT accumulated 1)).rows ++ (drainView (readT accumulated 1)).cols, x ≠ .flagged := by
  decide +kernel

theorem witness_unchecked_tile : badTag (mkTag 3 false false) = false ∧ tagCv (mkTag 3 false false) = false := by decide

/-- bf16 planes and a bf16 feed, and accumulators that the options of `mma` accept. -/
def planes : State := onSeq (fun q => { q with w := { Plane.zero with tag := mkTag 2 false true } }) (withT 2 2 (withT 1 1 base))

theorem witness_mma_checks : let o : MmaOpts := { acc := true, sat := false, sb := false, sa := false, tr := false }
    mmaCheck o 1 (readT planes 2).tag 2 (tagCv (readT planes 2).tag) planes = none := by decide +kernel

/-- A transposed bf16 feed of zeros that verifies. -/
theorem zero_row_bf16 (sc : List Byte) : rowValues 2 false 0 sc = List.replicate 128 (elemValue 2 0 0) := by
  have h : rowValues 2 false 0 sc = rowValues 2 false 0 [] := by simp only [rowValues, slotShift, Bool.false_eq_true, if_false]
  rw [h]; decide +kernel

theorem zero_tile_bf16 (sc : BitVec 8192) :
    tileValues 2 false 0 sc = List.replicate 64 (List.replicate 128 (elemValue 2 0 0)) := by
  have h : ∀ m, rowBits 0 m = 0 := fun m => by simp [rowBits]
  simp only [tileValues, h, zero_row_bf16, List.map_const', List.length_range]

def zeroSums2 : Sums := { rows := List.replicate 64 0, cols := List.replicate 128 0 }

theorem zeros_verify_bf16 : let v := verifySums 2 (List.replicate 64 (List.replicate 128 (elemValue 2 0 0))) zeroSums2
    v.rows = [] ∧ v.cols = [] := by decide +kernel

theorem witness_transposed_feed : transposeCheck (readT planes 2) 2 2 = none := by
  have hv : (readT planes 2).values = List.replicate 64 (List.replicate 128 (elemValue 2 0 0)) := zero_tile_bf16 _
  have hs : heldSums (readT planes 2) = zeroSums2 := by decide +kernel
  have hf : tagFmt (readT planes 2).tag = 2 := by decide +kernel
  have hr : (List.range 64).all (fun m => (rowShift 2 (readT planes 2) m).isSome) = true := by decide +kernel
  simp only [transposeCheck, hf, hr, hv, hs, zeros_verify_bf16.1, zeros_verify_bf16.2]
  rfl

/-- A buffer of one bf16 tile, the first not yet taken, bound to slot 0 as the consumer's side. -/
def streamed : State :=
  onSeq (fun q => { q with
      vtag := 2, slots := q.slots.set 0 { bound := true, desc := 0x10000, producer := false, engine := false } })
    (withSpad 0x10000 (bytesOfNat 8 0 ++ bytesOfNat 4 17152 ++ bytesOfNat 2 1 ++ [15, 0] ++ bytesOfNat 8 1) planes)

theorem witness_streamed_feed : let s := streamed
    let slot := s.seq.slots.get (0 : BitVec 4).toFin
    let c := cbRead s.mem slot.desc.toNat
    let o : MmaOpts := { acc := true, sat := false, sb := false, sa := false, tr := false }
    tagFmt s.seq.vtag = 2 ∧ tagSc s.seq.vtag = false ∧ mmaCheck o 1 s.seq.vtag 0 true s = none ∧ slot.bound = true ∧
    slot.producer = false ∧ slot.engine = false ∧ c.esize = tileBytes 2 ∧ c.state < 3 ∧ 0 < c.avail ∧ c.elem c.ccnt = 0 ∧
    s.mem.badByte 0 (tileBytes 2) = none ∧ s.mem.badByte slot.desc.toNat 64 = none ∧
    (onMem (fun m => { m with damaged := [slot.desc.toNat / 8] }) s).mem.badByte slot.desc.toNat 64 = some 0x10000 ∧
    ∀ g ∈ granulesOf (c.elem c.ccnt) c.esize, ownerOf s.mem g = none := by decide +kernel

theorem streamed_tile : let m := tileOf 2 (memRead streamed.mem.spad 0 (tileBytes 2))
    m.data = 0 ∧ m.rows = zeroSums2.rows ∧ m.cols = zeroSums2.cols ∧ m.badScale = none := by
  have hz : memRead streamed.mem.spad 0 (tileBytes 2) = List.replicate 17152 0 :=
    (memRead_memWrite_other _ _ _ _ _ (.inl (by decide +kernel))).trans (empty_read _ _)
  have hr : (List.range 64).map (fun m => bytesAt (List.replicate 17152 (0 : Byte)) (m * rowBytes 2) (rowBytes 2)) =
      List.replicate 64 (List.replicate 256 0) := by
    rw [← List.length_range (n := 64), ← List.map_const', List.length_range]
    refine List.map_congr_left (fun m hm => ?_)
    have := List.mem_range.1 hm
    simp only [bytesAt, rowBytes, List.drop_replicate, List.take_replicate]
    exact congrArg (List.replicate · 0) (by simp; omega)
  rw [hz]
  simp only [tileOf, hr, List.drop_replicate]
  decide +kernel

theorem witness_streamed_tile : let m := tileOf 2 (memRead streamed.mem.spad 0 (tileBytes 2))
    let v := verifySums 2 (tileValues 2 (scalable 2) m.data m.scales) { rows := m.rows, cols := m.cols }
    m.badScale = none ∧ v.rows = [] ∧ v.cols = [] := by
  obtain ⟨hd, hr, hc, hb⟩ := streamed_tile
  refine ⟨hb, ?_⟩
  rw [hd, hr, hc, show scalable 2 = false from rfl, zero_tile_bf16]
  exact zeros_verify_bf16

theorem witness_requantisation : (∀ i, i < 4 → intReg tiled (28 + BitVec.ofNat 5 i)) ∧ tagFmt (readT tiled 1).tag = 3 ∧
    tagSc (readT tiled 1).tag = false := by
  unfold intReg; decide +kernel

theorem witness_accumulators : let s := onSeq (fun q => { q with t := q.t.set 2 { q.t[1] with status := 0xFFFF } }) accumulated
    tagFmt (readT s 1).tag = tagFmt (readT s 2).tag ∧ (readT s 1).nacc ≠ 0 ∧ (readT s 2).nacc ≠ 0 := by decide +kernel

theorem witness_lanes : tiled.seq.lanesDiffer = false ∧
    (onSeq (fun q => { q with lanesDiffer := true }) tiled).seq.lanesDiffer = true := ⟨rfl, rfl⟩

theorem witness_debug : (onSeq (fun q => { q with debug := true }) base).seq.debug = true ∧ base.seq.debug = false := ⟨rfl, rfl⟩

theorem witness_integer_operand : isIntFmt (4 : BitVec 4) = true ∧ isIntFmt (5 : BitVec 4) = true := ⟨rfl, rfl⟩

/-! ### Witnesses: system words -/

theorem witness_special_numbers : (0x0FF : BitVec 9).toNat < 0x100 ∧ (0x0FF : BitVec 9) ≠ 0x006 ∧ (0x0FF : BitVec 9) ≠ 0x008 ∧
    ¬ ((0x100 : BitVec 9).toNat < 0x100 ∨ base.seq.supervisor = true) ∧ replaying base = false ∧
    encode (.srr h0 5 0x100) = some 0b0_0_0000_0_000000_00101_01001_100000000 ∧
    encode (.srw h0 5 0x1FF) = some 0b0_0_0000_0_000000_00101_01010_111111111 := by decide +kernel

theorem witness_exit : base.seq.group.trap = none ∧ base.seq.loops = [] ∧ base.seq.held = none ∧ base.copy.queue = [] ∧
    base.copy.fired = [] ∧ writesDrained base = true ∧
    base.seq.held.isSome = false ∧ (lastSection base = true ∨ lastSection base = false) :=
  ⟨rfl, rfl, rfl, rfl, rfl, rfl, rfl, by decide⟩

theorem witness_supervisor_words : super.seq.supervisor = true ∧
    (onSeq (fun q => { q with masked := true }) super).seq.masked = true ∧
    (onSeq (fun q => { q with masked := false }) super).seq.masked = false := ⟨rfl, rfl, rfl⟩

theorem witness_snapshot_place : let s := withS 5 0x13FFE000 super
    (snapshotBytes s.seq.snapshot).length = 8192 ∧ reaches s true (placeOf s (readS s 5)) 8192 256 ∧
    reaches s false (placeOf s s.seq.saveptr) 8192 256 := by
  unfold reaches; decide +kernel

theorem witness_supervisor_word_in_user_mode : base.seq.supervisor = false ∧
    encode (.eret h0) = some 0b0_0_0000_0_000000_00000_00100_000000000 := ⟨rfl, rfl⟩

/-! ### Witnesses: engine words -/

/-- A buffer of two elements of 64 bytes at address 0, with its descriptor at 0x10000, in a state of R183 and with counts. -/
def buffer (state pcnt ccnt : Nat) : List Byte :=
  bytesOfNat 8 0 ++ bytesOfNat 4 64 ++ bytesOfNat 2 1 ++ bytesOfNat 1 7 ++ bytesOfNat 1 state ++ bytesOfNat 8 pcnt ++
    bytesOfNat 8 ccnt ++ bytesOfNat 2 0x1FF ++ bytesOfNat 2 0

/-- The same bound to slot 15. -/
def buffered (producer : Bool) (state pcnt ccnt : Nat) : State :=
  onSeq (fun q => { q with slots := q.slots.set 15 { bound := true, desc := 0x10000, producer := producer, engine := false } })
    (withS 2 15 (withS 1 1 (withSpad 0x10000 (buffer state pcnt ccnt) base)))

theorem witness_slots : (readS (buffered true 0 0 0) 2).toNat < 16 ∧ (slotAt base 15).bound = false ∧
    (slotAt (buffered true 0 0 0) 15).bound = true ∧ (slotAt (buffered true 0 0 0) 15).producer = true ∧
    (slotAt (buffered false 0 0 0) 15).producer = false ∧ (slotAt (buffered false 0 0 0) 15).engine = false := by decide +kernel

/-- Room for one more element, and an element to take; nobody else owns them. -/
theorem witness_put_and_take : let m := (buffered true 0 1 0).mem
    let d := cbRead m 0x10000
    d.state = 0 ∧ 1 ≤ d.room ∧ 1 ≤ d.avail ∧ (∀ g ∈ cbGranules d d.pcnt 1, ownerOf m g = none) ∧
    ∀ g ∈ cbGranules d d.ccnt 1, ownerOf m g = none := by decide +kernel

/-- A full buffer for its producer, an empty one for its consumer, and each ended state. -/
theorem witness_buffer_states : (cbRead (buffered true 0 2 0).mem 0x10000).room = 0 ∧
    (cbRead (buffered false 0 2 2).mem 0x10000).avail = 0 ∧ (cbRead (buffered false 1 2 1).mem 0x10000).state = 1 ∧
    0 < (cbRead (buffered false 1 2 1).mem 0x10000).avail ∧ (cbRead (buffered false 2 2 2).mem 0x10000).state = 2 ∧
    (cbRead (buffered false 3 0 0).mem 0x10000).state = 3 ∧ (cbRead (buffered false 4 0 0).mem 0x10000).state = 4 := by
  decide +kernel

theorem witness_cbdef : let s := withS 3 0x1F (withS 4 0x10000 (withSpad 0x10000 (buffer 0 0 0) base))
    (cbRead s.mem (placeOf s (readS s 4))).ok (placeOf s (readS s 4)) = true ∧ (readS s 3).toNat < 64 ∧
    (cbRead s.mem 0x10000).pagent = 0x1FF ∧ (cbRead s.mem 0x10000).cagent = s.seq.bayId.toNat := by decide +kernel

/-- A copy descriptor: source, destination, length, rows, sync word, trigger and flags. -/
def descriptor (src dst len rows sync trig flags : Nat) : List Byte :=
  bytesOfNat 8 src ++ bytesOfNat 8 dst ++ bytesOfNat 4 len ++ bytesOfNat 4 rows ++ bytesOfNat 8 0 ++ bytesOfNat 8 sync ++
    bytesOfNat 8 trig ++ bytesOfNat 4 0 ++ bytesOfNat 4 flags ++ bytesOfNat 8 0

theorem witness_copies : let s := buffered false 0 0 0
    let d := fun (op : Nat) (b : List Byte) => placeDesc s op 0 (parseCopyDesc b)
    let ok := fun (op : Nat) (b : List Byte) => (d op b).ok op ((d op b).elements s)
    ok 0 (descriptor 0x100 0x200 64 1 0x1000 0 0) = true ∧ syncPlaced (d 0 (descriptor 0x100 0x200 64 1 0x1000 0 0)).sync = true ∧
    ok 1 (descriptor 0x10000 0x20000 1 1 0 0 4) = true ∧ (d 1 (descriptor 0x10000 0x20000 1 1 0 0 4)).sync = 0 ∧
    ok 2 (descriptor 0x100 0x200 64 1 0 0x1000 0) = true ∧
    syncPlaced (d 2 (descriptor 0x100 0x200 64 1 0 0x1000 0)).trig = true ∧
    ok 3 (descriptor 15 0x200 0 0 0 0 16) = true := by decide +kernel

/-- The buffer of a `cpyc`'s slot with an uncorrectable error in its descriptor. -/
theorem witness_damaged_size : let s := buffered false 0 0 0
    let d := placeDesc s 3 0 (parseCopyDesc (descriptor 15 0x200 0 0 0 0 16))
    d.scb ≠ d.dcb ∧ (d.sizeSlot s).bound = true ∧ s.mem.badByte (d.sizeSlot s).desc.toNat 64 = none ∧
    (onMem (fun m => { m with damaged := [0x10000 / 8] }) s).mem.badByte (d.sizeSlot s).desc.toNat 64 = some 0x10000 := by
  decide +kernel

theorem witness_copy_place : let s := withS 1 0x13FFFFC0 base
    reaches s false (placeOf s (readS s 1)) 64 64 ∧ s.copy.queue.length < 16 ∧ s.copy.armed.length + s.copy.fired.length < 16 := by
  unfold reaches; decide +kernel

/-- The last sync word of scratchpad, of TARGET 2 and GEN 7: s1 holds its generation, s2 another. -/
def counting : State := withS 3 0x13FFFFF0 (withS 1 7 (withS 2 8
  (withSpad 0x13FFFFF0 (bytesOfNat 4 2 ++ bytesOfNat 4 1 ++ bytesOfNat 4 7 ++ bytesOfNat 4 0) base)))

theorem witness_sync_words : let word := fun (o : Nat) => natOfBytes (memRead counting.mem.spad (0x13FFFFF0 + o) 4)
    placeOf counting (readS counting 3) = 0x13FFFFF0 ∧ 0x13FFFFF0 % 16 = 0 ∧ word 0 ≠ 0 ∧ (readS counting 1).toNat % 2 ^ 32 ≠ 0 ∧
    word 8 = (readS counting 1).toNat % 2 ^ 32 ∧ word 8 ≠ (readS counting 2).toNat % 2 ^ 32 := by decide +kernel

/-- A place that is no sync word's, past the end of scratchpad or misaligned; a count of 0; and a sync word of TARGET 0. -/
theorem witness_bad_sync_words : ¬ (0x13FFFFF8 % 16 = 0 ∧ 0x13FFFFF8 + 16 ≤ 0x14000000) ∧
    ¬ (0x14000000 % 16 = 0 ∧ 0x14000000 + 16 ≤ 0x14000000) ∧ (readS base 1).toNat % 2 ^ 32 = 0 ∧
    natOfBytes (memRead base.mem.spad 0x13FFFFF0 4) = 0 := by decide +kernel

/-- A stage of a set, and a set of one stage whose sink is the buffer above. -/
def aStage : Stage :=
  { pool := 1, fofs := 0, flen := 64, qdepth := 16, hint := 0, queue := [5], tickets := 0, n := 0, passes := 0, cost := 0 }
def aRec : Rec := { rnum := 5, submitted := zeroBytes 64, composed := zeroBytes 64, done := 0, status := .inFlight, sides := [] }
def aSet : StageSet :=
  { east := false, idx := 3, region := 0, xtbl := 0, fixed := true, lwin := 6, rsize := 64, store := 0, sink := 0x10000,
    limit := 0, stats := 0, lfsr := 1, stages := [aStage], next := 6, retired := 5, recs := [aRec], route := [], windows := 0,
    flags := 0, isRetired := false, broken := false, waiting := [] }
def aHeld : Held :=
  { idx := 3, stage := 0, rnum := 5, buffer := 0x400, pc := 0, gpos := 0, loops := [], since := 0, sides := [] }

def routed : State := { withS 2 0x403 (withSpad 0x10000 (buffer 0 0 0) base) with sets := [aSet] }

theorem witness_record_words : setFor routed ((readS routed 2).setWidth 4) = some aSet ∧ (readS routed 2).extractLsb' 4 2 = 0 ∧
    placeOf routed (readS routed 2 &&& ~~~0x3F) + aSet.rsize ≤ 0x14000000 ∧ aSet.limit = 0 ∧
    raceOf routed.mem routed.agent false 0x400 64 = none ∧ aSet.recs.length < 1024 ∧ aSet.isRetired = false ∧
    aSet.broken = false ∧ entryLines aSet aSet.next = 0 := by decide +kernel

/-- The same set with its store in extent space, and the bay's region without a budget and with a spent one. -/
theorem witness_store_entries : let t := { aSet with store := 0x100000000 }
    entryLines t t.next ≠ 0 ∧ admitted routed routed.east routed.regionHandle 0 = true ∧
    admitted (spent routed) (spent routed).east (spent routed).regionHandle 0 = false := by decide +kernel

theorem witness_record_take : aSet.stages[((readS routed 2).extractLsb' 4 3).toNat]? = some aStage ∧
    aStage.pool.getLsbD (dieIndex routed.seq.bayId.toNat) = true ∧ routed.seq.held = none ∧
    (readS routed 2).extractLsb' 7 2 = 0 ∧ placeOf routed (readS routed 2 &&& ~~~0x1FF) = 0x400 ∧
    raceOf routed.mem routed.agent true 0x400 64 = none ∧ aStage.queue = aRec.rnum :: [] ∧ aSet.rec? 5 = some aRec ∧
    0x200000 * routed.seq.bayId.toNat ≤ 0x400 ∧ 0x400 + aSet.rsize ≤ 0x200000 * (routed.seq.bayId.toNat + 1) := by decide +kernel

theorem witness_record_held : let s := onSeq (fun q => { q with held := some aHeld }) routed
    s.seq.held = some aHeld ∧ aHeld.idx = aSet.idx ∧ aHeld.stage = (readS s 2).extractLsb' 4 3 ∧ aHeld.sides.length < 8 ∧
    aHeld.buffer = BitVec.ofNat 64 (placeOf s (readS s 2 &&& ~~~0x1FF)) ∧
    raceOf s.mem s.agent false (aHeld.buffer.toNat + aStage.fofs) aStage.flen = none := by decide +kernel

/-- A side entry's address word: op 2 on the last word of scratchpad that it may name, op 0 on the last doubleword. -/
theorem witness_side_entries : (0x13FFFFFA : W64).toNat % 8 = 2 ∧ placeOf base (0x13FFFFFA &&& ~~~7) + 4 ≤ 0x14000000 ∧
    (0x13FFFFF8 : W64).toNat % 8 ≤ 2 ∧ placeOf base (0x13FFFFF8 &&& ~~~7) + 8 ≤ 0x14000000 := by decide +kernel

/-- An all-gather of no bytes in a group of one, with its group table at 0x2000 and its sync word at 0x3000. -/
def collBlock : List Byte :=
  bytesOfNat 8 2 ++ bytesOfNat 8 0 ++ zeroBytes 8 ++ zeroBytes 24 ++ bytesOfNat 8 0x3000 ++ bytesOfNat 8 0x2000 ++ zeroBytes 64
def calling : State := withS 2 0x1000 (withSpad 0x2000 (bytesOfNat 2 1 ++ zeroBytes 16) (withSpad 0x1000 collBlock base))

theorem witness_collective : let c := parseColl (memRead calling.mem.spad 0x1000 128)
    let t := readGroup calling.mem (coreWho calling) c.gtab
    placeOf calling (readS calling 2) = 0x1000 ∧ callOf calling 0x1000 = none ∧ collOk calling (coreWho calling) c t = true ∧
    syncPlaced c.sync = true ∧ callsOn calling calling.east < 64 ∧ t.g = 1 := by decide +kernel

/-- The call that `coll` starts there, in flight; and 64 of them. -/
noncomputable def called : State := after (exec (.coll h0 1 2) calling)

theorem witness_call : ∃ k, callOf called 0x1000 = some k ∧ k.ending = none ∧
    64 ≤ callsOn { calling with coll := { calling.coll with calls := List.replicate 64 { k with block := 0 } } } calling.east ∧
    callOf { calling with coll := { calling.coll with calls := List.replicate 64 { k with block := 0 } } } 0x1000 = none :=
  ⟨_, rfl, rfl, by decide +kernel, by decide +kernel⟩

/-- A device queue of 16 records at 0x4000. -/
def aQueue : Queue :=
  { idx := 9, ring := 0x100000000, head := 0, tail := 0, hmirr := 0x8000, region := 0, log2n := 4, prio := 0, valid := true,
    device := true, mirrored := none, due := false, epoch := 0 }
def queued (q : Queue) : State := withS 1 9 (withS 2 0x1000 { base with disp := { base.disp with queues := [q] } })

theorem witness_launch_word : let s := queued { aQueue with tail := 15 }
    (readS s 1).toNat < 4096 ∧ reaches s false (placeOf s (readS s 2)) 64 64 ∧
    queueOf s ((readS s 1).setWidth 12) = some { aQueue with tail := 15 } ∧ aQueue.region = s.regionHandle ∧
    aQueue.valid = true ∧ aQueue.device = true ∧
    ((15 : W64) - aQueue.head).toNat < 2 ^ aQueue.log2n ∧ ¬ ((16 : W64) - aQueue.head).toNat < 2 ^ aQueue.log2n ∧
    isBound s.disp 9 = false ∧ queueOf s 10 = none ∧ 4096 ≤ (readS (withS 1 0x1000 base) 1).toNat := by
  unfold reaches; decide +kernel

/-- A launch of a region whose budget is spent is made all the same (R196). -/
theorem test_launch_never_waits : let s := spent (queued { aQueue with region := 7 })
    admitted s s.east s.regionHandle 0 = false ∧ (after (exec (.launch h0 1 2) s)).seq.group.stalled = none ∧
    ((after (exec (.launch h0 1 2) s)).disp.queues.map (·.tail)) = [1] := by decide +kernel

theorem witness_times : let s := withS 2 1 base
    s.clock.time.toNat < (readS s 2).toNat ∧ (readS base 2).toNat ≤ base.clock.time.toNat := by decide +kernel

/-- A loopback window over the first 4 KiB of window space. -/
def txBytes : List Byte :=
  bytesOfNat 8 0x10000000000 ++ bytesOfNat 8 0x1000 ++ zeroBytes 8 ++ bytesOfNat 2 1 ++ zeroBytes 38 ++ bytesOfNat 4 0x5000 ++
    zeroBytes 60
def domained : State := onRefl (fun r => { r with domain := [0, 1] }) base
noncomputable def windowed : State := withS 2 0x10000000FFF (after (exec (.windowEntryInstall .tx 4 0 txBytes) domained))

theorem witness_window_words : (windowOf windowed (placeOf windowed (readS windowed 2))).isSome = true ∧
    windowOf base (placeOf base (readS windowed 2)) = none := by decide +kernel

/-- A write of the bay's sequencer that is unacknowledged, through window 4. -/
theorem witness_covered_writes : (windowOf waitingPath 0x10000000000).map (fun w => waitingPath.refl.tx.find? (·.id == w.id) == some w) =
      some true ∧
    (∃ p ∈ waitingPath.refl.send, p.dead = false ∧ ∃ y ∈ p.unacked, y.agent = waitingPath.agent ∧ y.window = 4) := by decide +kernel

/-- A page that has no pending request, and one whose queue holds 64 others. -/
theorem witness_page_words : let s := absent
    0x100000000 ≤ placeOf s (readS s 1) ∧ s.host.pagesWest.any (fun p => p.page == 0x100000000 && p.pasid == s.seq.pasid) = false ∧
    s.host.pagesWest.length < 64 ∧ 64 ≤ (List.replicate 64 ({ page := 0, region := 0, pasid := 1, part := 0 } : PageEvent)).length := by
  decide +kernel

/-! ### Witnesses: events of the bay -/

theorem witness_active : active base := fun _ h => nomatch h

def waitingOn (w : Wait) (s : State) : State := onSeq (fun q => { q with wait := some w }) s

theorem witness_waits : (waitingOn (.fullEmpty 0x13FFFFF8 true) base).seq.wait = some (.fullEmpty 0x13FFFFF8 true) ∧
    (waitingOn (.sync 0x13FFFFF0 7 true) base).seq.wait = some (.sync 0x13FFFFF0 7 true) ∧
    (waitingOn (.call 0x1000) base).seq.wait = some (.call 0x1000) ∧ (waitingOn (.buffer 15) base).seq.wait = some (.buffer 15) ∧
    (waitingOn (.budget 0) base).seq.wait = some (.budget 0) ∧ base.seq.wait = none := ⟨rfl, rfl, rfl, rfl, rfl, rfl⟩

theorem witness_submission_wait : (waitingOn (.submit 3) routed).seq.wait = some (.submit 3) ∧
    setFor (waitingOn (.submit 3) routed) 3 = some aSet := by decide +kernel

/-- An atomic result and an X result that has not started, in flight. -/
def inFlight : State := pend { Pending.none .array with started := false } (pend { Pending.none .atomic with sregs := [(3, 9)] } base)

theorem witness_landings : (inFlight.seq.sb[0]?.map (·.kind)) = some .atomic ∧ canLand inFlight 0 = true ∧
    canLand inFlight 1 = false ∧ canLand inFlight 2 = false ∧ (inFlight.seq.sb[0]?.map (·.awaitsAck)) = some false ∧
    ({ Pending.none .atomic with hold := some (.applied 4 false) } : Pending).awaitsAck = true := by decide +kernel

/-- A `tlds` behind an `mma` that runs: each has its own resource. -/
theorem witness_array_start : let m := { Pending.none .array with tiles := [(1, Tile.zero)] }
    let l := { Pending.none .array with reads := [2], started := false }
    let s := pend l (pend m base)
    (∃ before p after, s.seq.sb = before ++ p :: after ∧ (∀ x ∈ before, x.started = true) ∧ p.started = false ∧
      frozenNow s p = false ∧ ∀ x ∈ before, (p.isMma = true → x.isMma = false) ∧ (p.isTlds = true → x.isTlds = false) ∧
        (p.isMma = false → p.isTlds = false → x.isMma = false ∧ x.isTlds = false)) ∧ ∀ j, canStart base j = false :=
  ⟨⟨[_], _, [], rfl, by decide +kernel, rfl, rfl, by decide +kernel⟩, fun _ => rfl⟩

/-- A group whose guard fails, in the first and in the last place of its packet. -/
theorem witness_nullified : let s := placed 0b0_1_0001_0_000001_00011_00001_00010_0000
    let u := onSeq (fun q => { q with gpos := 2 }) (placed2 0 0)
    isRunning s = true ∧ frozen s = false ∧ fetchFailure s = none ∧ fetchAdmitted s = true ∧ nullified s (groupWords s) = true ∧ s.seq.gpos + (groupWords s).length < 3 ∧
    s.seq.loops = [] ∧ 3 ≤ u.seq.gpos + (groupWords u).length := by decide +kernel

theorem witness_trap_entry : let t := cause 5 0x01 0 0
    let s := onSeq (fun q => { q with engineFaults := [t] }) (placed 0)
    let u := onSeq (fun q => { q with record := { q.record with malformed := true } }) (placed 0)
    let v := onSeq (fun q => { q with pc := 0 }) (placed 0)
    isRunning s = true ∧ frozen s = false ∧ s.seq.supervisor = false ∧ s.seq.engineFaults = t :: [] ∧
    u.seq.engineFaults = [] ∧ u.seq.record.malformed = true ∧ (placed 0).seq.engineFaults = [] ∧
    (placed 0).seq.record.malformed = false ∧ fetchFailure (placed 0) = none ∧ (fetchFailure v).isSome = true ∧
    isRunning v = true := ⟨rfl, rfl, rfl, rfl, rfl, rfl, rfl, rfl, rfl, rfl, rfl⟩

theorem witness_hold_ends : let s := onSeq (fun q => { q with corrections := [1, 32], residue := 1 }) base
    1 ∈ s.seq.corrections ∧ s.seq.residue = 1 ∧ s.seq.stopped = false ∧ 1 ∉ base.seq.corrections ∧ base.seq.residue ≠ 1 ∧
    base.seq.bayId.toNat < 160 := by decide

/-- The unit on the bay, of its region's own fault domain and of one that it shares. -/
theorem witness_machine_checks : let s := onDisp (fun d => { d with units := d.units.map (fun u => { u with domain := 0x100 }) }) (placed 0)
    checkUnitOf base = none ∧ (checkUnitOf (placed 0)).map (·.domain) = some 0 ∧
    (checkUnitOf s).map (·.domain) = some 0x100 := by decide +kernel

/-! ### Witnesses: the copy engine and the stage router -/

/-- A row copy of 64 bytes, a tile copy from a place that is not aligned, and a lock-step copy from slot 15. -/
def rowCopy : CopyOp := (parseCopyDesc (descriptor 0x100 0x200 64 1 0 0 0)).toOp 0 0x1000 0
def stray : CopyOp := { (parseCopyDesc (descriptor 0x10040 0x20000 1 1 0 0 4)).toOp 1 0x1000 0 with started := true }
def lockStep : CopyOp := (parseCopyDesc (descriptor 15 0x200 0 0 0 0 16)).toOp 3 0x1000 0
def copying (op : CopyOp) (s : State) : State := { s with copy := { s.copy with queue := [op] } }
def lockSide (pcnt : Nat) : State := onSeq (fun q => { q with
    cpycHold := true, slots := q.slots.set 15 { bound := true, desc := 0x10000, producer := false, engine := true } })
  (copying lockStep (withSpad 0x10000 (buffer 0 pcnt 0) base))

theorem witness_copy_start : engineHeld base = false ∧ engineHeld (onSeq (fun q => { q with saved := true }) base) = true ∧
    (copying rowCopy base).copy.queue = rowCopy :: [] ∧
    rowCopy.started = false ∧ rowCopy.left = 0 ∧ rowCopy.kind ≠ .lockstep ∧ admitted base base.east base.regionHandle 3 = true ∧
    ({ rowCopy with left := 63 } : CopyOp).left ≠ 0 := by decide +kernel

theorem witness_lock_step : lockStep.kind = .lockstep ∧ lockStep.left = 0 ∧ lockStep.started = false ∧
    (lockSide 0).seq.cpycHold = true ∧ (lockSide 0).seq.supervisor = false ∧ base.seq.cpycHold = false ∧
    (lockSide 0).seq.preempt ≠ some .hard ∧ (lockSide 0).seq.engineFaults = [] ∧
    engineHeld (onSeq (fun q => { q with cpycHold := false, preempt := some .hard }) (lockSide 0)) = false ∧
    copyDamaged (onSeq (fun q => { q with cpycHold := false, preempt := some .hard }) (lockSide 0)) = false ∧
    lockstepTest lockStep (lockSide 0) = .inr none ∧ lockstepTest lockStep (lockSide 1) = .inr (some 64) ∧
    admitted (lockSide 1) (lockSide 1).east (lockSide 1).regionHandle 3 = true := by decide +kernel

theorem witness_copy_complete : let op := { rowCopy with started := true, done := 64 }
    op.started = true ∧ op.done = op.total ∧ op.kind ≠ .lockstep := by decide +kernel

theorem witness_copy_fault : stray.started = true ∧ stray.unitLen base ≠ 0 ∧ stray.done % stray.unitLen base = 0 ∧ stray.done < stray.total ∧
    (checkUnit base stray (stray.done / stray.unitLen base)).map (fun f => decide (f.trap.cls ≠ 6)) = some true := by decide +kernel

/-- The image of a stage set of one stage, its store in scratchpad at 0x20000. -/
def setImage : List Byte :=
  bytesOfNat 1 1 ++ bytesOfNat 1 1 ++ bytesOfNat 1 6 ++ bytesOfNat 1 0 ++ bytesOfNat 2 64 ++ bytesOfNat 2 1 ++
    bytesOfNat 8 0x20000 ++ bytesOfNat 8 0x10000 ++ zeroBytes 40 ++
    (bytesOfNat 10 1 ++ bytesOfNat 2 16 ++ bytesOfNat 2 48 ++ bytesOfNat 2 16 ++ zeroBytes 8) ++ zeroBytes 168

theorem witness_set_install : (parseSet (withSpad 0x10000 (buffer 0 0 0) base).mem false 3 0 0 setImage).isSome = true ∧
    parseSet base.mem false 3 0 0 setImage = none ∧ setEntry base false 3 = none ∧ setEntry routed false 3 = some aSet ∧
    aSet.isRetired = false ∧ aSet.broken = false ∧ ({ aSet with isRetired := true } : StageSet).isRetired = true := by
  decide +kernel

theorem witness_routing : let t := { aSet with route := [5] }
    t.route = 5 :: [] ∧ t.rec? 5 = some aRec ∧ admitted routed false t.region 4 = true ∧
    admitted (spent routed) false 7 4 = false ∧ chooseStage t aRec = some (0, 1) ∧
    aSet.route = [] ∧ aSet.fixed = true ∧ aRec.done.getLsbD 0 = false ∧ aStage.queue.length < aStage.qdepth := by decide +kernel

theorem witness_retirement : let r := { aRec with status := .passed }
    let t := { aSet with recs := [r] }
    let d := cbRead routed.mem t.sink.toNat
    t.rec? t.retired = some r ∧ r.status ≠ .inFlight ∧ t.broken = false ∧ r.sides = [] ∧ t.stats = 0 ∧ t.limit = 0 ∧
    (r.rnum.toNat + 1) % 2 ^ t.lwin ≠ 0 ∧ d.room ≠ 0 ∧
    ∀ p ∈ granuleParts (d.elem d.pcnt) t.rsize, writeRaceAt routed.mem (routerAgent false) p.1 = none := by decide +kernel

/-! ### Witnesses: collective calls -/

/-- A call of a group of two on chips 0 and 1, matching, and one that runs. -/
def aPacket : FirstPacket :=
  { group := 0, cseq := 0, op := 2, rop := 0, dtype := 1, carry := 0, ord := true, ckt := false, count := 0, root := 0 }
def aCall : Call :=
  { block := 0x1000, east := false, region := 0, unit := none, pkt := aPacket, prio := 0, vc := 0, clog := 15, send := 0,
    recv := 0, cscr := 0, sync := 0x3000, t1 := 1, t2 := 1, g := 2, rank := 0, rw := 0, chips := [0, 1], state := .matching,
    since := 0, packets := [], chunk := 0, bdone := 0, flags := 0, overflow := none, evicted := false, waiting := false, ending := none }
def inCall (c : Call) : State := { base with coll := { base.coll with calls := [c] } }
def later (n : W64) (s : State) : State := { s with clock := { s.clock with time := n } }

theorem witness_matching : callOf (inCall aCall) 0x1000 = some aCall ∧ aCall.ending = none ∧ aCall.state = .matching ∧
    1 < aCall.g ∧ 1 ≠ aCall.rank ∧ (∀ x ∈ aCall.packets, x.1 ≠ 1) ∧ { aPacket with cseq := 1 } ≠ aCall.pkt ∧
    (aCall.packets ++ [(1, aPacket)]).length + 1 = aCall.g ∧ (∀ x ∈ aCall.packets ++ [(1, aPacket)], x.2 = aCall.pkt) ∧
    (∀ j, j < 1 → j = aCall.rank ∨ ∃ x ∈ aCall.packets, x.1 = j) := by decide +kernel

/-- In a group of three, rank 2 has disagreed and then rank 1 disagrees: the lower one is named. -/
theorem witness_disagreement : let p := { aPacket with cseq := 1 }
    let c := { aCall with g := 3, chips := [0, 1, 2], packets := [(2, p)], ending := some (5, 0x284, 2) }
    let seen := c.packets ++ [(1, p)]
    (∃ peer, c.ending = some (5, 0x284, peer)) ∧ (1, p) ∈ seen ∧ p ≠ c.pkt ∧ (∀ y ∈ seen, y.1 < 1 → y.2 = c.pkt) ∧
    ([] ++ [(1, aPacket)]).length + 1 ≠ c.g := ⟨⟨2, rfl⟩, by decide, by decide, by decide, by decide⟩

theorem witness_timeouts : 1 * 1000 ≤ ((later 1000 (inCall aCall)).clock.time - aCall.since).toNat ∧
    ({ aCall with state := .running, evicted := true } : Call).state = .running ∧
    (∀ k ∈ (inCall aCall).coll.calls, k.evicted = false) := by decide +kernel

theorem witness_chunk : let k := { aCall with state := .running, pkt := { aPacket with count := 16 } }
    (inCall k).coll.calls.filter (fun x => x.east == false && x.hasChunk && [aCall.block].contains x.block) = [k] ∧
    chunkAdmitted (inCall k) k = true ∧ chunkDamaged (inCall k) k = false ∧
    chunkDamaged (onMem (fun m => { m with damaged := [0] }) (inCall k)) k = true ∧ k.fits [[], [5]] = false ∧
    (inCall aCall).coll.calls.filter (fun x => x.east == false && x.hasChunk && [aCall.block].contains x.block) = [] := by
  decide +kernel

theorem witness_call_end : let k := { aCall with state := .running }
    k.chunks ≤ k.chunk ∧ k.block.toNat + 128 ≤ k.sync.toNat ∧ base.mem.badByte k.sync.toNat 16 = none ∧
    syncTarget (withSpad 0x3000 [1] base).mem 0x3000 ≠ 0 ∧
    syncCount (withSpad 0x3000 [1] base).mem 0x3000 < syncTarget (withSpad 0x3000 [1] base).mem 0x3000 := by decide +kernel

theorem witness_reduction : aPacket.ord = true ∧ aPacket.dtype = 1 ∧ aPacket.carry = 0 ∧ aPacket.rop = 0 := ⟨rfl, rfl, rfl, rfl⟩

/-! ### Witnesses: regions, contexts and dispatch -/

/-- A region node of handle 7: every bay of the chip, one save slot at 4 MiB of extent space, a fault area and a handler. -/
def aNode : Rcb :=
  { addr := 0x200, kind := 2, flags := 0, inh := 0, prio := 23, part := 0, parent := 0x100, handle := 7, pasid := 0, xtab := 0,
    farea := 0x8000, fhrec := 0x9000, save := 0x100000000, bays := BitVec.allOnes 160, limits := List.replicate 6 0, slotn := 256,
    saven := 2, faults := 0, killed := false }

/-- An extent of 8 MiB from the start of extent space, and a unit of the region on the bay. -/
def region : State :=
  let s := onMem (fun m => { m with hbm := memWrite m.hbm 8 (bytesOfNat 8 0x800000) }) (placed 0)
  let s := onFw (fun f => { f with nodes := [aNode]
                                   west := f.west.set 0 { CounterSlot.free with handle := 7 }
                                   east := f.east.set 0 { CounterSlot.free with handle := 7 } }) s
  let s := onDisp (fun d => { d with units := d.units.map (fun u => { u with region := 7, farea := 0x8000, fhrec := 0x9000 }) }) s
  onSeq (fun q => { q with region := 7 }) s

/-- Supervisor code of the region's unit, its save area in reach, before and after an op 0 of CTXCMD. -/
def command (saved : Bool) : State := onSeq (fun q => { q with supervisor := true, saveptr := 0x100000000, saved := saved }) region

theorem witness_context_save : let s := command false
    s.seq.supervisor = true ∧ s.seq.masked = false ∧ s.seq.unit.isSome = true ∧ s.seq.stopped = false ∧ s.seq.sb = [] ∧
    atBoundary s = true ∧ atBoundary (copying { rowCopy with started := true, done := 1 } s) = false ∧ s.seq.saved = false ∧
    areaOk s s.seq.saveptr.toNat 614400 = true ∧ areaOk s 0x13FF0000 614400 = false ∧ s.seq.chainFails = false ∧
    admitted s s.east s.regionHandle 0 = true ∧ admitted (spent s) (spent s).east (spent s).regionHandle 0 = false := by
  decide +kernel

theorem witness_context_forward : let s := command true
    ∃ u, placedUnit s = some u ∧ nodeOf s.fw u.region = some aNode ∧ isHandler s u = false ∧ u.farea ≠ 0 ∧ u.fhrec ≠ 0 ∧ s.seq.saved = true ∧
      unitOf s u.key = some u := ⟨_, rfl, rfl, by decide +kernel⟩

/-- A reply of each action for the unit. -/
def replied (n : Byte) : State := onDisp (fun d => { d with replies := [{ unit := 0, action := n, tile := 0 }] }) region

theorem witness_replies : (unitOf (replied 0) 0).isSome = true ∧
    (∀ n : Byte, n.toNat < 4 → ∃ r, (replied n).disp.replies.find? (fun r => r.unit == 0 && r.action == n) = some r) ∧
    region.disp.replies.find? (fun r => r.unit == 0 && r.action == 0) = none ∧
    (unitOf region 0).map (fun u => canRetry region u 0) = some false := by
  refine ⟨by decide +kernel, fun n _ => ⟨⟨0, n, 0⟩, by simp [replied, onDisp]⟩, by decide +kernel, by decide +kernel⟩

/-- An aborted unit whose queued copy has no budget to run: its end waits. -/
theorem witness_undrained_abort :
    let s := spent (onDisp (fun d => { d with units := d.units.map (fun u => { u with queue := [rowCopy] }) }) (replied 0))
    (unitOf s 0).map (fun u => decide (u.queue ≠ []) && (drainSaved u s).isNone) = some true := by decide +kernel

/-- A mark of depth 0 in tile 0 of the saved unit: a retry can be made. -/
theorem witness_retry : (unitOf region 0).map (fun u => canRetry
    (onMem (fun m => { m with hbm := memWrite m.hbm (placedPhys + 0x6000 + 0x4D22) [1] }) region) u 0) = some true := by
  decide +kernel

theorem witness_iteration_save : let s := onSeq (fun q => { q with
      preempt := some .soft, wait := some (.sync 0x1000 0 true) }) region
    softReady s = true ∧ softReady base = false ∧ s.seq.chainFails = false ∧ s.seq.wait = some (.sync 0x1000 0 true) ∧ s.seq.preempt = some .soft ∧
    (onSeq (fun q => { q with preempt := some .saving }) s).seq.preempt = some .saving ∧
    (placedUnit s).map (fun u => areaOk s (slotBase s u) 614400) = some true := by decide +kernel

/-- A taken launch of one unit for the region, ready. -/
def aLaunch : Launch :=
  { key := 40, queue := none, number := 0, handles := none, region := 7, task := 0, kind := 0, recAddr := 0, bmin := 1, bmax := 0,
    gang := 0, units := 1, argp := 0, csync := 0, dsync := 0x3000, dgen := 0, dep := false, tt := false, period := 0, tstart := 0,
    skip := 0, members := [], pipes := [], prio := 0, phase := .ready, placed := 0, ndone := 0, ended := 0, fcause := none,
    outcome := 0, waitSince := 0, readyAt := 0, aged := 0, released := [], stamps := [], refusing := false }
def launched (l : Launch) (s : State) : State := onDisp (fun d => { d with launches := d.launches ++ [l] }) s

/-- A unit of a command list before its second record, and a unit of one on another bay that has been asked to leave. -/
theorem witness_node_save :
    let s := launched { aLaunch with key := 0, kind := 1 } (onSeq (fun q => { q with preempt := some .soft, cmdp := 16 }) region)
    let t := onDisp (fun d => { d with
      units := d.units.map (fun u => { u with bay := 1, asked := some .soft }), elsewhere := [some 0] }) s
    s.disp.elsewhere = [] ∧ t.disp.elsewhere = [some 0] ∧ atNode s = true ∧ softReady s = true ∧ s.copy.queue = [] ∧ s.copy.fired = [] ∧ s.seq.preempt = some .soft ∧
    (unitOf t 0).map (fun u => decide (u.phase = .placed ∧ u.bay ≠ t.seq.bayId.toNat ∧ u.asked = some .soft ∧
      (launchOf t u.launch).map (·.kind) = some 1)) = some true := by decide +kernel

/-- A host queue of the region, bound to a slot-table entry. -/
def hostQueue : Queue := { aQueue with region := 7, device := false }
def ringing (q : Queue) (s : State) : State := onDisp (fun d => { d with queues := [q], slotTable := [(0, 0x8100001009)] }) s

theorem witness_tail_write : let s := onDisp (fun d => { d with slotTable := [] }) (ringing hostQueue region)
    queueOf s (BitVec.ofNat 12 9) = some hostQueue ∧ hostQueue.valid = true ∧ hostQueue.device = false ∧
    functionOwns s 0 hostQueue.region = true ∧ hostQueue.tail.toNat ≤ natOfBytes (bytesOfNat 8 16) ∧
    natOfBytes (bytesOfNat 8 16) ≤ hostQueue.head.toNat + 2 ^ hostQueue.log2n ∧
    ¬ natOfBytes (bytesOfNat 8 17) ≤ hostQueue.head.toNat + 2 ^ hostQueue.log2n ∧
    natOfBytes (bytesOfNat 8 0) = hostQueue.tail.toNat ∧ isBound s.disp 9 = false := by decide +kernel

/-- An entry for a queue of the region; and the queue held by a region of another partition. -/
theorem witness_queue_entry :
    let b := bytesOfNat 8 0x100000000 ++ zeroBytes 24 ++ bytesOfNat 4 7 ++ [4, 23, 1] ++ zeroBytes 25
    let s := onFw (fun f => { f with nodes := f.nodes ++ [{ aNode with handle := 8, part := 1 }] }) (ringing { hostQueue with region := 8 } region)
    (parseQueue region 9 b).isSome = true ∧ parseQueue base 9 b = none ∧ region.disp.queues = [] ∧
    sharesPart s 8 7 = false ∧ s.disp.queues = [{ hostQueue with region := 8 }] ∧ isBreaking s 8 = false ∧
    isBreaking (onDisp (fun d => { d with breaking := [(8, [])] }) s) 8 = true := by decide +kernel

/-- A mirror in extent space, and one in host space, whose page the bay's TLB translates for the context's PASID. -/
theorem witness_head_mirror : let q := { hostQueue with due := true }
    let c := { aNode with addr := 0x100, kind := 1, handle := 6, pasid := 3 }
    let s := onHost (fun h => { h with tlb := [{ pasid := 3, base := 0, size := 4096, phys := 0, write := true }] })
      (onFw (fun f => { f with nodes := [aNode, c] }) region)
    q.due = true ∧ q.mirrored = none ∧ hostQueue.due = false ∧ rowOf 0x100000000 = some (.extent, 0x10000000000) ∧
    rowOf 0x8000000000000000 = some (.host, 0x8200000000000000) ∧ nodeOf s.fw 7 = some aNode ∧ contextOf s.fw aNode = some c ∧
    hostReady (onSeq (fun x => { x with pasid := c.pasid }) s) 0x8000000000000000 8 = true := by decide +kernel

/-- A record with each of the four fates: bad, too large, of no units, and of one unit. -/
def aRecord (handle units : Nat) : List Byte := zeroBytes 8 ++ bytesOfNat 4 handle ++ bytesOfNat 4 units ++ zeroBytes 48

theorem witness_record_fates : let q := { hostQueue with tail := 1 }
    let s := ringing q region
    let judged := fun (h n : Nat) => (judgeRecord s q (aRecord h n)).1
    queueOf s 9 = some q ∧ q.valid = true ∧ isBound s.disp 9 = true ∧ isBreaking s q.region = false ∧ q.head.toNat < q.tail.toNat ∧ s.disp.launches = [] ∧
    judged 0 1 = true ∧ judged 7 (2 ^ 24 + 1) = false ∧ judged 7 0 = false ∧ judged 7 (2 ^ 24) = false := by decide +kernel

theorem witness_launch_events : let s := launched aLaunch region
    let m := (withSpad 0x3000 (zeroBytes 8 ++ [1]) region).mem
    launchOf s 40 = some aLaunch ∧ syncPlaced aLaunch.dsync.toNat = true ∧ syncReached m 0x3000 1 = true ∧
    syncReached region.mem 0x3000 1 = false ∧ m.badByte 0x3000 16 = none ∧ isBreaking s aLaunch.region = false ∧
    (onMem (fun m => { m with damaged := [0x3008 / 8] }) s).mem.badByte 0x3000 16 ≠ none ∧ aLaunch.ndone + aLaunch.ended ≠ aLaunch.units ∧
    ({ aLaunch with phase := .started, ndone := 1 } : Launch).ndone + aLaunch.ended = aLaunch.units ∧ aLaunch.csync = 0 := by
  decide +kernel

/-- A unit of the launch that stands on another bay. -/
theorem witness_other_bay : let s := launched aLaunch (onDisp (fun d => { d with units := d.units.map (fun u =>
      { u with bay := 1, launch := 40 }) }) region)
    (unitOf s 0).map (fun u => decide (u.launch = aLaunch.key ∧ u.phase = .placed ∧ u.bay ≠ s.seq.bayId.toNat)) = some true ∧
    aLaunch.phase ≠ .timed := by decide +kernel

/-- A timed launch at its start without its unit placed, in its last attempt but one, and with BMIN 0. -/
theorem witness_timed_start : let l := { aLaunch with phase := .timed, tt := true, skip := 14 }
    let s := launched l region
    l.gang = 0 ∧ l.tstart.toNat ≤ s.clock.time.toNat ∧ placedBy s l 0 = false ∧ l.skip + 1 ≠ 16 ∧
    placedBy s { l with bmin := 0 } 0 = true ∧ ({ s.clock with lock := true } : Clock).lock = true := by decide +kernel

/-- A gang start of this chip alone. -/
def aGroup : StartGroup := { id := 3, delta := 0, members := [0], tx := 4, rx := 0 }
def aWindow : TxWindow :=
  { id := 4, region := 7, base := 0x10000000000, len := 0x1000, allow := 0, vc := 0, loop := 0, ops := 0, rooted := false,
    targets := [(0, 5)] }

theorem witness_ready_word : let l := { aLaunch with phase := .timed, gang := 3, bmin := 0 }
    let s := { launched l region with
      fw := { region.fw with startGroups := [aGroup] }, refl := { region.refl with tx := [aWindow] } }
    s.fw.startGroups.find? (fun x => x.id == l.gang) = some aGroup ∧ l.gang ≠ 0 ∧ l.stamps = [] ∧
    s.clock.time.toNat = l.tstart.toNat - aGroup.delta ∧ placedBy s l s.clock.time.toNat = true ∧
    s.refl.tx.find? (fun x => x.id == aGroup.tx) = some aWindow ∧ aWindow.loop = 0 ∧
    (List.range aGroup.members.length).find? (fun j => aGroup.members.getD j 0 == s.seq.chipId) = some 0 := by decide +kernel

/-- The bay, empty, with a launch ready for it; and the bay beside it. -/
def idle : State := onDisp (fun d => { d with units := [] }) (onSeq (fun q => { q with unit := none }) (launched aLaunch region))

theorem witness_placement : let s := ageWaiting none (noteReady idle)
    bestCandidate s (candidatesFor s 1) = some (.fresh aLaunch) ∧ bayFree s 1 = true ∧ canPlace s (.fresh aLaunch) = true ∧
    aLaunch.kind ≠ 2 ∧ aLaunch.pipes = [] ∧ freeSlot s 7 = some 0 ∧ 1 ≠ s.seq.bayId.toNat ∧ s.disp.units = [] ∧
    (placeCandidate (.fresh aLaunch) 1 s).isSome = true ∧
    bestCandidate base (candidatesFor base 0) = none := by decide +kernel

/-- The one bay of the region taken by its unit of lower priority: room is made. -/
theorem witness_room : let l := { aLaunch with prio := 3 }
    let s := onFw (fun f => { f with nodes := [{ aNode with bays := 1 }] }) (onDisp (fun d => { d with launches := [l] }) region)
    bestCandidate s (candidatesFor s 0) = some (.fresh l) ∧ placeCandidate (.fresh l) 0 s = none ∧
    (makeRoom (.fresh l) [] s).isSome = true := by decide +kernel

theorem witness_grace : let s := onSeq (fun q => { q with preempt := some .soft }) region
    let t := fun p => onDisp (fun d => { d with
      units := d.units.map (fun u => { u with key := 5, bay := 1, asked := some p }), elsewhere := [some 5] }) region
    (t .hard).disp.elsewhere = [some 5] ∧ s.disp.elsewhere = [] ∧ base.disp.elsewhere = [] ∧
    (unitOf (t .hard) 5).map (fun u => (u.phase, u.asked, u.bay)) = some (.placed, some .hard, 1) ∧
    (t .hard).seq.bayId = 0 ∧ (placedUnit s).map (·.phase) = some .placed ∧ s.seq.preempt = some .soft ∧ placedUnit base = none ∧
    (unitOf (t .soft) 5).map (fun u => (u.phase, u.asked)) = some (.placed, some .soft) ∧ (t .soft).seq.unit ≠ some 5 := by
  decide +kernel

theorem witness_gang : let l := { aLaunch with kind := 2, members := [0, 64] }
    let s := onDisp (fun d => { d with launches := [l] }) idle
    launchOf s 40 = some l ∧ launchReady s l = true ∧ [1, 2].length = l.members.length ∧ [1, 2].Nodup ∧
    (∀ x ∈ [1, 2], bayFree s x = true ∧ admitsBay s l.region l.queue x = true) ∧ canPlace s (.fresh l) = true ∧
    (∀ x ∈ [1, 2], ∀ y ∈ candidatesFor s x, goesBefore s y (.fresh l) = false) ∧ s.disp.units = [] ∧
    s.seq.bayId.toNat ∉ [1, 2] := by decide +kernel

/-! ### Witnesses: budgets, firmware and the host -/

theorem witness_budget_loads : (0x700000007 : W64).setWidth 32 ≠ (0 : W32) ∧ nodeOf region.fw ((0x700000007 : W64).setWidth 32) = some aNode ∧
    (slotsOf region.fw false).toList[(63 : BitVec 6).toNat]? = some CounterSlot.free ∧ CounterSlot.free.handle = 0 ∧
    (132 : Byte) ≠ 131 ∧ region.fw.periodWest ≠ 0 ∧ ({ region.fw with periodWest := 0 } : Firmware).periodWest = 0 := by
  decide +kernel

/-- A slot that holds a region of another partition. -/
theorem witness_other_partition : let s := onFw (fun f => { f with nodes := f.nodes ++ [{ aNode with handle := 8, part := 1 }] }) region
    ((slotsOf s.fw false).toList[0]?.map (·.handle)) = some 7 ∧ (7 : W32) ≠ 0 ∧ (8 : W32) ≠ 0 ∧ sharesPart s 7 8 = false := by
  decide +kernel

/-- The image of a partition node, which needs no parent, and the same without a handle. -/
def nodeImage (handle : Nat) : List Byte :=
  [0, 1] ++ zeroBytes 2 ++ [23] ++ zeroBytes 11 ++ bytesOfNat 4 handle ++ zeroBytes 44 ++ bytesOfNat 20 1 ++ zeroBytes 172

theorem witness_node_install : rcbFieldsOk 0x300 (nodeImage 8) = true ∧ rcbTreeOk base.fw (parseRcb 0x300 (nodeImage 8)) = true ∧
    saveSlotsOk base (parseRcb 0x300 (nodeImage 8)) = true ∧ rcbFieldsOk 0x300 (nodeImage 0) = false ∧
    sharedTableOk base (parseRcb 0x300 (nodeImage 8)) = true ∧ isBreaking base 8 = false ∧
    isBreaking (onDisp (fun d => { d with breaking := [(8, [])] }) base) (parseRcb 0x300 (nodeImage 8)).handle = true := by
  decide +kernel

/-- A context node, and a table of one extent for it; a table of the wrong length. -/
def contextNode : Rcb := { aNode with addr := 0x400, kind := 1, handle := 8, xtab := 0x1000 }
def tableImage : List Byte := placedTable ++ zeroBytes 2016

theorem witness_table_install : let s := onFw (fun f => { f with nodes := [contextNode] }) base
    let es := tableAt (cellsOf 0x1000 tableImage) 0x1000
    s.fw.nodes.filter (fun c => c.kind == 1 && c.xtab == 0x1000) = [contextNode] ∧ tableImage.length = 2048 ∧
    physFieldsOk tableImage = true ∧ tableOk es = true ∧ bitmapsOwned s 0x1000 es = true ∧
    tableTrespasses s contextNode.addr contextNode.part es = false ∧ s.seq.unit = none ∧ placedTable.length ≠ 2048 ∧
    s.fw.nodes.filter (fun c => c.kind == 1 && c.xtab == 0x2000) = [] ∧ (∃ e ∈ es, e.isValid = true) ∧
    (∀ e ∈ tableAt (cellsOf 0x1000 (zeroBytes 2048)) 0x1000, e.isValid = false) ∧
    contextNode.part ≠ ({ contextNode with part := 1 } : Rcb).part := by decide +kernel

/-- Router 21, slot 255, of nobody and then of the region, its west output fed from the north; and fed from itself. -/
theorem witness_slot_fragment : let s := after (exec (.slotFragmentInstall 7 0 true
      (bytesOfNat 8 (21 + 256 * 255 + 65536)) (bytesOfNat 4 0)) region)
    (21 : Nat) < 160 ∧ slotIndex region.fw (eastBay 21) 7 = some (0 : BitVec 6).toNat ∧ nodeOf region.fw 7 = some aNode ∧
    (meshEntry region.fw 21 255).getLsbD 31 = false ∧ ownedEntries region.fw 21 0 + 1 ≤ effSlotn region.fw aNode ∧
    entryOwner (meshEntry s.fw 21 255) = some 0 ∧ slotIndex s.fw (eastBay 21) 7 = some 0 ∧ (0x200 : W32).toNat < 2 ^ 15 ∧
    connectionsOk 21 0x200 = true ∧ connectionsOk 21 0x800 = false := by decide +kernel

theorem witness_mesh : let p : MeshPacket := { router := 0, port := 4, dest := 159, cslot := 0, die := false, waiting := false }
    let s := onFw (fun f => { f with packets := [p] }) base
    s.fw.packets = [p] ∧ p.port < 5 ∧ (meshEntry s.fw p.router (s.fw.meshCycle % 256)).getLsbD 31 = false ∧
    base.fw.packets = [] := by decide +kernel

/-- A word of the mailbox at the end of scratchpad, its granule OPEN, and not. -/
theorem witness_mailbox : let a := (base.host.apbase.toList.getD 0 0).toNat + 0x13FFFFF8
    let data := bytesOfNat 8 5
    data ≠ [] ∧ 0x13FFFFF8 + data.length ≤ 2 ^ 32 ∧ base.fw.inputs = [] ∧ a + data.length ≤ 0x14000000 ∧
    (∀ g ∈ granulesOf a data.length, ownerOf base.mem g = none) ∧
    (∀ b ∈ List.range 160, functionHasBay base 0 b = true) ∧ mailboxRegions base 0 a data.length = [] ∧
    contextFor base 0 a data.length = none ∧ (mailboxApply 0 none a data base).isSome = true ∧
    (ownerOf (setOwner base.mem (a / 64) (some .pub)) (a / 64) ≠ none) ∧
    (mailboxApply 0 none 0x14000000 data base).isNone = true ∧ 2 ^ 32 < 0xFFFFFFFF + data.length := by decide +kernel

/-- A mailbox write to the slice of a bay whose unit's region replays. -/
theorem witness_replayed_mailbox : let s := onFw (fun f => { f with nodes := [{ aNode with flags := 8 }] }) region
    mailboxRegions s 0 0x100 8 = [7] ∧ regionReplays s 7 = true := by decide +kernel

theorem witness_failed_boot : (onFw (fun f => { f with boot := .failed 2 }) base).fw.boot = .failed 2 := rfl

theorem witness_no_replay : ∀ h, regionReplays base h = false := fun _ => rfl

theorem witness_self_tests : let s := onFw (fun f => { f with spareRow := [(159, 63)], sparePol := 2 }) idle
    bayIdle idle 159 = true ∧ bayIdle region 0 = false ∧ (159 : Byte).toNat < 160 ∧ bayIdle s 159 = true ∧
    (159, 63) ∈ s.fw.spareRow ∧ s.fw.sparePol = 2 ∧ (errmapWord s.fw 159 132).getLsbD 14 = false ∧
    (errmapWord s.fw 159 132).getLsbD 6 = false ∧ idle.fw.sparePol = 0 := by decide +kernel

/-- A flash image whose configuration record enables the 80 first bays of each die, and one that enables too few. -/
def flash : FlashImage :=
  { firmware := [1], firmwareSig := [2], config := [3], configSig := [4], bays := List.range 80 ++ (List.range 80).map (84 + ·),
    rowmaps := [], pufReading := [], helper := [], certificate := [], hbmTrains := true, repair := [], chips := [0], components := [], clockDomain := 0,
    clockId := ClockId.unset }
theorem witness_bring_up : base.fw.boot = .off ∧ baysOk flash.bays = true ∧ baysOk [0] = false ∧ flash.hbmTrains = true ∧
    ({ flash with hbmTrains := false } : FlashImage).hbmTrains = false ∧
    (onFw (fun f => { f with boot := .up }) base).fw.boot = .up := by decide +kernel

theorem witness_throttle : 105 < 106 ∧ 250 < base.fw.mhzWest ∧ 95 ≤ 105 ∧ 94 < 95 := by decide +kernel

/-- A logged mailbox write that is next in order, in a region that replays. -/
def anEntry : InputEntry :=
  { type := 1, unit := 0, key := 0, seq := 0, value := 0x100, payload := zeroBytes 4 ++ [1, 0, 0, 0] ++ [5] }
def aLog : InputLog :=
  { region := 7, base := 0x5000, size := 0x1000, used := anEntry.bytes.length, order := 0, full := false, diverged := false }
theorem witness_replay : let c := { aNode with addr := 0x100, kind := 1, handle := 6 }
    let s := onFw (fun f => { f with inputs := [aLog], nodes := [{ aNode with flags := 8 }, c] })
      (onMem (fun m => { m with hbm := memWrite m.hbm 0x5000 anEntry.bytes }) base)
    s.fw.inputs.find? (fun x => x.region == aLog.region) = some aLog ∧ nextWrite s.mem aLog = some anEntry ∧
    regionReplays s 7 = true ∧ regionReplays region 7 = false ∧
    nodeOf s.fw 7 = some { aNode with flags := 8 } ∧ contextOf s.fw { aNode with flags := 8 } = some c ∧
    (mailboxApply (aNode.part + 1) (some c) 0x14000000 [5] s).isNone = true ∧
    (mailboxApply 0 (some c) 0x100 [5] s).isSome = true := by decide +kernel

/-! ### Witnesses: reflection, time, residency and host translation -/

/-- A write of 8 bytes from chip 1 on channel 2, the next of its path. -/
def arrival (n : W32) : Arrival := { src := 1, vc := 2, seq := n, rxid := 6, off := 0, data := bytesOfNat 8 5, atom := none }

/-- A receive window of 64 bytes at 0x6000 that admits chip 1, its status block at 0x7000 and its sync word at 0x7100. -/
def rxImage : List Byte :=
  bytesOfNat 8 0x6000 ++ bytesOfNat 4 64 ++ zeroBytes 4 ++ bytesOfNat 8 0x7100 ++ bytesOfNat 8 0x7000 ++ zeroBytes 2 ++
    bytesOfNat 2 1 ++ zeroBytes 4 ++ bytesOfNat 2 1 ++ zeroBytes 86
def receiving : State := onRefl (fun r => { r with rx := ((parseRx 6 0 (fun _ => 0) rxImage).toList) }) base

theorem witness_arrivals : (recvPath base.refl 1 2).dead = false ∧ (arrival 0).seq = (recvPath base.refl 1 2).next ∧
    (recvPath base.refl 1 2).waiting = [] ∧ rxById base.refl 6 = none ∧
    2 ^ 31 ≤ ((arrival 0x80000000).seq - (recvPath base.refl 1 2).next).toNat := by decide +kernel

/-- A window of 64 bytes at 0x6000 that admits chips 1 and 2, with a hold area of 64 bytes and a sync word of a given TARGET. -/
def rxWindow : RxWindow :=
  { id := 6, region := 0, back := 0x6000, len := 64, sync := 0x7100, stat := 0x7000, redOp := 0, redType := 3, free := true, dln := false,
    ckt := 0, mask := 3, fwd := none, senders := [1, 2], hold := 0x8000, hlen := 64, dper := 10, dbase := 0, engine := false, counts := [],
    held := [], arrived := [], unpublished := [] }
def windowAt (x : RxWindow) (target : Nat) : State := onRefl (fun r => { r with rx := [x] }) (withSpad 0x7100 (bytesOfNat 4 target) base)

theorem witness_window_write : let s := windowAt rxWindow 16
    let w := arrival 0
    (recvPath s.refl w.src w.vc).dead = false ∧ w.seq = (recvPath s.refl w.src w.vc).next ∧ (recvPath s.refl w.src w.vc).waiting = [] ∧
    rxById s.refl w.rxid = some rxWindow ∧ s.fw.inputs = [] ∧ replayRefuses w s = false ∧ anyDamaged s.mem (readsOf rxWindow w) = false ∧
    rxWindow.senders.length ≤ 16 ∧ rxWindow.stat.toNat + 144 ≤ rxWindow.sync.toNat ∧ senderSlot rxWindow w.src = some 0 ∧
    0x6000 + w.data.length ≤ 0x14000000 ∧ 0x6000 + w.data.length ≤ rxWindow.stat.toNat ∧ syncTarget s.mem 0x7100 ≠ 0 ∧ s.refl.tx = [] ∧
    0 + w.data.length ≤ rxWindow.len.toNat ∧ raceOf s.mem (reflectAgent 0x6000) true 0x6000 8 = none ∧ w.data.length = 8 := by
  decide +kernel

/-- What is refused: a chip that no slot names, a write past the end, one off its elements, a TARGET that two senders do not divide, and a
granule of another agent. -/
theorem witness_refusals : senderSlot rxWindow 3 = none ∧ rxWindow.len.toNat < 60 + (arrival 0).data.length ∧ 2 % redBytes 3 ≠ 0 ∧
    senderCount rxWindow = 2 ∧ syncTarget (windowAt rxWindow 15).mem 0x7100 % 2 ≠ 0 ∧
    raceOf (setOwner base.mem (0x6000 / 64) (some (.excl 1))) (reflectAgent 0x6000) true 0x6000 8 ≠ none := by decide +kernel

/-- A root, whose writes go on through window 4 to chip 1; and a deadline that has passed, and not. -/
theorem witness_root :
    let s := onRefl (fun r => { r with tx := [{ aWindow with region := 0, targets := [(1, 5)] }] })
      (windowAt { rxWindow with fwd := some 4 } 16)
    s.refl.tx.find? (fun q => q.id == 4 && q.region == 0) = some { aWindow with region := 0, targets := [(1, 5)] } ∧
    (∀ g ∈ s.refl.tx, g.loop = 0) ∧ (sendPath s.refl 1 0).dead = false ∧
    (0 + (0 + 1) * rxWindow.dper.toNat < (later 11 base).clock.time.toNat) ∧
    ¬ (0 + (0 + 1) * rxWindow.dper.toNat < (later 10 base).clock.time.toNat) := by decide +kernel

/-- Ordered windows: the turn is slot 0's, and what slot 1 sends fits into the hold area, or not. -/
theorem witness_turns : let x := { rxWindow with redOp := 1, free := false }
    reduces x.redOp x.redType ∧ reduces 1 2 ∧ reduces 3 1 ∧ 0 % redBytes x.redType = 0 ∧ 8 % redBytes x.redType = 0 ∧
    16 % senderCount x = 0 ∧ turnOf x (16 / senderCount x) = some 0 ∧ senderSlot x 2 = some 1 ∧ (progressOf x 1).arrived = (progressOf x 1).combined ∧
    8 ≤ 16 / senderCount x - (progressOf x 1).arrived % (16 / senderCount x) ∧ 8 ≤ holdRoom x ∧ holdRoom { x with hlen := 7 } < 8 ∧
    (windowAt x 16).mem.badByte 0x6000 8 = none := by unfold reduces; decide +kernel

/-- A window of checked tiles: a part of a tile, and whole tiles that verify and that do not. -/
theorem witness_tile_parts : let x := { rxWindow with ckt := 2, len := 17152 }
    (∀ r ∈ addRun 0 8 x.arrived, tileIn x r = none) ∧ tileBytes 2 = 17152 ∧ (List.replicate 17152 (0 : Byte)).length = tileBytes 2 ∧
    x.back.toNat % 256 = 0 ∧ (windowAt x 32768).mem.badByte 0x6000 17152 = none := by
  refine ⟨by decide +kernel, by decide, by rw [List.length_replicate]; decide, by decide, by decide +kernel⟩

/-- A path to chip 1 with one write unacknowledged, sent at TIME 0. -/
def aPosted : Posted :=
  { serial := 0, window := 4, rxid := 6, seq := 3, off := 0, data := [], atom := none, agent := 0, sends := 1, sentAt := 0 }
def sending : State := onRefl (fun r => { r with send :=
  [{ dst := 1, vc := 2, next := 4, unacked := [aPosted], dead := false, lost := 0, lostBy := [] }] }) base

theorem witness_paths : knownPath base.refl 1 2 = false ∧ knownPath sending.refl 1 2 = true ∧
    (sendPath sending.refl 1 2).unacked = [aPosted] ∧ (sendPath sending.refl 1 2).dead = false ∧ sending.refl.planes ≠ 0 ∧
    aPosted.sentAt.toNat + 4000 ≤ (later 4000 sending).clock.time.toNat ∧
    ¬ aPosted.sentAt.toNat + 4000 ≤ (later 3999 sending).clock.time.toNat ∧ (sendPath base.refl 1 2).unacked = [] := by
  decide +kernel

/-- The last plane of two, the only plane, and one that is down. -/
theorem witness_planes : (0x81 : Byte).getLsbD 7 = true ∧ (0x81 : Byte) &&& ~~~((1 : Byte) <<< 7) ≠ 0 ∧
    (0x80 : Byte) &&& ~~~((1 : Byte) <<< 7) = 0 ∧ (0x80 : Byte).getLsbD 0 = false := by decide

/-- With the only plane lost, a path, a transmit window, a receive window and a call that name another chip. -/
theorem witness_last_plane : let s := onRefl (fun r => { r with planes := 1, tx := [{ aWindow with targets := [(1, 6)] }] }) sending
    s.refl.planes.getLsbD 0 = true ∧ s.refl.planes &&& ~~~((1 : Byte) <<< 0) = 0 ∧ s.refl.send.map (·.dst) = [1] ∧
    (1 : BitVec 12) ≠ s.seq.chipId ∧ s.refl.tx.map (·.targets) = [[(1, 6)]] ∧
    receiving.refl.rx.map (fun x => (x.mask.getLsbD 0, x.senders[0]?)) = [(true, some 1)] ∧ aCall.chips[1]? = some 1 ∧
    1 < aCall.g ∧ 1 ≠ aCall.rank := by decide +kernel

theorem witness_receiver_death : receiving.refl.rx.map (fun x => (senderSlot x 1, senderSlot x 2)) = [(some 0, none)] := by
  decide +kernel

theorem witness_path_resets : base.refl.planes ≠ 0 ∧ (onRefl (fun r => { r with planes := 0 }) base).refl.planes = 0 ∧
    (1 : BitVec 12) ≠ base.seq.chipId := by decide

theorem witness_path_death_in_a_call : (inCall aCall).coll.calls = [aCall] ∧ aCall.ending = none ∧
    (List.range aCall.g).find? (fun r => r != aCall.rank && aCall.chips.getD r 0 == 1) = some 1 := by decide +kernel

theorem witness_window_installs : let tx := { aWindow with id := 5, region := 0 }
    let s := onRefl (fun r => { r with tx := [tx] }) domained
    let theirs := onFw (fun f => { f with nodes := [aNode, { aNode with handle := 8, part := 1 }] }) domained
    (parseTx domained.refl.domain 4 0 txBytes).map (fun w => (w.base, w.len)) = some (0x10000000000, 0x1000) ∧
    (parseTx domained.refl.domain 4 0 []).isSome = false ∧ (parseTx [1] 4 0 txBytes).isSome = false ∧ base.refl.tx = [] ∧
    domained.refl.planes ≠ 0 ∧ rangesMeet tx.base.toNat tx.len.toNat 0x10000000000 0x1000 = true ∧
    sharesPart theirs 8 7 = false ∧
    ((parseRx 6 0 (syncTarget base.mem) rxImage).map (backOk base)) = some true ∧ base.refl.rx = [] ∧
    ((parseRx 6 0 (syncTarget base.mem) (bytesOfNat 8 0x14000000 ++ rxImage.drop 8)).map (backOk base)) = some false ∧
    (parseRx 6 0 (syncTarget base.mem) []).isSome = false ∧ s.refl.tx = [tx] := by decide +kernel

/-- A gang-start group of this chip alone, whose windows are the region's; and the same without its windows. -/
theorem witness_start_group : let s := onRefl (fun r => { r with
      tx := [aWindow], rx := ((parseRx 0 7 (fun _ => 0) rxImage).toList) }) domained
    s.seq.chipId ∈ aGroup.members ∧ (∀ c ∈ aGroup.members, c ∈ s.refl.domain) ∧
    (∃ w ∈ s.refl.tx, w.id = aGroup.tx ∧ w.region = 7) ∧ (∃ w ∈ s.refl.rx, w.id = aGroup.rx ∧ w.region = 7) ∧
    ¬ (∃ w ∈ base.refl.tx, w.id = aGroup.tx ∧ w.region = 7) := by decide +kernel

/-- A Sync of a better clock in the clock's domain, and one of another domain. -/
theorem witness_sync : let m : ClockId := { ClockId.unset with priority1 := 0, clockClass := 6 }
    betterClock m base.clock.own = true ∧ base.clock.domain = 0 ∧ base.clock.parent = none ∧ betterClock base.clock.own m = false := by
  decide +kernel

theorem witness_time_messages : let c := { base.clock with
      sync := some (5, 100), delayReq := some (5, 1), delayResp := some (5, 2, 9) }
    c.sync = some (5, 100) ∧ c.delayReq = some (5, 1) ∧ c.delayResp = some (5, 2, 9) ∧ base.clock.sync ≠ some (5, 100) ∧
    base.clock.delayReq ≠ some (5, 1) := by decide +kernel

/-- A page of the placed extent, asked for and pending. -/
def aPage : PageEvent := { page := 0x100000000, region := 7, pasid := 0, part := 0 }
def asked : State := onHost (fun h => { h with pagesWest := [aPage], eventRing := [(0, aPage.bytes)] }) region
def partlyResident (s : State) : State := onMem (fun m => { m with hbm := memWrite m.hbm 24 (bytesOfNat 8 0x30000F) }) s

theorem witness_residency : pendingPage asked 1 aPage.page = some aPage ∧ pendingPage asked 2 aPage.page = none ∧ pendingPage region 0 aPage.page = none ∧
    (coverOf asked.mem { agent := 0x1FF, xtbl := regionXtbl asked 7, sup := true } aPage.page.toNat).isSome = true ∧
    contextPlaced region 7 = true ∧ contextPlaced idle 7 = false ∧
    ((coverOf (partlyResident idle).mem { agent := 0x1FF, xtbl := regionXtbl (partlyResident idle) 7, sup := true }
      aPage.page.toNat).map (fun e => e.attr.getLsbD 5)) = some false := by decide +kernel

/-- A translation request on its way, and the smallest and largest sizes of an answer. -/
theorem witness_translation : let r : AtsRequest := { pasid := 1, va := 0x8000000000001000, phase := .ats, since := 0 }
    requestIn 1 0x8000000000001FFF [.ats, .atsAgain] r = true ∧ requestIn 1 0x8000000000002000 [.ats, .atsAgain] r = false ∧
    atsSizeOk 4096 = true ∧ atsSizeOk (2 ^ 30) = true := by decide +kernel

/-- A page request of 10 ms ago, and one of 1 ns less. -/
theorem witness_page_request : let r : AtsRequest := { pasid := 1, va := 0x8000000000001000, phase := .pri, since := 5 }
    requestIn 1 0x8000000000001FFF [.pri] r = true ∧ 10000000 ≤ ((later 10000005 base).clock.time - r.since).toNat ∧
    ¬ 10000000 ≤ ((later 10000004 base).clock.time - r.since).toNat := by decide +kernel

/-! ### Single steps, with results worked out from the rules named -/

/-- What is in flight for scalars and predicates, and what pends for scalars, after a word acts. -/
def sent (r : Host.Outcome State Fault Refusal) : List (Reg5 × Nat) := (after r).seq.ifq.map (fun e => (e.reg, e.value.toNat))
def pends (r : Host.Outcome State Fault Refusal) : List (Reg5 × W64) := ((after r).seq.sb.map (·.sregs)).flatten
def lane0 (r : Host.Outcome State Fault Refusal) : List W32 := (after r).seq.ifq.map (fun e => lane e.value 0)
def s12 (x y : W64) : State := withS 1 x (withS 2 y base)
def v12 (f : BitVec 4) (x y : BitVec 2048) : State := withV 1 f x (withV 2 f y base)

/-- R103. -/
theorem test_div_by_zero : pends (exec (.div h0 3 1 2) (s12 5 0)) = [(3, BitVec.allOnes 64)] ∧
    pends (exec (.rem h0 3 1 2) (s12 5 0)) = [(3, 5)] := by decide +kernel
theorem test_div_truncates : pends (exec (.div h0 3 1 2) (s12 (-7) 2)) = [(3, -3)] ∧
    pends (exec (.rem h0 3 1 2) (s12 (-7) 2)) = [(3, -1)] := by decide +kernel
/-- R101, R102. -/
theorem test_mulhu : sent (exec (.mulhu h0 3 1 2) (s12 (-1) (-1))) = [(3, 0xFFFFFFFFFFFFFFFE)] := by decide +kernel
theorem test_mulh : sent (exec (.mulh h0 3 1 2) (s12 (-1) 2)) = [(3, 0xFFFFFFFFFFFFFFFF)] := by decide +kernel
theorem test_shift_count : sent (exec (.sra h0 3 1 2) (s12 0x8000000000000000 127)) = [(3, 0xFFFFFFFFFFFFFFFF)] := by decide +kernel
theorem test_clz : pends (exec (.clz h0 3 1) (s12 1 0)) = [(3, 63)] := by decide +kernel
theorem test_bswap : pends (exec (.bswap h0 3 1) (s12 0x0102030405060708 0)) = [(3, 0x0807060504030201)] := by decide +kernel
/-- R106. -/
theorem test_li_lsh : sent (exec (.li h0 3 0x2000) base) = [(3, 0xFFFFFFFFFFFFE000)] ∧
    sent (exec (.lsh h0 1 0x3FFF) (s12 1 0)) = [(1, 0x7FFF)] := by decide +kernel
/-- R107. -/
theorem test_cmp_ltu : sent (exec (.cmpLtu h0 3 1 2) (s12 1 (-1))) = [(3, 0xFFFFFFFFFFFFFFFF)] ∧
    sent (exec (.cmpLt h0 3 1 2) (s12 1 (-1))) = [(3, 0)] := by decide +kernel
/-- R80, R110: three packets back; and a link to the next packet, which has landed at the end of the step. -/
theorem test_branch : (after (step (placed 0b0_0_0000_0_001110_1111111111111111101))).seq.pc = placedPc - 3 := by decide +kernel
theorem test_call : let t := after (step (placed 0b0_0_0000_0_001111_0000000000000000101))
    t.seq.pc = placedPc + 5 ∧ readS t 31 = placedPc.setWidth 64 + 1 := by decide +kernel
/-- R115, R116. -/
theorem test_loopi : (after (step (placed 0b0_0_0000_0_010010_0000000011_000000010))).seq.loops =
    [{ start := placedPc + 1, stop := placedPc + 2, remain := 3, index := 0 }] := by decide +kernel
/-- R81. -/
theorem test_guard : readS (after (step (placed 0b0_1_0001_0_001000_00011_00000000010010))) 3 = 0 ∧
    readS (after (step (placed 0b0_1_0001_1_001000_00011_00000000010010))) 3 = 18 := by decide +kernel
/-- R287 to R289, R319: a software trap with code 7, and R92: a bit of `exit` that must be zero. -/
theorem test_software_trap : let t := after (step (onSeq (fun q => { q with evec := 9 }) (placed 0b0_0_0000_0_000000_00000_00011_000000111)))
    t.seq.supervisor = true ∧ t.seq.masked = true ∧ t.seq.pc = 9 ∧ t.seq.epc = placedPc ∧ t.seq.ecause = 15 * 64 + 7 := by
  decide +kernel
theorem test_illegal_word : let t := after (step (placed 0x00000401))
    t.seq.ecause = 0x0A ∧ t.seq.einfo = 0x0000040100000000 ∧ t.seq.eaddr = 12 * placedPc.setWidth 64 := by decide +kernel
/-- R290. -/
theorem test_privilege : (after (step (placed 0b0_0_0000_0_000000_00000_00100_000000000))).seq.ecause = 64 + 4 := by decide +kernel
/-- R138, R140, R208. -/
theorem test_load_sign : readS (after (exec (.ld8 h0 3 1 0) (withSpad 0x100 [0x80] (s12 0x100 0)))) 3 = -128 := by decide +kernel
theorem test_store : let t := after (exec (.st32 h0 2 1 1) (s12 0x100 0x11223344AABBCCDD))
    memRead t.mem.spad 0x102 8 = [0, 0, 0xDD, 0xCC, 0xBB, 0xAA, 0, 0] ∧ ownerOf t.mem 4 = some (.excl 0) := by decide +kernel
theorem test_misaligned : ((after (exec (.ld64 h0 3 1 0) (s12 0x104 0))).seq.group.trap).map (fun x => (x.2.cls, x.2.detail, x.2.eaddr)) =
    some (5, 0x02, 0x104) := by decide +kernel
/-- R145. -/
theorem test_full_empty : let t := after (exec (.stf h0 2 1 0) (s12 0x100 5))
    isFull t.mem 0x20 = true ∧ readS (after (exec (.lde h0 3 1 0) t)) 3 = 5 ∧
    isFull (after (exec (.lde h0 3 1 0) t)).mem 0x20 = false := by decide +kernel
/-- R147. -/
theorem test_cas : let t := after (exec (.atom32Cas h0 3 1 2) (withS 3 7 (withSpad 0x100 [7] (s12 0x100 9))))
    memRead t.mem.spad 0x100 4 = [9, 0, 0, 0] ∧ t.seq.sb.map (·.sregs) = [[(3, 7)]] := by decide +kernel
/-- R150: 100 iterations left, a divisor of 8 and a least chunk of 4: 13. -/
theorem test_faddg : let t := after (exec (.faddg h0 3 1 2) (withSpad 0x100 (bytesOfNat 8 20 ++ bytesOfNat 8 120) (s12 0x100 0x80004)))
    t.seq.sb.map (·.sregs) = [[(3, 13 * 2 ^ 40 + 20)]] ∧ memRead t.mem.spad 0x100 1 = [33] := by decide +kernel
/-- R124 to R126, R30: 1 + 2^-24 ties to even, 1 + 3 x 2^-24 does not; and one rounding of 1 + 2^-23 squared, less 1. -/
theorem test_vector_add : lane0 (exec (.valuAdd h0 3 1 2) (v12 3 0xFFFFFFFF 2)) = [1] := by decide +kernel
theorem test_float_add : lane0 (exec (.fadd h0 3 1 2) (v12 1 0x3F800000 0x33800000)) = [0x3F800000] ∧
    lane0 (exec (.fadd h0 3 1 2) (v12 1 0x3F800000 0x34400000)) = [0x3F800002] := by decide +kernel
theorem test_fused : lane0 (exec (.fma h0 3 1 2) (withV 3 1 0xBF800000 (v12 1 0x3F800001 0x3F800001))) = [0x34800000] := by decide +kernel
/-- R122. -/
theorem test_tag_trap : ((after (exec (.fadd h0 3 1 2) (v12 3 0 0))).seq.group.trap).map (fun x => (x.2.cls, x.2.detail, x.2.einfo)) =
    some (2, 0x01, 0x30101) := by decide +kernel
/-- R130: 1.0 and 449 (which rounds to 448) to e4m3 in the second quarter; 300 does not fit i8 and saturates. -/
theorem test_narrowing : lane0 (exec (.vcvtE4m3F32 h0 3 1 1 0) (v12 1 0x3F800000 0)) = [0x3800] ∧
    lane0 (exec (.vcvtE4m3F32 h0 3 1 1 0) (v12 1 0x43E08000 0)) = [0x7E00] ∧
    lane0 (exec (.vcvtI8I32 h0 3 1 0 0 0) (v12 3 300 0)) = [0x7F] := by decide +kernel
/-- R131. -/
theorem test_reduction : sent (exec (.vredSumI32 h0 3 1) (v12 3 (5 + 2 ^ 32 * 0xFFFFFFF0) 0)) = [(3, 0xFFFFFFFFFFFFFFF5)] := by
  decide +kernel
/-- R192: TARGET 2, COUNT 1, GEN 7, and one arrival. -/
theorem test_arrival : memRead (after (exec (.sadd h0 4 3) (withS 4 1 counting))).mem.spad 0x13FFFFF0 12 =
    [2, 0, 0, 0, 0, 0, 0, 0, 8, 0, 0, 0] := by decide +kernel
/-- R181. -/
theorem test_put : let t := after (exec (.cbput h0 1 2) (buffered true 0 1 0))
    (cbRead t.mem 0x10000).pcnt = 2 ∧ ownerOf t.mem 1 = some .pub := by decide +kernel
/-- R119, R4, R11: an `srw` of VTAG takes effect after its group; bits [7:6] are reserved. -/
theorem test_vtag : (after (step ((withS 5 0x1F2 State.reset).withFetchWord 32 0b0_0_0000_0_000000_00101_01010_000010001))).seq.vtag =
    0x32 := by decide +kernel

/-! ### Witnesses: the statements' further clauses -/

theorem witness_due_vector :
    let s := exposeV 1 3 7 (mkTag 1 false false) 1 1 0 base
    (s.seq.ifq.filter (fun e => e.remain ≤ 1 ∧ e.kind = .vector ∧ e.reg = 3)).length = 1 ∧ frozen s = false := by decide +kernel

/-- The ends of the classes of f32 codes, and the shortest ht words. -/
theorem witness_codes : f32Fin 0x7F7FFFFF ∧ f32Fin 0xFF7FFFFF ∧ f32Inf 0xFF800000 ∧ f32Nan 0x7F800001 ∧ f32Zero 0x80000000 ∧
    ¬ f32Fin 0x7F800000 ∧ ¬ f32Nan 0x7F800000 ∧ (3 ≤ 6 ∧ 0 + 3 + 2 = 6 - 1 ∧ 2 + 3 + 0 = 6 - 1) ∧
    (0 < 1 ∧ 3 + 2 + 0 = 6 - 1) ∧ (2 ^ (6 - 1) < 33 ∧ 63 < 2 ^ 6) ∧ codeQ binF32 0x3F800000 = (2 : Rat) ^ (0 : Int) := by
  refine ⟨by decide, by decide, by decide, by decide, by decide, by decide, by decide, by decide, by decide, by decide, ?_⟩
  norm_num [codeQ, binF32]

/-- A cell of each kind: with 0 x inf, with infinities of both signs, with one infinity, with zeros alone, with a sum of 1. -/
theorem witness_cells :
    (∃ p ∈ [(Machine.Num.inf false, Machine.Num.fin false 0 0)], numInf p.1 ∧ numZero p.2) ∧
    (∃ p ∈ [(Machine.Num.inf true, Machine.Num.fin false 1 0)], p.1 ≠ .nan ∧ p.2 ≠ .nan ∧ ¬ numZero p.1 ∧ ¬ numZero p.2 ∧
      (numInf p.1 ∨ numInf p.2) ∧ (numNeg p.1 != numNeg p.2) = true) ∧
    (∀ p ∈ [(Machine.Num.fin true 0 0, Machine.Num.fin false 1 0)], numZero p.1 ∨ numZero p.2) ∧
    ([(Machine.Num.fin false 1 0, Machine.Num.fin false 1 0)].map (fun p => numQ p.1 * numQ p.2)).sum ≠ 0 := by
  refine ⟨⟨_, List.mem_singleton.2 rfl, ⟨false, rfl⟩, ⟨false, 0, rfl⟩⟩, ⟨_, List.mem_singleton.2 rfl, ?_⟩, ?_, ?_⟩
  · simp [numInf, numZero, numNeg]
  · simp [numZero]
  · simp [numQ, ratOf]

theorem witness_wrong_tags : ¬ anyReg (withV 2 11 0 base) 2 ∧ ¬ floatReg (withV 2 1 0 base) (2 + 1) ∧
    floatReg (withV 2 1 0 base) 2 ∧ ¬ intReg (withV 2 1 0 base) 2 ∧ ¬ (tagFmt (readV base 2).tag = 2) ∧
    anyReg (withV 3 1 0 base) 2 ∧ ¬ intReg (withV 3 1 0 base) 3 := by unfold anyReg floatReg intReg; decide +kernel

/-- The first word of extent space, in an extent that grants R, W and X and is resident. -/
theorem witness_extent_store : ∃ e, coverOf extents.mem (coreWho extents) (wordAddr extents 1 0 8) = some e ∧
    e.attr.getLsbD 2 = true ∧ isResident extents.mem e (wordAddr extents 1 0 8) = true ∧
    coverOf extents.mem (coreWho extents) (wordAddr extents 1 0 8 + 8) = some e := ⟨_, rfl, rfl, rfl, rfl⟩

/-- The first address of host space, translated, and not. -/
def hosted : State := onHost (fun h => { h with tlb := [{ pasid := 0, base := 0, size := 4096, phys := 0, write := true }] })
  (withS 1 0x8000000000000000 base)
theorem witness_host_store : (hostTranslation hosted (wordAddr hosted 1 0 8)).map (·.write) = some true ∧
    wordAddr hosted 1 0 8 = 0x8000000000000000 ∧
    checkHostPage (withS 1 0x8000000000000000 base) 0x8000000000000000 = .pending ∧
    atsRequestOf (withS 1 0x8000000000000000 base) 0x8000000000000000 = none := by decide +kernel

/-- The last word of a window that permits every atomic, and lets its first write go; the next does not fit. -/
def posting : State := onRefl (fun r => { r with tx := [{ aWindow with region := 0, ops := 0xFFFF }] })
  (withS 1 0x10000000FF8 (withS 2 0x10000000FF8 base))
theorem witness_window_store : let w := { aWindow with region := 0, ops := 0xFFFF }
    txWindowAt posting.refl posting.regionHandle (wordAddr posting 1 0 8) = some w ∧
    wordAddr posting 1 0 8 + 8 = w.base.toNat + w.len.toNat ∧ 8 + outstanding posting.refl w ≤ w.allowance ∧
    admitted posting posting.east posting.regionHandle 2 = true ∧ w.loop ≠ 1 ∧ w.ops.getLsbD 9 = true ∧
    placeOf posting (readS posting 2) = wordAddr posting 1 0 8 ∧
    txWindowAt posting.refl posting.regionHandle (wordAddr posting 1 1 8) = none := by decide +kernel

/-- Every edge of the registers of privileged control space that an aligned word reaches. -/
theorem witness_control_space : ([0x20000000000, 0x20000008000, 0x200000087F8, 0x20000008800, 0x20000009000, 0x200000091F8,
      0x20000009200, 0x20000010000, 0x20000010000 + 2048 * 160 - 8, 0x20000010000 + 2048 * 160, 0x200000FFFF8].all (fun x =>
      wordAddr (withS 1 (BitVec.ofNat 64 x) super) 1 0 8 == x && x % 8 == 0)) = true := by decide +kernel

/-- A full word with an uncorrectable error. -/
theorem witness_damaged_full : let s := onMem (fun m => setFull { m with damaged := [0x13FFFFF8 / 8] } (0x13FFFFF8 / 8) true) (withS 1 0x13FFFFF8 base)
    isFull s.mem (wordAddr s 1 0 8 / 8) = true ∧ s.mem.badByte (wordAddr s 1 0 8) 8 = some 0x13FFFFF8 := by decide +kernel

/-- An `ld64` that fails each check in turn, and a store that fails on ownership. -/
def fails (i : Nat) (s : State) : List (Option (BitVec 4 × BitVec 6 × Nat)) :=
  ((memAccesses h0 3 1 0 0 0 s)[i]?).toList.flatMap (fun q =>
    (List.range 9).map (fun k => q.failure s 0 (q.lanes.headD 0) k))
def first (xs : List (Option (BitVec 4 × BitVec 6 × Nat))) : Option (BitVec 4 × BitVec 6 × Nat) := xs.findSome? id
theorem witness_failures : [
      first (fails 6 (withS 1 0x14000000 super)), first (fails 6 (withS 1 4 super)),
      first (fails 6 (withS 1 0x8000000000000000 super)), first (fails 0 (withS 1 0x20000000000 super)),
      first (fails 11 (withS 1 0x100000000 super)), first (fails 6 (withS 1 0x100000000 super)),
      first (fails 10 (withS 1 0x10000001000 posting)),
      first (fails 6 (onMem (fun m => { m with owner := [(0, .excl 1)] }) super)),
      first (fails 10 (onMem (fun m => { m with owner := [(0, .pub)] }) super)),
      first (fails 6 (onMem (fun m => { m with damaged := [0] }) super))] =
    [some (5, 0x01, 0x14000000), some (5, 0x02, 4), some (5, 0x03, 0x8000000000000000), some (5, 0x05, 0x20000000000),
      some (5, 0x04, 0x100000000), some (6, 0x01, 0x100000000), some (9, 0x01, 0x10000001000), some (7, 0x01, 0),
      some (7, 0x03, 0), some (5, 0x09, 0)] := by decide +kernel

theorem witness_user_control : let s := withS 1 0x20000000000 base
    s.seq.supervisor = false ∧ spaceOf (wordAddr s 1 0 8) = some .control ∧
    encode (.ld64 h0 3 1 0) = some 0b0_0_0000_0_010101_00011_00001_000000_110 ∧
    encode (.rel h0 1 2) = some 0b0_0_0000_0_011111_00000_00001_00010_0000 := by decide +kernel

/-- A VTAG of no format, with scales, and of packed ht6. -/
theorem witness_vtags : 10 < (tagFmt (0x0B : Byte)).toNat ∧ tagSc (0x0B : Byte) = false ∧ tagSc (mkTag 7 true false) = true ∧
    (tagFmt (mkTag 7 true false)).toNat ≤ 10 ∧ tagFmt (0x0A : Byte) = 10 := by decide

/-- In user mode, with no lane in privileged control space. -/
theorem witness_user_tags : let s := withV 1 3 0 (withV 3 1 0 base)
    s.seq.supervisor = false ∧ (∀ q ∈ memAccesses h0 3 0 1 1 0 s, ∀ x ∈ q.lanes, spaceOf x ≠ some .control) ∧
    ¬ intReg s 3 ∧ intReg s 1 ∧ tagFmt (readV s 3).tag ≠ 10 := by unfold intReg; decide +kernel

/-- Ranges that `rel` traps on: past the scratchpad, none of its rows, another space, and a granule of another agent. -/
theorem witness_ranges : let s := onMem (fun m => { m with owner := [(1, .excl 3)] }) (withS 2 128 (withS 1 0 super))
    0 < (readS s 2).toNat ∧ granulesOf (placeOf s (readS s 1)) (readS s 2).toNat = [0] ++ 1 :: [] ∧
    ownerOf s.mem 1 = some (.excl 3) ∧ (3 : BitVec 9) ≠ s.agent ∧ ownerOf s.mem 0 = none ∧
    rowOf 0x13FFFFC0 = some (.scratchpad, 0x14000000) ∧ 0x14000000 < 0x13FFFFC0 + 128 ∧ rowOf 0x14000000 = none ∧
    rowOf 0x100000000 = some (.extent, 0x10000000000) := by decide +kernel

/-- What each scope waits for. -/
theorem witness_waiting_fences :
    fenceMet sending [] 4 0x3B = true ∧ fenceMet sending [] 3 4 = false ∧
    fenceMet (onHost (fun h => { h with posted := [{ va := 0, pasid := 0, phys := 0, data := [], agent := base.agent }] }) base)
      [] 4 1 = false ∧
    fenceMet (onHost (fun h => { h with posted := [{ va := 0, pasid := 0, phys := 0, data := [], agent := base.copyAgent }] }) base)
      [] 4 2 = false ∧
    fenceMet (pend { Pending.none .memory with hold := some (.fence 3 4) } base) [] 3 4 = true := by decide +kernel

/-- An i32 tile of zeros at scratchpad address 0 whose first row sum is stored as 1. -/
def mismatched : State := withSpad 16384 [1] base

theorem mismatched_rows (m : Nat) (h : m ∈ List.range 64) : memRead mismatched.mem.spad (0 + m * 256) 256 = List.replicate 256 0 :=
  (memRead_memWrite_other _ _ _ _ _ (.inl (by have := List.mem_range.1 h; omega))).trans (empty_read _ _)

theorem mismatched_memory : let m := memTile mismatched (tilePlace mismatched 3 1 0) 3
    m.data = 0 ∧ m.rows = 1 :: List.replicate 63 0 ∧ m.cols = zeroSums.cols ∧ m.badScale = none := by
  have hp : (tilePlace mismatched 3 1 0).rows = (List.range 64).map (fun m => 0 + m * 256) := by decide +kernel
  have hr : (List.range 64).map ((fun a => memRead mismatched.mem.spad a (rowBytes 3)) ∘ fun m => 0 + m * 256) =
      (List.range 64).map (fun _ => List.replicate 256 0) := List.map_congr_left mismatched_rows
  simp only [memTile, hp, List.map_map, hr]
  decide +kernel

theorem witness_mismatched_tile : let m := memTile mismatched (tilePlace mismatched 3 1 0) 3
    let v := verifySums 3 (tileValues 3 (scalable 3) m.data m.scales) { rows := m.rows, cols := m.cols }
    m.badScale = none ∧ v.rows = [0] ∧ v.cols = [] := by
  obtain ⟨hd, hr, hc, hb⟩ := mismatched_memory
  refine ⟨hb, ?_⟩
  rw [hd, hr, hc, show scalable 3 = false from rfl, zero_tile]
  decide +kernel

theorem witness_whole_tile : tileVerifies 2 (List.replicate 17152 0) = true := by
  have hz : memRead streamed.mem.spad 0 (tileBytes 2) = List.replicate 17152 0 :=
    (memRead_memWrite_other _ _ _ _ _ (.inl (by decide +kernel))).trans (empty_read _ _)
  obtain ⟨hb, hr, hc⟩ := witness_streamed_tile
  rw [hz] at hb hr hc
  simp only [tileVerifies, MemTile.values, hb, hr, hc]
  rfl

/-- A tile of an MX format with a scale byte 0xFF. -/
theorem witness_failed_tile :
    let bs := List.replicate (dataBytes 6 + trailerBytes 6) (0 : Byte) ++ List.replicate (tileBytes 6 - (dataBytes 6 + trailerBytes 6)) 0xFF
    bs.length = tileBytes 6 ∧ tileVerifies 6 bs = false := by
  refine ⟨by rw [List.length_append, List.length_replicate, List.length_replicate]; decide, ?_⟩
  have hd : (List.replicate (dataBytes 6 + trailerBytes 6) (0 : Byte) ++
      List.replicate (tileBytes 6 - (dataBytes 6 + trailerBytes 6)) 0xFF).drop (dataBytes 6 + trailerBytes 6) =
      List.replicate (tileBytes 6 - (dataBytes 6 + trailerBytes 6)) 0xFF :=
    List.drop_left' List.length_replicate
  simp only [tileVerifies, tileOf, parseTile, hd, show (List.replicate (tileBytes 6 - (dataBytes 6 + trailerBytes 6)) (0xFF : Byte)).findIdx?
    (· == 0xFF) = some 0 from by decide +kernel, show isMx 6 = true from by decide, if_true, Option.isNone_some, Bool.and_false]

/-- A checked tile register of zeros whose first row sum is held as 1. -/
theorem witness_mismatched_register : let t := { Tile.zero with tag := mkTag 3 false true, rowSum := (1 : BitVec 2048) }
    let v := verifySums (tagFmt t.tag) t.values (heldSums t)
    badTag t.tag = false ∧ tagCv t.tag = true ∧ v.rows = [0] ∧ v.cols = [] := by
  refine ⟨by decide, by decide, ?_⟩
  rw [show tagFmt (mkTag 3 false true) = 3 from by decide]
  simp only [Tile.values, show tagFmt (mkTag 3 false true) = 3 from by decide, show tagSc (mkTag 3 false true) = false from by decide]
  rw [show Tile.zero.data = 0 from rfl, zero_tile]
  decide +kernel

/-- Accumulators of one `mma` each, in f32 and in i32. -/
theorem witness_sums_of_accumulators : badTag (mkTag 1 false false) = false ∧ badTag (mkTag 3 false false) = false ∧
    ({ Tile.zero with status := setNacc 0 1 } : Tile).nacc = 1 := by decide +kernel

theorem witness_sections : lastSection base = true ∧ (inLoops [entry 0 9 1] base).seq.loops ≠ [] ∧
    (let s := onSeq (fun q => { q with sect := .prologue, record := { q.record with trip := 1 } }) base
     s.seq.sect = .prologue ∧ s.seq.record.trip ≠ 0) ∧
    (let s := onSeq (fun q => { q with sect := .kernel, record := { q.record with trip := 2 } }) base
     s.seq.iter.toNat + 1 < s.seq.record.trip.toNat ∧ saveReady s = true) ∧
    (let s := onSeq (fun q => { q with sect := .kernel, record := { q.record with trip := 1, epilogue := 12 } }) base
     s.seq.record.epilogue ≠ 0 ∧ ¬ s.seq.iter.toNat + 1 < s.seq.record.trip.toNat) ∧
    nextRecord base (entriesLeft base.seq.cmdp base) base.seq.cmdp = none := by decide +kernel

theorem witness_special_words : (slotsOf base.fw base.east).toList[base.seq.budget.toNat % 64]? = some CounterSlot.free ∧
    base.seq.budget.toNat / 256 % 16 = 0 ∧ (0x10000 : W64).getLsbD 16 = true ∧ (0x1F7 : BitVec 9).toNat < 0x1F8 := by
  decide +kernel

/-- An accumulator of one nonzero element whose row and column are flagged: the element is put right; and with a row alone. -/
theorem witness_flagged : let t := { accumulated.seq.t[1] with data := (1 : BitVec 131072) }
    (indicesOf .flagged (drainView t).rows, indicesOf .flagged (drainView t).cols) = ([0], [0]) ∧
    correctElement t 0 0 = some 0 ∧
    (let u := { accumulated.seq.t[1] with rowSum := (1 : BitVec 2048) }
     (indicesOf .flagged (drainView u).rows, indicesOf .flagged (drainView u).cols) = ([0], [])) ∧
    accumulated.seq.ckctl.getLsbD 0 = true ∧
    (onSeq (fun q => { q with ckctl := 0 }) accumulated).seq.ckctl.getLsbD 0 = false := by decide +kernel

/-- A soft request of 2 ms ago, and one of just now; and a bay that no unit has stood on. -/
theorem witness_soft_grace : ((later 2000000 base).clock.time - (0 : W64)).toNat = 2000000 ∧
    ((later 1999999 base).clock.time - (0 : W64)).toNat < 2000000 ∧ lastOn idle 1 = none := by decide +kernel

end Sys2Proof.Tests
end

section
/-! PROOFS. The state after reset, and the landing of exposed results. -/

open Sys2Proof.Claims

namespace Sys2Proof.Machine

/-! ### The state after reset -/

/-- An entry of a register file of equal values. -/
theorem get_replicate {α : Type} {n : Nat} (x : α) (i : Fin n) : (Vector.replicate n x).get i = x :=
  Vector.getElem_replicate i.isLt

theorem readS_reset (r : Reg5) : readS State.reset r = 0 := by
  unfold readS
  split
  · rfl
  · exact get_replicate (n := 32) (0 : W64) r.toFin

theorem slotAt_reset (i : Nat) : slotAt State.reset i = CbSlot.unbound := by
  show (Vector.replicate 16 CbSlot.unbound).toList.getD (i % 16) CbSlot.unbound = CbSlot.unbound
  rw [Vector.toList_replicate, List.getD_eq_getElem?_getD, List.getElem?_replicate]
  split <;> rfl

theorem canonical_reset : State.reset.mem.canonical :=
  ⟨wf_nil, wf_nil, List.Pairwise.nil, List.Pairwise.nil, List.Pairwise.nil⟩

end Sys2Proof.Machine

namespace Sys2Proof.Proofs
open Sys2Proof.Machine

/-- Settles O11: the registers are files of equal values, and every list of the state is empty. -/
theorem resetValues : Obligations.ResetValues :=
  ⟨readS_reset, fun r => get_replicate (n := 16) (0 : W64) r.toFin, fun r => get_replicate (n := 32) VReg.zero r.toFin,
    fun r => get_replicate (n := 16) Tile.zero r.toFin, rfl, rfl, rfl, rfl, rfl, rfl, rfl, rfl, rfl, rfl, rfl, rfl,
    slotAt_reset, fun _ => rfl, fun _ => rfl, fun _ => rfl, fun _ => rfl, canonical_reset, rfl, rfl, rfl, rfl, rfl, rfl⟩

end Sys2Proof.Proofs

namespace Sys2Proof.Machine

/-! ### One entry that lands -/

@[simp] theorem landEntry_ifq (e : InFlight) (q : Seq) : (landEntry e q).ifq = q.ifq := by
  unfold landEntry; cases e.kind <;> simp
@[simp] theorem landEntry_t (e : InFlight) (q : Seq) : (landEntry e q).t = q.t := by
  unfold landEntry; cases e.kind <;> simp
@[simp] theorem landEntry_landed1 (e : InFlight) (q : Seq) : (landEntry e q).landed1 = q.landed1 := by
  unfold landEntry; cases e.kind <;> simp
@[simp] theorem landEntry_fstat (e : InFlight) (q : Seq) : (landEntry e q).fstat = q.fstat ||| e.flags.setWidth 64 := by
  unfold landEntry; cases e.kind <;> simp

/-- How many steps were left matters to nothing of what a landing does. -/
theorem landEntry_remain (e : InFlight) (n : Nat) (q : Seq) : landEntry { e with remain := n } q = landEntry e q := rfl

theorem get_setS (q : Seq) (r k : Reg5) (x : W64) (hk : k ≠ 0) :
    (q.setS r x).s.get k.toFin = if k = r then x else q.s.get k.toFin := by
  unfold Seq.setS
  by_cases h : r = 0
  · rw [if_pos (by simpa using h), if_neg (h ▸ hk)]
  · rw [if_neg (by simpa using h)]; exact get_set q.s r k x

theorem landEntry_scalar (e : InFlight) (q : Seq) (r : Reg5) (hr : r ≠ 0) :
    (landEntry e q).s.get r.toFin =
      if e.kind = .scalar ∧ e.reg = r then e.value.setWidth 64 else q.s.get r.toFin := by
  unfold landEntry
  cases e.kind with
  | scalar => simp only [get_setS q e.reg r _ hr, true_and, eq_comm (a := r)]
  | predicate => simp [Seq.setP]
  | vector => simp

theorem landEntry_predicate (e : InFlight) (q : Seq) (r : Reg4) :
    (landEntry e q).p.get r.toFin = if e.kind = .predicate ∧ e.reg.setWidth 4 = r then
      (e.value.setWidth 64 &&& e.lmask) ||| (q.p.get r.toFin &&& ~~~e.lmask) else q.p.get r.toFin := by
  unfold landEntry
  cases e.kind with
  | scalar => simp
  | predicate =>
    simp only [get_setP, true_and, eq_comm (a := r)]
    split
    · next h => rw [h]
    · rfl
  | vector => simp

theorem landEntry_vector (e : InFlight) (q : Seq) (r : Reg5) :
    (landEntry e q).v.get r.toFin =
      if e.kind = .vector ∧ e.reg = r then mergeLanes e (q.v.get r.toFin) else q.v.get r.toFin := by
  unfold landEntry
  cases e.kind with
  | scalar => simp
  | predicate => simp [Seq.setP]
  | vector =>
    simp only [get_setV, true_and, eq_comm (a := r)]
    split
    · next h => rw [h]
    · rfl

/-! ### The entries that land together -/

/-- The entries land one after the other. -/
def landEntries (es : List InFlight) (q : Seq) : Seq := es.foldl (fun q e => landEntry e q) q

/-- What an entry's landing leaves alone, the landing of them all leaves alone. -/
theorem landEntries_keeps {α : Type} (g : Seq → α) (h : ∀ e q, g (landEntry e q) = g q) (es : List InFlight) (q : Seq) :
    g (landEntries es q) = g q := by
  induction es generalizing q with
  | nil => rfl
  | cons e es ih => exact (ih _).trans (h e q)

theorem landEntries_append (a b : List InFlight) (q : Seq) :
    landEntries (a ++ b) q = landEntries b (landEntries a q) := List.foldl_append

theorem landEntries_fstat (es : List InFlight) (q : Seq) :
    (landEntries es q).fstat = es.foldl (fun f e => f ||| e.flags.setWidth 64) q.fstat := by
  induction es generalizing q with
  | nil => rfl
  | cons e es ih => exact (ih _).trans (by rw [landEntry_fstat]; rfl)

theorem landEntries_scalar_other (es : List InFlight) (q : Seq) (r : Reg5) (hr : r ≠ 0)
    (h : ∀ x ∈ es, x.kind = .scalar → x.reg ≠ r) : (landEntries es q).s.get r.toFin = q.s.get r.toFin := by
  induction es generalizing q with
  | nil => rfl
  | cons e es ih =>
    obtain ⟨he, hes⟩ := List.forall_mem_cons.1 h
    refine (ih _ hes).trans ?_
    rw [landEntry_scalar e q r hr, if_neg (fun hk => he hk.1 hk.2)]

/-- A register holds the last of the scalars that landed in it. -/
theorem landEntries_scalar_last (a b : List InFlight) (e : InFlight) (q : Seq) (hk : e.kind = .scalar) (hr : e.reg ≠ 0)
    (h : ∀ x ∈ b, x.kind = .scalar → x.reg ≠ e.reg) :
    (landEntries (a ++ e :: b) q).s.get e.reg.toFin = e.value.setWidth 64 := by
  rw [landEntries_append]
  refine (landEntries_scalar_other b _ e.reg hr h).trans ?_
  rw [landEntry_scalar _ _ _ hr, if_pos ⟨hk, rfl⟩]

theorem landEntries_predicate_other (es : List InFlight) (q : Seq) (r : Reg4)
    (h : ∀ x ∈ es, x.kind = .predicate → x.reg.setWidth 4 ≠ r) : (landEntries es q).p.get r.toFin = q.p.get r.toFin := by
  induction es generalizing q with
  | nil => rfl
  | cons e es ih =>
    obtain ⟨he, hes⟩ := List.forall_mem_cons.1 h
    refine (ih _ hes).trans ?_
    rw [landEntry_predicate, if_neg (fun hk => he hk.1 hk.2)]

theorem landEntries_vector (es : List InFlight) (q : Seq) (r : Reg5) :
    (landEntries es q).v.get r.toFin =
      (es.filter (fun e => e.kind == .vector && e.reg == r)).foldl (fun v e => mergeLanes e v) (q.v.get r.toFin) := by
  induction es generalizing q with
  | nil => rfl
  | cons e es ih =>
    refine (ih _).trans ?_
    rw [landEntry_vector]
    by_cases h : e.kind = .vector ∧ e.reg = r <;> simp [h]

/-! ### The end of an issuing step -/

/-- The results due at the end of an issuing step. -/
def dueNow (q : Seq) : List InFlight := q.ifq.filter (fun e => e.remain ≤ 1)

/-- At the end of an issuing step the due entries land in the registers of before. -/
theorem landDue_countDown (q : Seq) : landDue (countDown q) =
    { landEntries (dueNow q) (countDown q) with
      ifq := (q.ifq.filter (fun e => 1 < e.remain)).map (fun e => { e with remain := e.remain - 1 })
      landed1 := (landDue (countDown q)).landed1 } := by
  have hdue : (countDown q).ifq.filter (fun e => e.remain == 0) =
      (dueNow q).map (fun e => { e with remain := e.remain - 1 }) := by
    simp only [countDown, dueNow, List.filter_map]
    congr 1
    refine List.filter_congr (fun e _ => ?_)
    show (e.remain - 1 == 0) = decide (e.remain ≤ 1)
    rw [Bool.eq_iff_iff, beq_iff_eq, decide_eq_true_iff, Nat.sub_eq_zero_iff_le]
  have hrest : (countDown q).ifq.filter (fun e => e.remain != 0) =
      (q.ifq.filter (fun e => 1 < e.remain)).map (fun e => { e with remain := e.remain - 1 }) := by
    simp only [countDown, List.filter_map]
    congr 1
    refine List.filter_congr (fun e _ => ?_)
    show (e.remain - 1 != 0) = decide (1 < e.remain)
    rw [Bool.eq_iff_iff, bne_iff_ne, decide_eq_true_iff, Ne, Nat.sub_eq_zero_iff_le, Nat.not_le]
  have hland : ∀ (es : List InFlight) (q : Seq),
      (es.map (fun e => { e with remain := e.remain - 1 })).foldl (fun q e => landEntry e q) q = landEntries es q := by
    intro es q
    rw [List.foldl_map]; rfl
  unfold landDue
  simp only [hdue, hrest, hland]

theorem endIssuing_seq (s : State) : (endIssuing s).seq = landDue (countDown s.seq) := rfl

theorem readS_endIssuing (s : State) (r : Reg5) (hr : r ≠ 0) :
    readS (endIssuing s) r = (landEntries (dueNow s.seq) (countDown s.seq)).s.get r.toFin := by
  unfold readS
  rw [endIssuing_seq, landDue_countDown, if_neg (by simpa using hr)]

theorem readP_endIssuing (s : State) (r : Reg4) :
    readP (endIssuing s) r = (landEntries (dueNow s.seq) (countDown s.seq)).p.get r.toFin := by
  unfold readP
  rw [endIssuing_seq, landDue_countDown]

theorem readV_endIssuing (s : State) (r : Reg5) :
    readV (endIssuing s) r = (landEntries (dueNow s.seq) (countDown s.seq)).v.get r.toFin := by
  unfold readV
  rw [endIssuing_seq, landDue_countDown]

theorem readS_eq_get (s : State) (r : Reg5) (hr : r ≠ 0) : readS s r = s.seq.s.get r.toFin := by
  unfold readS; rw [if_neg (by simpa using hr)]

/-- The bits of a predicate that alone is due: the result's in its lanes, the register's in the others. -/
theorem readP_endIssuing_alone (s : State) (e : InFlight) (h : dueNow s.seq = [e]) (hk : e.kind = .predicate) (i : Nat)
    (hi : i < 64) : (readP (endIssuing s) (e.reg.setWidth 4)).getLsbD i =
      if e.lmask.getLsbD i then e.value.getLsbD i else (readP s (e.reg.setWidth 4)).getLsbD i := by
  rw [readP_endIssuing, h]
  show ((landEntry e (countDown s.seq)).p.get _).getLsbD i = _
  rw [landEntry_predicate, if_pos ⟨hk, rfl⟩]
  cases hm : e.lmask.getLsbD i <;>
    simp [BitVec.getLsbD_or, BitVec.getLsbD_and, BitVec.getLsbD_not, BitVec.getLsbD_setWidth, hm, hi, readP, countDown,
      -BitVec.getLsbD_eq_getElem]

/-! ### Vector results merged into their registers -/

/-- The number whose base-2^w digits are all ones or zero. -/
theorem element_digit (p : Nat → Bool) (w n k b : Nat) (hw : 0 < w) (h : b < w * n) :
    ((List.range' k n).foldr (fun j acc => (if p j then 2 ^ w - 1 else 0) + 2 ^ w * acc) 0).testBit b = p (k + b / w) := by
  induction n generalizing k b with
  | zero => omega
  | succ n ih =>
    simp only [List.range'_succ, List.foldr_cons]
    have hd : (if p k then 2 ^ w - 1 else 0) < 2 ^ w := by
      have := Nat.two_pow_pos w
      split <;> omega
    rw [Nat.add_comm, Nat.testBit_two_pow_mul_add _ hd]
    by_cases hb : b < w
    · rw [if_pos hb, Nat.div_eq_of_lt hb]
      cases p k <;> simp [Nat.testBit_two_pow_sub_one, hb]
    · have hle : w ≤ b := Nat.le_of_not_lt hb
      rw [if_neg hb, ih (k + 1) (b - w) (by rw [Nat.mul_succ] at h; omega), Nat.div_eq_sub_div hw hle]
      congr 1; omega

/-- The elements of a format fill its lane. -/
theorem elemBits_pos_dvd (fmt : BitVec 4) : 0 < elemBits fmt ∧ elemBits fmt * (32 / elemBits fmt) = 32 := by
  revert fmt; decide

theorem getLsbD_elemMask (m : Byte) (fmt : BitVec 4) (b : Nat) (hb : b < 32) :
    (elemMask m (elemBits fmt)).getLsbD b = m.getLsbD (b / elemBits fmt) := by
  obtain ⟨hw, hn⟩ := elemBits_pos_dvd fmt
  have key := element_digit m.getLsbD (elemBits fmt) (32 / elemBits fmt) 0 b hw (by rw [hn]; exact hb)
  rw [Nat.zero_add] at key
  simp only [elemMask, BitVec.getLsbD_ofNat, hb, decide_true, Bool.true_and, List.range_eq_range']
  exact key

/-- The bits of a lane that a result writes: those of the elements that its mask selects (R130). -/
def writtenBits (e : InFlight) : W32 :=
  if e.emask == 0xFF then BitVec.allOnes 32 else elemMask e.emask (elemBits (e.tag.extractLsb' 0 4))

theorem getLsbD_writtenBits (e : InFlight) (b : Nat) (hb : b < 32) : (writtenBits e).getLsbD b =
    decide (e.emask = 0xFF ∨ e.emask.getLsbD (b / elemBits (e.tag.extractLsb' 0 4)) = true) := by
  unfold writtenBits
  by_cases h : e.emask = 0xFF
  · rw [if_pos (by simpa using h), BitVec.getLsbD_allOnes, decide_eq_true hb, decide_eq_true (.inl h)]
  · rw [if_neg (by simpa using h), getLsbD_elemMask _ _ b hb]
    simp only [h, false_or, Bool.decide_eq_true]

theorem lane_mergeLanes (e : InFlight) (old : VReg) (i : Nat) (hi : i < 64) :
    lane (mergeLanes e old).data i = if e.lmask.getLsbD i then (lane e.value i &&& writtenBits e) |||
      (lane old.data i &&& if old.tag.extractLsb' 0 4 == e.tag.extractLsb' 0 4 then ~~~writtenBits e else 0)
      else lane old.data i :=
  lane_vecOf _ i hi

theorem vectorResultsMerge : VectorResultsMerge := by
  intro e old i b hi hb
  refine ⟨rfl, ?_⟩
  have hsel := getLsbD_writtenBits e b hb
  rw [lane_mergeLanes e old i hi]
  cases hm : e.lmask.getLsbD i with
  | false => rfl
  | true =>
    rw [if_pos rfl, if_neg Bool.true_eq_false.mp, BitVec.getLsbD_or, BitVec.getLsbD_and, BitVec.getLsbD_and, hsel]
    by_cases hs : e.emask = 0xFF ∨ e.emask.getLsbD (b / elemBits (e.tag.extractLsb' 0 4)) = true
    · rw [decide_eq_true hs] at hsel
      rw [if_pos hs, decide_eq_true hs]
      split <;> simp [hsel, -BitVec.getLsbD_eq_getElem]
    · rw [decide_eq_false hs] at hsel
      rw [if_neg hs, decide_eq_false hs]
      cases old.tag.extractLsb' 0 4 == e.tag.extractLsb' 0 4 <;> simp [hsel, hb, -BitVec.getLsbD_eq_getElem]

/-! ### The landing event -/

theorem dueResultsLand : DueResultsLand := by
  intro s
  have hseq := (endIssuing_seq s).trans (landDue_countDown s.seq)
  refine ⟨fun h => ?_, fun h => ?_, ?_, ?_, ?_, ?_, ?_, ?_, rfl, ?_, ?_, rfl⟩
  · have h' : frozen (onSeq countDown s) = false := h
    constructor
    · show execExposedResultLanding s = _
      rw [execExposedResultLanding, h]; rfl
    · show execExposedResultLanding (onSeq countDown s) = _
      rw [execExposedResultLanding, h']; rfl
  · show execExposedResultLanding s = _
    rw [execExposedResultLanding, h]; rfl
  · rw [hseq]
  · intro a b e hd hk hr hb
    rw [readS_endIssuing s e.reg hr, show dueNow s.seq = _ from hd, landEntries_scalar_last a b e _ hk hr hb]
  · intro r hd
    by_cases hr : r = 0
    · subst hr; rfl
    · rw [readS_endIssuing s r hr, landEntries_scalar_other (dueNow s.seq) _ r hr hd, readS_eq_get s r hr]; rfl
  · intro r hd
    rw [readP_endIssuing, landEntries_predicate_other (dueNow s.seq) _ r hd]; rfl
  · intro r
    rw [readV_endIssuing, landEntries_vector]; rfl
  · intro e hd hk i hi
    exact readP_endIssuing_alone s e hd hk i hi
  · rw [hseq]; exact landEntries_fstat _ _
  · rw [hseq]; exact landEntries_keeps (·.t) landEntry_t _ _

end Sys2Proof.Machine

namespace Sys2Proof.Proofs

/-- Settles O8: the landing of the due entries, one after the other, and the merge of a vector result lane by lane. -/
theorem exposedResultsLand : Obligations.ExposedResultsLand := ⟨Machine.dueResultsLand, Machine.vectorResultsMerge⟩

end Sys2Proof.Proofs
end

section
/-! PROOFS. Waits that are over and pending results that land (R8, R9, R84, R149, R155, R156, R178). -/

open Sys2Proof.Claims

namespace Sys2Proof.Machine

/-! ### The clamp -/

/-- While the clamp holds the bay no wait is lifted and nothing lands or starts. -/
theorem frozen_keeps (k : Nat) (fl : BitVec 4) (s : State) (h : frozen s = true) : ∀ i ∈ [Instr.feRequestServed,
    .waitConditionMet, .scoreboardedResultLanding k, .atomicAcknowledgement k fl, .xWordStart], exec i s = .next s := by
  have hw : execWaitConditionMet s = .next s := by
    unfold execWaitConditionMet
    cases s.seq.wait <;> simp [h]
  simp only [List.forall_mem_cons, List.not_mem_nil, false_implies, implies_true, and_true]
  refine ⟨?_, hw, ?_, ?_, ?_⟩
  · show execFeRequestServed s = _
    rw [execFeRequestServed, h]; rfl
  · show execScoreboardedResultLanding k s = _
    rw [execScoreboardedResultLanding, h]; rfl
  · show execAtomicAcknowledgement k fl s = _
    rw [execAtomicAcknowledgement, h]; rfl
  · show execXWordStart s = _
    rw [execXWordStart, h]; rfl

/-! ### Waits -/

/-- A wait is lifted when its condition holds. -/
theorem exec_waitConditionMet (s : State) (w : Wait) (hf : frozen s = false) (hw : s.seq.wait = some w) :
    exec .waitConditionMet s =
      if conditionMet s w then next (onSeq (fun q => { q with wait := none }) s) else next s := by
  show execWaitConditionMet s = _
  simp only [execWaitConditionMet, hw, hf, Bool.not_false, Bool.true_and]
  split <;> rfl

theorem exec_feRequestServed (s : State) (a : W64) (full : Bool) (hf : frozen s = false)
    (hw : s.seq.wait = some (.fullEmpty a full)) : exec .feRequestServed s =
      if isFull s.mem (a.toNat / 8) = full then next (onSeq (fun q => { q with wait := none }) s) else next s := by
  show execFeRequestServed s = _
  rw [execFeRequestServed, hf, if_neg Bool.false_ne_true, hw]
  simp only [beq_iff_eq]
  split <;> rfl

/-- A buffer's wait stands only while it is open and has too little. -/
theorem cbAnswer_isNone (c : CbSlot) (d : CbDesc) :
    (cbAnswer c d).isSome = !decide (d.state = 0 ∧ (if c.producer then d.room else d.avail) < d.quant) := by
  unfold cbAnswer
  dsimp only
  split
  · next h =>
    simp only [h, true_and, ← decide_not, Nat.not_lt]
    by_cases hq : d.quant ≤ if c.producer then d.room else d.avail
    · rw [if_pos hq, decide_eq_true hq]; rfl
    · rw [if_neg hq, decide_eq_false hq]; rfl
  · next h => simp [h]
  · next h => simp [h]
  · next h _ _ =>
    have h0 : ¬ d.state = 0 := h
    simp only [h0, false_and, decide_false, Bool.not_false]
    rw [apply_ite Option.isSome]
    exact ite_self true

/-! ### Results that land -/

theorem landNth_of_canLand (s : State) (k : Nat) (p : Pending) (hp : s.seq.sb[k]? = some p) (hl : canLand s k = true) :
    landNth k s = onSeq (fun q => landPending p { q with sb := q.sb.eraseIdx k }) s := by
  have hz : frozenNow s p = false := by
    simp only [canLand, hp, Bool.and_eq_true, Bool.not_eq_true'] at hl
    exact hl.1.1.2
  simp only [landNth, hp]
  rw [if_neg]
  simpa [frozenNow] using hz

theorem exec_scoreboardedResultLanding (s : State) (k : Nat) (p : Pending) (hf : frozen s = false)
    (hp : s.seq.sb[k]? = some p) (hl : canLand s k = true) (ha : p.awaitsAck = false) :
    exec (.scoreboardedResultLanding k) s = next (onSeq (fun q => landPending p { q with sb := q.sb.eraseIdx k }) s) := by
  show execScoreboardedResultLanding k s = _
  have hal : landsAlone s k = true := by simp [landsAlone, hl, hp, ha]
  rw [execScoreboardedResultLanding, hf, if_neg (by decide), landIf, if_pos hal, landNth_of_canLand s k p hp hl]
  rfl

/-- A result that cannot land alone stays. -/
theorem exec_scoreboardedResultLanding_stays (s : State) (k : Nat) (hf : frozen s = false) (h : landsAlone s k = false) :
    exec (.scoreboardedResultLanding k) s = next s := by
  show execScoreboardedResultLanding k s = _
  rw [execScoreboardedResultLanding, hf, if_neg (by decide), landIf, h]; rfl

/-- The pending results with the flags of an acknowledgement added to the k-th. -/
def withFlags (k : Nat) (fl : BitVec 4) (b : Bool) (sb : List Pending) : List Pending :=
  sb.zipIdx.map (fun x => if x.2 == k && b then { x.1 with atomFlags := x.1.atomFlags ||| fl } else x.1)

theorem getElem?_withFlags (k : Nat) (fl : BitVec 4) (b : Bool) (sb : List Pending) (j : Nat) :
    (withFlags k fl b sb)[j]? = sb[j]?.map (fun p => if j = k ∧ b = true then { p with atomFlags := p.atomFlags ||| fl } else p) := by
  unfold withFlags
  rw [List.getElem?_map, List.getElem?_zipIdx]
  cases sb[j]? <;> simp

theorem withFlags_eraseIdx (k : Nat) (fl : BitVec 4) (b : Bool) (sb : List Pending) :
    (withFlags k fl b sb).eraseIdx k = sb.eraseIdx k := by
  refine List.ext_getElem? (fun j => ?_)
  rw [List.getElem?_eraseIdx, List.getElem?_eraseIdx, getElem?_withFlags, getElem?_withFlags]
  have h1 : j < k → ¬ (j = k ∧ b = true) := fun h => by omega
  have h2 : ¬ j < k → ¬ (j + 1 = k ∧ b = true) := fun h => by omega
  split
  · next h => simp [h1 h]
  · next h => simp [h2 h]

theorem exec_atomicAcknowledgement (s : State) (k : Nat) (fl : BitVec 4) (p : Pending) (hf : frozen s = false)
    (hp : s.seq.sb[k]? = some p) (hl : canLand s k = true) (ha : p.kind = .atomic) :
    exec (.atomicAcknowledgement k fl) s =
      next (onSeq (fun q => landPending (match p.hold with
        | some (.applied _ true) => { p with atomFlags := p.atomFlags ||| fl }
        | _ => p) { q with sb := q.sb.eraseIdx k }) s) := by
  show execAtomicAcknowledgement k fl s = _
  have hk : ∀ b : Bool, landNth k (onSeq (fun q => { q with sb := withFlags k fl b q.sb }) s) =
      onSeq (fun q => landPending (if b then { p with atomFlags := p.atomFlags ||| fl } else p)
        { q with sb := q.sb.eraseIdx k }) s := by
    intro b
    have hj : (withFlags k fl b s.seq.sb)[k]? = some (if b then { p with atomFlags := p.atomFlags ||| fl } else p) := by
      rw [getElem?_withFlags, hp]; simp
    have hkind : (if b then { p with atomFlags := p.atomFlags ||| fl } else p).kind = .atomic := by cases b <;> exact ha
    simp only [landNth, onSeq_seq, hj, hkind]
    rw [if_neg (by simp)]
    simp only [onSeq, withFlags_eraseIdx]
  rw [execAtomicAcknowledgement, hf, if_neg (by decide)]
  simp only [acknowledge, hp, ha, hl]
  rw [if_pos (by decide)]
  cases hh : p.hold with
  | none => exact congrArg next (hk false)
  | some w =>
    cases w with
    | fence _ _ => exact congrArg next (hk false)
    | applied _ remote => cases remote <;> exact congrArg next (hk _)

theorem exec_atomicAcknowledgement_stays (s : State) (k : Nat) (fl : BitVec 4) (hf : frozen s = false)
    (h : canLand s k = false) : exec (.atomicAcknowledgement k fl) s = next s := by
  show execAtomicAcknowledgement k fl s = _
  rw [execAtomicAcknowledgement, hf, if_neg (by decide)]
  simp only [acknowledge, h, Bool.and_false]
  split <;> rfl

/-! ### X words that start -/

theorem canStart_at (s : State) (before after : List Pending) (p : Pending) (h : s.seq.sb = before ++ p :: after) :
    canStart s before.length = (!p.started && !frozenNow s p && resourceFree before p) := by
  simp [canStart, h]

/-- The first word that has not started is the one that starts. -/
theorem startNext_first (s : State) (before after : List Pending) (p : Pending) (h : s.seq.sb = before ++ p :: after)
    (hb : ∀ x ∈ before, x.started = true) (hc : canStart s before.length = true) :
    startNext s = onSeq (fun q => { q with sb := before ++ { p with started := true } :: after }) s := by
  have hlen : before.length < s.seq.sb.length := by rw [h]; simp
  have hfind : (List.range s.seq.sb.length).find? (canStart s) = some before.length := by
    rw [List.find?_range_eq_some]
    refine ⟨hc, List.mem_range.2 hlen, fun j hj => ?_⟩
    have hget : s.seq.sb[j]? = some before[j] := by rw [h, List.getElem?_append_left hj, List.getElem?_eq_getElem hj]
    simp [canStart, hget, hb before[j] (List.getElem_mem hj)]
  have hmap : s.seq.sb.zipIdx.map (fun x => if x.2 == before.length then { x.1 with started := true } else x.1) =
      before ++ { p with started := true } :: after := by
    rw [h]
    refine List.ext_getElem? (fun j => ?_)
    rw [List.getElem?_map, List.getElem?_zipIdx]
    rcases Nat.lt_trichotomy j before.length with hj | hj | hj
    · have hne : j ≠ before.length := by omega
      simp [List.getElem?_append_left hj, List.getElem?_eq_getElem hj, hne]
    · simp [hj]
    · have hne : j ≠ before.length := by omega
      obtain ⟨n, hn⟩ := Nat.exists_eq_add_of_lt hj
      simp only [List.getElem?_append_right (Nat.le_of_lt hj)]
      rw [show j - before.length = n + 1 by omega]
      cases hn : after[n]? <;> simp [hn, hne]
  simp only [startNext, hfind]
  exact congrArg (fun sb => onSeq (fun q => { q with sb := sb }) s) hmap

theorem exec_xWordStart (s : State) (hf : frozen s = false) : exec .xWordStart s = next (startNext s) := by
  show execXWordStart s = _
  rw [execXWordStart, hf]; rfl

theorem startNext_none (s : State) (h : ∀ j, canStart s j = false) : startNext s = s := by
  have hfind : (List.range s.seq.sb.length).find? (canStart s) = none := by
    rw [List.find?_eq_none]; simp [h]
  simp only [startNext, hfind]

end Sys2Proof.Machine

namespace Sys2Proof.Proofs
open Sys2Proof.Machine

/-- Settles O48: each event's condition, and what the state is once it holds. -/
theorem waitsEndAndResultsLand : Obligations.WaitsEndAndResultsLand := by
  intro k fl s
  refine ⟨frozen_keeps k fl s, fun hf => ⟨fun a full => exec_feRequestServed s a full hf, ?_, ?_, ?_, ?_, ?_, ?_, ?_, ?_, ?_, ?_⟩⟩
  · intro a g y hw
    rw [exec_waitConditionMet s _ hf hw]
    show (if (syncGen s.mem a.toNat != g) = true then _ else _) = (if syncGen s.mem a.toNat = g then _ else _)
    simp only [bne_iff_ne, ne_eq, ite_not]
  · intro b hw
    rw [exec_waitConditionMet s _ hf hw]
    simp only [conditionMet, Option.isNone_iff_eq_none]
  · intro i hw
    rw [exec_waitConditionMet s _ hf hw]
    simp only [conditionMet, cbAnswer_isNone, Bool.not_eq_true', decide_eq_false_iff_not, ite_not]
  · intro i t hw ht
    rw [exec_waitConditionMet s _ hf hw]
    simp only [conditionMet, ht, StageSet.inFlight]
    exact if_congr (decide_eq_true_iff) rfl rfl
  · intro i hw
    rw [exec_waitConditionMet s _ hf hw]; rfl
  · intro hw
    constructor
    · show execFeRequestServed s = _
      simp only [execFeRequestServed, hw, ite_self]; rfl
    · show execWaitConditionMet s = _
      simp only [execWaitConditionMet, hw]; rfl
  · intro p hp
    refine ⟨fun hl ha => exec_scoreboardedResultLanding s k p hf hp hl ha,
      fun hl ha => exec_atomicAcknowledgement s k fl p hf hp hl ha, fun ha => ?_⟩
    exact exec_scoreboardedResultLanding_stays s k hf (by simp [landsAlone, hp, ha])
  · intro hl
    exact ⟨exec_scoreboardedResultLanding_stays s k hf (by simp [landsAlone, hl]),
      exec_atomicAcknowledgement_stays s k fl hf hl⟩
  · intro before p after hsb hb hp hz hfree
    have hc : canStart s before.length = true := by
      rw [canStart_at s before after p hsb, hp, hz]
      simp only [resourceFree, Bool.not_false, Bool.true_and, Bool.and_eq_true, List.all_eq_true, Bool.not_eq_true',
        List.any_eq_false]
      refine ⟨fun x hx => by simp [hb x hx], fun x hx => ?_⟩
      obtain ⟨hmma, htlds, hswap⟩ := hfree x hx
      cases hm : p.isMma with
      | true => simp [hmma hm]
      | false =>
        cases ht : p.isTlds with
        | true => simp [htlds ht]
        | false => simp [hswap hm ht]
    rw [exec_xWordStart s hf, startNext_first s before after p hsb hb hc]
  · intro h
    rw [exec_xWordStart s hf, startNext_none s h]

end Sys2Proof.Proofs
end

section
/-! PROOFS. The events of the clock, of residency and of host translation (R14, R206, R266, R338 to R340). -/

open Sys2Proof.Claims

namespace Sys2Proof.Machine

/-! ### The clock -/

theorem ptpSync_follows (domain : Byte) (master : ClockId) (n : BitVec 16) (x : W64) (s : State)
    (hd : domain = s.clock.domain) (hb : betterClock master s.clock.own = true)
    (hp : ∀ p, s.clock.parent = some p → p = master ∨ betterClock master p = true) :
    ptpSync domain master n x s = onClock (fun c => { c with parent := some master, sync := some (n, x) }) s := by
  unfold ptpSync onClock
  have hf : (match s.clock.parent with
      | some p => p == master || betterClock master p
      | none => true) = true := by
    cases hq : s.clock.parent with
    | none => rfl
    | some p => simpa using hp p hq
  dsimp only
  rw [if_pos]
  simp only [Bool.and_eq_true, beq_iff_eq]
  exact ⟨⟨hd, hb⟩, hf⟩

theorem ptpSync_ignored (domain : Byte) (master : ClockId) (n : BitVec 16) (x : W64) (s : State)
    (h : ¬ (domain = s.clock.domain ∧ betterClock master s.clock.own = true ∧
      ∀ p, s.clock.parent = some p → p = master ∨ betterClock master p = true)) : ptpSync domain master n x s = s := by
  unfold ptpSync onClock
  dsimp only
  rw [if_neg]
  simp only [Bool.and_eq_true, beq_iff_eq]
  rintro ⟨⟨hd, hb⟩, hf⟩
  refine h ⟨hd, hb, fun p hp => ?_⟩
  simpa [hp] using hf

theorem natAbs_le_ten (x : Int) : x.natAbs ≤ 10 ↔ -10 ≤ x ∧ x ≤ 10 := by omega

theorem ptpFollowUp_disciplines (n : BitVec 16) (x y t : W64) (s : State) (h : s.clock.sync = some (n, t)) :
    ptpFollowUp n x y s = onClock (discipline n (t - (x + y + s.clock.linkDelay))) s := by
  simp only [ptpFollowUp, h, beq_self_eq_true, if_true]; rfl

theorem ptpFollowUp_ignored (n : BitVec 16) (x y : W64) (s : State) (h : ∀ t, s.clock.sync ≠ some (n, t)) :
    ptpFollowUp n x y s = s := by
  unfold ptpFollowUp
  split
  · next k t hs =>
    rw [if_neg]
    rw [beq_iff_eq]
    rintro rfl
    exact h t hs
  · rfl

theorem ptpPdelayResp_answers (n : BitVec 16) (x y t : W64) (s : State) (h : s.clock.delayReq = some (n, t)) :
    ptpPdelayResp n x y s = onClock (fun c => { c with delayResp := some (n, x, y) }) s := by
  simp only [ptpPdelayResp, h, beq_self_eq_true, if_true]

theorem ptpPdelayResp_ignored (n : BitVec 16) (x y : W64) (s : State) (h : ∀ t, s.clock.delayReq ≠ some (n, t)) :
    ptpPdelayResp n x y s = s := by
  unfold ptpPdelayResp
  split
  · next k t hs =>
    rw [if_neg]
    rw [beq_iff_eq]
    rintro rfl
    exact h t hs
  · rfl

theorem ptpPdelayDone_measures (n : BitVec 16) (x t1 t2 t4 : W64) (s : State) (hq : s.clock.delayReq = some (n, t1))
    (hr : s.clock.delayResp = some (n, t2, t4)) : ptpPdelayDone n x s = onClock (fun c => { c with
      linkDelay := ((t4 - t1) - (x - t2)) >>> 1, delayReq := none, delayResp := none }) s := by
  simp only [ptpPdelayDone, hq, hr, beq_self_eq_true, Bool.and_self, if_true]

theorem ptpPdelayDone_ignored (n : BitVec 16) (x : W64) (s : State) (h : ∀ t, s.clock.delayReq ≠ some (n, t)) :
    ptpPdelayDone n x s = s := by
  unfold ptpPdelayDone
  split
  · next m t1 k t2 t4 hq hr =>
    rw [if_neg]
    rw [Bool.and_eq_true, beq_iff_eq]
    rintro ⟨rfl, -⟩
    exact h t1 hq
  · rfl

theorem timeProtocolEvents : TimeProtocolEvents := by
  intro n x y s
  refine ⟨fun domain master => ⟨?_, ?_⟩, ?_, ?_, rfl, ?_, ?_, ?_, rfl⟩
  · rintro ⟨hd, hb, hp⟩
    exact congrArg next (ptpSync_follows domain master n x s hd hb hp)
  · intro h
    exact congrArg next (ptpSync_ignored domain master n x s h)
  · intro t ht
    refine ⟨_, congrArg next (ptpFollowUp_disciplines n x y t s ht), rfl, rfl, ?_, rfl, rfl⟩
    exact decide_eq_true_iff.trans (natAbs_le_ten _)
  · intro h
    exact congrArg next (ptpFollowUp_ignored n x y s h)
  · intro t ht
    exact congrArg next (ptpPdelayResp_answers n x y t s ht)
  · intro h
    exact ⟨congrArg next (ptpPdelayResp_ignored n x y s h), congrArg next (ptpPdelayDone_ignored n x s h)⟩
  · intro t1 t2 t4 hq hr
    exact congrArg next (ptpPdelayDone_measures n x t1 t2 t4 s hq hr)

/-! ### Residency -/

/-- Firmware and the host act on a device whose bring-up has not failed. -/
theorem unlessFailed_active (f : State → State) (s : State) (h : active s) : unlessFailed f s = f s := by
  unfold unlessFailed
  split
  · next n hb => exact absurd hb (h n)
  · rfl

/-- The page's bit after it is written. -/
theorem isResident_setResident (m : Mem) (e : Extent) (a : Nat) (b : Bool) :
    isResident (setResident m e a b) e a = (e.attr.getLsbD 5 || b) := by
  have hlt : (a - e.base) / 65536 % 8 < 8 := Nat.mod_lt _ (by decide)
  have hbit : ((1 <<< ((a - e.base) / 65536 % 8) : Nat) : Byte).getLsbD ((a - e.base) / 65536 % 8) = true := by
    rw [BitVec.natCast_eq_ofNat, BitVec.getLsbD_ofNat, Nat.one_shiftLeft, Nat.testBit_two_pow_self, decide_eq_true hlt]; rfl
  unfold isResident setResident Extent.rmap
  dsimp only
  rw [memByte_memWrite, if_pos ⟨Nat.le_refl _, by simp⟩, Nat.sub_self]
  cases b
  · simp only [List.getD_cons_zero, if_neg Bool.false_ne_true, BitVec.getLsbD_and, BitVec.getLsbD_not, hbit, Bool.not_true, Bool.and_false]
  · simp only [List.getD_cons_zero, if_true, BitVec.getLsbD_or, hbit, Bool.or_true]

/-- The agent by which firmware finds the extent of a region's page. -/
def firmwareWho (s : State) (region : W32) : Who := { agent := 0x1FF, xtbl := regionXtbl s region, sup := true }

theorem markPage_covered (region : W32) (page : W64) (b : Bool) (s : State) (e : Extent)
    (h : coverOf s.mem (firmwareWho s region) page.toNat = some e) :
    markPage region page b s = onMem (fun m => setResident m e page.toNat b) s := by
  have h' : coverOf s.mem { regionWho s 0x1FF region with sup := true } page.toNat = some e := h
  simp only [markPage, h']

theorem markPage_host (region : W32) (page : W64) (b : Bool) (s : State) : (markPage region page b s).host = s.host := by
  unfold markPage
  dsimp only
  split <;> rfl

theorem residencyEvents (p : PageEvent) (e : Extent) (fn : Nat) (s : State) (ha : active s)
    (hp : pendingPage s fn p.page = some p) :
    let others := fun (x : PageEvent) => !(x.page == p.page && x.pasid == p.pasid)
    (∃ t, exec (.resfail (fn, p.page)) s = .next t ∧ t.mem = s.mem ∧ t.host.pagesWest = s.host.pagesWest.filter others ∧
      t.host.pagesEast = s.host.pagesEast.filter others) ∧
    (coverOf s.mem (firmwareWho s p.region) p.page.toNat = some e → ∃ t, exec (.resdone (fn, p.page)) s = .next t ∧
      isResident t.mem e p.page.toNat = true ∧ t.mem.spad = s.mem.spad ∧
      t.host.pagesWest = s.host.pagesWest.filter others ∧ t.host.pagesEast = s.host.pagesEast.filter others) := by
  have hfail : exec (.resfail (fn, p.page)) s = .next (dropPage p s) := by
    show Host.Outcome.next (unlessFailed (pageFailed fn p.page) s) = _
    rw [unlessFailed_active _ s ha, pageFailed, hp]
  have hdone : exec (.resdone (fn, p.page)) s = .next (dropPage p (markPage p.region p.page true s)) := by
    show Host.Outcome.next (unlessFailed (pageDone fn p.page) s) = _
    rw [unlessFailed_active _ s ha, pageDone, hp]
  refine ⟨⟨_, hfail, rfl, rfl, rfl⟩, fun hc => ⟨_, hdone, ?_⟩⟩
  rw [markPage_covered p.region p.page true s e hc]
  exact ⟨(isResident_setResident s.mem e p.page.toNat true).trans (Bool.or_true _), rfl, rfl, rfl⟩

theorem residencyRefusalsAndClearing (page : W64) (region : W32) (e : Extent) (fn : Nat) (s : State) (ha : active s) :
    (pendingPage s fn page = none → exec (.resdone (fn, page)) s = next s ∧ exec (.resfail (fn, page)) s = next s) ∧
    (contextPlaced s region = true → exec (.residencyBitClear region page) s = next s) ∧
    (contextPlaced s region = false → coverOf s.mem (firmwareWho s region) page.toNat = some e →
      e.attr.getLsbD 5 = false → ∃ t, exec (.residencyBitClear region page) s = .next t ∧
        isResident t.mem e page.toNat = false ∧ t.mem.spad = s.mem.spad ∧ t.seq = s.seq) := by
  have hclear : exec (.residencyBitClear region page) s = next (clearPage region page s) :=
    congrArg next (unlessFailed_active _ s ha)
  refine ⟨fun hp => ⟨?_, ?_⟩, fun hp => ?_, fun hp hc hr => ⟨_, hclear, ?_⟩⟩
  · refine congrArg next ((unlessFailed_active _ s ha).trans ?_)
    simp only [pageDone, hp]
  · refine congrArg next ((unlessFailed_active _ s ha).trans ?_)
    simp only [pageFailed, hp]
  · rw [hclear, clearPage, if_pos hp]
  · rw [clearPage, if_neg (by simp [hp]), markPage_covered region page false s e hc]
    refine ⟨(isResident_setResident s.mem e page.toNat false).trans ?_, rfl, rfl⟩
    rw [hr]; rfl

/-! ### Host translation -/

/-- The requests that a test picks come to another phase now. -/
def rephase (test : AtsRequest → Bool) (f : AtsPhase → AtsPhase) (s : State) (h : HostPort) : HostPort :=
  { h with requests := h.requests.map (fun r => if test r then { r with phase := f r.phase, since := s.clock.time } else r) }

theorem onRequests_eq (test : AtsRequest → Bool) (f : AtsPhase → AtsPhase) (s : State) :
    onRequests test f s = onHost (rephase test f s) s := rfl

theorem onRequests_congr (test test' : AtsRequest → Bool) (f : AtsPhase → AtsPhase) (s : State)
    (h : ∀ r ∈ s.host.requests, test r = test' r) : onRequests test f s = onRequests test' f s := by
  have hm : s.host.requests.map (fun r => if test r then { r with phase := f r.phase, since := s.clock.time } else r) =
      s.host.requests.map (fun r => if test' r then { r with phase := f r.phase, since := s.clock.time } else r) :=
    List.map_congr_left (fun r hr => by rw [h r hr])
  exact congrArg (fun rs => onHost (fun h => { h with requests := rs }) s) hm

theorem onRequests_none (test : AtsRequest → Bool) (f : AtsPhase → AtsPhase) (s : State)
    (h : ∀ r ∈ s.host.requests, test r = false) : onRequests test f s = s := by
  have hm : s.host.requests.map (fun r => if test r then { r with phase := f r.phase, since := s.clock.time } else r) =
      s.host.requests := by
    refine (List.map_congr_left (fun r hr => ?_)).trans (List.map_id _)
    rw [h r hr]; rfl
  exact congrArg (fun rs => onHost (fun h => { h with requests := rs }) s) hm

theorem mem_addTlb (cap : Nat) (e : TlbEntry) (es : List TlbEntry) : e ∈ addTlb cap e es :=
  List.mem_append_right _ (List.mem_singleton_self e)

theorem atsAnswer_unasked (pasid : BitVec 20) (va phys : W64) (size : Nat) (write : Bool) (s : State)
    (h : ∀ r ∈ s.host.requests, requestIn pasid va [.ats, .atsAgain] r = false) :
    atsAnswer pasid va size phys write s = s := by
  have hany : s.host.requests.any (requestIn pasid va [.ats, .atsAgain]) = false := by simpa using h
  simp only [atsAnswer, hany, Bool.not_false, if_true]

theorem atsAnswer_granted (pasid : BitVec 20) (va phys : W64) (size : Nat) (s : State)
    (h : ∃ r ∈ s.host.requests, requestIn pasid va [.ats, .atsAgain] r = true) (hs : atsSizeOk size = true) :
    let t := atsAnswer pasid va size phys true s
    t.host.requests = s.host.requests.filter (fun r => !requestIn pasid va [.ats, .atsAgain] r) ∧ t.mem = s.mem ∧
      { pasid := pasid, base := BitVec.ofNat 64 (va.toNat / size * size), size := size,
        phys := BitVec.ofNat 64 (phys.toNat / size * size), write := true } ∈ t.host.tlb := by
  have hany : s.host.requests.any (requestIn pasid va [.ats, .atsAgain]) = true := by simpa using h
  simp only [atsAnswer, hany, hs, Bool.not_true, Bool.and_self, if_true, if_neg Bool.false_ne_true, onHost_host]
  cases s.east
  · exact ⟨rfl, onHost_mem _ _, mem_addTlb 192 _ _⟩
  · exact ⟨rfl, onHost_mem _ _, mem_addTlb 192 _ _⟩

theorem atsAnswer_refused (pasid : BitVec 20) (va phys : W64) (size : Nat) (s : State)
    (h : ∃ r ∈ s.host.requests, requestIn pasid va [.ats, .atsAgain] r = true) :
    atsAnswer pasid va size phys false s =
      onRequests (requestIn pasid va [.ats, .atsAgain]) (fun p => if p = .ats then .pri else .refused) s := by
  have hany : s.host.requests.any (requestIn pasid va [.ats, .atsAgain]) = true := by simpa using h
  simp only [atsAnswer, hany, Bool.not_true, Bool.false_and, if_neg Bool.false_ne_true, beq_iff_eq]

/-- An invalidation drops what it meets, delivers the stores that used it, and returns its completion. -/
theorem atsInvalidate_drops (pasid : BitVec 20) (base : W64) (len : Nat) (s : State) :
    let stays := fun (e : TlbEntry) => !(e.pasid == pasid && rangesMeet e.base.toNat e.size base.toNat len)
    let t := atsInvalidate pasid base len s
    t.mem = s.mem ∧ t.seq = s.seq ∧ t.host.tlb = s.host.tlb.filter stays ∧
      t.host.tlbWest = s.host.tlbWest.filter stays ∧ t.host.tlbEast = s.host.tlbEast.filter stays ∧
      t.host.delivered ++ t.host.posted = s.host.delivered ++ s.host.posted ∧
      t.host.completions = s.host.completions ++ [(pasid, base, len)] := by
  refine ⟨rfl, rfl, rfl, rfl, rfl, ?_, rfl⟩
  have key : ∀ n, (s.host.delivered ++ s.host.posted.take n) ++ s.host.posted.drop n = s.host.delivered ++ s.host.posted :=
    fun n => by rw [List.append_assoc, List.take_append_drop]
  exact key _

theorem residencyAndHostTranslationEvents : ResidencyAndHostTranslationEvents := by
  refine ⟨fun p e fn s ha hp => residencyEvents p e fn s ha hp,
    fun page region e fn s ha => residencyRefusalsAndClearing page region e fn s ha, ?_,
    fun pasid base len s => ⟨_, rfl, atsInvalidate_drops pasid base len s⟩⟩
  intro pasid va phys size write s
  refine ⟨fun h => congrArg next (atsAnswer_unasked pasid va phys size write s h), fun h => ⟨?_, ?_⟩, ?_, ?_, ?_, ?_⟩
  · rintro rfl hs
    exact ⟨_, rfl, atsAnswer_granted pasid va phys size s h hs⟩
  · rintro rfl
    exact congrArg next (atsAnswer_refused pasid va phys size s h)
  · rfl
  · rfl
  · intro h
    refine congrArg next (onRequests_congr _ (requestIn pasid va [.pri]) _ s (fun r hr => ?_))
    cases hm : requestIn pasid va [.pri] r with
    | false => rfl
    | true => simpa using h r hr hm
  · intro h
    refine congrArg next (onRequests_none _ _ s (fun r hr => ?_))
    cases hm : requestIn pasid va [.pri] r with
    | false => rfl
    | true => simpa using h r hr hm

end Sys2Proof.Machine

namespace Sys2Proof.Proofs

/-- Settles O60: the messages of the time protocol, and those of residency and of host translation. -/
theorem timeResidencyAndHostEvents : Obligations.TimeResidencyAndHostEvents :=
  ⟨Machine.timeProtocolEvents, Machine.residencyAndHostTranslationEvents⟩

end Sys2Proof.Proofs
end

section
/-! PROOFS. The nullifier, the clamp, due traps, pre-emption requests and machine checks (R8, R69, R86, R292, R318, R324,
R325, R334, R341). -/

open Sys2Proof.Claims

namespace Sys2Proof.Machine

/-! ### What a charge and a fetch leave alone -/

theorem takeBoundary_fw_only (east : Bool) (s : State) : takeBoundary east s = { s with fw := (takeBoundary east s).fw } := by
  unfold takeBoundary
  split <;> rfl

/-- A charge is to firmware's counters alone. -/
theorem charge_fw_only (east : Bool) (region : W32) (act cost : Nat) (s : State) :
    charge east region act cost s = { s with fw := (charge east region act cost s).fw } := by
  unfold charge
  split
  · rfl
  · split
    · rw [takeBoundary_fw_only]; rfl
    · rfl

@[simp] theorem charge_seq (east : Bool) (region : W32) (act cost : Nat) (s : State) :
    (charge east region act cost s).seq = s.seq := by rw [charge_fw_only]

@[simp] theorem charge_mem (east : Bool) (region : W32) (act cost : Nat) (s : State) :
    (charge east region act cost s).mem = s.mem := by rw [charge_fw_only]

@[simp] theorem charge_copy (east : Bool) (region : W32) (act cost : Nat) (s : State) :
    (charge east region act cost s).copy = s.copy := by rw [charge_fw_only]

/-- Of the sequencer a fetch changes the instruction cache alone. -/
theorem fetched_seq (s : State) : (fetched s).seq = { s.seq with icache := (fetched s).seq.icache } := by
  unfold fetched
  dsimp only
  split
  · split <;> rfl
  · rw [charge_seq]; rfl

/-! ### The nullifier -/

/-- Removing a group moves the program counter, the place in the packet and the loop stack. -/
theorem removeGroup_moves (n : Nat) (s : State) :
    let t := removeGroup n s
    t = { s with seq := { s.seq with
      pc := t.seq.pc, gpos := t.seq.gpos, loops := t.seq.loops, resumeDone := 0, wait := none } } ∧
    (s.seq.gpos + n < 3 → t.seq.pc = s.seq.pc ∧ t.seq.gpos = s.seq.gpos + n ∧ t.seq.loops = s.seq.loops) ∧
    (3 ≤ s.seq.gpos + n → s.seq.loops = [] → t.seq.pc = s.seq.pc + 1 ∧ t.seq.gpos = 0) := by
  by_cases h : s.seq.gpos + n < 3
  · have ht : removeGroup n s = onSeq (fun q => { q with gpos := s.seq.gpos + n, resumeDone := 0, wait := none }) s := by
      simp only [removeGroup, fallThrough, onSeq, h, if_true]
    rw [ht]
    exact ⟨rfl, fun _ => ⟨rfl, rfl, rfl⟩, fun h' => absurd h (Nat.not_lt.2 h')⟩
  · have ht : removeGroup n s = onSeq (fun q => { q with
        gpos := 0, loops := (endOfBody s.seq.pc s.seq.loops).1, pc := (endOfBody s.seq.pc s.seq.loops).2
        resumeDone := 0, wait := none }) s := by
      simp only [removeGroup, fallThrough, onSeq, h, if_false]
    rw [ht]
    refine ⟨rfl, fun h' => absurd h' h, fun _ hl => ⟨?_, rfl⟩⟩
    simp only [onSeq_seq, hl, endOfBody]

theorem lookAheadNullifier_removes (s : State) (hr : isRunning s = true) (hf : frozen s = false)
    (hff : fetchFailure s = none) (ha : fetchAdmitted s = true) (hn : nullified s (groupWords s) = true) :
    exec .lookAheadNullifier s = .next (removeGroup (groupWords s).length (fetched s)) := by
  show execLookAheadNullifier s = _
  rw [execLookAheadNullifier, if_pos]
  simp [hr, hf, hff, ha, hn]

/-! ### The error map -/

theorem errmapWord_setErrmap (f : Firmware) (bay index : Nat) (x : W64) (hb : bay < 160) (hi : index < 134) :
    errmapWord (setErrmap f bay index x) bay index = x := by
  unfold errmapWord setErrmap
  have hin : (decide (bay < 160) && decide (index < 134)) = true := by simp [hb, hi]
  dsimp only
  rw [if_pos hin]
  have hnone : ∀ p : Nat × Nat × W64 → Bool, ((f.errmap.filter (fun e => !(e.1 == bay && e.2.1 == index))).filter p).find?
      (fun e => e.1 == bay && e.2.1 == index) = none := by
    intro p
    rw [List.find?_eq_none]
    intro e he
    have := (List.mem_filter.1 (List.mem_filter.1 he).1).2
    simpa [or_iff_not_imp_left] using this
  by_cases hx : x = 0
  · have hn := hnone (fun _ => true)
    rw [List.filter_true] at hn
    rw [if_pos (by simpa using hx), hn, hx]
  · rw [if_neg (by simpa using hx), List.append_assoc, List.find?_append, hnone]
    simp

/-- An error of an index is counted for its bay. -/
theorem errmapWord_countErrmap (bay index : Nat) (s : State) (hb : bay < 160) (hi : index < 134) :
    errmapWord (countErrmap bay index s).fw bay index = errmapWord s.fw bay index + 1 := by
  simp only [countErrmap, onFw_fw, hb, if_true]
  exact errmapWord_setErrmap _ _ _ _ hb hi

theorem correctableSramError_counts (reader : SramReader) (bay : Nat) (s : State) (hb : bay < 160) :
    ∃ t, exec (.correctableSramError reader bay) s = .next t ∧
      errmapWord t.fw bay 131 = errmapWord s.fw bay 131 + 1 ∧ t.mem = s.mem ∧
      t.seq = if reader = .bay ∧ bay = s.seq.bayId.toNat then { s.seq with corrections := s.seq.corrections ++ [32] }
        else s.seq := by
  refine ⟨_, rfl, ?_⟩
  have hc : (countErrmap bay 131 s).seq = s.seq := rfl
  by_cases h : reader = .bay ∧ bay = s.seq.bayId.toNat
  · rw [if_pos h, if_pos (by simpa [hc] using h)]
    exact ⟨errmapWord_countErrmap bay 131 s hb (by decide), rfl, rfl⟩
  · rw [if_neg h, if_neg (by simpa [hc] using h)]
    exact ⟨errmapWord_countErrmap bay 131 s hb (by decide), rfl, rfl⟩

theorem residueGuardMismatch_counts (v : Bool) (s : State) (hb : s.seq.bayId.toNat < 160) :
    ∃ t, exec (.residueGuardMismatch v false) s = .next t ∧
      errmapWord t.fw s.seq.bayId.toNat 133 = errmapWord s.fw s.seq.bayId.toNat 133 + 1 ∧ t.mem = s.mem ∧
      t.seq = if v then { s.seq with residue := 8 } else s.seq := by
  have hc := errmapWord_countErrmap s.seq.bayId.toNat 133 s hb (by decide)
  cases v <;> exact ⟨_, rfl, hc, rfl, rfl⟩

/-! ### Cycles that the clamp holds -/

theorem correctionHoldEnd_passes (s : State) (h : 1 ∈ s.seq.corrections) (hs : s.seq.stopped = false) :
    exec .correctionHoldEnd s = next (heldCycle s) := by
  show execCorrectionHoldEnd s = _
  rw [execCorrectionHoldEnd, if_pos (by simp [h, hs])]; rfl

theorem residueHoldEnd_passes (s : State) (h : s.seq.residue = 1) (hs : s.seq.stopped = false) :
    exec .residueHoldEnd s = next (heldCycle s) := by
  show execResidueHoldEnd s = _
  rw [execResidueHoldEnd, if_pos (by simp [h, hs])]; rfl

theorem correctionHoldEnd_keeps (s : State) (h : 1 ∉ s.seq.corrections) : exec .correctionHoldEnd s = next s := by
  show execCorrectionHoldEnd s = _
  rw [execCorrectionHoldEnd, if_neg (by simp [h])]; rfl

theorem residueHoldEnd_keeps (s : State) (h : s.seq.residue ≠ 1) : exec .residueHoldEnd s = next s := by
  show execResidueHoldEnd s = _
  rw [execResidueHoldEnd, if_neg (by simp [h])]; rfl

/-! ### Traps that are due -/

theorem exec_trapEntry (s : State) (hr : isRunning s = true) (hf : frozen s = false) : exec .trapEntry s =
    next (match boundaryCause s with
      | some (t, s') => deliverTrap t 0 s'
      | none => match fetchFailure s with
        | some t => deliverTrap t 0 s
        | none => s) := by
  show execTrapEntry s = _
  rw [execTrapEntry, hf, if_neg Bool.false_ne_true, trapDue, hr]
  rfl

theorem boundaryCause_none (s : State)
    (h : s.seq.supervisor = true ∨ (s.seq.engineFaults = [] ∧ s.seq.record.malformed = false)) : boundaryCause s = none := by
  unfold boundaryCause
  rcases h with h | ⟨hf, hm⟩
  · rw [if_pos h]
  · rw [hf, hm]; exact ite_self none

/-! ### Units of dispatch -/

/-- A unit's record after one is changed whose key stays. -/
theorem unitOf_onUnit (k j : Nat) (f : UnitRec → UnitRec) (s : State) (hf : ∀ u, (f u).key = u.key) :
    unitOf (onUnit k f s) j = (unitOf s j).map (fun u => if j = k then f u else u) := by
  show (s.disp.units.map (fun u => if u.key == k then f u else u)).find? (·.key == j) = _
  rw [List.find?_map]
  have hkey : ((fun u : UnitRec => u.key == j) ∘ fun u => if u.key == k then f u else u) = (·.key == j) := by
    funext u
    simp only [Function.comp_apply]
    split
    · rw [hf]
    · rfl
  rw [hkey]
  unfold unitOf
  cases hu : s.disp.units.find? (·.key == j) with
  | none => rfl
  | some u =>
    have : u.key = j := by simpa using List.find?_some hu
    simp [this]

theorem unitOf_onUnit_other (k j : Nat) (f : UnitRec → UnitRec) (s : State) (hf : ∀ u, (f u).key = u.key) (h : j ≠ k) :
    unitOf (onUnit k f s) j = unitOf s j := by
  rw [unitOf_onUnit k j f s hf]
  simp [h]

theorem unitOf_key (s : State) (k : Nat) (u : UnitRec) (h : unitOf s k = some u) : u.key = k := by
  simpa using List.find?_some h

/-- The bay's own unit is the one its sequencer names. -/
theorem seq_unit_of_placedUnit (s : State) (u : UnitRec) (h : placedUnit s = some u) : s.seq.unit = some u.key := by
  unfold placedUnit at h
  split at h
  · next k hk => rw [hk, unitOf_key s k u h]
  · exact absurd h (by simp)

/-- The bay's own unit is asked by its sequencer's request. -/
theorem askUnit_hard_own (u : UnitRec) (s : State) (h : s.seq.unit = some u.key) :
    (askUnit .hard u s).seq = { s.seq with preempt := some .hard, cpycHold := false } ∧ (askUnit .hard u s).mem = s.mem := by
  unfold askUnit
  by_cases ha : (askedOf s u).isNone = true
  · simp [ha, h, onUnit]
  · simp [ha, h]

theorem askUnit_elsewhere (kind : Preempt) (u : UnitRec) (s : State) :
    (askUnit kind u s).disp.elsewhere = s.disp.elsewhere := by
  unfold askUnit
  dsimp only
  split <;> split <;> rfl

theorem unitOf_askUnit_other (kind : Preempt) (u : UnitRec) (k : Nat) (s : State) (h : k ≠ u.key) :
    unitOf (askUnit kind u s) k = unitOf s k := by
  unfold askUnit
  dsimp only
  have hu : ∀ f s, (∀ v : UnitRec, (f v).key = v.key) → unitOf (onUnit u.key f s) k = unitOf s k :=
    fun f s hf => unitOf_onUnit_other u.key k f s hf h
  split <;> split
  · exact hu _ s (fun _ => rfl)
  · refine (hu _ _ ?_).trans (hu _ s ?_) <;> exact fun _ => rfl
  · rfl
  · exact hu _ s (fun _ => rfl)

/-- Asking the members of a gang that stand on bays leaves a unit alone that stands on none. -/
theorem takeGang_other (launch idx k : Nat) (kind : Preempt) (s : State)
    (h : ∀ x ∈ s.disp.units, x.key = k → x.phase ≠ .placed) :
    unitOf (takeGang launch idx kind s) k = unitOf s k ∧
      (takeGang launch idx kind s).disp.elsewhere = s.disp.elsewhere := by
  have key : ∀ (us : List UnitRec) (s : State), (∀ x ∈ us, k ≠ x.key) →
      unitOf (us.foldl (fun s u => askUnit kind u s) s) k = unitOf s k ∧
        (us.foldl (fun s u => askUnit kind u s) s).disp.elsewhere = s.disp.elsewhere := by
    intro us
    induction us with
    | nil => exact fun s _ => ⟨rfl, rfl⟩
    | cons x us ih =>
      intro s hx
      obtain ⟨h1, h2⟩ := ih (askUnit kind x s) (fun y hy => hx y (List.mem_cons_of_mem _ hy))
      exact ⟨h1.trans (unitOf_askUnit_other kind x k s (hx x List.mem_cons_self)), h2.trans (askUnit_elsewhere kind x s)⟩
  refine key _ s (fun x hx hk => ?_)
  obtain ⟨hin, hp⟩ := List.mem_filter.1 hx
  exact h x (List.mem_filter.1 hin).1 hk.symm (by simpa using hp)

/-- A unit of another bay that leaves stands as saved, and is asked no more. -/
theorem leaveOther_saves (phase : UnitPhase) (waiting : Option (W64 × W32)) (u : UnitRec) (s : State)
    (hp : phase ≠ .placed) (hu : unitOf s u.key = some u) :
    let t := leaveOther phase waiting u s
    t.disp.elsewhere = s.disp.elsewhere ∧ (unitOf t u.key).map (fun x => (x.phase, x.asked)) = some (phase, none) := by
  have hkept : ∀ (f : UnitRec → UnitRec), (∀ v, (f v).key = v.key) → (∀ v, (f v).phase = phase) →
      (setLast u.bay (some u.key) (onUnit u.key f s)).disp.elsewhere = s.disp.elsewhere ∧
      unitOf (setLast u.bay (some u.key) (onUnit u.key f s)) u.key = some (f u) ∧
      ∀ x ∈ (setLast u.bay (some u.key) (onUnit u.key f s)).disp.units, x.key = u.key → x.phase ≠ .placed := by
    intro f hk hph
    have hdisp : (setLast u.bay (some u.key) (onUnit u.key f s)).disp.elsewhere = s.disp.elsewhere ∧
        (setLast u.bay (some u.key) (onUnit u.key f s)).disp.units = (onUnit u.key f s).disp.units := by
      unfold setLast
      split <;> exact ⟨rfl, rfl⟩
    refine ⟨hdisp.1, ?_, ?_⟩
    · rw [unitOf, hdisp.2]
      have := unitOf_onUnit u.key u.key f s hk
      rw [hu] at this
      simpa [unitOf] using this
    · rw [hdisp.2]
      intro x hx hxk
      obtain ⟨y, -, rfl⟩ := List.mem_map.1 hx
      by_cases hy : y.key = u.key
      · simp only [hy, beq_self_eq_true, if_true, hph]
        exact hp
      · simp [hy] at hxk
  unfold leaveOther
  obtain ⟨helse, hunit, hoff⟩ := hkept (fun u => { u with
    phase := phase, asked := none, waiting := waiting, readyAt := none, since := s.clock.time, aged := 0 })
    (fun _ => rfl) (fun _ => rfl)
  obtain ⟨h1, h2⟩ := takeGang_other u.launch u.idx u.key (if phase == .savedHard then .hard else .soft) _ hoff
  exact ⟨h2.trans helse, by rw [h1, hunit]; rfl⟩

theorem preemptionRequest_own (u : UnitRec) (s : State) (hr : isRunning s = true) (he : s.disp.elsewhere = [])
    (hp : placedUnit s = some u) : ∃ t, exec .preemptionRequest s = .next t ∧
      t.mem = s.mem ∧ t.seq = { s.seq with preempt := some .hard, cpycHold := false } := by
  obtain ⟨hseq, hmem⟩ := askUnit_hard_own u s (seq_unit_of_placedUnit s u hp)
  refine ⟨askUnit .hard u s, ?_, hmem, hseq⟩
  show execPreemptionRequest s = _
  simp only [execPreemptionRequest, aboutUnit, he, hp, hr, if_true]

theorem preemptionRequest_other (u : UnitRec) (rest : List (Option Nat)) (s : State)
    (he : s.disp.elsewhere = some u.key :: rest) (hu : unitOf s u.key = some u) (hp : u.phase = .placed)
    (hb : u.bay ≠ s.seq.bayId.toNat) (ha : u.asked = some .hard) : ∃ t, exec .preemptionRequest s = .next t ∧
      t.disp.elsewhere = rest ∧ (unitOf t u.key).map (fun x => (x.phase, x.asked)) = some (.savedHard, none) := by
  have hu' : unitOf (onDisp (fun d => { d with elsewhere := rest }) s) u.key = some u := hu
  refine ⟨leaveOther .savedHard none u (onDisp (fun d => { d with elsewhere := rest }) s), ?_,
    leaveOther_saves .savedHard none u _ (by decide) hu'⟩
  show execPreemptionRequest s = _
  simp only [execPreemptionRequest, aboutUnit, he, otherLeaves, hu']
  rw [if_pos]
  simp [hp, hb, ha]

/-! ### Machine checks -/

/-- The causes of a bay's machine check that come about of themselves. -/
theorem exec_machineCheck_bay (d : BitVec 6) (x : W64) (s : State) (hs : s.seq.stopped = false)
    (hd : d = 2 ∨ d = 3 ∨ d = 4 ∨ d = 7) : exec (.machineCheck .bay d x) s = next (machineCheck d x s) := by
  show execMachineCheck .bay d x s = _
  simp only [execMachineCheck]
  rw [if_pos]
  · rfl
  · rcases hd with rfl | rfl | rfl | rfl <;> simp [hs]

/-- A machine check of the bay with what is killed taken apart. -/
theorem machineCheck_eq (d : BitVec 6) (x : W64) (s : State) :
    let halted := onSeq (fun q => { q with stopped := true, group := Group.closed }) (onFw (fun f => { f with checks :=
      f.checks ++ [{ detail := d, bay := s.seq.bayId, epc := s.seq.epc, einfo := x }] }) s)
    (checkUnitOf s = none → machineCheck d x s = halted) ∧
    ∀ u, checkUnitOf s = some u →
      machineCheck d x s = if u.domain = 0 then killDomain u.region halted else killBeneath u.domain halted := by
  refine ⟨fun h => ?_, fun u h => ?_⟩
  · unfold machineCheck
    rw [h]
  · unfold machineCheck
    rw [h]
    exact if_congr beq_iff_eq rfl rfl

theorem badByte_damage (m : Mem) (a : Nat) : ((m.damage (a / 8)).badByte a 1).isSome = true := by
  unfold Mem.badByte Mem.damage
  rw [Option.isSome_map, List.find?_isSome]
  exact ⟨a / 8, by simp, by simp; omega⟩

end Sys2Proof.Machine

namespace Sys2Proof.Proofs
open Sys2Proof.Machine

/-- Settles O49: each event's condition, and the state it leaves. -/
theorem clampAndTrapEvents : Obligations.ClampAndTrapEvents := by
  intro reader bay d x h s
  refine ⟨?_, correctableSramError_counts reader bay s, fun hb v => residueGuardMismatch_counts v s hb,
    ⟨correctionHoldEnd_passes s, residueHoldEnd_passes s, correctionHoldEnd_keeps s, residueHoldEnd_keeps s⟩, ?_, ?_,
    fun u => preemptionRequest_own u s, fun u rest => preemptionRequest_other u rest s, ?_, ?_, ?_, ?_, rfl, rfl⟩
  · intro hr hf hff ha hn
    refine ⟨_, lookAheadNullifier_removes s hr hf hff ha hn, ?_⟩
    obtain ⟨hmove, hsame, hnext⟩ := removeGroup_moves (groupWords s).length (fetched s)
    rw [fetched_seq s] at hsame hnext
    exact ⟨hmove, hsame, hnext⟩
  · intro hf
    constructor
    · show execTrapEntry s = _
      rw [execTrapEntry, hf]; rfl
    · show execLookAheadNullifier s = _
      rw [execLookAheadNullifier, hf]; simp; rfl
  · intro hr hf
    refine ⟨fun t rest hsup he => ?_, fun hsup he hm => ?_, fun hc => ⟨fun hff => ?_, fun t hff => ?_⟩⟩
    · rw [exec_trapEntry s hr hf]
      simp only [boundaryCause, hsup, he]; rfl
    · rw [exec_trapEntry s hr hf]
      simp only [boundaryCause, hsup, he, hm]; rfl
    · rw [exec_trapEntry s hr hf, boundaryCause_none s hc, hff]
    · rw [exec_trapEntry s hr hf, boundaryCause_none s hc, hff]
  · intro hs hd
    obtain ⟨hnone, hsome⟩ := machineCheck_eq d x s
    rw [exec_machineCheck_bay d x s hs hd]
    exact ⟨fun hu => congrArg next (hnone hu), fun u hu => congrArg next (hsome u hu)⟩
  · intro hs
    rw [exec_machineCheck_bay 0x07 0 s hs (by decide)]; rfl
  · rintro rfl
    rfl
  · intro hb
    refine ⟨onMem (fun m => m.damage (bay / 8)) s, ?_, rfl, badByte_damage s.mem bay, rfl⟩
    show execMachineCheck (.slice bay) d x s = _
    simp only [execMachineCheck, hb, if_true]

end Sys2Proof.Proofs
end

section
/-! PROOFS. The copy engine's events (R8, R186 to R189, R295, R296, R324, R326, R334). -/

open Sys2Proof.Claims

namespace Sys2Proof.Machine

/-! ### The parts of the state that the engine's operations touch -/

theorem countStall_fw_only (east : Bool) (region : W32) (s : State) :
    countStall east region s = { s with fw := (countStall east region s).fw } := by
  unfold countStall
  split <;> rfl

/-- An arrival is counted in memory, and publishes for the receive windows of its sync word. -/
theorem countArrival_refl_mem (a n : Nat) (s : State) :
    countArrival a n s = { s with refl := (countArrival a n s).refl, mem := (countArrival a n s).mem } := by
  unfold countArrival
  dsimp only
  split <;> rfl

@[simp] theorem countArrival_copy (a n : Nat) (s : State) : (countArrival a n s).copy = s.copy := by
  rw [countArrival_refl_mem]

@[simp] theorem countArrival_seq (a n : Nat) (s : State) : (countArrival a n s).seq = s.seq := by
  rw [countArrival_refl_mem]

/-- An arrival neither reads nor changes the copy engine. -/
theorem countArrival_onCopy (a n : Nat) (f : Copy → Copy) (s : State) :
    countArrival a n (onCopy f s) = onCopy f (countArrival a n s) := by
  unfold countArrival
  dsimp only [onCopy_mem]
  split <;> rfl

/-- The test of an engine's reads in a bay that stands still for nothing. -/
theorem checkedEngine_eq (f : State → State) (s t : State) (h : f s = t) (hs : t.seq.stopped = false) :
    checkedEngine f s = if copyDamaged t then machineCheck 0x04 0 t else t := by
  simp only [checkedEngine, h, hs, Bool.not_false, Bool.and_true]

theorem stopped_of_engineHeld {s : State} (h : engineHeld s = false) : s.seq.stopped = false := by
  simp only [engineHeld, frozen, Bool.or_eq_false_iff] at h
  exact h.2.2

theorem copyDamaged_of_headDamaged {s : State} (h : headDamaged s = true) : copyDamaged s = true := by
  unfold copyDamaged
  rw [h]; rfl

/-! ### Events of an engine that stands still -/

theorem engineHeld_keeps (s : State) (h : engineHeld s = true) :
    ∀ i ∈ [Instr.copyOperationStart, .copyOperationComplete, .cpyaFire, .copyEngineFault], exec i s = next s := by
  simp only [List.forall_mem_cons, List.not_mem_nil, false_implies, implies_true, and_true]
  refine ⟨?_, ?_, ?_, ?_⟩
  · show execCopyOperationStart s = _
    rw [execCopyOperationStart, h]; rfl
  · show execCopyOperationComplete s = _
    rw [execCopyOperationComplete, h]; rfl
  · show execCpyaFire s = _
    rw [execCpyaFire, h]; rfl
  · show execCopyEngineFault s = _
    rw [execCopyEngineFault, h]; rfl

theorem exec_copyOperationStart (s : State) (h : engineHeld s = false) :
    exec .copyOperationStart s = next (checkedEngine copyStart s) := by
  show execCopyOperationStart s = _
  rw [execCopyOperationStart, h]; rfl

theorem exec_cpycHoldEnd_keeps (s : State) (h : s.seq.cpycHold = false) : exec .cpycHoldEnd s = next s := by
  show execCpycHoldEnd s = _
  rw [execCpycHoldEnd, copyRetest, h]; rfl

theorem exec_cpycHoldEnd (s : State) (h : s.seq.cpycHold = true) : exec .cpycHoldEnd s = next (copyStart s) := by
  show execCpycHoldEnd s = _
  rw [execCpycHoldEnd, copyRetest, h]; rfl

/-! ### Starts -/

/-- The state in which the head operation has started with n bytes to move. -/
def startedHead (op : CopyOp) (rest : List CopyOp) (n : Nat) (s : State) : State :=
  charge s.east s.regionHandle 3 n
    (onCopy (fun c => { c with queue := { op with started := true, total := n, waiting := false } :: rest })
      (onSeq (fun q => { q with cpycHold := false }) s))

/-- The state in which the head operation waits for its budget, counted once. -/
def waitingHead (op : CopyOp) (rest : List CopyOp) (s : State) : State :=
  countStall s.east s.regionHandle (onCopy (fun c => { c with queue := { op with waiting := true } :: rest })
    (onSeq (fun q => { q with cpycHold := false }) s))

section Start

variable {op : CopyOp} {rest : List CopyOp} {s : State}

/-- A head operation that runs, is not due, is withdrawn or reads a damaged word does not start. -/
theorem copyStart_keeps (hq : s.copy.queue = op :: rest) (h : op.started = true ∨ op.left ≠ 0 ∨
    (op.kind = .lockstep ∧ startWithdrawn s = true) ∨ headDamaged s = true) : copyStart s = s := by
  unfold copyStart
  rw [hq]
  dsimp only
  rw [if_pos]
  simp only [Bool.or_eq_true, Bool.and_eq_true, bne_iff_ne, beq_iff_eq]
  tauto

/-- The conditions of a start that is tested. -/
def startDue (op : CopyOp) (s : State) : Prop :=
  op.started = false ∧ op.left = 0 ∧ (op.kind = .lockstep → startWithdrawn s = false) ∧ headDamaged s = false

theorem startDue_test (h : startDue op s) :
    (op.started || op.left != 0 || (op.kind == .lockstep && startWithdrawn s) || headDamaged s) = false := by
  obtain ⟨hs, hl, hw, hd⟩ := h
  rw [hs, hl, hd]
  by_cases hk : op.kind = .lockstep
  · simp [hw hk]
  · simp [hk]

/-- A start with n bytes to move, by its test or by its descriptor: its budget admits it, or it waits. -/
theorem copyStart_tested (hq : s.copy.queue = op :: rest) (h : startDue op s) (n : Nat)
    (ht : (if op.kind == .lockstep then lockstepTest op s else .inr (some op.total)) = .inr (some n)) :
    copyStart s =
      if admitted (onFw settleCharges s) s.east s.regionHandle 3 then startedHead op rest n s
      else if op.waiting then onSeq (fun q => { q with cpycHold := false }) s
      else waitingHead op rest s := by
  unfold copyStart
  rw [hq]
  dsimp only
  rw [startDue_test h, if_neg Bool.false_ne_true, ht]
  have hset : ∀ o, setHead o (onSeq (fun q => { q with cpycHold := false }) s) =
      onCopy (fun c => { c with queue := o :: rest }) (onSeq (fun q => { q with cpycHold := false }) s) := by
    intro o
    simp only [setHead, onCopy, onSeq, hq]
  dsimp only
  rw [hset, hset]
  rfl

/-- A test that finds too little holds the clamp. -/
theorem copyStart_holds (hq : s.copy.queue = op :: rest) (h : startDue op s) (hk : op.kind = .lockstep)
    (ht : lockstepTest op s = .inr none) : copyStart s = onSeq (fun q => { q with cpycHold := true }) s := by
  unfold copyStart
  rw [hq]
  dsimp only
  rw [startDue_test h, if_neg Bool.false_ne_true, hk, ht]
  rfl

theorem onSeq_cpycHold_self (h : s.seq.cpycHold = true) : onSeq (fun q => { q with cpycHold := true }) s = s := by
  rw [← h]; rfl

theorem stopped_startedHead (n : Nat) (h : s.seq.stopped = false) : (startedHead op rest n s).seq.stopped = false := by
  unfold startedHead
  rw [charge_seq]
  exact h

theorem waitingHead_eq : waitingHead op rest s = { s with
    seq := { s.seq with cpycHold := false }
    copy := { s.copy with queue := { op with waiting := true } :: rest }
    fw := (waitingHead op rest s).fw } := by
  unfold waitingHead
  rw [countStall_fw_only]; rfl

/-- What an engine reads of its head operation does not depend on its note of a wait. -/
theorem copyDamaged_waiting (hq : s.copy.queue = op :: rest) (hs : op.started = false) (hd : headDamaged s = false)
    (ht : triggerDamaged s = false) (b : Bool) (t : State) (hm : t.mem = s.mem)
    (htq : t.copy.queue = { op with waiting := b } :: rest) (hta : t.copy.armed = s.copy.armed)
    (hsl : t.seq.slots = s.seq.slots) : copyDamaged t = false := by
  have hhead : headDamaged t = headDamaged s := by
    simp only [headDamaged, htq, hq, hm, slotAt, hsl]
  have htrig : triggerDamaged t = triggerDamaged s := by
    simp only [triggerDamaged, hm, hta]
  unfold copyDamaged
  rw [hhead, htrig, hd, ht, htq]
  simp [hs]

theorem copyOperationStart_waits (hq : s.copy.queue = op :: rest) (he : engineHeld s = false) (h : startDue op s)
    (hk : op.kind ≠ .lockstep) (hmay : admitted (onFw settleCharges s) s.east s.regionHandle 3 = false)
    (ht : triggerDamaged s = false) : ∃ t, exec .copyOperationStart s = .next t ∧ t.mem = s.mem ∧
      t.seq = { s.seq with cpycHold := false } ∧ t.copy.queue = { op with waiting := true } :: rest := by
  obtain ⟨hs, -, -, hd⟩ := id h
  have htest : (if op.kind == .lockstep then lockstepTest op s else .inr (some op.total)) =
      (.inr (some op.total) : Failure ⊕ Option Nat) := if_neg (by simpa using hk)
  have hstart := copyStart_tested hq h op.total htest
  rw [hmay, if_neg Bool.false_ne_true] at hstart
  have hstop := stopped_of_engineHeld he
  rw [exec_copyOperationStart s he]
  by_cases hw : op.waiting = true
  · rw [if_pos hw] at hstart
    have hop : { op with waiting := true } = op := by rw [← hw]
    have hdam := copyDamaged_waiting hq hs hd ht true (onSeq (fun q => { q with cpycHold := false }) s) rfl
      (by rw [hop]; exact hq) rfl rfl
    rw [checkedEngine_eq copyStart s _ hstart hstop, hdam]
    exact ⟨_, rfl, rfl, rfl, by rw [hop]; exact hq⟩
  · rw [if_neg hw] at hstart
    have hwait := @waitingHead_eq op rest s
    have hdam : copyDamaged (waitingHead op rest s) = false :=
      copyDamaged_waiting hq hs hd ht true _ (by rw [hwait]) (by rw [hwait]) (by rw [hwait]) (by rw [hwait])
    rw [checkedEngine_eq copyStart s _ hstart (by rw [hwait]; exact hstop), hdam]
    exact ⟨_, rfl, by rw [hwait]; rfl, by rw [hwait]; rfl, by rw [hwait]; rfl⟩

end Start

/-! ### Completion -/

/-- The granules that the running operation has written become PUB. -/
def publishWritten (s : State) : State :=
  onMem (fun m => s.copy.written.foldl (fun m g => publishRange m s.copyAgent (64 * g) 64) m) s

/-- The completion of an operation that is no lock-step copy. -/
theorem copyComplete_plain (op : CopyOp) (s : State) (hk : op.kind ≠ .lockstep) : copyComplete op s =
    onCopy (fun c => { c with queue := c.queue.tail, doneCount := c.doneCount + 1, written := [] })
      (if op.sync = 0 then publishWritten s else countArrival op.sync.toNat op.total (publishWritten s)) := by
  have hl : (op.kind == .lockstep) = false := by simpa using hk
  unfold copyComplete
  simp only [hl, Bool.false_and, if_neg Bool.false_ne_true, beq_iff_eq]
  rfl

/-- A part with no byte left moves nothing. -/
theorem unitParts_none (n lo hi : Nat) (h : hi ≤ lo) : unitParts n lo hi = [] := by
  unfold unitParts
  rw [if_pos (by simp [h])]

section Complete

variable {op : CopyOp} {rest : List CopyOp} {s : State}

/-- A running operation with no byte left completes. -/
theorem copyMove_completes (n : Nat) (hq : s.copy.queue = op :: rest) (hs : op.started = true) (hd : op.done = op.total)
    (hh : headDamaged s = false) :
    copyMove n s = copyComplete { op with waiting := false } (setHead { op with waiting := false } s) := by
  have hmin : min (op.total + n) op.total = op.total := by omega
  unfold copyMove
  rw [hq]
  dsimp only
  rw [hs, hh, hd, hmin, unitParts_none _ _ _ (Nat.le_refl _)]
  simp only [moveParts, hq, List.head?_cons, Option.map_some, Option.getD_some, beq_self_eq_true, if_true, Bool.not_true,
    Bool.or_self, if_neg Bool.false_ne_true]

/-- The state after the completion of the head operation: its granules published, its bytes counted, the next at the head. -/
def completedHead (op : CopyOp) (rest : List CopyOp) (s : State) : State :=
  onCopy (fun c => { c with queue := rest, doneCount := c.doneCount + 1, written := [] })
    (if op.sync = 0 then publishWritten s else countArrival op.sync.toNat op.total (publishWritten s))

/-- The copy engine with another queue. -/
def withQueue (ops : List CopyOp) (c : Copy) : Copy := { c with queue := ops }

theorem publishWritten_withQueue (ops : List CopyOp) (s : State) :
    publishWritten (onCopy (withQueue ops) s) = onCopy (withQueue ops) (publishWritten s) := rfl

theorem setHead_eq (x : CopyOp) (hq : s.copy.queue = op :: rest) : setHead x s = onCopy (withQueue (x :: rest)) s := by
  simp only [setHead, onCopy, withQueue, hq]

theorem copyComplete_head (hq : s.copy.queue = op :: rest) (hk : op.kind ≠ .lockstep) :
    copyComplete { op with waiting := false } (setHead { op with waiting := false } s) = completedHead op rest s := by
  rw [setHead_eq _ hq, copyComplete_plain { op with waiting := false } _ hk, publishWritten_withQueue, countArrival_onCopy]
  unfold completedHead
  by_cases h : op.sync = 0
  · rw [if_pos h, if_pos h]; rfl
  · rw [if_neg h, if_neg h]
    dsimp only
    generalize countArrival op.sync.toNat op.total (publishWritten s) = t
    rfl

theorem completedHead_queue : (completedHead op rest s).copy.queue = rest := rfl

theorem copyFinish_completes (hq : s.copy.queue = op :: rest) (hs : op.started = true) (hd : op.done = op.total)
    (hk : op.kind ≠ .lockstep) (hh : headDamaged s = false) :
    copyFinish s = completedHead op rest (onFw settleCharges s) := by
  have hmove := fun n => (copyMove_completes (s := onFw settleCharges s) n hq hs hd hh).trans (copyComplete_head hq hk)
  unfold copyFinish
  rw [hq]
  dsimp only
  rw [hs, if_pos rfl]
  unfold copyRun
  rw [hmove]
  have hlen : (rest.length == rest.length + 1) = false := by simp
  simp only [copyProgress, completedHead_queue, hq, List.length_cons, hlen, Bool.false_and, if_neg Bool.false_ne_true]

theorem exec_copyOperationComplete (he : engineHeld s = false) (hq : s.copy.queue = op :: rest) (hs : op.started = true)
    (hd : op.done = op.total) (hk : op.kind ≠ .lockstep) (hh : headDamaged s = false)
    (hc : copyDamaged (completedHead op rest (onFw settleCharges s)) = false) :
    exec .copyOperationComplete s = next (completedHead op rest (onFw settleCharges s)) := by
  show execCopyOperationComplete s = _
  have hstop : (completedHead op rest (onFw settleCharges s)).seq.stopped = false := by
    have h := stopped_of_engineHeld he
    unfold completedHead
    split
    · exact h
    · rw [countArrival_refl_mem]; exact h
  rw [execCopyOperationComplete, he, if_neg Bool.false_ne_true,
    checkedEngine_eq copyFinish s _ (copyFinish_completes hq hs hd hk hh) hstop, hc]
  rfl

end Complete

/-! ### Armed copies -/

/-- The armed copies whose triggers have been reached have left the table. -/
def firedCopies (s : State) : State :=
  onCopy (fun c => { c with
    armed := c.armed.filter (fun op => !syncReached s.mem op.trig.toNat op.tgen)
    fired := c.fired ++ c.armed.filter (fun op => syncReached s.mem op.trig.toNat op.tgen) }) s

theorem exec_cpyaFire (s : State) (he : engineHeld s = false) (ht : triggerDamaged s = false)
    (hc : copyDamaged (firedCopies s) = false) : exec .cpyaFire s = next (firedCopies s) := by
  show execCpyaFire s = _
  have hfire : fireArmed s = firedCopies s := by
    unfold fireArmed
    rw [ht, if_neg Bool.false_ne_true]; rfl
  rw [execCpyaFire, he, if_neg Bool.false_ne_true, checkedEngine_eq fireArmed s _ hfire (stopped_of_engineHeld he), hc]
  rfl

/-! ### Faults -/

/-- A fault empties the queue and joins the faults that wait for the next group boundary. -/
theorem copyFault_ends (op : CopyOp) (k : Nat) (f : Failure) (s : State) :
    let t := copyFault op k f s
    t.copy = { s.copy with queue := [], written := [] } ∧
      t.seq.engineFaults = s.seq.engineFaults ++ [{ f.trap with
        einfo := if f.trap.cls = 4 then f.trap.einfo
          else (op.descAddr &&& 0xFFFFFFFFFFFF) ||| (BitVec.ofNat 64 (s.copy.queue.length - 1) <<< 48)
        source := faultSource f.trap }] ∧
      t.seq.pc = s.seq.pc ∧ t.seq.s = s.seq.s := by
  unfold copyFault
  dsimp only
  simp only [onSeq_copy, onCopy_copy, onSeq_seq, onCopy_seq, apply_ite State.copy, apply_ite State.seq, onMem_copy, onMem_seq,
    countArrival_copy, countArrival_seq, ite_self, beq_iff_eq, and_self]

theorem copyEngineFault_head (op : CopyOp) (rest : List CopyOp) (s : State) (f : Failure) (hq : s.copy.queue = op :: rest)
    (he : engineHeld s = false) (hs : op.started = true) (hn : op.unitLen s ≠ 0) (hm : op.done % op.unitLen s = 0)
    (hlt : op.done < op.total) (hf : checkUnit s op (op.done / op.unitLen s) = some f) (h6 : f.trap.cls ≠ 6) :
    exec .copyEngineFault s = next (copyFault op (op.done / op.unitLen s) f s) := by
  show execCopyEngineFault s = _
  rw [execCopyEngineFault, he, if_neg Bool.false_ne_true]
  unfold headFault
  rw [hq]
  dsimp only
  have hcond : (op.unitLen s != 0 && op.done % op.unitLen s == 0 && decide (op.done < op.total)) = true := by
    simp [hn, hm, hlt]
  have hcls : (f.trap.cls == 6 && f.trap.detail == 3) = false := by
    rw [beq_eq_false_iff_ne.2 h6]; rfl
  rw [hs, if_pos rfl, if_pos hcond, hf]
  dsimp only
  rw [hcls]
  rfl

end Sys2Proof.Machine

namespace Sys2Proof.Proofs
open Sys2Proof.Machine

/-- Settles O50: each event of the copy engine, by the head operation's state. -/
theorem copyEngineEvents : Obligations.CopyEngineEvents := by
  intro op rest s hq
  refine ⟨engineHeld_keeps s, exec_cpycHoldEnd_keeps s, ?_, ?_, fun he => ⟨?_, ?_, ?_, ?_, ?_, ?_⟩⟩
  · intro hk hw
    have hkeep : copyStart s = s := copyStart_keeps hq (.inr (.inr (.inl ⟨hk, by simpa [startWithdrawn, or_assoc] using hw⟩)))
    refine ⟨?_, fun he hc => ?_⟩
    · cases hh : s.seq.cpycHold with
      | false => exact exec_cpycHoldEnd_keeps s hh
      | true => rw [exec_cpycHoldEnd s hh, hkeep]
    · rw [exec_copyOperationStart s he, checkedEngine_eq copyStart s s hkeep (stopped_of_engineHeld he), hc]; rfl
  · intro hh hsup hpre hef hs hl hk hd
    have hdue : startDue op s := ⟨hs, hl, fun _ => by simp [startWithdrawn, hsup, hpre, hef], hd⟩
    refine ⟨fun ht => ?_, fun n ht hmay => ?_⟩
    · rw [exec_cpycHoldEnd s hh, copyStart_holds hq hdue hk ht, onSeq_cpycHold_self hh]
    · rw [exec_cpycHoldEnd s hh, copyStart_tested hq hdue n (by rw [hk]; exact ht), if_pos hmay]; rfl
  · intro hd
    have hkeep := copyStart_keeps hq (.inr (.inr (.inr hd)))
    rw [exec_copyOperationStart s he, checkedEngine_eq copyStart s s hkeep (stopped_of_engineHeld he),
      copyDamaged_of_headDamaged hd]
    rfl
  · intro hrun hc
    have hkeep := copyStart_keeps hq (hrun.elim .inl (fun h => .inr (.inl h)))
    rw [exec_copyOperationStart s he, checkedEngine_eq copyStart s s hkeep (stopped_of_engineHeld he), hc]; rfl
  · intro hs hl hk hd
    have hdue : startDue op s := ⟨hs, hl, fun h => absurd h hk, hd⟩
    have htest : (if op.kind == .lockstep then lockstepTest op s else .inr (some op.total)) =
        (.inr (some op.total) : Failure ⊕ Option Nat) := if_neg (by simpa using hk)
    have hstart := fun hmay => (copyStart_tested hq hdue op.total htest).trans (if_pos hmay)
    have hstop := stopped_startedHead (op := op) (rest := rest) op.total (stopped_of_engineHeld he)
    refine ⟨fun hmay hc => ?_, fun hmay hc => ?_, fun hmay ht => copyOperationStart_waits hq he hdue hk hmay ht⟩
    · rw [exec_copyOperationStart s he, checkedEngine_eq copyStart s _ (hstart hmay) hstop,
        show copyDamaged (startedHead op rest op.total s) = false from hc]; rfl
    · rw [exec_copyOperationStart s he, checkedEngine_eq copyStart s _ (hstart hmay) hstop,
        show copyDamaged (startedHead op rest op.total s) = true from hc]; rfl
  · intro hs hd hk hh
    exact exec_copyOperationComplete he hq hs hd hk hh
  · exact exec_cpyaFire s he
  · intro f hs hn hm hlt hf h6
    obtain ⟨hcopy, hfaults, hpc, hregs⟩ := copyFault_ends op (op.done / op.unitLen s) f s
    refine ⟨_, copyEngineFault_head op rest s f hq he hs hn hm hlt hf h6, hcopy, ?_, hpc, hregs⟩
    rw [hfaults, hq]
    rfl

end Sys2Proof.Proofs
end

section
/-! PROOFS. The forwarding of a fault: the launch of the faulted unit keeps the cause that is forwarded first (R25, R309,
R326), so the table of launches does more than grow. -/

open Sys2Proof.Claims

namespace Sys2Proof.Machine

/-! ### The launches through a forwarding -/

theorem askUnit_launches (kind : Preempt) (u : UnitRec) (s : State) :
    (askUnit kind u s).disp.launches = s.disp.launches := by
  unfold askUnit
  dsimp only
  split <;> split <;> rfl

theorem takeGang_launches (launch idx : Nat) (kind : Preempt) (s : State) :
    (takeGang launch idx kind s).disp.launches = s.disp.launches := by
  have key : ∀ (us : List UnitRec) (s : State),
      (us.foldl (fun s u => askUnit kind u s) s).disp.launches = s.disp.launches := by
    intro us
    induction us with
    | nil => exact fun _ => rfl
    | cons x us ih => exact fun s => (ih _).trans (askUnit_launches kind x s)
  exact key _ s

theorem returnHeld_disp (s : State) : (returnHeld s).disp = s.disp := by
  unfold returnHeld
  split <;> rfl

theorem leaveBay_launches (phase : UnitPhase) (waiting : Option (W64 × W32)) (s : State) :
    (leaveBay phase waiting s).disp.launches = s.disp.launches := by
  unfold leaveBay
  split
  · rfl
  · show (returnHeld _).disp.launches = _
    rw [returnHeld_disp]; rfl

/-- A launch with the cause of a forwarded fault, which is kept when it has one already (R309). -/
def withCause (c : BitVec 10) (l : Launch) : Launch := { l with fcause := l.fcause.or (some c) }

/-- A fault record is no launch, and its address is given wherever there is a fault area. -/
theorem forwardRecord_area (s s1 : State) (u : UnitRec) (n : Rcb) (hn : nodeOf s.fw u.region = some n) (ha : u.farea ≠ 0) :
    (forwardRecord s u s1).2 = some (u.farea + 128 * BitVec.ofNat 64 (n.faults.toNat % 64)) ∧
      (forwardRecord s u s1).1.disp.launches = s1.disp.launches := by
  unfold forwardRecord
  rw [hn]
  dsimp only
  rw [if_neg (by simpa using ha)]
  refine ⟨rfl, ?_⟩
  unfold chargeArea
  rw [charge_fw_only]
  rfl

/-- The launches after a forwarding to a handler: the faulted unit's has the cause, and the handler's is new. -/
theorem contextForward_launches (s : State) (u : UnitRec) (n : Rcb) (hu : placedUnit s = some u)
    (hn : nodeOf s.fw u.region = some n) (hh : isHandler s u = false) (ha : u.farea ≠ 0) (hf : u.fhrec ≠ 0) :
    ∃ l, (contextForward s).disp.launches =
      s.disp.launches.map (fun x => if x.key == u.launch then withCause s.seq.snapshot.cause x else x) ++ [l] := by
  unfold contextForward
  rw [hu]
  dsimp only
  obtain ⟨harea, hkept⟩ := forwardRecord_area s (onLaunch u.launch (withCause s.seq.snapshot.cause)
    (onUnit u.key (fun x => { x with cause := s.seq.snapshot.cause, faultCount := x.faultCount + 1 })
      (takeGang u.launch u.idx .hard (leaveBay .faulted none s)))) u n hn ha
  unfold withCause at harea hkept
  rw [hh, if_neg Bool.false_ne_true, harea, hn]
  dsimp only
  rw [if_neg (by simpa using hf)]
  refine ⟨_, congrArg (· ++ [_]) (hkept.trans ?_)⟩
  show (List.map _ (takeGang _ _ _ _).disp.launches) = _
  rw [takeGang_launches, leaveBay_launches]
  rfl

/-! ### A unit whose launch has met no fault -/

/-- A launch of one unit without a queue, which has met no fault. -/
def Launch.plain : Launch :=
  { key := 0, queue := none, number := 0, handles := none, region := 1, task := 0, kind := 0, recAddr := 0, bmin := 1, bmax := 1,
    gang := 0, units := 1, argp := 0, csync := 0, dsync := 0, dgen := 0, dep := false, tt := false, period := 0, tstart := 0,
    skip := 0, members := [], pipes := [], prio := 0, phase := .started, placed := 1, ndone := 0, ended := 0, fcause := none,
    outcome := 0, waitSince := 0, readyAt := 0, aged := 0, released := [], stamps := [], refusing := false }

/-- Its unit, placed on bay 0 with a fault area and a handler's record. -/
def UnitRec.forwarding : UnitRec :=
  { key := 0, launch := 0, idx := 0, member := 0, region := 1, bay := 0, slot := 0, phase := .placed, first := 0, cmdp := 0,
    loopRecord := LoopRecord.empty, sect := .prologue, buffers := [], frozen := [], planes := none, queue := [], armed := [],
    held := none, snapshot := none, record := none, cause := 0, faultCount := 0, slice := false, waiting := none, retry := none,
    debug := false, faults := [], asked := none, askedAt := 0, readyAt := none, domain := 0, farea := 0x100000000,
    fhrec := 0x100001000, prio := 0, since := 0, aged := 0, inputSeq := 0 }

/-- The node of its region. -/
def Rcb.plain : Rcb :=
  { addr := 0, kind := 2, flags := 0, inh := 0, prio := 0, part := 0, parent := 0, handle := 1, pasid := 0, xtab := 0,
    farea := 0x100000000, fhrec := 0x100001000, save := 0, bays := 0, limits := [], slotn := 0, saven := 0, faults := 0,
    killed := false }

/-- A bay whose unit has faulted: supervisor code has made op 0 of CTXCMD. -/
def forwardingState : State :=
  { State.reset with
    seq := { Seq.reset with supervisor := true, unit := some 0, saved := true }
    disp := { State.reset.disp with units := [UnitRec.forwarding], launches := [Launch.plain] }
    fw := { State.reset.fw with nodes := [Rcb.plain] } }

theorem exec_ctxcmdForward_forwardingState : exec .ctxcmdForward forwardingState = next (contextForward forwardingState) := by
  show execCtxcmdForward forwardingState = _
  rw [execCtxcmdForward, if_pos (by decide)]; rfl

end Sys2Proof.Machine

namespace Sys2Proof.Proofs
open Sys2Proof.Machine

/-- Refutes O53: op 2 of CTXCMD writes the forwarded cause into the faulted unit's launch, where it has none yet (R309), so the
launches afterwards are not those of before with the handler's added. -/
theorem not_contextAndReplyEvents : ¬ Obligations.ContextAndReplyEvents := by
  intro h
  obtain ⟨-, -, -, -, hforward, -⟩ := h UnitRec.forwarding forwardingState
  obtain ⟨-, hfaults⟩ := hforward ⟨rfl, rfl, rfl, by decide⟩ rfl rfl
  obtain ⟨hhandled, -⟩ := hfaults Rcb.plain rfl rfl
  obtain ⟨t, l, hexec, -, -, hlaunches, -⟩ := hhandled (by decide) (by decide)
  obtain ⟨l', hreal⟩ := contextForward_launches forwardingState UnitRec.forwarding Rcb.plain rfl rfl rfl (by decide) (by decide)
  have ht : contextForward forwardingState = t := by
    have := exec_ctxcmdForward_forwardingState.symm.trans hexec
    simpa [next] using this
  rw [ht] at hreal
  have heq : [withCause forwardingState.seq.snapshot.cause Launch.plain, l'] = [Launch.plain, l] := hreal.symm.trans hlaunches
  have hcause := congrArg Launch.fcause (List.cons.inj heq).1
  exact absurd hcause (by decide)

end Sys2Proof.Proofs
end

section
/-! PROOFS. Special registers (R13 to R16, R118, R119, R288 to R290, R297, R341): what `srr` reads and what a write leaves. -/

open Sys2Proof.Claims

namespace Sys2Proof.Machine

/-! ### The inputs of a unit -/

theorem appendInput_seq (h : W32) (e : InputEntry) (s : State) : (appendInput h e s).seq = s.seq := by
  unfold appendInput
  split
  · rfl
  · split
    · rfl
    · split <;> rfl

/-- Outside replay an input is the live value, and it changes no scalar register; in memory it leaves a trace in record mode
alone. -/
theorem takeInput_live (type : Byte) (value : W64) (payload : List Byte) (s : State)
    (h : s.seq.supervisor = true ∨ replaying s = false) :
    (takeInput type value payload s).1 = (value, payload) ∧ (takeInput type value payload s).2.seq.s = s.seq.s ∧
      (unlogged s → (takeInput type value payload s).2.mem = s.mem) := by
  unfold takeInput
  by_cases hv : s.seq.supervisor = true
  · rw [if_pos hv]
    exact ⟨rfl, rfl, fun _ => rfl⟩
  · have hr : replaying s = false := h.resolve_left hv
    rw [if_neg hv, hr, if_neg Bool.false_ne_true]
    refine ⟨rfl, ?_, ?_⟩
    · show (if _ then _ else s : State).seq.s = s.seq.s
      split
      · rw [appendInput_seq]
      · rfl
    · rintro (hu | ⟨-, hrec⟩)
      · exact absurd hu hv
      · show (if _ then _ else s : State).mem = s.mem
        rw [hrec]; rfl

/-- A number of eight bytes at the head of a payload. -/
theorem fieldAt_bytesOfNat_append (n : Nat) (bs : List Byte) : fieldAt (bytesOfNat 8 n ++ bs) 0 8 = n % 256 ^ 8 := by
  unfold fieldAt bytesAt
  rw [List.drop_zero, List.take_append_of_le_length (by rw [bytesOfNat_length]),
    List.take_of_length_le (by rw [bytesOfNat_length]), natOfBytes_bytesOfNat]

theorem readTime_live (s : State) (h : s.seq.supervisor = true ∨ replaying s = false) :
    (readTime s).1.1 = s.clock.time ∧ (readTime s).1.2.1 = s.clock.frac ∧ (readTime s).2.seq.s = s.seq.s ∧
      (unlogged s → (readTime s).2.mem = s.mem) := by
  obtain ⟨hvalue, hs, hmem⟩ := takeInput_live 3 s.clock.time
    (bytesOfNat 8 s.clock.frac.toNat ++ bytesOfNat 8 (tstatWord s.clock).toNat) s h
  refine ⟨congrArg Prod.fst hvalue, ?_, hs, hmem⟩
  have hp := congrArg Prod.snd hvalue
  show BitVec.ofNat 16 (fieldAt (takeInput 3 s.clock.time _ s).1.2 0 8) = s.clock.frac
  rw [hp]
  dsimp only
  rw [fieldAt_bytesOfNat_append]
  apply BitVec.eq_of_toNat_eq
  have := s.clock.frac.isLt
  rw [BitVec.toNat_ofNat]
  omega

/-! ### The words -/

theorem isSupervisorNumber_iff (k : BitVec 9) : isSupervisorNumber k = true ↔ ¬ k.toNat < 0x100 := by
  simp [isSupervisorNumber]

/-- A number is refused exactly in user mode and to a number of the supervisor. -/
theorem numberRefused_iff (k : BitVec 9) (s : State) :
    (isSupervisorNumber k && !s.seq.supervisor) = true ↔ ¬ (k.toNat < 0x100 ∨ s.seq.supervisor = true) := by
  rw [Bool.and_eq_true, isSupervisorNumber_iff]
  simp

theorem exec_srr {hd : Hdr} {s : State} (h : acts hd s) (a : Reg5) (k : BitVec 9) :
    exec (.srr hd a k) s = next (if isSupervisorNumber k && !s.seq.supervisor
      then raise (privilegeTrap 0x01 (sysWord hd a 9 k)) s else srrAct a k s) := by
  show execSrr hd a k s = _
  rw [execSrr, issue_open h.1, guarded_pass h.2]
  rfl

theorem exec_srw {hd : Hdr} {s : State} (h : acts hd s) (a : Reg5) (k : BitVec 9) :
    exec (.srw hd a k) s = next (if isSupervisorNumber k && !s.seq.supervisor
      then raise (privilegeTrap 0x01 (sysWord hd a 10 k)) s else srwAct k (readS s a) s) := by
  show execSrw hd a k s = _
  rw [execSrw, issue_open h.1, guarded_pass h.2]
  rfl

theorem setS_s_congr {q u : Seq} (h : q.s = u.s) (a : Reg5) (x : W64) : (q.setS a x).s = (u.setS a x).s := by
  unfold Seq.setS
  split
  · exact h
  · exact congrArg (fun v => v.set a.toNat x a.isLt) h

theorem srr_time {hd : Hdr} {s : State} (ha : acts hd s) (a : Reg5) (h : s.seq.supervisor = true ∨ replaying s = false) :
    ∃ t, exec (.srr hd a 0x006) s = .next t ∧ t.seq.s = (s.seq.setS a s.clock.time).s ∧ t.seq.timef = s.clock.frac ∧
      (unlogged s → t.mem = s.mem) := by
  obtain ⟨htime, hfrac, hs, hmem⟩ := readTime_live s h
  refine ⟨srrAct a 6 s, exec_srr ha a 6, ?_, ?_, hmem⟩
  · show (Seq.setS { (readTime s).2.seq with timef := (readTime s).1.2.1 } a (readTime s).1.1).s = _
    rw [htime]
    exact setS_s_congr (q := { (readTime s).2.seq with timef := (readTime s).1.2.1 }) hs a _
  · show (Seq.setS { (readTime s).2.seq with timef := (readTime s).1.2.1 } a (readTime s).1.1).timef = _
    rw [setS_timef, ← hfrac]

theorem srr_steps {hd : Hdr} {s : State} (ha : acts hd s) (a : Reg5) (h : s.seq.supervisor = true ∨ replaying s = false) :
    ∃ t, exec (.srr hd a 0x008) s = .next t ∧ t.seq.s = (s.seq.setS a s.seq.steps).s ∧ (unlogged s → t.mem = s.mem) := by
  obtain ⟨hvalue, hs, hmem⟩ := takeInput_live 4 s.seq.steps [] s h
  refine ⟨srrAct a 8 s, exec_srr ha a 8, ?_, hmem⟩
  show (Seq.setS (takeInput 4 s.seq.steps [] s).2.seq a (takeInput 4 s.seq.steps [] s).1.1).s = _
  rw [congrArg Prod.fst hvalue]
  exact setS_s_congr hs a _

theorem specialRegisterWords : SpecialRegisterWords := by
  intro hd a k w s ha may
  have hrefused := numberRefused_iff k s
  refine ⟨fun hmay h6 h8 => ?_, fun h => ⟨srr_time ha a h, srr_steps ha a h⟩, fun hmay h107 => ?_,
    fun hmay => ⟨fun hw => ?_, fun hw => ?_⟩⟩
  · show exec _ s = next _
    rw [exec_srr ha, if_neg (fun hc => hrefused.1 hc hmay), srrAct, if_neg (by simpa using h6), if_neg (by simpa using h8)]
    rfl
  · rw [exec_srw ha, if_neg (fun hc => hrefused.1 hc hmay), srwAct, if_neg (by simpa using h107)]
  · rw [exec_srr ha, if_pos (hrefused.2 hmay), ← Option.some.inj hw]
    rfl
  · rw [exec_srw ha, if_pos (hrefused.2 hmay), ← Option.some.inj hw]
    rfl

/-! ### Reads -/

theorem shiftLeft_or_eq_append (x y : W32) : x.setWidth 64 <<< 32 ||| y.setWidth 64 = x ++ y := by
  have hx := x.isLt
  have hy := y.isLt
  apply BitVec.eq_of_toNat_eq
  rw [BitVec.toNat_or, BitVec.toNat_shiftLeft, BitVec.toNat_append, BitVec.toNat_setWidth, BitVec.toNat_setWidth,
    Nat.mod_eq_of_lt (show x.toNat < 2 ^ 64 by omega), Nat.mod_eq_of_lt (show y.toNat < 2 ^ 64 by omega),
    Nat.shiftLeft_eq, Nat.mod_eq_of_lt (show x.toNat * 2 ^ 32 < 2 ^ 64 by omega)]

theorem tstatWord_eq (c : Clock) :
    tstatWord c = c.ofs ++ (0 : BitVec 30) ++ BitVec.ofBool c.hold ++ BitVec.ofBool c.lock := by
  have hlow : ∀ hold lock : Bool, (if hold then 2 else 0 : W64) ||| (if lock then 1 else 0) =
      ((0 : BitVec 30) ++ BitVec.ofBool hold ++ BitVec.ofBool lock).setWidth 64 := by decide
  unfold tstatWord
  rw [BitVec.or_assoc, hlow]
  refine (shiftLeft_or_eq_append c.ofs _).trans (BitVec.eq_of_toNat_eq ?_)
  simp only [BitVec.toNat_append, Nat.shiftLeft_or_distrib, ← Nat.shiftLeft_add, Nat.or_assoc]

theorem sstatWord_eq (q : Seq) :
    sstatWord q = (0 : BitVec 60) ++ BitVec.ofBool q.debug ++ BitVec.ofBool q.masked ++ BitVec.ofBool q.prevSupervisor ++
      BitVec.ofBool q.supervisor := by
  have bits : ∀ d m p v : Bool,
      (if d then 8 else 0) ||| (if m then 4 else 0) ||| (if p then 2 else 0) ||| (if v then 1 else 0) =
        (0 : BitVec 60) ++ BitVec.ofBool d ++ BitVec.ofBool m ++ BitVec.ofBool p ++ BitVec.ofBool v := by decide
  exact bits _ _ _ _

theorem specialWord_loopIndex (s : State) (i : Nat) (h : i < 6) :
    specialWord s (0x019 + BitVec.ofNat 9 i) = loopIndex s.seq i := by
  interval_cases i <;> rfl

theorem toNat_kernelNumber (i : Fin 8) : (0x1F8 + BitVec.ofNat 9 i).toNat = 0x1F8 + i := by
  revert i; decide

theorem specialWord_kernelRegister (s : State) (i : Fin 8) : specialWord s (0x1F8 + BitVec.ofNat 9 i) = s.seq.k[i] := by
  unfold specialWord
  rw [toNat_kernelNumber]
  dsimp only
  split
  case h_43 => simp
  all_goals omega

/-- A number that no rule assigns reads 0. -/
theorem specialWord_unassigned (s : State) (k : BitVec 9)
    (h : k.toNat ∈ [0x00D, 0x00E, 0x00F, 0x016, 0x017] ∨ (0x021 ≤ k.toNat ∧ k.toNat < 0x100) ∨
      (0x108 ≤ k.toNat ∧ k.toNat < 0x110) ∨ (0x113 ≤ k.toNat ∧ k.toNat < 0x120) ∨ (0x122 ≤ k.toNat ∧ k.toNat < 0x130) ∨
      (0x132 ≤ k.toNat ∧ k.toNat < 0x1F8)) : specialWord s k = 0 := by
  simp only [List.mem_cons, List.not_mem_nil, or_false] at h
  unfold specialWord
  dsimp only
  split
  case h_43 => rw [if_neg (by clear * - h; omega)]
  all_goals omega

/-- The words of the counter slot that BUDGET selects. -/
theorem readBudget_words (s : State) (b : W64) (c : CounterSlot)
    (h : (slotsOf s.fw s.east).toList[b.toNat % 64]? = some c) :
    let word := b.toNat / 256 % 16
    (word = 0 → readBudget s b = c.handle.setWidth 64) ∧ (word = 13 → readBudget s b = c.stalls) ∧
      (word = 14 → readBudget s b = c.periods) ∧ (word = 15 → readBudget s b = 0) ∧
      ∀ i : Fin 6, (word = 1 + i → readBudget s b = c.limits[i].setWidth 64) ∧
        (word = 7 + i → readBudget s b = BitVec.ofNat 64 c.used[i]) := by
  intro word
  have hread : readBudget s b = if word == 0 then c.handle.setWidth 64
      else if word ≤ 6 then (c.limits.toList.getD (word - 1) 0).setWidth 64
      else if word ≤ 12 then BitVec.ofNat 64 (c.used.toList.getD (word - 7) 0)
      else if word == 13 then c.stalls
      else if word == 14 then c.periods
      else 0 := by
    unfold readBudget budgetSlot
    rw [h]
    rfl
  rw [hread]
  refine ⟨fun hw => ?_, fun hw => ?_, fun hw => ?_, fun hw => ?_, fun i => ⟨fun hw => ?_, fun hw => ?_⟩⟩
  · rw [hw]; rfl
  · rw [hw]; rfl
  · rw [hw]; rfl
  · rw [hw]; rfl
  · rw [hw]
    fin_cases i <;> simp
  · rw [hw]
    fin_cases i <;> simp

theorem specialRegisterReads : SpecialRegisterReads := by
  intro s q reads wide
  refine ⟨⟨rfl, rfl, rfl, rfl, rfl, rfl, rfl, rfl, rfl, tstatWord_eq s.clock, rfl, rfl, rfl⟩,
    ⟨rfl, rfl, rfl, rfl, rfl, rfl, rfl, rfl⟩, fun i hi => specialWord_loopIndex s i hi, rfl,
    ⟨sstatWord_eq q, rfl, rfl, rfl, rfl, rfl, rfl, rfl, rfl, rfl, rfl, rfl, rfl⟩,
    fun c hc => readBudget_words s q.budget c hc, rfl, fun i => specialWord_kernelRegister s i,
    fun k hk => specialWord_unassigned s k hk⟩

/-! ### Writes -/

theorem writeSpecial_kernelRegister (i : Fin 8) (x : W64) (r : BitVec 4) (s : State) :
    writeSpecial (0x1F8 + BitVec.ofNat 9 i) x r s = onSeq (fun q => { q with k := q.k.set i x }) s := by
  unfold writeSpecial
  rw [toNat_kernelNumber]
  split
  case h_21 => simp [vecModify]
  all_goals omega

theorem and_low28 (x : W64) : x &&& 0xFFFFFFF = (x.setWidth 28).setWidth 64 := by
  apply BitVec.eq_of_toNat_eq
  rw [BitVec.toNat_and]
  rw [show (0xFFFFFFF : W64).toNat = 2 ^ 28 - 1 from rfl, Nat.and_two_pow_sub_one_eq_mod]
  simp only [BitVec.toNat_setWidth]
  omega

/-- A read-only number changes nothing. -/
theorem writeSpecial_readOnly (k : BitVec 9) (x : W64) (r : BitVec 4) (s : State)
    (h : k.toNat ≤ 0x00C ∨ (0x018 ≤ k.toNat ∧ k.toNat ≤ 0x01F) ∨ k = 0x112 ∨ k = 0x131) : writeSpecial k x r s = s := by
  have hk : k.toNat ≤ 0x00C ∨ (0x018 ≤ k.toNat ∧ k.toNat ≤ 0x01F) ∨ k.toNat = 0x112 ∨ k.toNat = 0x131 :=
    h.imp id (Or.imp id (Or.imp (congrArg BitVec.toNat) (congrArg BitVec.toNat)))
  unfold writeSpecial
  split
  case h_21 => rw [if_neg (by clear * - hk; omega)]
  all_goals omega

theorem slotsOf_onSlot (east : Bool) (i : Nat) (g : CounterSlot → CounterSlot) (s : State) :
    slotsOf (onSlot east i g s).fw east = vecModify (slotsOf s.fw east) i g := by
  cases east <;> rfl

theorem slotsOf_onSlot_other (east : Bool) (i : Nat) (g : CounterSlot → CounterSlot) (s : State) :
    slotsOf (onSlot east i g s).fw (!east) = slotsOf s.fw (!east) := by
  cases east <;> rfl

theorem onSlot_fw_only (east : Bool) (i : Nat) (g : CounterSlot → CounterSlot) (s : State) :
    onSlot east i g s = { s with fw := (onSlot east i g s).fw } := rfl

theorem vecModify_same {α : Type} {n : Nat} (v : Vector α n) (f : α → α) (j : Fin n) : (vecModify v j f)[j] = f v[j] := by
  unfold vecModify
  rw [dif_pos j.isLt]
  simp

theorem vecModify_ne {α : Type} {n : Nat} (v : Vector α n) (f : α → α) (i : Nat) (j : Fin n) (h : j.val ≠ i) :
    (vecModify v i f)[j] = v[j] := by
  unfold vecModify
  split
  · simp [Ne.symm h]
  · rfl

/-- What a write of BUDGETD makes of the counter slot that BUDGET selects. -/
def slotWritten (s : State) (b x : W64) (c : CounterSlot) : CounterSlot :=
  let w := budgetWord b
  if w = 0 then
    if (x.setWidth 32 : W32) == 0 then CounterSlot.free else
      { CounterSlot.free with
        handle := x.setWidth 32
        limits := match nodeOf s.fw (x.setWidth 32) with
          | some n => sixOf (effLimit s.fw n)
          | none => Vector.replicate 6 0 }
  else { c with limits := vecModify c.limits (w - 1) (fun _ => x.setWidth 32) }

theorem writeBudget_slot (b x : W64) (s : State) (h : budgetWord b < 7) :
    writeBudget b x s = onSlot s.east (budgetSlot b) (slotWritten s b x) s := by
  unfold writeBudget slotWritten
  by_cases h0 : budgetWord b = 0
  · simp only [h0]; rfl
  · rw [if_neg (by simpa using h0), if_pos (by omega)]
    simp only [if_neg h0]; rfl

theorem writeBudget_other (b x : W64) (s : State) (h : 7 ≤ budgetWord b) : writeBudget b x s = s := by
  unfold writeBudget
  dsimp only
  rw [if_neg (by simp; omega), if_neg (by omega)]

theorem slotWritten_handle (s : State) (b x : W64) (c : CounterSlot) (h : budgetWord b = 0) :
    (slotWritten s b x c).handle = x.setWidth 32 ∧ (∀ i : Fin 6, (slotWritten s b x c).used[i] = 0) ∧
      (slotWritten s b x c).stalls = 0 ∧ (slotWritten s b x c).periods = 0 ∧
      ∀ n, x.setWidth 32 ≠ (0 : W32) → nodeOf s.fw (x.setWidth 32) = some n →
        ∀ i : Fin 6, (slotWritten s b x c).limits[i] = effLimit s.fw n i := by
  have hused : ∀ i : Fin 6, CounterSlot.free.used[i] = 0 := by clear * -; intro i; fin_cases i <;> rfl
  unfold slotWritten
  dsimp only
  rw [if_pos h]
  by_cases hx : (x.setWidth 32 : W32) = 0
  · rw [if_pos (beq_iff_eq.2 hx), hx]
    exact ⟨rfl, hused, rfl, rfl, fun _ hc => absurd rfl hc⟩
  · rw [if_neg (mt beq_iff_eq.1 hx)]
    refine ⟨rfl, hused, rfl, rfl, fun n _ hn i => ?_⟩
    simp only [hn, sixOf]
    simp

theorem slotWritten_limit (s : State) (b x : W64) (c : CounterSlot) (i : Fin 6) (h : budgetWord b = 1 + i) :
    slotWritten s b x c = { c with limits := c.limits.set i (x.setWidth 32) } := by
  unfold slotWritten vecModify
  have hi : budgetWord b - 1 = i := by omega
  simp only [hi]
  rw [if_neg (by omega), dif_pos i.isLt]

theorem writeSpecial_budgetd (x : W64) (r : BitVec 4) (s : State) :
    let word := s.seq.budget.toNat / 256 % 16
    let slot := s.seq.budget.toNat % 64
    let t := writeSpecial 0x121 x r s
    (7 ≤ word → t = s) ∧ t = { s with fw := t.fw } ∧ slotsOf t.fw (!s.east) = slotsOf s.fw (!s.east) ∧
    ∀ j : Fin 64, let c := (slotsOf s.fw s.east)[j]
      let d := (slotsOf t.fw s.east)[j]
      (j.val ≠ slot → d = c) ∧
      (j.val = slot → (word = 0 → d.handle = x.setWidth 32 ∧ (∀ i : Fin 6, d.used[i] = 0) ∧ d.stalls = 0 ∧ d.periods = 0 ∧
          ∀ n, x.setWidth 32 ≠ (0 : W32) → nodeOf s.fw (x.setWidth 32) = some n → ∀ i : Fin 6, d.limits[i] = effLimit s.fw n i) ∧
        ∀ i : Fin 6, word = 1 + i → d = { c with limits := c.limits.set i (x.setWidth 32) }) := by
  intro word slot t
  by_cases hw : 7 ≤ word
  · have ht : t = s := writeBudget_other _ _ _ hw
    rw [ht]
    exact ⟨fun _ => rfl, rfl, rfl,
      fun j => ⟨fun _ => rfl, fun _ => ⟨fun h => absurd h (by omega), fun i h => absurd h (by omega)⟩⟩⟩
  · have ht : t = onSlot s.east slot (slotWritten s s.seq.budget x) s := writeBudget_slot _ _ _ (not_le.1 hw)
    refine ⟨fun h => absurd h hw, ?_, ?_, fun j => ⟨fun hj => ?_, fun hj => ?_⟩⟩
    · rw [ht]; exact onSlot_fw_only _ _ _ _
    · rw [ht]; exact slotsOf_onSlot_other _ _ _ _
    · rw [ht, slotsOf_onSlot]
      exact vecModify_ne _ _ _ j hj
    · rw [ht, slotsOf_onSlot, ← hj, vecModify_same]
      exact ⟨fun h0 => slotWritten_handle s _ x _ h0, fun i hi => slotWritten_limit s _ x _ i hi⟩

/-- A word of the error map zeroed; the others keep their counts. -/
theorem errmapWord_setErrmap_zero (f : Firmware) (bay index b i : Nat) :
    errmapWord (setErrmap f bay index 0) b i = if b = bay ∧ i = index then 0 else errmapWord f b i := by
  have hset : (setErrmap f bay index 0).errmap = f.errmap.filter (fun e => !(e.1 == bay && e.2.1 == index)) := rfl
  unfold errmapWord
  rw [hset, List.find?_filter]
  by_cases h : b = bay ∧ i = index
  · have hnone : f.errmap.find? (fun e => decide ((!(e.1 == bay && e.2.1 == index)) = true ∧ (e.1 == b && e.2.1 == i) = true)) =
        none := by
      rw [List.find?_eq_none, h.1, h.2]
      intro e _
      cases (e.1 == bay && e.2.1 == index) <;> decide
    rw [if_pos h, hnone]
    exact ite_self 0
  · rw [if_neg h]
    have hp : (fun e : Nat × Nat × W64 => decide ((!(e.1 == bay && e.2.1 == index)) = true ∧ (e.1 == b && e.2.1 == i) = true)) =
        fun e => e.1 == b && e.2.1 == i := by
      funext e
      by_cases he : e.1 = b ∧ e.2.1 = i
      · simpa [he] using not_and_or.1 h
      · rw [show (e.1 == b && e.2.1 == i) = false by simpa using he]
        simp
    rw [hp]

theorem writeSpecial_errmap (x : W64) (r : BitVec 4) (s : State) :
    let t := writeSpecial 0x130 x r s
    t = { s with seq := { s.seq with errmap := x &&& 0xFFFF }, fw := { s.fw with errmap := t.fw.errmap } } ∧
    ∀ b i, errmapWord t.fw b i = if x.getLsbD 16 = true ∧ b = x.toNat % 256 ∧ i = x.toNat / 256 % 256 ∧ i ≠ 132 then 0
      else errmapWord s.fw b i := by
  rw [show writeSpecial 0x130 x r s = writeErrmap x s from rfl]
  unfold writeErrmap clearErrmap
  by_cases hclr : x.getLsbD 16 = true
  · by_cases hrow : x.toNat / 256 % 256 = 132
    · rw [if_pos hclr, if_pos (by simpa using hrow)]
      refine ⟨rfl, fun b i => ?_⟩
      rw [if_neg (by rintro ⟨-, -, hi, h132⟩; exact h132 (hi.trans hrow))]
      rfl
    · rw [if_pos hclr, if_neg (by simpa using hrow)]
      refine ⟨rfl, fun b i => ?_⟩
      refine (errmapWord_setErrmap_zero s.fw _ _ b i).trans (if_congr ⟨?_, ?_⟩ rfl rfl)
      · rintro ⟨hb, hi⟩
        exact ⟨hclr, hb, hi, hi ▸ hrow⟩
      · rintro ⟨-, hb, hi, -⟩
        exact ⟨hb, hi⟩
  · rw [if_neg hclr]
    refine ⟨rfl, fun b i => ?_⟩
    rw [if_neg (fun h => hclr h.1)]
    rfl

theorem specialRegisterWritesKeepDefinedBits : SpecialRegisterWritesKeepDefinedBits := by
  intro k x r s
  refine ⟨rfl, rfl, rfl, rfl, rfl, rfl, rfl, ?_, rfl, rfl, rfl, rfl, rfl, rfl, rfl,
    fun i => writeSpecial_kernelRegister i x r s, writeSpecial_budgetd x r s, writeSpecial_errmap x r s,
    ⟨rfl, rfl, rfl⟩, ⟨rfl, rfl, rfl⟩, writeSpecial_readOnly k x r s⟩
  rw [← and_low28]
  rfl

end Sys2Proof.Machine

namespace Sys2Proof.Proofs
open Sys2Proof.Machine

/-- Settles O38: the words go by the mode test and the unit's inputs, each number reads its field by definition, and the writes
that select a place (BUDGETD, ERRMAP) change that place alone. -/
theorem specialRegistersReadAndWritten : Obligations.SpecialRegistersReadAndWritten :=
  ⟨specialRegisterWords, specialRegisterReads, specialRegisterWritesKeepDefinedBits⟩

end Sys2Proof.Proofs
end

section
/-! PROOFS. System words where they act, and the end of a section (R19, R22, R82, R117, R200, R201, R307, R320, R332). -/

open Sys2Proof.Claims

namespace Sys2Proof.Machine

/-! ### A store of one scratchpad range -/

theorem ownRange_parts (m : Mem) (agent : BitVec 9) (a n : Nat) :
    (ownRange m agent a n).spad = m.spad ∧ (ownRange m agent a n).hbm = m.hbm ∧ (ownRange m agent a n).full = m.full := by
  unfold ownRange
  induction granulesOf a n generalizing m with
  | nil => exact ⟨rfl, rfl, rfl⟩
  | cons g gs ih => exact ih (setOwner m g (some (.excl agent)))

/-- The granules of an owned range are the agent's, and the others keep their owners. -/
theorem ownerOf_ownRange (m : Mem) (agent : BitVec 9) (a n g : Nat) :
    ownerOf (ownRange m agent a n) g = if g ∈ granulesOf a n then some (.excl agent) else ownerOf m g := by
  unfold ownRange
  induction granulesOf a n generalizing m with
  | nil => rfl
  | cons x gs ih =>
    rw [List.foldl_cons, ih, ownerOf_setOwner]
    by_cases hx : g = x <;> by_cases hg : g ∈ gs <;> simp [hx, hg]

theorem ownRange_putSpad_storedAt (a : Nat) (bs : List Byte) (s : State) :
    storedAt a bs s (onMem (fun m => ownRange (m.putSpad a bs) s.agent a bs.length) s) := by
  obtain ⟨hspad, hhbm, hfull⟩ := ownRange_parts (s.mem.putSpad a bs) s.agent a bs.length
  refine ⟨fun i hi => ?_, fun x hx => ?_, fun g hg => ?_, fun g hg => ?_, hhbm, hfull, rfl⟩
  · show memByte (ownRange _ _ _ _).spad _ = _
    rw [hspad, putSpad_spad, memByte_memWrite, if_pos (by omega), Nat.add_sub_cancel_left]
  · show memByte (ownRange _ _ _ _).spad _ = _
    rw [hspad, putSpad_spad, memByte_memWrite, if_neg (by omega)]
  · exact (ownerOf_ownRange _ _ _ _ g).trans (if_pos hg)
  · exact (ownerOf_ownRange _ _ _ _ g).trans (if_neg hg)

theorem metered_free (act : Nat) (f : State → State) (s : State) : metered act 0 f s = f s := rfl

theorem hbmAccesses_spad (p : Part) (h : p.addr < 0x14000000) : hbmAccesses [p] = 0 := by
  simp [hbmAccesses, rowOf_spad h]

/-- Stores of one part in scratchpad need nothing of the host or a window, and cost nothing. -/
theorem performStores_spad (p : Part) (bs : List Byte) (s : State) (hbs : bs ≠ []) (h : p.addr + bs.length ≤ 0x14000000) :
    performStores [p] [(p.addr, bs)] s =
      onMem (fun m => ownRange (m.putSpad p.addr bs) s.agent p.addr bs.length) s := by
  have hpos := List.length_pos_of_ne_nil hbs
  have hrow := rowOf_spad (show p.addr < 0x14000000 by omega)
  have hhost : hostStores [(p.addr, bs)] = [] := by simp [hostStores, hrow]
  have hwindow : windowStores [(p.addr, bs)] = [] := by simp [windowStores, hrow]
  have hready : windowsReady s [(p.addr, bs)] = true := by simp [windowsReady, hwindow]
  have hlink : linkBytes [(p.addr, bs)] = 0 := by simp [linkBytes, hrow]
  have hpart : storePart p.addr bs s = onMem (fun m => ownRange (m.putSpad p.addr bs) s.agent p.addr bs.length) s := by
    simp only [storePart, hrow]
    exact congrArg (fun m => { s with mem := ownRange m s.agent p.addr bs.length })
      (writeMem_spad s.mem (coreWho s) p.addr bs hbs h)
  unfold performStores
  simp only [hhost, List.all_nil, hready, Bool.not_true, hlink, hbmAccesses_spad p (by omega), metered_free]
  exact hpart

theorem checkedAccess_pre_none {w : W32} {pre : State → Option TrapInfo} {whole : Bool} {acc : State → CoreAccess}
    {f : State → State} {s : State} (h : pre s = none) : checkedAccess w pre whole acc f s = checkedAccess w noPre whole acc f s := by
  simp only [checkedAccess, h, noPre]

/-! ### The words -/

theorem unlessTrapped_none {f : State → State} {s : State} (h : s.seq.group.trap = none) : unlessTrapped f s = f s := by
  rw [unlessTrapped, h]; rfl

theorem supervisorOnly_super {w : W32} {f : State → State} {s : State} (h : s.seq.supervisor = true) :
    supervisorOnly w f s = f s := if_pos h

/-- A word that issues with its guard passed takes its effect. -/
theorem issue_guarded {u : Use} {hd : Hdr} {f : State → State} {s : State} (h : acts hd s) :
    issue u (guarded hd f) s = next (f s) := by
  rw [issue_open h.1, guarded_pass h.2]; rfl

section
variable {hd : Hdr} {s : State} (ha : acts hd s)
include ha

theorem exec_exit : exec (.exit hd) s = next (exitAct s) := issue_guarded ha

theorem exec_exit_inLoop (hl : s.seq.loops ≠ []) : exec (.exit hd) s =
    next (raise (cause 12 0x09 (BitVec.ofNat 64 (12 * s.seq.pc.toNat)) (BitVec.ofNat 64 s.seq.loops.length)) s) := by
  rw [exec_exit ha, exitAct, if_pos (by simpa using hl)]; rfl

theorem exec_exit_held (hl : s.seq.loops = []) (h : Held) (hh : s.seq.held = some h) :
    exec (.exit hd) s = next (raise (cause 11 0x08 h.buffer (h.idx.setWidth 64)) s) := by
  rw [exec_exit ha, exitAct, if_neg (by simp [hl]), hh]

theorem exec_exit_ends (ht : s.seq.group.trap = none) (hl : s.seq.loops = []) (hh : s.seq.held = none)
    (hw : lastSection s = false ∨ writesDrained s = true) : exec (.exit hd) s = next (transfer .endSection s) := by
  have hwait : (lastSection s && !writesDrained s) = false := by
    rcases hw with h | h <;> simp [h]
  rw [exec_exit ha, exitAct, if_neg (by simp [hl]), hh]
  simp only [hwait, Bool.false_eq_true, if_false, unlessTrapped_none ht]

theorem exec_yield (ht : s.seq.group.trap = none) :
    exec (.yield hd) s = next (if s.seq.preempt = some .soft ∧ s.seq.supervisor = false then
      onSeq (fun q => { q with preempt := some .saving }) s else s) := by
  have hcond : (softAsked s && !s.seq.supervisor) = true ↔ s.seq.preempt = some .soft ∧ s.seq.supervisor = false := by
    simp [softAsked]
  refine (issue_guarded ha).trans (congrArg next ?_)
  unfold yieldAct
  rw [unlessTrapped_none ht]
  exact if_congr hcond rfl rfl

theorem exec_eret (hv : s.seq.supervisor = true) : exec (.eret hd) s = next (eretAct s) := by
  refine (issue_guarded ha).trans (congrArg next ?_)
  exact supervisorOnly_super hv

theorem exec_eret_returns (hv : s.seq.supervisor = true) (ht : s.seq.group.trap = none) (hm : s.seq.masked = false) :
    exec (.eret hd) s = next (transfer .eret s) := by
  rw [exec_eret ha hv, eretAct, hm, if_neg Bool.false_ne_true, unlessTrapped_none ht]

theorem exec_eret_masked (hv : s.seq.supervisor = true) (hm : s.seq.masked = true) :
    exec (.eret hd) s = next (raise (cause 12 0x05 (BitVec.ofNat 64 (12 * s.seq.pc.toNat)) 0) s) := by
  rw [exec_eret ha hv, eretAct, if_pos hm]; rfl

theorem exec_halt (hv : s.seq.supervisor = true) (ht : s.seq.group.trap = none) :
    exec (.halt hd) s = next (transfer .halt s) := by
  refine (issue_guarded ha).trans (congrArg next ?_)
  rw [supervisorOnly_super hv, unlessTrapped_none ht]

theorem exec_snaprel (hv : s.seq.supervisor = true) :
    exec (.snaprel hd) s = next (onSeq (fun q => { q with masked := false }) s) :=
  (issue_guarded ha).trans (congrArg next (supervisorOnly_super hv))

end

/-! ### The snapshot in scratchpad -/

theorem snapshotAddr_eq (a : Reg5) (s : State) :
    snapshotAddr a s = placeOf s (if a = 0 then s.seq.saveptr else readS s a) := by
  simp only [snapshotAddr, beq_iff_eq]

theorem snapshotPlaced_spad (a : Nat) (s : State) (h : a < 0x14000000) (ha : a % 256 = 0) : snapshotPlaced a s = none := by
  simp [snapshotPlaced, rowOf_spad h, ha]

/-- A snapshot word whose range it may access in scratchpad goes on to its effect. -/
theorem checkedAccess_snapshot {w : W32} {s : State} {kind : AccessKind} {a : Nat} {f : State → State}
    (hk : kind = .load ∨ kind = .store) (h : reaches s (kind == .store) a 8192 256) :
    checkedAccess w (snapshotPlaced a) true (fun _ => snapshotAccess kind a) f s = f s := by
  obtain ⟨hlen, halign, hrace, hdamage⟩ := h
  rw [checkedAccess_pre_none (snapshotPlaced_spad a s (by omega) halign)]
  refine checkedAccess_spad (by decide) hlen halign (fun _ => hrace) (fun hr => hdamage ?_)
  rcases hk with rfl | rfl
  · rfl
  · exact absurd hr (by decide)

theorem exec_snapst {hd : Hdr} {s : State} (ha : acts hd s) (hv : s.seq.supervisor = true) (a : Reg5)
    (hlen : (snapshotBytes s.seq.snapshot).length = 8192)
    (h : reaches s true (placeOf s (if a = 0 then s.seq.saveptr else readS s a)) 8192 256) :
    ∃ t, exec (.snapst hd a) s = .next t ∧
      storedAt (placeOf s (if a = 0 then s.seq.saveptr else readS s a)) (snapshotBytes s.seq.snapshot) s t := by
  rw [← snapshotAddr_eq] at h ⊢
  refine ⟨_, ?_, ownRange_putSpad_storedAt _ _ s⟩
  refine (issue_guarded ha).trans (congrArg next ?_)
  rw [supervisorOnly_super hv]
  dsimp only
  rw [checkedAccess_snapshot (.inr rfl) h]
  exact performStores_spad { lane := 0, addr := snapshotAddr a s, len := 8192 } _ s
    (fun hnil => absurd hlen (by rw [hnil]; decide)) (by rw [hlen]; exact h.1)

theorem exec_snapld {hd : Hdr} {s : State} (ha : acts hd s) (hv : s.seq.supervisor = true) (a : Reg5)
    (h : reaches s false (placeOf s (if a = 0 then s.seq.saveptr else readS s a)) 8192 256) :
    let b := memRead s.mem.spad (placeOf s (if a = 0 then s.seq.saveptr else readS s a)) 8192
    exec (.snapld hd a) s = next (if snapshotOk b then onSeq (fun q => { q with snapshot := parseSnapshot q.snapshot b }) s
      else raise (cause 12 0x07 (BitVec.ofNat 64 (12 * s.seq.pc.toNat)) 0) s) := by
  rw [← snapshotAddr_eq] at h ⊢
  intro b
  refine (issue_guarded ha).trans (congrArg next ?_)
  rw [supervisorOnly_super hv]
  dsimp only
  rw [checkedAccess_snapshot (.inl rfl) h]
  have hfree : hbmAccesses (snapshotAccess .load (snapshotAddr a s)).parts = 0 :=
    hbmAccesses_spad { lane := 0, addr := snapshotAddr a s, len := 8192 } (Nat.lt_of_lt_of_le (Nat.lt_add_of_pos_right (by decide)) h.1)
  rw [hfree, metered_free, snapldAct, readMem_spad s.mem (coreWho s) _ _ h.1]
  rfl

theorem systemWordsAct : SystemWordsAct := by
  intro hd a n k s ha q at_
  refine ⟨issue_open ha.1, issue_guarded ha, issue_guarded ha,
    fun ht => ⟨exec_exit_ends ha ht, exec_exit_inLoop ha, exec_exit_held ha,
    fun hv => exec_halt ha hv ht, fun hv => exec_eret_returns ha hv ht, exec_yield ha ht⟩,
    fun hv => ⟨exec_snaprel ha hv, exec_eret_masked ha hv, exec_snapst ha hv a, exec_snapld ha hv a⟩⟩

/-! ### The end of a section -/

/-- What a landing passes by: the request to leave and the place in the command list. -/
def requestAndList (q : Seq) : Option Preempt × W64 := (q.preempt, q.cmdp)

theorem requestAndList_eq_iff {q u : Seq} :
    requestAndList q = requestAndList u ↔ q.preempt = u.preempt ∧ q.cmdp = u.cmdp := Prod.mk_inj

theorem landEntry_requestAndList (e : InFlight) (q : Seq) : requestAndList (landEntry e q) = requestAndList q := by
  unfold landEntry requestAndList
  cases e.kind <;> simp

theorem landDue_requestAndList (q : Seq) : requestAndList (landDue q) = requestAndList q :=
  landEntries_keeps requestAndList landEntry_requestAndList _ q

theorem landAll_requestAndList (q : Seq) : requestAndList (landAll q) = requestAndList q := by
  unfold landAll
  induction List.range 8 generalizing q with
  | nil => rfl
  | cons i is ih => exact (ih _).trans (landDue_requestAndList (countDown q))

/-- A fold of writes keeps what each of them keeps. -/
theorem foldl_keeps {α β γ : Type} (g : α → γ) (f : α → β → α) (h : ∀ a b, g (f a b) = g a) (bs : List β) (a : α) :
    g (bs.foldl f a) = g a := by
  induction bs generalizing a with
  | nil => rfl
  | cons b bs ih => exact (ih _).trans (h a b)

theorem landPending_requestAndList (q : Seq) (p : Pending) : requestAndList (landPending p q) = requestAndList q := by
  have hs : ∀ (q : Seq) (x : Reg5 × W64), requestAndList (q.setS x.1 x.2) = requestAndList q := by
    intro q x; simp [requestAndList]
  have hp : ∀ (q : Seq) (x : Reg4 × W64), requestAndList (q.setP x.1 x.2) = requestAndList q := fun _ _ => rfl
  have hv : ∀ (q : Seq) (x : Reg5 × VReg), requestAndList (q.setV x.1 x.2) = requestAndList q := fun _ _ => rfl
  have ht : ∀ (q : Seq) (x : Reg4 × Tile), requestAndList (q.setT x.1 x.2) = requestAndList q := fun _ _ => rfl
  calc requestAndList (landPending p q)
    _ = requestAndList (p.tiles.foldl (fun q x => q.setT x.1 x.2) (p.vregs.foldl (fun q x => q.setV x.1 x.2)
          (p.pregs.foldl (fun q x => q.setP x.1 x.2) (p.sregs.foldl (fun q x => q.setS x.1 x.2) q)))) := rfl
    _ = requestAndList q := by
      rw [foldl_keeps _ _ ht, foldl_keeps _ _ hv, foldl_keeps _ _ hp, foldl_keeps _ _ hs]

theorem landScoreboard_requestAndList (q : Seq) : requestAndList (landScoreboard q) = requestAndList q :=
  foldl_keeps requestAndList _ landPending_requestAndList q.sb q

/-- The state once every result of the section's last group has landed. -/
def landed (s : State) : State := onSeq (fun q => landScoreboard (landAll q)) s

theorem landed_requestAndList (s : State) : requestAndList (landed s).seq = requestAndList s.seq := by
  show requestAndList (landScoreboard (landAll s.seq)) = _
  rw [landScoreboard_requestAndList, landAll_requestAndList]

theorem landed_preempt (s : State) : (landed s).seq.preempt = s.seq.preempt :=
  (requestAndList_eq_iff.1 (landed_requestAndList s)).1

theorem landed_cmdp (s : State) : (landed s).seq.cmdp = s.seq.cmdp :=
  (requestAndList_eq_iff.1 (landed_requestAndList s)).2

/-- The record that follows in the command list, and the entry after it. -/
def following (s : State) : Option (LoopRecord × W64) :=
  nextRecord (landed s) (entriesLeft s.seq.cmdp (landed s)) s.seq.cmdp

/-- What follows the last section of a record. -/
def afterLastSection (s : State) : State :=
  if softAsked s && s.copy.queue.isEmpty && s.copy.fired.isEmpty && (following s).isSome then nodeSave (landed s)
  else nextCommand (landed s).seq.s (landed s)

/-- Between two iterations of the kernel: the point of a soft save. -/
def betweenIterations (s : State) : State :=
  if softAsked s then
    if saveReady s then iterationSave none s else onSeq (fun q => { q with preempt := some .saving }) s
  else s

/-- The epilogue of the record, or what follows its last section. -/
def epilogueOrFinish (s : State) : State :=
  if s.seq.record.epilogue != 0 then onSeq (enterSection .epilogue s.seq.record.epilogue) s else afterLastSection s

theorem softAsked_landed (s : State) : softAsked (landed s) = softAsked s := by
  unfold softAsked
  rw [landed_preempt]

theorem endSection_eq (s : State) : endSection s =
    match s.seq.sect with
    | .prologue => if s.seq.record.trip != 0 then onSeq (enterSection .kernel s.seq.record.kernel) s else epilogueOrFinish s
    | .kernel => if s.seq.iter.toNat + 1 < s.seq.record.trip.toNat then
        betweenIterations (onSeq (fun q => enterSection .kernel s.seq.record.kernel { q with iter := q.iter + 1 }) s)
      else epilogueOrFinish s
    | .epilogue => afterLastSection s := by
  have hlast : afterLastSection s =
      if softAsked (landed s) && (landed s).copy.queue.isEmpty && (landed s).copy.fired.isEmpty &&
        (nextRecord (landed s) (entriesLeft (landed s).seq.cmdp (landed s)) (landed s).seq.cmdp).isSome
      then nodeSave (landed s) else nextCommand (landed s).seq.s (landed s) := by
    have hcopy : (landed s).copy = s.copy := onSeq_copy _ s
    rw [softAsked_landed, landed_cmdp, hcopy, afterLastSection, following]
  unfold epilogueOrFinish
  rw [hlast]
  unfold endSection
  dsimp only
  rw [show onSeq (fun q => landScoreboard (landAll q)) s = landed s from rfl]
  generalize landed s = t
  cases s.seq.sect with
  | prologue => rfl
  | kernel =>
    refine if_congr Iff.rfl ?_ rfl
    generalize onSeq (fun q => enterSection .kernel s.seq.record.kernel { q with iter := q.iter + 1 }) s = u
    rw [betweenIterations]
    cases softAsked u with
    | false => rfl
    | true => rfl
  | epilogue => rfl

section
variable {s : State}

/-- What ends the last section of a record goes on to what follows it. -/
theorem endSection_last (h : s.seq.sect = .epilogue ∨ (s.seq.record.epilogue = 0 ∧
      ((s.seq.sect = .prologue ∧ s.seq.record.trip = 0) ∨
        (s.seq.sect = .kernel ∧ ¬ s.seq.iter.toNat + 1 < s.seq.record.trip.toNat)))) :
    endSection s = afterLastSection s := by
  rw [endSection_eq]
  rcases h with h | ⟨he, ⟨h, ht⟩ | ⟨h, hm⟩⟩
  · rw [h]
  · rw [h, ht, epilogueOrFinish, he]; rfl
  · rw [h, epilogueOrFinish, he]; exact if_neg hm

theorem endSection_epilogue (he : s.seq.record.epilogue ≠ 0)
    (h : (s.seq.sect = .prologue ∧ s.seq.record.trip = 0) ∨
      (s.seq.sect = .kernel ∧ ¬ s.seq.iter.toNat + 1 < s.seq.record.trip.toNat)) :
    endSection s = onSeq (enterSection .epilogue s.seq.record.epilogue) s := by
  have hnext : epilogueOrFinish s = onSeq (enterSection .epilogue s.seq.record.epilogue) s := if_pos (bne_iff_ne.2 he)
  rw [endSection_eq, ← hnext]
  rcases h with ⟨h, ht⟩ | ⟨h, hm⟩
  · rw [h, ht]; rfl
  · rw [h]; exact if_neg hm

theorem endSection_iterates (h : s.seq.sect = .kernel) (hm : s.seq.iter.toNat + 1 < s.seq.record.trip.toNat) :
    endSection s =
      betweenIterations (onSeq (fun q => enterSection .kernel s.seq.record.kernel { q with iter := q.iter + 1 }) s) := by
  rw [endSection_eq, h]
  exact if_pos hm

theorem endSection_prologue (h : s.seq.sect = .prologue) (ht : s.seq.record.trip ≠ 0) :
    endSection s = onSeq (enterSection .kernel s.seq.record.kernel) s := by
  rw [endSection_eq, h]
  exact if_pos (bne_iff_ne.2 ht)

theorem nextCommand_none (h : following s = none) : nextCommand (landed s).seq.s (landed s) = completeUnit (landed s) := by
  rw [following, ← landed_cmdp] at h
  rw [nextCommand, h]

theorem nextCommand_some {x : LoopRecord} {p : W64} (h : following s = some (x, p)) :
    nextCommand (landed s).seq.s (landed s) = startWith x p (carriedScalars (landed s).seq.s) (landed s) := by
  rw [following, ← landed_cmdp] at h
  rw [nextCommand, h]

theorem afterLastSection_none (h : following s = none) : afterLastSection s = completeUnit (landed s) := by
  rw [afterLastSection, h, Option.isSome_none, Bool.and_false, if_neg Bool.false_ne_true, nextCommand_none h]

theorem afterLastSection_saves {r : LoopRecord × W64} (h : following s = some r) (hsoft : softAsked s = true)
    (hq : s.copy.queue = []) (hf : s.copy.fired = []) : afterLastSection s = nodeSave (landed s) := by
  rw [afterLastSection, h, hsoft, hq, hf]
  exact if_pos rfl

theorem afterLastSection_starts {x : LoopRecord} {p : W64} (h : following s = some (x, p))
    (hstay : softAsked s = false ∨ ¬ (s.copy.queue = [] ∧ s.copy.fired = [])) :
    afterLastSection s = startWith x p (carriedScalars (landed s).seq.s) (landed s) := by
  have hcond : (softAsked s && s.copy.queue.isEmpty && s.copy.fired.isEmpty && (following s).isSome) = false := by
    rw [Bool.eq_false_iff]
    intro hc
    simp only [Bool.and_eq_true, List.isEmpty_iff] at hc
    obtain ⟨⟨⟨hsoft, hq⟩, hf⟩, -⟩ := hc
    rcases hstay with hn | hn
    · rw [hn] at hsoft; exact Bool.false_ne_true hsoft
    · exact hn ⟨hq, hf⟩
  rw [afterLastSection, hcond, if_neg Bool.false_ne_true, nextCommand_some h]

end

/-- A record starts with nothing of its unit's registers but what is carried over. -/
theorem startWith_registers (x : LoopRecord) (p : W64) (scalars : Vector W64 32) (s : State) :
    let t := startWith x p scalars s
    t = { s with seq := t.seq } ∧ t.seq.record = x ∧ t.seq.cmdp = p ∧ t.seq.iter = 0 ∧ t.seq.trip = x.trip ∧
      t.seq.ckctl = 5 ∧ t.seq.fstat = 0 ∧ t.seq.steps = 0 ∧ t.seq.loops = [] ∧ t.seq.s = scalars := by
  intro t
  have hseq : t.seq = beginRecord x { clearRegisters s.seq with cmdp := p, s := scalars } := rfl
  refine ⟨rfl, ?_⟩
  rw [hseq, beginRecord]
  split
  · exact ⟨rfl, rfl, rfl, rfl, rfl, rfl, rfl, rfl, rfl⟩
  · exact ⟨rfl, rfl, rfl, rfl, rfl, rfl, rfl, rfl, rfl⟩

theorem getElem_carriedScalars (old : Vector W64 32) (i : Fin 32) :
    (carriedScalars old)[i] = if 1 ≤ i.val ∧ i.val ≤ 7 then old[i] else 0 := by
  simp [carriedScalars]

theorem sectionsFollowEachOther : SectionsFollowEachOther := by
  intro n s q r soft enters ends more last _ follows
  refine ⟨endSection_prologue, fun hk hm => ?_, endSection_epilogue,
    fun hl hf => ?_, fun hl x p hf => ⟨fun hs hq hfired => ?_, fun hstay => ?_⟩⟩
  · exact endSection_iterates hk hm
  · exact (endSection_last hl).trans (afterLastSection_none hf)
  · exact (endSection_last hl).trans (afterLastSection_saves hf hs hq hfired)
  · have hends : ends = startWith x p (carriedScalars (landed s).seq.s) (landed s) :=
      (endSection_last hl).trans (afterLastSection_starts hf hstay)
    obtain ⟨hrest, hrecord, hcmdp, hiter, htrip, hckctl, hfstat, hsteps, hloops, hs⟩ :=
      startWith_registers x p (carriedScalars (landed s).seq.s) (landed s)
    refine ⟨_, hends, hrest, hrecord, hcmdp, hiter, htrip, hckctl, hfstat, hsteps, hloops, fun i => ?_⟩
    rw [hs]
    exact getElem_carriedScalars _ i

end Sys2Proof.Machine

namespace Sys2Proof.Proofs
open Sys2Proof.Machine

/-- Settles O39: the words by the rule for a word whose guard passes, and the end of a section by the section it ends. -/
theorem systemWordsTakeEffect : Obligations.SystemWordsTakeEffect := ⟨systemWordsAct, sectionsFollowEachOther⟩

end Sys2Proof.Proofs
end

section
/-! PROOFS. Words between tiles: clearing, marking, moving, transposing, adding and converting (R70, R73, R168 to R171). -/

open Sys2Proof.Claims

namespace Sys2Proof.Machine

/-! ### Fields, words and rows of wide values -/

/-- The number whose digits in base 2^b are the entries of a list, the first the lowest. -/
def ofDigits {b : Nat} (ds : List (BitVec b)) : Nat := ds.foldr (fun d acc => d.toNat + 2 ^ b * acc) 0

theorem ofDigits_cons {b : Nat} (d : BitVec b) (ds : List (BitVec b)) : ofDigits (d :: ds) = d.toNat + 2 ^ b * ofDigits ds := rfl

theorem ofDigits_digit {b : Nat} (ds : List (BitVec b)) (i : Nat) :
    ofDigits ds / 2 ^ (b * i) % 2 ^ b = (ds.getD i 0).toNat := by
  induction ds generalizing i with
  | nil => simp [ofDigits]
  | cons d ds ih =>
    rw [ofDigits_cons]
    cases i with
    | zero => simp [Nat.add_mul_mod_self_left, Nat.mod_eq_of_lt d.isLt]
    | succ i =>
      rw [Nat.mul_succ, Nat.add_comm (b * i), Nat.pow_add, ← Nat.div_div_eq_div_mul,
        Nat.add_mul_div_left _ _ (Nat.two_pow_pos b), Nat.div_eq_of_lt d.isLt, Nat.zero_add, ih, List.getD_cons_succ]

/-- A field of a number that lies within its width. -/
theorem extractLsb'_ofNat {w : Nat} (v lo n : Nat) (h : lo + n ≤ w) :
    (BitVec.ofNat w v).extractLsb' lo n = BitVec.ofNat n (v / 2 ^ lo) := by
  apply BitVec.eq_of_getLsbD_eq
  intro i hi
  rw [BitVec.getLsbD_extractLsb', BitVec.getLsbD_ofNat, BitVec.getLsbD_ofNat, Nat.testBit_div_two_pow]
  simp [hi, show lo + i < w by omega, Nat.add_comm]

theorem extractLsb'_ofDigits {w b : Nat} (ds : List (BitVec b)) (i : Nat) (h : b * i + b ≤ w) :
    (BitVec.ofNat w (ofDigits ds)).extractLsb' (b * i) b = ds.getD i 0 := by
  rw [extractLsb'_ofNat _ _ _ h]
  apply BitVec.eq_of_toNat_eq
  rw [BitVec.toNat_ofNat, ofDigits_digit]

theorem lane_ofWords {w : Nat} (ws : List W32) (i : Nat) (h : 32 * i + 32 ≤ w) : lane (ofWords w ws) i = ws.getD i 0 :=
  extractLsb'_ofDigits ws i h

theorem rowBits_dataOfRows (rows : List (BitVec 2048)) (m : Nat) (h : m < 64) : rowBits (dataOfRows rows) m = rows.getD m 0 :=
  extractLsb'_ofDigits rows m (by omega)

/-- A bit of a value with a field written: the field's bits are those of the number written, the others stay. -/
theorem getLsbD_setBits {w : Nat} (x : BitVec w) (lo n v i : Nat) (hi : i < w) :
    (setBits x lo n v).getLsbD i = if lo ≤ i ∧ i < lo + n then v.testBit (i - lo) else x.getLsbD i := by
  unfold setBits
  simp only [BitVec.getLsbD_or, BitVec.getLsbD_and, BitVec.getLsbD_not, BitVec.getLsbD_ofNat, hi, decide_true, Bool.true_and,
    Nat.testBit_shiftLeft, Nat.testBit_two_pow_sub_one]
  by_cases h1 : lo ≤ i <;> by_cases h2 : i < lo + n
  · simp [h1, h2, show i - lo < n by omega]
  · simp [h1, h2, show ¬ i - lo < n by omega]
  · simp [h1]
  · simp [h1]

theorem extractLsb'_setBits_other {w : Nat} (x : BitVec w) (lo n v o k : Nat) (hw : o + k ≤ w) (h : o + k ≤ lo ∨ lo + n ≤ o) :
    (setBits x lo n v).extractLsb' o k = x.extractLsb' o k := by
  apply BitVec.eq_of_getLsbD_eq
  intro i hi
  simp only [BitVec.getLsbD_extractLsb', hi, decide_true, Bool.true_and]
  rw [getLsbD_setBits _ _ _ _ _ (by omega), if_neg (by omega)]

theorem extractLsb'_setBits {w : Nat} (x : BitVec w) (lo n v o k : Nat) (hw : lo + n ≤ w) (h : o + k ≤ n) :
    (setBits x lo n v).extractLsb' (lo + o) k = BitVec.ofNat k (v / 2 ^ o) := by
  apply BitVec.eq_of_getLsbD_eq
  intro i hi
  simp only [BitVec.getLsbD_extractLsb', hi, decide_true, Bool.true_and, BitVec.getLsbD_ofNat, Nat.testBit_div_two_pow]
  rw [getLsbD_setBits _ _ _ _ _ (by omega), if_pos (by omega)]
  congr 1
  omega

/-! ### Tags and status -/

@[simp] theorem tagFmt_mkTag (f : BitVec 4) (sc cv : Bool) : tagFmt (mkTag f sc cv) = f := by
  revert f sc cv; decide

@[simp] theorem tagCv_mkTag (f : BitVec 4) (sc cv : Bool) : tagCv (mkTag f sc cv) = cv := by
  revert f sc cv; decide

theorem nacc_setNacc (t : Tile) (st : BitVec 256) (n : Nat) (h : t.status = setNacc st n) : t.nacc = min n 0xFFFF := by
  unfold Tile.nacc
  rw [h, setNacc]
  rw [show (0 : Nat) = 0 + 0 from rfl, extractLsb'_setBits st 0 16 _ 0 16 (by decide) (by decide), BitVec.toNat_ofNat]
  omega

theorem nacc_le (t : Tile) : t.nacc ≤ 0xFFFF := Nat.le_of_lt_succ (t.status.extractLsb' 0 16).isLt

/-- The mark's field of a status whose NACC is written. -/
theorem mark_setNacc (st : BitVec 256) (n : Nat) : (setNacc st n).extractLsb' 16 240 = st.extractLsb' 16 240 :=
  extractLsb'_setBits_other st 0 16 _ 16 240 (by decide) (.inr (by decide))

/-! ### What an X word does in user mode -/

theorem xWord_acts {u : Use} {f : State → State} {s : State} (h : xacts u.hd s) : xWord u f s = next (f s) := by
  obtain ⟨⟨hopen, hguard⟩, huser⟩ := h
  rw [xWord, issue_open hopen, guarded_pass hguard, huser]; rfl

theorem unlessCheck_none {c : State → Option TrapInfo} {f : State → State} {s : State} (h : c s = none) :
    unlessCheck c f s = f s := by
  rw [unlessCheck, h]

theorem unlessCheck_some {c : State → Option TrapInfo} {f : State → State} {s : State} {t : TrapInfo} (h : c s = some t) :
    unlessCheck c f s = raise t s := by
  rw [unlessCheck, h]

theorem tileCheck_good {s : State} {r : Reg4} {field : Nat} (h : badTag (readT s r).tag = false) : tileCheck s r field = none := by
  simp only [tileCheck, h]; rfl

/-- One tile that lands without flags. -/
theorem landTiles_single (d : Reg4) (u : Tile) (s : State) : landTiles [(d, u)] 0 s = onSeq (fun q => q.setT d u) s := by
  have hfstat : s.seq.fstat ||| (0 : Flags).setWidth 64 ||| ((0 : Flags).setWidth 64 <<< 8) = s.seq.fstat := by simp
  have hraised : s.seq.group.raised ||| (0 : Flags) = s.seq.group.raised := BitVec.or_zero
  show ({ s with seq := { s.seq.setT d u with
    fstat := s.seq.fstat ||| (0 : Flags).setWidth 64 ||| ((0 : Flags).setWidth 64 <<< 8),
    group := { s.seq.group with raised := s.seq.group.raised ||| (0 : Flags) } } } : State) = _
  rw [hfstat, hraised]
  rfl

/-- An X word that lands one tile without flags. -/
theorem tileLands_of_exec {u : Use} {d : Reg4} {t : Tile} {f : State → State} {s : State} (h : xacts u.hd s)
    (hf : f s = landTiles [(d, t)] 0 s) : tileLands (xWord u f s) d t s := by
  rw [tileLands, xWord_acts h, hf, landTiles_single]; rfl

/-! ### Marks -/

/-- The remaining counts of the loops, innermost first, are the digits of the mark. -/
theorem remainSum_eq (loops : List LoopEntry) (k n : Nat) :
    (loops.zipIdx k).foldl (fun n x => n + x.1.remain.toNat * 2 ^ (32 * x.2)) n =
      n + 2 ^ (32 * k) * ofDigits (loops.map (·.remain)) := by
  induction loops generalizing k n with
  | nil => rfl
  | cons e loops ih =>
    rw [List.zipIdx_cons, List.foldl_cons, ih, List.map_cons, ofDigits_cons, Nat.mul_succ, Nat.pow_add]
    ring

theorem markStatus_fields (st : BitVec 256) (pc : BitVec 40) (loops : List LoopEntry) :
    (markStatus st pc loops).extractLsb' 0 16 = st.extractLsb' 0 16 ∧ (markStatus st pc loops).getLsbD 16 = true ∧
      (markStatus st pc loops).extractLsb' 24 40 = pc ∧
      (markStatus st pc loops).extractLsb' 20 3 = BitVec.ofNat 3 loops.length := by
  have hpc := pc.isLt
  have field : ∀ o k, o + k ≤ 48 → (markStatus st pc loops).extractLsb' (16 + o) k =
      BitVec.ofNat k ((1 + loops.length % 8 * 2 ^ 4 + pc.toNat * 2 ^ 8) / 2 ^ o) := by
    intro o k h
    rw [markStatus, extractLsb'_setBits_other _ _ _ _ _ _ (by omega) (by omega),
      extractLsb'_setBits _ _ _ _ _ _ (by decide) h]
  refine ⟨?_, ?_, (field 8 40 (by decide)).trans ?_, (field 4 3 (by decide)).trans ?_⟩
  · rw [markStatus, extractLsb'_setBits_other _ _ _ _ _ _ (by decide) (by decide),
      extractLsb'_setBits_other _ _ _ _ _ _ (by decide) (by decide)]
  · have hvalid : (BitVec.extractLsb' 16 1 (markStatus st pc loops)).getLsbD 0 = true := by
      rw [field 0 1 (by decide), BitVec.getLsbD_ofNat, Nat.testBit_zero]
      simp
      omega
    simpa using hvalid
  · apply BitVec.eq_of_toNat_eq
    rw [BitVec.toNat_ofNat]
    omega
  · apply BitVec.eq_of_toNat_eq
    rw [BitVec.toNat_ofNat, BitVec.toNat_ofNat]
    omega

theorem markStatus_remain (st : BitVec 256) (pc : BitVec 40) (loops : List LoopEntry) (i : Nat) (h : i < 6) :
    (markStatus st pc loops).extractLsb' (64 + 32 * i) 32 = match loops[i]? with
      | some e => e.remain.setWidth 32
      | none => 0 := by
  rw [markStatus, extractLsb'_setBits _ _ _ _ _ _ (by decide) (by omega), remainSum_eq, Nat.zero_add, Nat.mul_zero, Nat.pow_zero,
    Nat.one_mul]
  apply BitVec.eq_of_toNat_eq
  rw [BitVec.toNat_ofNat, ofDigits_digit, List.getD_eq_getElem?_getD, List.getElem?_map, List.getElem?_take_of_lt h]
  cases loops[i]? with
  | none => rfl
  | some e => simp

theorem tmark_lands {hd : Hdr} {s : State} (h : xacts hd s) (d : Reg4) :
    ∃ u : Tile, tileLands (exec (.tmark hd d) s) d u s ∧ u = { readT s d with status := u.status } ∧ u.nacc = (readT s d).nacc ∧
      u.status.getLsbD 16 = true ∧ u.status.extractLsb' 24 40 = s.seq.pc ∧
      u.status.extractLsb' 20 3 = BitVec.ofNat 3 s.seq.loops.length ∧
      ∀ i, i < 6 → u.status.extractLsb' (64 + 32 * i) 32 = match s.seq.loops[i]? with
        | some e => e.remain.setWidth 32
        | none => 0 := by
  obtain ⟨hnacc, hvalid, hpc, hdepth⟩ := markStatus_fields (readT s d).status s.seq.pc s.seq.loops
  refine ⟨{ readT s d with status := markStatus (readT s d).status s.seq.pc s.seq.loops }, ?_, rfl,
    congrArg BitVec.toNat hnacc, hvalid, hpc, hdepth, fun i hi => markStatus_remain _ _ _ i hi⟩
  exact tileLands_of_exec (u := useX hd [] [.t d]) h rfl

theorem tzero_lands {hd : Hdr} {s : State} (h : xacts hd s) (d f : Reg4) :
    tileLands (exec (.tzero hd d f) s) d (zeroTile f (readT s d)) s :=
  tileLands_of_exec (u := useX hd [] [.t d]) h rfl

/-! ### Copies and transposes -/

/-- A tile whose status is that of a copy keeps the destination's mark and takes the source's count. -/
theorem copiedStatus_keeps (src old u : Tile) (h : u.status = copiedStatus src old) :
    u.nacc = src.nacc ∧ u.status.extractLsb' 16 240 = old.status.extractLsb' 16 240 := by
  refine ⟨(nacc_setNacc u _ _ h).trans (Nat.min_eq_left (nacc_le src)), ?_⟩
  rw [h]
  exact mark_setNacc _ _

theorem tmov_lands {hd : Hdr} {s : State} (h : xacts hd s) (d a : Reg4) (ht : badTag (readT s a).tag = false) :
    tileLands (exec (.tmov hd d a) s) d { readT s a with status := copiedStatus (readT s a) (readT s d) } s :=
  tileLands_of_exec (u := useX hd [.t a] [.t d]) h (unlessCheck_none (tileCheck_good ht))

/-- The transpose of a tile, with the mark of the tile it replaces. -/
def transposedTile (t old : Tile) : Tile :=
  { t with data := dataOfRows ((List.range 64).map (fun j => vecOf (fun m => lane (rowBits t.data m) j)))
           rowSum := ofWords 2048 (colWords t 0 64)
           colSum := transposedSums t
           status := copiedStatus t old }

theorem ttr_lands {hd : Hdr} {s : State} (h : xacts hd s) (d a : Reg4) (ht : badTag (readT s a).tag = false)
    (hf : tagFmt (readT s a).tag = 1 ∨ tagFmt (readT s a).tag = 3) :
    tileLands (exec (.ttr hd d a) s) d (transposedTile (readT s a) (readT s d)) s := by
  refine tileLands_of_exec (u := useX hd [.t a] [.t d]) h (unlessCheck_none ?_)
  have hfmt : (tagFmt (readT s a).tag == 1 || tagFmt (readT s a).tag == 3) = true := by simpa using hf
  simp only [ht, hfmt]
  rfl

theorem getD_map_range {α : Type} (f : Nat → α) (n i : Nat) (x : α) (h : i < n) : ((List.range n).map f).getD i x = f i := by
  simp [List.getD_eq_getElem?_getD, h]

theorem transposedTile_keeps (t old : Tile) : (transposedTile t old).nacc = t.nacc ∧
    (transposedTile t old).status.extractLsb' 16 240 = old.status.extractLsb' 16 240 :=
  copiedStatus_keeps t old (transposedTile t old) rfl

/-- The tag of a tile whose contents are replaced. Stated for any contents, so that nobody evaluates those of a transpose. -/
theorem tag_of_contents (t : Tile) (data : BitVec 131072) (rows : BitVec 2048) (cols : BitVec 16384) (status : BitVec 256) :
    ({ t with data := data, rowSum := rows, colSum := cols, status := status } : Tile).tag = t.tag := rfl

theorem transposedTile_tag (t old : Tile) : (transposedTile t old).tag = t.tag := tag_of_contents t _ _ _ _

theorem rowBits_transposedTile (t old : Tile) (m n : Nat) (hm : m < 64) (hn : n < 64) :
    lane (rowBits (transposedTile t old).data m) n = lane (rowBits t.data n) m := by
  show lane (rowBits (dataOfRows _) m) n = _
  rw [rowBits_dataOfRows _ _ hm, getD_map_range _ _ _ _ hm, lane_vecOf _ _ hn]

theorem sums_transposedTile (t old : Tile) (i : Nat) (h : i < 64) :
    lane (transposedTile t old).rowSum i = lane t.colSum i ∧ lane (transposedTile t old).colSum i = lane t.rowSum i := by
  constructor
  · show lane (ofWords 2048 (colWords t 0 64)) i = _
    rw [lane_ofWords _ _ (by omega), colWords, getD_map_range _ _ _ _ h, Nat.zero_add]
  · show lane (transposedSums t) i = _
    rw [transposedSums, lane_ofWords _ _ (by omega), List.append_assoc, List.getD_append _ _ _ _ (by simpa using h),
      getD_map_range _ _ _ _ h]

theorem zeroTile_keeps (f : BitVec 4) (old : Tile) :
    (zeroTile f old).nacc = 0 ∧ (zeroTile f old).status.extractLsb' 16 240 = old.status.extractLsb' 16 240 :=
  ⟨(nacc_setNacc (zeroTile f old) old.status 0 rfl).trans (Nat.zero_min _), mark_setNacc old.status 0⟩

theorem zeroTile_content (f : BitVec 4) (old : Tile) : (zeroTile f old).data = 0 ∧ (zeroTile f old).rowSum = 0 ∧
    (zeroTile f old).colSum = 0 ∧ (zeroTile f old).tag = mkTag f false true := by
  simp only [zeroTile, and_self]

theorem tileMovesKeepTheMark : TileMovesKeepTheMark := by
  intro hd d a f s h t old keeps
  refine ⟨⟨zeroTile f old, tzero_lands h d f, zeroTile_keeps f old, zeroTile_content f old⟩, tmark_lands h d,
    fun ht => ⟨_, tmov_lands h d a ht, copiedStatus_keeps t old { t with status := copiedStatus t old } rfl, rfl⟩,
    fun ht hf => ⟨transposedTile t old, ttr_lands h d a ht hf, transposedTile_keeps t old, transposedTile_tag t old,
      fun m n hm hn => rowBits_transposedTile t old m n hm hn, fun i hi => sums_transposedTile t old i hi⟩⟩

/-! ### Sums of accumulators -/

theorem tadd_lands {hd : Hdr} {s : State} (h : xacts hd s) (d a b : Reg4) (hx : badTag (readT s a).tag = false)
    (hy : badTag (readT s b).tag = false) (hfmt : tagFmt (readT s a).tag = tagFmt (readT s b).tag)
    (hf : tagFmt (readT s a).tag = 1 ∨ tagFmt (readT s a).tag = 3) (hnx : (readT s a).nacc ≠ 0) (hny : (readT s b).nacc ≠ 0) :
    exec (.tadd hd d a b) s = next (landTiles [(d, (tileSum (readT s a) (readT s b) (readT s d)).1)]
      (tileSum (readT s a) (readT s b) (readT s d)).2 s) := by
  have hsum : (tagFmt (readT s a).tag == 1 || tagFmt (readT s a).tag == 3) = true := by simpa using hf
  have hcheck : taddCheck a b s = none := by
    simp only [taddCheck, ← hfmt, hsum, hx, hy, bne_iff_ne.2 hnx, bne_iff_ne.2 hny]
    simp
  refine (xWord_acts (u := useX hd [.t a, .t b] [.t d]) h).trans (congrArg next ?_)
  exact unlessCheck_none hcheck

theorem combWords_eq (int : Bool) (x y : Tile) (lo : Nat) :
    List.zipWith (combineWord int) (colWords x lo 64) (colWords y lo 64) =
      (List.range 64).map (fun i => combineWord int (lane x.colSum (lo + i)) (lane y.colSum (lo + i))) := by
  rw [colWords, colWords, List.zipWith_map, List.zipWith_self]

/-- The three rows of words of an accumulator's sums are one list. -/
theorem combWords_append (int : Bool) (x y : Tile) :
    let comb := fun (lo : Nat) => List.zipWith (combineWord int) (colWords x lo 64) (colWords y lo 64)
    comb 0 ++ comb 64 ++ comb 128 = (List.range 192).map (fun i => combineWord int (lane x.colSum i) (lane y.colSum i)) := by
  intro comb
  have hlow : List.range 128 = List.range 64 ++ (List.range 64).map (64 + ·) := List.range_add (n := 64) (m := 64)
  have hall : List.range 192 = List.range 128 ++ (List.range 64).map (128 + ·) := List.range_add (n := 128) (m := 64)
  rw [hall, hlow, List.map_append, List.map_append, List.map_map, List.map_map]
  simp only [comb, combWords_eq, Nat.zero_add]
  rfl

/-- The words of an accumulator's sums and magnitudes. -/
theorem lane_accRow (c mc mr : List W32) (satr satc nfr nfc : W64) (i : Nat) (h : i < 512) (hi : i < (c ++ mc ++ mr).length) :
    lane (accRow c mc mr satr satc nfr nfc) i = (c ++ mc ++ mr).getD i 0 := by
  have hsplit : c ++ mc ++ mr ++ maskWords satr ++ maskWords satc ++ maskWords nfr ++ maskWords nfc =
      (c ++ mc ++ mr) ++ (maskWords satr ++ maskWords satc ++ maskWords nfr ++ maskWords nfc) := by
    simp only [List.append_assoc]
  rw [accRow, lane_ofWords _ _ (by omega), hsplit, List.getD_append _ _ _ _ hi]

/-- The words of an accumulator's saturation masks, after its sums and magnitudes. -/
theorem lane_accRow_mask (c mc mr : List W32) (satr satc nfr nfc : W64) (i : Nat) (h : (c ++ mc ++ mr).length + i < 512)
    (hi : i < 4) :
    lane (accRow c mc mr satr satc nfr nfc) ((c ++ mc ++ mr).length + i) = (maskWords satr ++ maskWords satc).getD i 0 := by
  have hsplit : c ++ mc ++ mr ++ maskWords satr ++ maskWords satc ++ maskWords nfr ++ maskWords nfc =
      (c ++ mc ++ mr) ++ ((maskWords satr ++ maskWords satc) ++ (maskWords nfr ++ maskWords nfc)) := by
    simp only [List.append_assoc]
  rw [accRow, lane_ofWords _ _ (by omega), hsplit, List.getD_append_right _ _ _ _ (Nat.le_add_right _ _), Nat.add_sub_cancel_left,
    List.getD_append _ _ _ _ hi]

theorem lane_tileSum_words (x y old : Tile) (i : Nat) (h : i < 192) : lane (tileSum x y old).1.colSum i =
    combineWord (isIntFmt (tagFmt x.tag)) (lane x.colSum i) (lane y.colSum i) := by
  have hcomb := combWords_append (isIntFmt (tagFmt x.tag)) x y
  dsimp only at hcomb
  show lane (accRow _ _ _ _ _ 0 0) i = _
  rw [lane_accRow _ _ _ _ _ _ _ i (by omega) (by rw [hcomb]; simpa using h), hcomb, getD_map_range _ _ _ _ h]

/-- The masks of two accumulators joined, as words. -/
theorem maskWords_or (x y : Tile) (i : Nat) (h : i < 4) :
    (maskWords (colMask x 192 ||| colMask y 192) ++ maskWords (colMask x 194 ||| colMask y 194)).getD i 0 =
      lane x.colSum (192 + i) ||| lane y.colSum (192 + i) := by
  have hlow : ∀ hi lo hi' lo' : BitVec 32, ((hi ++ lo : BitVec (32 + 32)) ||| (hi' ++ lo')).extractLsb' 0 32 = lo ||| lo' := by
    intro hi lo hi' lo'
    apply BitVec.eq_of_getLsbD_eq
    intro j hj
    simp only [BitVec.getLsbD_extractLsb', BitVec.getLsbD_or, BitVec.getLsbD_append]
    simp [hj]
  have hhigh : ∀ hi lo hi' lo' : BitVec 32, ((hi ++ lo : BitVec (32 + 32)) ||| (hi' ++ lo')).extractLsb' 32 32 = hi ||| hi' := by
    intro hi lo hi' lo'
    apply BitVec.eq_of_getLsbD_eq
    intro j hj
    simp only [BitVec.getLsbD_extractLsb', BitVec.getLsbD_or, BitVec.getLsbD_append]
    simp [hj]
  interval_cases i
  · exact hlow _ _ _ _
  · exact hhigh _ _ _ _
  · exact hlow _ _ _ _
  · exact hhigh _ _ _ _

theorem lane_tileSum_masks (x y old : Tile) (i : Nat) (hl : 192 ≤ i) (h : i < 196) : lane (tileSum x y old).1.colSum i =
    lane x.colSum i ||| lane y.colSum i := by
  obtain ⟨j, rfl⟩ := Nat.exists_eq_add_of_le hl
  have hcomb := combWords_append (isIntFmt (tagFmt x.tag)) x y
  have hlen := congrArg List.length hcomb
  rw [List.length_map, List.length_range] at hlen
  rw [← maskWords_or x y j (by omega)]
  have key := lane_accRow_mask (List.zipWith (combineWord (isIntFmt (tagFmt x.tag))) (colWords x 0 64) (colWords y 0 64))
    (List.zipWith (combineWord (isIntFmt (tagFmt x.tag))) (colWords x 64 64) (colWords y 64 64))
    (List.zipWith (combineWord (isIntFmt (tagFmt x.tag))) (colWords x 128 64) (colWords y 128 64))
    (colMask x 192 ||| colMask y 192) (colMask x 194 ||| colMask y 194) 0 0 j (by rw [hlen]; omega) (by omega)
  rw [hlen] at key
  exact key

theorem combineWord_int (m n : W32) : combineWord true m n = m + n := rfl

theorem combineWord_f32 (m n : W32) : combineWord false m n = (addF32 m n).val := rfl

theorem lane_tileSum_rowSum (x y old : Tile) (i : Nat) (h : i < 64) : lane (tileSum x y old).1.rowSum i =
    combineWord (isIntFmt (tagFmt x.tag)) (lane x.rowSum i) (lane y.rowSum i) := lane_vecOf _ i h

theorem lane_tileSum_data (x y old : Tile) (m n : Nat) (hm : m < 64) (hn : n < 64) :
    lane (rowBits (tileSum x y old).1.data m) n =
      combineWord (isIntFmt (tagFmt x.tag)) (lane (rowBits x.data m) n) (lane (rowBits y.data m) n) := by
  show lane (rowBits (dataOfRows (List.map _ (List.map _ (List.range 64)))) m) n = _
  rw [rowBits_dataOfRows _ _ hm, List.map_map, getD_map_range _ _ _ _ hm]
  show lane (ofWords 2048 (List.map _ (List.map _ (List.range 64)))) n = _
  rw [lane_ofWords _ _ (by omega), List.map_map, getD_map_range _ _ _ _ hn, combineWord]
  dsimp only [Function.comp]
  split <;> rfl

/-- A fold whose every step keeps its value. -/
theorem foldl_keepsOn {α β : Type} (f : α → β → α) (bs : List β) (h : ∀ a, ∀ b ∈ bs, f a b = a) (a : α) :
    bs.foldl f a = a := by
  induction bs generalizing a with
  | nil => rfl
  | cons b bs ih =>
    rw [List.foldl_cons, h a b List.mem_cons_self]
    exact ih (fun a c hc => h a c (List.mem_cons_of_mem _ hc)) a

/-- Results without flags join to none. -/
theorem joinFlags_none {α : Type} (f : α → Flags) (xs : List α) (h : ∀ x ∈ xs, f x = 0) (g : Flags) :
    xs.foldl (fun g x => g ||| f x) g = g :=
  foldl_keepsOn _ xs (fun g x hx => by rw [h x hx]; exact BitVec.or_zero) g

/-- Integer accumulators add without flags. -/
theorem tileSum_flags_int (x y old : Tile) (h : isIntFmt (tagFmt x.tag) = true) : (tileSum x y old).2 = 0 := by
  unfold tileSum
  simp only [h, if_true]
  have hrows : ∀ row ∈ (List.range 64).map (fun m => (List.range 64).map (fun i =>
      ({ val := lane (rowBits x.data m) i + lane (rowBits y.data m) i, flags := 0 } : Res W32))), ∀ e ∈ row, e.flags = 0 := by
    simp only [List.mem_map]
    rintro _ ⟨m, -, rfl⟩ e he
    obtain ⟨i, -, rfl⟩ := List.mem_map.1 he
    rfl
  revert hrows
  generalize (List.range 64).map (fun m => (List.range 64).map (fun i =>
    ({ val := lane (rowBits x.data m) i + lane (rowBits y.data m) i, flags := 0 } : Res W32))) = rows
  intro hrows
  exact foldl_keepsOn _ rows (fun g row hr => joinFlags_none (fun e : Res W32 => e.flags) row (hrows row hr) g) 0

/-! ### The statement of sums -/

/-- What a sum of accumulators holds, by the addition of its words. -/
theorem tileSum_added (x y old : Tile) (plus : W32 → W32 → W32)
    (hplus : ∀ m n, combineWord (isIntFmt (tagFmt x.tag)) m n = plus m n) :
    let u := (tileSum x y old).1
    u.nacc = min 0xFFFF (x.nacc + y.nacc) ∧ u.tag = mkTag (tagFmt x.tag) false false ∧
      (∀ m n, m < 64 → n < 64 → lane (rowBits u.data m) n = plus (lane (rowBits x.data m) n) (lane (rowBits y.data m) n)) ∧
      (∀ i, i < 64 → lane u.rowSum i = plus (lane x.rowSum i) (lane y.rowSum i)) ∧
      (∀ i, i < 192 → lane u.colSum i = plus (lane x.colSum i) (lane y.colSum i)) ∧
      (∀ i, 192 ≤ i → i < 196 → lane u.colSum i = lane x.colSum i ||| lane y.colSum i) := by
  refine ⟨(nacc_setNacc _ old.status _ rfl).trans (Nat.min_eq_left (Nat.min_le_left _ _)), rfl,
    fun m n hm hn => (lane_tileSum_data x y old m n hm hn).trans (hplus _ _),
    fun i hi => (lane_tileSum_rowSum x y old i hi).trans (hplus _ _),
    fun i hi => (lane_tileSum_words x y old i hi).trans (hplus _ _), lane_tileSum_masks x y old⟩

/-! ### Conversions -/

section
variable {hd : Hdr} {s : State} (h : xacts hd s) (d a f : Reg4) (z : BitVec 1) (hx : badTag (readT s a).tag = false)
include h hx

theorem tcvt_unchecked (hc : tagCv (readT s a).tag = false) :
    exec (.tcvt hd d a f z) s = next (raise (cause 4 0x09 0 (sumInfo [] [] a.toNat)) s) := by
  refine (xWord_acts (u := useX hd [.t a] [.t d]) h).trans (congrArg next (unlessCheck_some ?_))
  simp only [tileCheck_good hx, hc]
  rfl

theorem tcvt_mismatched (hc : tagCv (readT s a).tag = true)
    (hv : ¬ ((verifySums (tagFmt (readT s a).tag) (readT s a).values (heldSums (readT s a))).rows = [] ∧
      (verifySums (tagFmt (readT s a).tag) (readT s a).values (heldSums (readT s a))).cols = [])) :
    exec (.tcvt hd d a f z) s = next (raise (cause 4 0x0B 0
      (sumInfo (verifySums (tagFmt (readT s a).tag) (readT s a).values (heldSums (readT s a))).rows
        (verifySums (tagFmt (readT s a).tag) (readT s a).values (heldSums (readT s a))).cols a.toNat)) s) := by
  refine (xWord_acts (u := useX hd [.t a] [.t d]) h).trans (congrArg next (unlessCheck_some ?_))
  generalize hverdict : verifySums (tagFmt (readT s a).tag) (readT s a).values (heldSums (readT s a)) = v at hv ⊢
  have hempty : (v.rows.isEmpty && v.cols.isEmpty) = false := by
    rw [Bool.eq_false_iff]
    simpa using hv
  simp only [tileCheck_good hx, hc, hverdict, hempty]
  rfl

theorem tcvt_converts (hc : tagCv (readT s a).tag = true)
    (hr : (verifySums (tagFmt (readT s a).tag) (readT s a).values (heldSums (readT s a))).rows = [])
    (hcol : (verifySums (tagFmt (readT s a).tag) (readT s a).values (heldSums (readT s a))).cols = []) :
    exec (.tcvt hd d a f z) s = next (convertAct d a f (z == 1) s) := by
  refine (xWord_acts (u := useX hd [.t a] [.t d]) h).trans (congrArg next (unlessCheck_none ?_))
  simp only [tileCheck_good hx, hc, hr, hcol]
  rfl

end

theorem convertTile_tag (f : BitVec 4) (rz : Bool) (x old : Tile) :
    tagFmt (convertTile f rz x old).1.tag = f ∧ tagCv (convertTile f rz x old).1.tag = true ∧
      (convertTile f rz x old).1.nacc = 0 :=
  ⟨tagFmt_mkTag _ _ _, tagCv_mkTag _ _ _, (nacc_setNacc _ old.status 0 rfl).trans (Nat.zero_min _)⟩

theorem convertAct_lands (d a f : Reg4) (rz : Bool) (s : State) (h : s.seq.lanesDiffer = false) :
    convertAct d a f rz s =
      landTiles [(d, (convertTile f rz (readT s a) (readT s d)).1)] (convertTile f rz (readT s a) (readT s d)).2 s := by
  rw [convertAct, h, if_neg Bool.false_ne_true]

theorem convertAct_differs (d a f : Reg4) (rz : Bool) (s : State) (h : s.seq.lanesDiffer = true) :
    convertAct d a f rz s =
      raise (cause 4 0x0A 0 (sumInfo [] [] a.toNat)) (onSeq (fun q => { q with lanesDiffer := false }) s) := by
  rw [convertAct, if_pos h]
  rfl

theorem tileSumsAndConversions : TileSumsAndConversions := by
  intro hd d a b f z s h x y v c added
  refine ⟨fun hx hy hfmt hnx hny => ⟨fun h3 => ?_, fun h1 => ?_⟩, tcvt_unchecked h d a f z, tcvt_mismatched h d a f z,
    fun hx hc hr hcol => ⟨fun hl => ⟨?_, convertTile_tag f _ x _⟩, fun hl => ?_⟩⟩
  · have hint : isIntFmt (tagFmt x.tag) = true := by rw [h3]; rfl
    refine ⟨_, ?_, tileSum_added x y (readT s d) (· + ·) (fun m n => by rw [hint]; rfl)⟩
    rw [tileLands, tadd_lands h d a b hx hy hfmt (.inr h3) hnx hny, tileSum_flags_int _ _ _ hint, landTiles_single, next]
  · have hint : isIntFmt (tagFmt x.tag) = false := by rw [h1]; rfl
    exact ⟨_, _, tadd_lands h d a b hx hy hfmt (.inl h1) hnx hny,
      tileSum_added x y (readT s d) _ (fun m n => by rw [hint])⟩
  · exact (tcvt_converts h d a f z hx hc hr hcol).trans (congrArg next (convertAct_lands d a f _ s hl))
  · exact (tcvt_converts h d a f z hx hc hr hcol).trans (congrArg next (convertAct_differs d a f _ s hl))

end Sys2Proof.Machine

namespace Sys2Proof.Proofs
open Sys2Proof.Machine

/-- Settles O36: marks, rows and sums are digits of wide values, read back one by one; the checks of `tadd` and `tcvt` decide
the rest. -/
theorem tileMovesSumsAndConversions : Obligations.TileMovesSumsAndConversions :=
  ⟨tileMovesKeepTheMark, tileSumsAndConversions⟩

end Sys2Proof.Proofs
end

section
/-! PROOFS. The tree of a reduction, and the reduction words (R54, R55, R131). -/

open Sys2Proof.Claims

namespace Sys2Proof.Machine

/-! ### The tree -/

/-- A list of an even length is the list of its pairs, one after the other. -/
theorem treeLevel_pairs (op : W32 → W32 → Res W32) (f : Nat → Res W32) (n k : Nat) :
    treeLevel op ((List.range' (2 * k) (2 * n)).map f) = (List.range' k n).map (fun i =>
      { val := (op (f (2 * i)).val (f (2 * i + 1)).val).val
        flags := (f (2 * i)).flags ||| (f (2 * i + 1)).flags ||| (op (f (2 * i)).val (f (2 * i + 1)).val).flags }) := by
  induction n generalizing k with
  | zero => rfl
  | succ n ih =>
    rw [Nat.mul_succ, List.range'_succ, List.range'_succ, List.range'_succ]
    simp only [List.map_cons, treeLevel]
    exact congrArg _ (ih (k + 1))

/-- A level of the tree halves the list of its values. -/
theorem treeLevel_pairwise (op : W32 → W32 → Res W32) (x : Nat → W32) (n k : Nat) :
    treeLevel op ((List.range' 0 (2 * n)).map (pairwise op x k)) = (List.range' 0 n).map (pairwise op x (k + 1)) :=
  treeLevel_pairs op (pairwise op x k) n 0

theorem reductionsPairAdjacentLanes : ReductionsPairAdjacentLanes := by
  intro op xs h
  have hbase : xs.map (fun x => ({ val := x, flags := 0 } : Res W32)) =
      (List.range' 0 (2 * 32)).map (pairwise op (fun i => xs.getD i 0) 0) := by
    refine List.ext_getElem (by simp [h]) (fun i hi _ => ?_)
    rw [List.length_map] at hi
    simp [pairwise, List.getD_eq_getElem?_getD, hi]
  have hlevel := treeLevel_pairwise op (fun i => xs.getD i 0)
  dsimp only [treeOf]
  rw [hbase, hlevel 32 0, hlevel 16 1, hlevel 8 2, hlevel 4 3, hlevel 2 4, hlevel 1 5]
  rfl

/-! ### The words -/

/-- A reduction of a register that its class accepts, whatever its guard. -/
theorem vredWord_reduces {cls : TagClass} {s : State} {b : Reg5} (ho : s.seq.group.isOpen = true)
    (ht : cls.accepts (readV s b).tag = true) (id : W32) (op : W32 → W32 → Res W32) (signed : Bool) (hd : Hdr) (a : Reg5) :
    let r := treeOf op ((List.range 64).map (fun i => if (guardMask hd s).getLsbD i then laneOf s b i else id))
    vredWord cls id op signed hd a b s =
      .next (exposeS 6 a (if signed then r.val.signExtend 64 else r.val.setWidth 64) r.flags s) := by
  have hcheck : checkTags [(b, 1, cls)] s = none := by simp [checkTags, ht]
  rw [vredWord, issue_open ho, hcheck]

theorem accepts_integer {s : State} {b : Reg5} (h : intReg s b) : TagClass.integer.accepts (readV s b).tag = true := by
  rcases h with h | h <;> simp [TagClass.accepts, h]

theorem accepts_float {s : State} {b : Reg5} (h : floatReg s b) : TagClass.float.accepts (readV s b).tag = true := by
  simpa [TagClass.accepts, floatReg] using h

theorem accepts_any {s : State} {b : Reg5} (h : anyReg s b) : TagClass.any.accepts (readV s b).tag = true := by
  simpa [TagClass.accepts, anyReg] using h

end Sys2Proof.Machine

namespace Sys2Proof.Proofs
open Sys2Proof.Machine

/-- Settles O21: the class of the operand accepts its tag, and the word then writes the tree of its lanes. -/
theorem reductionsFoldTheTree : Obligations.ReductionsFoldTheTree := by
  intro hd a b s ho tree quiet signed zeroed
  refine ⟨fun h => ?_, fun h => ?_, fun h => ?_⟩
  · have reduces := vredWord_reduces ho (accepts_integer h)
    exact ⟨reduces _ _ true hd a, reduces _ _ true hd a, reduces _ _ true hd a⟩
  · have reduces := vredWord_reduces ho (accepts_float h)
    exact ⟨reduces _ _ false hd a, reduces _ _ false hd a, reduces _ _ false hd a⟩
  · have reduces := vredWord_reduces ho (accepts_any h)
    exact ⟨reduces _ _ false hd a, reduces _ _ false hd a⟩

end Sys2Proof.Proofs
end

section
/-! PROOFS. What an `mma` computes: products cell by cell, their predictions, and the accumulator (R51 to R53, R60, R62, R63). -/

open Sys2Proof.Claims

namespace Sys2Proof.Machine

/-! ### Lists by their indices -/

theorem zipIdx_map_range {α : Type} (f : Nat → α) (n : Nat) :
    ((List.range n).map f).zipIdx = (List.range n).map (fun i => (f i, i)) :=
  List.ext_getElem (by simp) (fun i _ _ => by simp)

/-- A map over a list with its indices that asks for no index. -/
theorem map_zipIdx_fst {α β : Type} (xs : List α) (g : α → β) : xs.zipIdx.map (fun r => g r.1) = xs.map g := by
  rw [← List.zipIdx_map_fst 0 xs, List.map_map, List.zipIdx_map_fst]
  rfl

/-- A list as a map over its indices. -/
theorem eq_map_range_getD {α : Type} (xs : List α) (d : α) {n : Nat} (h : xs.length = n) :
    xs = (List.range n).map (fun i => xs.getD i d) :=
  List.ext_getElem (by simp [h]) (fun i hi _ => by simp [List.getD_eq_getElem?_getD, hi])

/-- A mapped list as a map over the indices of the list. -/
theorem map_eq_map_range_getD {α β : Type} (f : α → β) (xs : List α) (d : α) {n : Nat} (h : xs.length = n) :
    xs.map f = (List.range n).map (fun i => f (xs.getD i d)) := by
  conv_lhs => rw [eq_map_range_getD xs d h]
  exact List.map_map

theorem getElem?_eq_some_getD {α : Type} (xs : List α) (d : α) {i : Nat} (h : i < xs.length) : xs[i]? = some (xs.getD i d) := by
  simp [List.getD_eq_getElem?_getD, h]

theorem zipWith_map_range {α β γ : Type} (f : α → β → γ) (g : Nat → α) (h : Nat → β) (n : Nat) :
    List.zipWith f ((List.range n).map g) ((List.range n).map h) = (List.range n).map (fun i => f (g i) (h i)) := by
  rw [List.zipWith_map, List.zipWith_self]

/-- The columns of a matrix given by its entries. -/
theorem columnsOf_map_range {α : Type} (f : Nat → Nat → α) (m n : Nat) :
    columnsOf n ((List.range m).map (fun i => (List.range n).map (f i))) =
      (List.range n).map (fun j => (List.range m).map (fun i => f i j)) := by
  have key : ∀ k m, columnsOf n ((List.range' k m).map (fun i => (List.range n).map (f i))) =
      (List.range n).map (fun j => (List.range' k m).map (fun i => f i j)) := by
    intro k m
    induction m generalizing k with
    | zero =>
      show List.replicate n [] = (List.range n).map (fun _ => [])
      rw [List.map_const', List.length_range]
    | succ m ih =>
      rw [List.range'_succ, List.map_cons, columnsOf, List.foldr_cons]
      refine (congrArg (List.zipWith List.cons _) (ih (k + 1))).trans ?_
      rw [zipWith_map_range]
      rfl
  simpa only [List.range_eq_range'] using key 0 m

theorem getLsbD_maskOfList (f : Nat → Bool) (i : Nat) (h : i < 64) :
    (maskOfList ((List.range 64).map f)).getLsbD i = f i := by
  rw [maskOfList, List.foldr_map]
  exact getLsbD_maskOf f i h

/-- A mask of bits that are all clear. -/
theorem maskOfList_none (bs : List Bool) (h : ∀ b ∈ bs, b = false) : maskOfList bs = 0 := by
  have hzero : bs.foldr (fun b acc => b.toNat + 2 * acc) 0 = 0 := by
    induction bs with
    | nil => rfl
    | cons b bs ih =>
      rw [List.foldr_cons, ih (fun c hc => h c (List.mem_cons_of_mem _ hc)), h b List.mem_cons_self]
      rfl
  rw [maskOfList, hzero]
  rfl

/-- A bit of flags that are joined. -/
theorem getLsbD_foldl_or {α : Type} (g : α → Flags) (xs : List α) (f : Flags) (i : Nat) :
    (xs.foldl (fun f x => f ||| g x) f).getLsbD i = true ↔ f.getLsbD i = true ∨ ∃ x ∈ xs, (g x).getLsbD i = true := by
  induction xs generalizing f with
  | nil => simp
  | cons x xs ih => simp [ih, or_assoc]

/-- A bit of the flags of a matrix of results. -/
theorem getLsbD_foldl_rows (rows : List (List (Res W32))) (f : Flags) (i : Nat) :
    (rows.foldl (fun f r => r.foldl (fun f x => f ||| x.flags) f) f).getLsbD i = true ↔
      f.getLsbD i = true ∨ ∃ r ∈ rows, ∃ x ∈ r, x.flags.getLsbD i = true := by
  induction rows generalizing f with
  | nil => simp
  | cons r rows ih =>
    rw [List.foldl_cons, ih, getLsbD_foldl_or (fun x : Res W32 => x.flags)]
    simp [or_assoc]

/-! ### Integer products -/

theorem numInt_ofInt (i : Int) : numInt (ofInt i) = i := by
  simp only [ofInt, numInt, pow2]
  rcases Int.lt_or_le i 0 with h | h
  · simp [h, abs_of_neg h]
  · simp [Int.not_lt.2 h]; omega

/-- Wrapping additions agree with exact ones modulo 2^32, and clamp nothing. -/
theorem foldl_addI_wraps (qs : List Int) (s : Int) (b : Bool) :
    BitVec.ofInt 32 (qs.foldl (addI false) (s, b)).1 = BitVec.ofInt 32 (s + qs.sum) ∧
      (qs.foldl (addI false) (s, b)).2 = b := by
  induction qs generalizing s with
  | nil => simp
  | cons q qs ih =>
    obtain ⟨hval, hclamp⟩ := ih (wrapI32 (s + q))
    refine ⟨hval.trans ?_, hclamp⟩
    rw [BitVec.ofInt_add, wrapI32, BitVec.ofInt_toInt, ← BitVec.ofInt_add, List.sum_cons, Int.add_assoc]

theorem outI_wraps (a w : List (List Num × Byte)) : outI false none a w = (BitVec.ofInt 32 (List.zipWith (fun x y =>
    (List.zipWith (fun p r => numInt p * numInt r) x.1 y.1).sum) a w).sum, false) := by
  simp only [outI, ← List.sum_eq_foldl]
  cases List.zipWith (fun x y => (List.zipWith (fun p r => numInt p * numInt r) x.1 y.1).sum) a w with
  | nil => rfl
  | cons q qs =>
    obtain ⟨hval, hclamp⟩ := foldl_addI_wraps qs q false
    exact Prod.ext hval hclamp

theorem integerProductsAreExactSums : IntegerProductsAreExactSums := by
  intro a w hint dot
  have hout : (arrayProduct false none a w).rows = a.rows.map (fun x => w.rows.map (fun y => BitVec.ofInt 32 (dot x y))) ∧
      (arrayProduct false none a w).satRows = maskOfList (a.rows.map (fun _ => (w.rows.map (fun _ => false)).any id)) ∧
      (arrayProduct false none a w).flags = 0 := by
    have hzip : ∀ x y : List (W32 × Byte), outI false none (decodedRow a.fmt x) (decodedRow w.fmt y) =
        (BitVec.ofInt 32 (dot x y), false) := by
      intro x y
      rw [outI_wraps, decodedRow, decodedRow, List.zipWith_map]
    have hgrid : (a.rows.map (decodedRow a.fmt)).zipIdx.map (fun r => (w.rows.map (decodedRow w.fmt)).zipIdx.map (fun c =>
        outI false (none : Option W32) r.1 c.1)) =
          a.rows.map (fun x => w.rows.map (fun y => (BitVec.ofInt 32 (dot x y), false))) := by
      rw [map_zipIdx_fst (a.rows.map (decodedRow a.fmt)) (fun x => (w.rows.map (decodedRow w.fmt)).zipIdx.map (fun c =>
        outI false none x c.1)), List.map_map]
      refine List.map_congr_left (fun x _ => ?_)
      rw [Function.comp_apply, map_zipIdx_fst (w.rows.map (decodedRow w.fmt)) (outI false none (decodedRow a.fmt x)), List.map_map]
      exact List.map_congr_left (fun y _ => hzip x y)
    simp only [arrayProduct, hint, if_true, Option.map_none, hgrid, List.map_map, List.any_map, and_true]
    exact ⟨by simp [Function.comp_def], by simp [Function.comp_def]⟩
  obtain ⟨hrows, hsat, hflags⟩ := hout
  refine ⟨hrows, hsat.trans (maskOfList_none _ ?_), hflags⟩
  simp

/-! ### Products by their cells -/

/-- The slots of a row of tile or plane contents, decoded. -/
def slotRow (tag : Byte) (d : BitVec 131072) (sc : BitVec 8192) (m : Nat) : List (List Num × Byte) :=
  (List.range 64).map (tileSlot tag d sc m)

theorem decodedRows_operandOf (tag : Byte) (d : BitVec 131072) (sc : BitVec 8192) :
    (operandOf tag d sc).rows.map (decodedRow (operandOf tag d sc).fmt) = (List.range 64).map (slotRow tag d sc) := by
  rw [operandOf, List.map_map]
  refine List.map_congr_left (fun m _ => ?_)
  rw [Function.comp_apply, rowSlots, zipIdx_map_range, List.map_map, decodedRow, List.map_map]
  rfl

/-- The entry of held rows that an accumulating product adds to. -/
def heldAt (acc : Option (List (List W32))) (m n : Nat) : Option W32 := acc.map (fun x => (x.getD m []).getD n 0)

section
variable (sat : Bool) (acc : Option (List (List W32))) (ta tw : Byte) (da dw : BitVec 131072) (sa sw : BitVec 8192)

theorem arrayProduct_int (h : isIntFmt (tagFmt ta) = true) :
    let p := arrayProduct sat acc (operandOf ta da sa) (operandOf tw dw sw)
    let out := fun m n => outI sat (heldAt acc m n) (slotRow ta da sa m) (slotRow tw dw sw n)
    p.flags = 0 ∧ p.rows = (List.range 64).map (fun m => (List.range 64).map (fun n => (out m n).1)) ∧
      p.satRows = maskOfList ((List.range 64).map (fun m => (List.range 64).any (fun n => (out m n).2))) ∧
      p.satCols = maskOfList ((List.range 64).map (fun n => (List.range 64).any (fun m => (out m n).2))) := by
  have hfmt : isIntFmt (operandOf ta da sa).fmt = true := h
  simp only [arrayProduct, hfmt, if_true, decodedRows_operandOf, zipIdx_map_range, List.map_map]
  refine ⟨trivial, ?_, ?_, ?_⟩
  · simp [Function.comp_def, heldAt]
  · simp [Function.comp_def, heldAt]
  · show maskOfList ((columnsOf 64 ((List.range 64).map (fun m => (List.range 64).map (fun n =>
      outI sat (heldAt acc m n) (slotRow ta da sa m) (slotRow tw dw sw n))))).map (fun r => r.any (·.2))) = _
    rw [columnsOf_map_range, List.map_map]
    simp [Function.comp_def]

theorem arrayProduct_float (h : isIntFmt (tagFmt ta) = false) :
    let p := arrayProduct sat acc (operandOf ta da sa) (operandOf tw dw sw)
    let out := fun m n => outF (heldAt acc m n) (slotRow ta da sa m) (slotRow tw dw sw n)
    p.satRows = 0 ∧ p.satCols = 0 ∧ p.rows = (List.range 64).map (fun m => (List.range 64).map (fun n => (out m n).val)) ∧
      p.flags = ((List.range 64).map (fun m => (List.range 64).map (out m))).foldl
        (fun f r => r.foldl (fun f x => f ||| x.flags) f) 0 := by
  have hfmt : isIntFmt (operandOf ta da sa).fmt = false := h
  simp only [arrayProduct, hfmt, Bool.false_eq_true, if_false, decodedRows_operandOf, zipIdx_map_range, List.map_map]
  refine ⟨trivial, trivial, ?_, ?_⟩
  · simp [Function.comp_def, heldAt]
  · simp [Function.comp_def, heldAt]

end

theorem getD_grid {α : Type} (f : Nat → Nat → α) (d : α) {m n : Nat} (hm : m < 64) (hn : n < 64) :
    (((List.range 64).map (fun i => (List.range 64).map (f i))).getD m []).getD n d = f m n := by
  rw [getD_map_range _ _ _ _ hm, getD_map_range _ _ _ _ hn]

/-! ### Running sums -/

/-- The products of 64 slots in order: the first cell, and those added to it. -/
theorem map_range_cells {α : Type} (q : Nat → α) : (List.range 64).map q = q 0 :: (List.range' 1 63).map q := by
  rw [List.range_eq_range', List.range'_succ, List.map_cons]

theorem satI32_ne_iff (x : Int) : satI32 x ≠ x ↔ ¬ inI32 x := by
  unfold satI32 inI32
  omega

/-- One addition of the array: the narrowed sum, and whether it was clamped. -/
theorem addI_eq (sat : Bool) (s : Int × Bool) (q : Int) :
    (addI sat s q).1 = narrowI sat (s.1 + q) ∧ ((addI sat s q).2 = true ↔ s.2 = true ∨ (sat = true ∧ ¬ inI32 (s.1 + q))) := by
  cases sat with
  | false => simp [addI, narrowI, wrapI32]
  | true =>
    refine ⟨rfl, ?_⟩
    rw [← satI32_ne_iff]
    simp [addI]

theorem foldl_addI (sat : Bool) (q : Nat → Int) (k : Nat) :
    let s := ((List.range' 1 k).map q).foldl (addI sat) (q 0, false)
    s.1 = runI sat q k ∧ (s.2 = true ↔ sat = true ∧ ∃ j, j < k ∧ ¬ inI32 (runI sat q j + q (j + 1))) := by
  induction k with
  | zero => exact ⟨rfl, by simp⟩
  | succ k ih =>
    obtain ⟨hval, hclamp⟩ := ih
    rw [List.range'_1_concat, List.map_append, List.foldl_append]
    obtain ⟨hval', hclamp'⟩ := addI_eq sat (((List.range' 1 k).map q).foldl (addI sat) (q 0, false)) (q (1 + k))
    rw [hval, Nat.add_comm 1 k] at hval' hclamp'
    simp only [List.map_cons, List.map_nil, List.foldl_cons, List.foldl_nil, Nat.add_comm 1 k]
    refine ⟨hval', hclamp'.trans ?_⟩
    rw [hclamp]
    constructor
    · rintro (⟨hs, j, hj, hr⟩ | ⟨hs, hr⟩)
      · exact ⟨hs, j, Nat.lt_succ_of_lt hj, hr⟩
      · exact ⟨hs, k, Nat.lt_succ_self k, hr⟩
    · rintro ⟨hs, j, hj, hr⟩
      rcases Nat.lt_succ_iff_lt_or_eq.1 hj with hj | rfl
      · exact .inl ⟨hs, j, hj, hr⟩
      · exact .inr ⟨hs, hr⟩

/-- An integer element by its 64 cells: the running sum, the held element last, and whether an addition was clamped. -/
theorem outI_eq (sat : Bool) (c : Option W32) (a w : List (List Num × Byte)) (q : Nat → Int)
    (hq : List.zipWith (fun x y => (List.zipWith (fun p r => numInt p * numInt r) x.1 y.1).sum) a w = (List.range 64).map q) :
    (outI sat c a w).1 = BitVec.ofInt 32 (match c with
      | none => runI sat q 63
      | some x => narrowI sat (x.toInt + runI sat q 63)) ∧
    ((outI sat c a w).2 = true ↔ sat = true ∧ ((∃ k, k < 63 ∧ ¬ inI32 (runI sat q k + q (k + 1))) ∨
      ∃ x, c = some x ∧ ¬ inI32 (x.toInt + runI sat q 63))) := by
  obtain ⟨hval, hclamp⟩ := foldl_addI sat q 63
  simp only [outI, ← List.sum_eq_foldl, hq, map_range_cells]
  cases c with
  | none => exact ⟨congrArg _ hval, hclamp.trans (by simp)⟩
  | some x =>
    obtain ⟨hval', hclamp'⟩ := addI_eq sat (x.toInt, (((List.range' 1 63).map q).foldl (addI sat) (q 0, false)).2)
      (((List.range' 1 63).map q).foldl (addI sat) (q 0, false)).1
    refine ⟨congrArg _ (hval'.trans (by rw [hval])), hclamp'.trans ?_⟩
    rw [hclamp, hval]
    simp [and_or_left]

/-- The elements of an i8 or ui8 slot as integers. -/
theorem numInt_elemValue (f : BitVec 4) (h : f = 4 ∨ f = 5) (slot : W32) (j : Nat) :
    packOf f = 4 ∧ numInt (elemValue f slot j) = intOf f slot j := by
  rcases h with rfl | rfl
  · exact ⟨rfl, numInt_ofInt _⟩
  · exact ⟨rfl, numInt_ofInt _⟩

theorem dot_tileSlot {ta tw : Byte} (ha : tagFmt ta = 4 ∨ tagFmt ta = 5) (hw : tagFmt tw = 4 ∨ tagFmt tw = 5)
    (da dw : BitVec 131072) (sa sw : BitVec 8192) (m n k : Nat) :
    (List.zipWith (fun p r => numInt p * numInt r) (tileSlot ta da sa m k).1 (tileSlot tw dw sw n k).1).sum =
      ((List.range 4).map (fun j => intOf (tagFmt ta) (lane (rowBits da m) k) j *
        intOf (tagFmt tw) (lane (rowBits dw n) k) j)).sum := by
  rw [tileSlot, tileSlot, (numInt_elemValue _ ha 0 0).1, (numInt_elemValue _ hw 0 0).1, zipWith_map_range]
  simp only [(numInt_elemValue _ ha _ _).2, (numInt_elemValue _ hw _ _).2]

theorem integerProductsNarrowEachAddition : IntegerProductsNarrowEachAddition := by
  intro sat acc ta tw da dw sa sw ha hw p q held clamped
  have hint : isIntFmt (tagFmt ta) = true := by rcases ha with h | h <;> (rw [h]; rfl)
  obtain ⟨hflags, hrows, hsatRows, hsatCols⟩ := arrayProduct_int sat acc ta tw da dw sa sw hint
  have hq : ∀ m n, List.zipWith (fun x y => (List.zipWith (fun p r => numInt p * numInt r) x.1 y.1).sum)
      (slotRow ta da sa m) (slotRow tw dw sw n) = (List.range 64).map (q m n) := by
    intro m n
    rw [slotRow, slotRow, zipWith_map_range]
    exact List.map_congr_left (fun k _ => dot_tileSlot ha hw da dw sa sw m n k)
  have hout := fun m n => outI_eq sat (heldAt acc m n) (slotRow ta da sa m) (slotRow tw dw sw n) (q m n) (hq m n)
  have hclamped : ∀ m n, (outI sat (heldAt acc m n) (slotRow ta da sa m) (slotRow tw dw sw n)).2 = true ↔ clamped m n := by
    intro m n
    rw [(hout m n).2]
    cases acc <;> simp [heldAt, clamped, held]
  refine ⟨hflags, fun m n hm hn => ?_, fun i hi => ⟨?_, ?_⟩⟩
  · rw [hrows, getD_grid _ _ hm hn, (hout m n).1]
    cases acc <;> rfl
  · rw [hsatRows, getLsbD_maskOfList _ i hi]
    simp [hclamped]
  · rw [hsatCols, getLsbD_maskOfList _ i hi]
    simp [hclamped]

/-! ### Floating products -/

theorem foldl_addRes (q : Nat → Res W32) (k : Nat) : ((List.range' 1 k).map q).foldl addRes (q 0) = runF q k := by
  induction k with
  | zero => rfl
  | succ k ih =>
    rw [List.range'_1_concat, List.map_append, List.foldl_append, ih, Nat.add_comm 1 k]
    rfl

theorem elementF_slotRow (ta tw : Byte) (da dw : BitVec 131072) (sa sw : BitVec 8192) (m n : Nat) :
    elementF (slotRow ta da sa m) (slotRow tw dw sw n) =
      runF (fun k => cellF (tileSlot ta da sa m k) (tileSlot tw dw sw n k)) 63 := by
  rw [elementF, slotRow, slotRow, zipWith_map_range, map_range_cells]
  exact foldl_addRes (fun k => cellF (tileSlot ta da sa m k) (tileSlot tw dw sw n k)) 63

/-- An addition to a value that brings no flags. -/
theorem addRes_flagless (x : W32) (s : Res W32) : addRes { val := x, flags := 0 } s =
    { val := (addF32 x s.val).val, flags := s.flags ||| (addF32 x s.val).flags } :=
  congrArg (fun g : Flags => ({ val := (addF32 x s.val).val, flags := g ||| (addF32 x s.val).flags } : Res W32)) BitVec.zero_or

theorem floatProductsAddCellsInOrder : FloatProductsAddCellsInOrder := by
  intro sat acc ta tw da dw sa sw hfloat p s c
  obtain ⟨hsatRows, hsatCols, hrows, hflags⟩ := arrayProduct_float sat acc ta tw da dw sa sw hfloat
  have hout : ∀ m n, outF (heldAt acc m n) (slotRow ta da sa m) (slotRow tw dw sw n) = c m n := by
    intro m n
    cases acc with
    | none => exact elementF_slotRow ta tw da dw sa sw m n
    | some x => exact (addRes_flagless _ _).trans (by rw [elementF_slotRow])
  simp only [hout] at hrows hflags
  refine ⟨hsatRows, hsatCols, fun m n hm hn => ?_, fun i => ?_⟩
  · rw [hrows, getD_grid _ _ hm hn]
  · rw [hflags, getLsbD_foldl_rows]
    simp

/-! ### Predictions -/

theorem foldl_addTo (x : Nat → Num) (n : Nat) : ((List.range n).map x).foldl addTo 0x80000000 = chainF x n := by
  induction n with
  | zero => rfl
  | succ n ih =>
    rw [List.range_succ, List.map_append, List.foldl_append, ih]
    rfl

theorem dotF_of_entries {xs ys : List Num} {f g : Nat → Num} {n : Nat} (hx : xs = (List.range n).map f)
    (hy : ys = (List.range n).map g) : dotF xs ys = chainF (fun c => (Num.mul (f c) (g c)).val) n := by
  rw [hx, hy, dotF, zipWith_map_range, foldl_addTo]

theorem dotI_of_entries {xs ys : List Num} {f g : Nat → Num} {n : Nat} (hx : xs = (List.range n).map f)
    (hy : ys = (List.range n).map g) :
    dotI xs ys = BitVec.ofInt 32 ((List.range n).map (fun c => numInt (f c) * numInt (g c))).sum := by
  rw [hx, hy, dotI, zipWith_map_range, ← List.sum_eq_foldl]

/-- The column sums of magnitudes, by their chains. -/
theorem sumF_columns (a : Nat → Nat → Num) (m n : Nat) :
    (columnsOf n ((List.range m).map (fun i => (List.range n).map (a i)))).map sumF =
      (List.range n).map (fun c => chainF (fun i => a i c) m) := by
  rw [columnsOf_map_range, List.map_map]
  exact List.map_congr_left (fun c _ => foldl_addTo (fun i => a i c) m)

theorem predictionsChainOverColumns : PredictionsChainOverColumns := by
  intro va vw csa csw acsw n i hi hva hvw hlen hcsa hcsw hacsw a w code aca wrap
  have hrow : ∀ v : List (List Num), v.length = 64 → (∀ r ∈ v, r ∈ va ++ vw) → ∀ m, m < 64 → (v.getD m []).length = n := by
    intro v hv hmem m hm
    refine hlen _ (hmem _ ?_)
    rw [List.getD_eq_getElem _ _ (hv ▸ hm)]
    exact List.getElem_mem _
  have hlenA := hrow va hva (fun r hr => List.mem_append_left _ hr)
  have hlenW := hrow vw hvw (fun r hr => List.mem_append_right _ hr) i hi
  have hrowA := eq_map_range_getD _ Num.nan (hlenA i hi)
  have hrowW := eq_map_range_getD _ Num.nan hlenW
  have hmags : va.map (fun r => r.map Num.abs) = (List.range 64).map (fun m => (List.range n).map (fun c => (a m c).abs)) :=
    (map_eq_map_range_getD _ va [] hva).trans (List.map_congr_left (fun m hm =>
      map_eq_map_range_getD Num.abs _ Num.nan (hlenA m (List.mem_range.1 hm))))
  have hcols : (columnsOf n (va.map (fun r => r.map Num.abs))).map sumF =
      (List.range n).map (fun c => chainF (fun m => (a m c).abs) 64) := by
    rw [hmags, sumF_columns (fun m c => (a m c).abs)]
  have hat : ∀ (v : List (List Num)) (f : List Num → W32), v.length = 64 → (v.map f)[i]? = some (f (v.getD i [])) := by
    intro v f hv
    rw [List.getElem?_map, getElem?_eq_some_getD v [] (hv ▸ hi)]
    rfl
  refine ⟨⟨(hat va _ hva).trans (congrArg some ?_), (hat va _ hva).trans (congrArg some ?_),
    (hat vw _ hvw).trans (congrArg some ?_), (hat vw _ hvw).trans (congrArg some ?_)⟩,
    (hat va _ hva).trans (congrArg some ?_), (hat vw _ hvw).trans (congrArg some ?_)⟩
  · exact dotF_of_entries hrowA (map_eq_map_range_getD decodeF32 csw 0 hcsw)
  · exact dotF_of_entries (map_eq_map_range_getD Num.abs _ Num.nan (hlenA i hi)) (map_eq_map_range_getD decodeF32 acsw 0 hacsw)
  · exact dotF_of_entries (map_eq_map_range_getD decodeF32 csa 0 hcsa) hrowW
  · refine dotF_of_entries (f := aca) ?_ (map_eq_map_range_getD Num.abs _ Num.nan hlenW)
    show List.map decodeF32 (List.map sumF (columnsOf n _)) = _
    simp only [hcols, List.map_map, Function.comp_def, aca]
  · refine (dotI_of_entries hrowA (map_eq_map_range_getD (fun x : W32 => ofInt x.toInt) csw 0 hcsw)).trans ?_
    simp only [numInt_ofInt]
    rfl
  · refine (dotI_of_entries (map_eq_map_range_getD (fun x : W32 => ofInt x.toInt) csa 0 hcsa) hrowW).trans ?_
    simp only [numInt_ofInt]
    rfl

/-! ### The accumulator -/

theorem append_maskWords (m : W64) : m.extractLsb' 32 32 ++ m.extractLsb' 0 32 = m := by
  apply BitVec.eq_of_getLsbD_eq
  intro i hi
  simp only [BitVec.getLsbD_append, BitVec.getLsbD_extractLsb']
  split
  · simp [*]
  · simp [show i - 32 < 32 by omega, show 32 + (i - 32) = i by omega]

section
variable {c mc mr : List W32} (hc : c.length = 64) (hmc : mc.length = 64) (hmr : mr.length = 64) (satr satc nfr nfc : W64)
include hc hmc hmr

/-- The words of an accumulator's column predictions and of both magnitudes. -/
theorem lane_accRow_sums (i : Nat) (h : i < 64) :
    lane (accRow c mc mr satr satc nfr nfc) i = c.getD i 0 ∧ lane (accRow c mc mr satr satc nfr nfc) (64 + i) = mc.getD i 0 ∧
      lane (accRow c mc mr satr satc nfr nfc) (128 + i) = mr.getD i 0 := by
  have hlen : (c ++ mc ++ mr).length = 192 := by simp [hc, hmc, hmr]
  refine ⟨?_, ?_, ?_⟩
  · rw [lane_accRow _ _ _ _ _ _ _ _ (by omega) (by omega), List.append_assoc, List.getD_append _ _ _ _ (by omega)]
  · rw [lane_accRow _ _ _ _ _ _ _ _ (by omega) (by omega), List.append_assoc, List.getD_append_right _ _ _ _ (by omega), hc,
      Nat.add_sub_cancel_left, List.getD_append _ _ _ _ (by omega)]
  · rw [lane_accRow _ _ _ _ _ _ _ _ (by omega) (by omega), List.getD_append_right _ _ _ _ (by simp [hc, hmc])]
    simp [hc, hmc]

/-- The saturation masks of an accumulator, and the words after them. -/
theorem lane_accRow_masks :
    lane (accRow c mc mr satr satc 0 0) 193 ++ lane (accRow c mc mr satr satc 0 0) 192 = satr ∧
      lane (accRow c mc mr satr satc 0 0) 195 ++ lane (accRow c mc mr satr satc 0 0) 194 = satc ∧
      ∀ i, i < 4 → lane (accRow c mc mr satr satc 0 0) (196 + i) = 0 := by
  have hlen : (c ++ mc ++ mr).length = 192 := by simp [hc, hmc, hmr]
  have hmask := fun i hi => lane_accRow_mask c mc mr satr satc 0 0 i (by omega) hi
  rw [hlen] at hmask
  refine ⟨?_, ?_, fun i hi => ?_⟩
  · rw [hmask 1 (by decide), hmask 0 (by decide)]
    exact append_maskWords satr
  · rw [hmask 3 (by decide), hmask 2 (by decide)]
    exact append_maskWords satc
  · have hsplit : c ++ mc ++ mr ++ maskWords satr ++ maskWords satc ++ maskWords 0 ++ maskWords 0 =
        (c ++ mc ++ mr ++ maskWords satr ++ maskWords satc) ++ List.replicate 4 0 := by
      simp only [List.append_assoc]
      rfl
    have hlen' : (c ++ mc ++ mr ++ maskWords satr ++ maskWords satc).length = 196 := by simp [hc, hmc, hmr, maskWords]
    rw [accRow, lane_ofWords _ _ (by omega), hsplit, List.getD_append_right _ _ _ _ (by omega), hlen', Nat.add_sub_cancel_left]
    interval_cases i <;> rfl

end

theorem getD_zipWith_map_range (f : W32 → W32 → W32) (g : Nat → W32) (ys : List W32) (h : ys.length = 64) (i : Nat) (hi : i < 64) :
    (List.zipWith f ((List.range 64).map g) ys).getD i 0 = f (g i) (ys.getD i 0) := by
  conv_lhs => rw [eq_map_range_getD ys 0 h]
  rw [zipWith_map_range, getD_map_range _ _ _ _ hi]

theorem accumulate_data (held : Option Tile) (status : BitVec 256) (int : Bool) (p : Product) (q : Parts)
    (hlen : p.rows.length = 64) (m n : Nat) (hm : m < 64) (hn : n < 64) :
    lane (rowBits (accumulate held status int p q).data m) n = (p.rows.getD m []).getD n 0 := by
  have hdata : (accumulate held status int p q).data = dataOfRows (p.rows.map (ofWords 2048)) := by cases held <;> rfl
  rw [hdata, rowBits_dataOfRows _ _ hm, eq_map_range_getD p.rows [] hlen, List.map_map, getD_map_range _ _ _ _ hm,
    Function.comp_apply, lane_ofWords _ _ (by omega), getD_map_range _ _ _ _ hm]

theorem accumulatorsCombinePredictions : AccumulatorsCombinePredictions := by
  intro held status int p q hrows _ hr hc hmr hmc u was masks
  have hdata := accumulate_data held status int p q hrows
  cases held with
  | none =>
    obtain ⟨hsatr, hsatc, hzero⟩ := lane_accRow_masks hc hmc hmr p.satRows p.satCols
    refine ⟨hdata, rfl, nacc_setNacc u status 1 rfl, fun i hi => ?_, hsatr, hsatc, hzero⟩
    obtain ⟨hcol, hmagc, hmagr⟩ := lane_accRow_sums hc hmc hmr p.satRows p.satCols 0 0 i hi
    exact ⟨lane_ofWords _ _ (by omega), hcol, fun _ => ⟨hmagc, hmagr⟩⟩
  | some t =>
    have hcomb : ∀ lo (x : List W32), x.length = 64 → (List.zipWith (combineWord int) (colWords t lo 64) x).length = 64 := by
      intro lo x hx
      simp [colWords, hx]
    have hkept : ∀ lo (x : List W32), x.length = 64 →
        (if int then colWords t lo 64 else List.zipWith (combineWord int) (colWords t lo 64) x).length = 64 := by
      intro lo x hx
      split
      · simp [colWords]
      · exact hcomb lo x hx
    obtain ⟨hsatr, hsatc, hzero⟩ := lane_accRow_masks (hcomb 0 q.c hc) (hkept 64 q.mc hmc) (hkept 128 q.mr hmr)
      (colMask t 192 ||| p.satRows) (colMask t 194 ||| p.satCols)
    refine ⟨hdata, rfl, (nacc_setNacc u status _ rfl).trans (Nat.min_comm _ _), fun i hi => ?_, hsatr, hsatc, hzero⟩
    obtain ⟨hcol, hmagc, hmagr⟩ := lane_accRow_sums (hcomb 0 q.c hc) (hkept 64 q.mc hmc) (hkept 128 q.mr hmr)
      (colMask t 192 ||| p.satRows) (colMask t 194 ||| p.satCols) 0 0 i hi
    refine ⟨?_, hcol.trans ?_, ?_⟩
    · refine (lane_ofWords _ _ (by omega)).trans (getD_zipWith_map_range _ _ _ hr i hi)
    · rw [colWords, getD_zipWith_map_range _ _ _ hc i hi, Nat.zero_add]
      rfl
    · rintro rfl
      exact ⟨hmagc.trans (getD_zipWith_map_range _ _ _ hmc i hi), hmagr.trans (getD_zipWith_map_range _ _ _ hmr i hi)⟩

end Sys2Proof.Machine

namespace Sys2Proof.Proofs
open Sys2Proof.Machine

/-- Settles O34: the product as a grid of entries, each the running sum of its 64 cells; the predictions as chains over the
columns; the accumulator's words as digits. -/
theorem productsAddCellsAndPredict : Obligations.ProductsAddCellsAndPredict :=
  ⟨integerProductsAreExactSums, integerProductsNarrowEachAddition, floatProductsAddCellsInOrder, predictionsChainOverColumns,
    accumulatorsCombinePredictions⟩

end Sys2Proof.Proofs
end

section
/-! PROOFS. The memory forms of a tile, and `tld` from scratchpad (R42, R56, R58, R59, R158, R159). -/

open Sys2Proof.Claims

namespace Sys2Proof.Machine

/-! ### Where a tile lies -/

theorem packOf_pos (f : BitVec 4) : 0 < packOf f := by revert f; decide

theorem rowBytes_pos (f : BitVec 4) : 0 < rowBytes f := by revert f; decide

theorem tileBytes_pos (f : BitVec 4) : 0 < tileBytes f := by revert f; decide

theorem crosses_eq_false_iff {a n : Nat} (h : 0 < n) : crosses a n = false ↔ a / 0x200000 = (a + n - 1) / 0x200000 := by
  simp [crosses, Nat.pos_iff_ne_zero.1 h]

theorem wholePlace_align (f : BitVec 4) (a : Nat) :
    (wholePlace f a).align = none ↔ a % 256 = 0 ∧ a / 0x200000 = (a + tileBytes f - 1) / 0x200000 := by
  rw [← crosses_eq_false_iff (tileBytes_pos f)]
  dsimp only [wholePlace]
  by_cases ha : a % 256 = 0
  · cases hc : crosses a (tileBytes f) <;> simp [ha]
  · simp [ha]

theorem tilePlace_whole (s : State) (f : BitVec 4) (b : Reg5) : tilePlace s f b 0 = wholePlace f (placeOf s (readS s b)) := rfl

theorem tilePlace_strided (s : State) (f : BitVec 4) (b : Reg5) {c : Reg5} (h : c ≠ 0) :
    tilePlace s f b c = stridedPlace s f (readS s b) (readS s c) := by
  rw [tilePlace, if_neg (by simpa using h)]

theorem tileFormsPlaceTheirRows : TileFormsPlaceTheirRows := by
  intro s f b c base p
  refine ⟨?_, fun h => ?_, fun hs => ?_⟩
  · rintro rfl
    refine ⟨rfl, rfl, fun hs => ?_, wholePlace_align f base⟩
    show (if scalable f then some (base + dataBytes f + trailerBytes f) else none) = _
    rw [if_pos hs, dataBytes, trailerBytes, Nat.add_assoc (base + 64 * rowBytes f)]
  · have hp : p = stridedPlace s f (readS s b) (readS s c) := tilePlace_strided s f b h
    rw [hp]
    exact ⟨rfl, rfl, fun hs => if_pos hs⟩
  · show (tilePlace s f b c).scale = none
    unfold tilePlace
    split
    · exact if_neg (by simp [hs])
    · exact if_neg (by simp [hs])

/-! ### Accesses whose parts lie in scratchpad -/

/-- A part of a load lies in scratchpad, without a race or an uncorrectable error. -/
def partReached (s : State) (q : Part) : Prop :=
  0 < q.len ∧ q.addr + q.len ≤ 0x14000000 ∧ raceOf s.mem s.agent false q.addr q.len = none ∧ s.mem.badByte q.addr q.len = none

theorem rowOf_partReached {s : State} {q : Part} (h : partReached s q) : rowOf q.addr = some (.scratchpad, 0x14000000) := by
  obtain ⟨hpos, hend, -⟩ := h
  exact rowOf_spad (by omega)

theorem checkAccess_reached {s : State} {parts : List Part} (h : ∀ q ∈ parts, partReached s q) :
    checkAccess s { kind := .load, narrow := false, fn := 0, parts := parts, align := none } = none := by
  have hall : ∀ check : Part → Option Failure, (∀ q, partReached s q → check q = none) → parts.findSome? check = none :=
    fun check hcheck => List.findSome?_eq_none_iff.2 (fun q hq => hcheck q (h q hq))
  have hmap : parts.findSome? checkMap = none := hall _ (fun q hq => by
    have hend := hq.2.1
    simp [checkMap, rowOf_partReached hq]
    omega)
  have hspace := hall (checkSpace s .load false 0) (fun q hq => by simp [checkSpace, rowOf_partReached hq])
  have hrights := hall (checkRights s.mem (coreWho s) .load) (fun q hq => by simp [checkRights, rowOf_partReached hq])
  have hextent := hall (checkExtent s.mem (coreWho s) .load) (fun q hq => by simp [checkExtent, rowOf_partReached hq])
  have hwindow := hall (checkWindow s) (fun q hq => by simp [checkWindow, rowOf_partReached hq])
  have hhost := hall (checkHost s) (fun q hq => by simp [checkHost, rowOf_partReached hq])
  have howner := hall (checkOwner s.mem s.agent .load) (fun q ⟨_, _, hrace, _⟩ => by
    have hstore : (AccessKind.load == AccessKind.store) = false := rfl
    simp [checkOwner, hstore, hrace])
  have hdamage := hall (checkDamage s.mem .load) (fun q hq => by
    simp [checkDamage, AccessKind.reads, rowOf_partReached hq, hq.2.2.2])
  simp only [checkAccess, hmap, hspace, hrights, hextent, hwindow, hhost, howner, hdamage, Option.none_or]

theorem checkSameRow_reached {s : State} {parts : List Part} (h : ∀ q ∈ parts, partReached s q) : checkSameRow parts = none := by
  cases parts with
  | nil => rfl
  | cons p rest =>
    have hrow := rowOf_partReached (h p List.mem_cons_self)
    simp only [checkSameRow, hrow, rowLow]
    refine List.findSome?_eq_none_iff.2 (fun q hq => ?_)
    obtain ⟨hpos, hend, -⟩ := h q hq
    rw [if_neg (by simp; omega), if_neg (by omega)]

/-- A load all of whose parts are reached goes on to its effect. -/
theorem checkedAccess_reached {w : W32} {s : State} {parts : List Part} {f : State → State} (h : ∀ q ∈ parts, partReached s q) :
    checkedAccess w noPre true
      (fun _ => { kind := .load, narrow := false, fn := 0, parts := parts, align := none }) f s = f s := by
  have hpriv : checkPrivilege s parts = none := by
    unfold checkPrivilege
    split
    · rfl
    · rw [Option.map_eq_none_iff, List.find?_eq_none]
      intro q hq
      simp [rowOf_partReached (h q hq)]
  simp only [checkedAccess, hpriv, noPre, if_true, checkSameRow_reached h, checkAccess_reached h, Option.none_or]

theorem tileLines_reached {s : State} {parts : List Part} (h : ∀ q ∈ parts, partReached s q) (last : Option (Nat × Nat)) :
    tileLines last parts = 0 := by
  induction parts generalizing last with
  | nil => rfl
  | cons p rest ih =>
    simp only [tileLines, rowOf_partReached (h p List.mem_cons_self)]
    exact ih (fun q hq => h q (List.mem_cons_of_mem _ hq)) none

theorem absentMask_reached {s : State} {parts : List Part} (h : ∀ q ∈ parts, partReached s q) (lanes : Part → W64) :
    absentMask parts lanes s = (0, s) := by
  have hpresent : parts.foldl (fun m p => if partAbsent s p then m ||| lanes p else m) 0 = 0 :=
    foldl_keepsOn _ parts (fun m p hp => by simp [partAbsent, rowOf_partReached (h p hp)]) 0
  have hextent : reachesExtent parts = false := by
    rw [reachesExtent, List.any_eq_false]
    intro p hp
    simp [rowOf_partReached (h p hp)]
  unfold absentMask
  rw [hpresent, hextent]
  cases parts <;> rfl

/-! ### The parts of a tile load -/

theorem joinPart_len_pos {p : Part} {rest : List Part} (hp : 0 < p.len) (h : ∀ q ∈ rest, 0 < q.len) :
    ∀ q ∈ joinPart p rest, 0 < q.len := by
  unfold joinPart
  split
  · rename_i q more
    split
    · intro r hr
      rcases List.mem_cons.1 hr with rfl | hr
      · exact Nat.add_pos_left hp _
      · exact h r (List.mem_cons_of_mem _ hr)
    · intro r hr
      rcases List.mem_cons.1 hr with rfl | hr
      · exact hp
      · exact h r hr
  · simpa using hp

/-- A range lies within one of the parts. -/
def coveredBy (parts : List Part) (a n : Nat) : Prop := ∃ q ∈ parts, q.addr ≤ a ∧ a + n ≤ q.addr + q.len

/-- Joining a part with others covers it and all that they cover. -/
theorem coveredBy_joinPart (p : Part) (rest : List Part) :
    coveredBy (joinPart p rest) p.addr p.len ∧ ∀ a n, coveredBy rest a n → coveredBy (joinPart p rest) a n := by
  unfold joinPart
  split
  · rename_i q more
    split
    · rename_i hmeet
      have hmeet : p.addr + p.len = q.addr := by simpa using hmeet
      refine ⟨⟨_, List.mem_cons_self, Nat.le_refl _, by show _ ≤ p.addr + (p.len + q.len); omega⟩, ?_⟩
      rintro a n ⟨r, hr, hlo, hhi⟩
      rcases List.mem_cons.1 hr with rfl | hr
      · exact ⟨_, List.mem_cons_self, by show p.addr ≤ a; omega, by show _ ≤ p.addr + (p.len + r.len); omega⟩
      · exact ⟨r, List.mem_cons_of_mem _ hr, hlo, hhi⟩
    · exact ⟨⟨p, List.mem_cons_self, Nat.le_refl _, Nat.le_refl _⟩,
        fun a n ⟨r, hr, hlo, hhi⟩ => ⟨r, List.mem_cons_of_mem _ hr, hlo, hhi⟩⟩
  · exact ⟨⟨p, List.mem_cons_self, Nat.le_refl _, Nat.le_refl _⟩, fun a n ⟨r, hr, _⟩ => by simp at hr⟩

/-- The parts of a row of an ht tile: none is empty, and each block with another scale byte than 0x80 lies in one. -/
theorem htRow_parts (f : BitVec 4) (scales : List Byte) (m a : Nat) :
    (∀ q ∈ htRow f scales m a, 0 < q.len) ∧ ∀ b, b < 8 → scales.getD (8 * m + b) 0 ≠ zeroBlock →
      coveredBy (htRow f scales m a) (a + rowBytes f / 8 * b) (rowBytes f / 8) := by
  have hn : 0 < rowBytes f / 8 := by revert f; decide
  have key : ∀ bs : List Nat,
      let parts := bs.foldr (fun b rest => joinPart { lane := m, addr := a + rowBytes f / 8 * b, len := rowBytes f / 8 } rest) []
      (∀ q ∈ parts, 0 < q.len) ∧ ∀ b ∈ bs, coveredBy parts (a + rowBytes f / 8 * b) (rowBytes f / 8) := by
    intro bs
    induction bs with
    | nil => exact ⟨by simp, by simp⟩
    | cons b bs ih =>
      obtain ⟨hlen, hcover⟩ := ih
      obtain ⟨hself, hrest⟩ := coveredBy_joinPart { lane := m, addr := a + rowBytes f / 8 * b, len := rowBytes f / 8 }
        (bs.foldr (fun b rest => joinPart { lane := m, addr := a + rowBytes f / 8 * b, len := rowBytes f / 8 } rest) [])
      refine ⟨joinPart_len_pos hn hlen, fun c hc => ?_⟩
      rcases List.mem_cons.1 hc with rfl | hc
      · exact hself
      · exact hrest _ _ (hcover c hc)
  obtain ⟨hlen, hcover⟩ := key ((List.range 8).filter (fun b => scales.getD (8 * m + b) 0 != zeroBlock))
  exact ⟨hlen, fun b hb hs => hcover b (by simpa [hb] using hs)⟩

/-- The bytes of a tile's scale block in scratchpad. -/
def scaleImage (s : State) (p : TilePlace) (f : BitVec 4) : List Byte :=
  (p.scale.map (fun a => memRead s.mem.spad a (scaleBytes f))).getD []

/-- The bytes of a tile's trailer in scratchpad. -/
def trailerImage (s : State) (p : TilePlace) (f : BitVec 4) : List Byte :=
  (p.trailer.map (fun a => memRead s.mem.spad a (trailerBytes f))).getD []

theorem memTile_eq (s : State) (p : TilePlace) (f : BitVec 4) : memTile s p f =
    parseTile f (p.rows.map (fun a => memRead s.mem.spad a (rowBytes f))) (trailerImage s p f) (scaleImage s p f) := by
  obtain ⟨base, rows, trailer, scale, align⟩ := p
  cases trailer <;> cases scale <;> rfl

theorem mem_tail_scale {p : TilePlace} {f : BitVec 4} {t : Bool} {a : Nat} (h : p.scale = some a) :
    { lane := 0x41, addr := a, len := scaleBytes f } ∈ p.tail f t := by
  simp [TilePlace.tail, h]

theorem mem_tail_trailer {p : TilePlace} {f : BitVec 4} {a : Nat} (h : p.trailer = some a) :
    { lane := 0x40, addr := a, len := trailerBytes f } ∈ p.tail f true := by
  simp [TilePlace.tail, h]

theorem tail_subset_loadParts (p : TilePlace) (f : BitVec 4) (t : Bool) (scales : List Byte) :
    ∀ q ∈ p.tail f t, q ∈ p.loadParts f t scales := by
  intro q hq
  unfold TilePlace.loadParts TilePlace.parts
  split <;> exact List.mem_append_right _ hq

/-- Every part of a tile load has bytes, where only formats with scales have a scale block. -/
theorem loadParts_len_pos {p : TilePlace} {f : BitVec 4} (hscale : scalable f = false → p.scale = none) (t : Bool)
    (scales : List Byte) : ∀ q ∈ p.loadParts f t scales, 0 < q.len := by
  have htail : ∀ q ∈ p.tail f t, 0 < q.len := by
    intro q hq
    unfold TilePlace.tail at hq
    rcases List.mem_append.1 hq with hq | hq
    · have hlen : q.len = trailerBytes f := by
        cases t <;> cases htr : p.trailer <;> simp [htr] at hq
        rw [hq]
      rw [hlen, trailerBytes]
      omega
    · have hlen : q.len = scaleBytes f ∧ p.scale ≠ none := by
        cases hs : p.scale <;> simp [hs] at hq
        simp [hq]
      have hf : scalable f = true := by
        by_contra hf
        exact hlen.2 (hscale (by simpa using hf))
      have := packOf_pos f
      rw [hlen.1, scaleBytes, if_pos hf]
      omega
  intro q hq
  unfold TilePlace.loadParts TilePlace.parts at hq
  split at hq
  · rcases List.mem_append.1 hq with hq | hq
    · obtain ⟨row, hrow, hq⟩ := List.mem_flatten.1 hq
      obtain ⟨x, -, rfl⟩ := List.mem_map.1 hrow
      exact (htRow_parts f scales x.2 x.1).1 q hq
    · exact htail q hq
  · rcases List.mem_append.1 hq with hq | hq
    · obtain ⟨x, -, rfl⟩ := List.mem_map.1 hq
      exact rowBytes_pos f
    · exact htail q hq

theorem tilePlace_scale_none (s : State) (f : BitVec 4) (b c : Reg5) (h : scalable f = false) : (tilePlace s f b c).scale = none :=
  (tileFormsPlaceTheirRows s f b c).2.2 h

/-- What a tile load that stays in scratchpad reaches. -/
theorem tileReaches_parts {s : State} {p : TilePlace} {f : BitVec 4} {t : Bool} (h : tileReaches s p f t)
    (hscale : scalable f = false → p.scale = none) :
    p.align = none ∧ ∀ q ∈ p.loadParts f t (scaleImage s p f), partReached s q := by
  have hpos := loadParts_len_pos hscale t (scaleImage s p f)
  obtain ⟨base, rows, trailer, scale, align⟩ := p
  cases scale with
  | none => exact ⟨h.1, fun q hq => ⟨hpos q hq, h.2 q hq⟩⟩
  | some a => exact ⟨h.1, fun q hq => ⟨hpos q hq, h.2 q hq⟩⟩

/-! ### The bytes of a tile load -/

theorem readMem_part {s : State} {q : Part} (h : partReached s q) :
    readMem s.mem (coreWho s) q.addr q.len = memRead s.mem.spad q.addr q.len := readMem_spad _ _ _ _ h.2.1

theorem length_memRead (m : Memory) (a n : Nat) : (memRead m a n).length = n := by simp [memRead]

theorem length_readPiece (m : Mem) (w : Who) (a n : Nat) : (readPiece m w a n).length = n := by
  unfold readPiece
  split
  · exact length_memRead _ _ _
  · split
    · split
      · exact length_memRead _ _ _
      · exact List.length_replicate
    · exact List.length_replicate
  · exact List.length_replicate

/-- A byte of a range whose piece lies in scratchpad, whatever the range's other pieces are. -/
theorem getD_readMem_spad (m : Mem) (w : Who) (a n i : Nat) (hi : i < n) (h : a + i < 0x14000000) :
    (readMem m w a n).getD i 0 = memByte m.spad (a + i) := by
  have key : ∀ fuel a n i, n < 65536 * (fuel - 1) + (65536 - a % 65536) + 1 → 0 < fuel → i < n → a + i < 0x14000000 →
      ((cutsFrom 65536 fuel a n).foldr (fun p acc => readPiece m w p.1 p.2 ++ acc) []).getD i 0 = memByte m.spad (a + i) := by
    intro fuel
    induction fuel with
    | zero => intro a n i _ h0; omega
    | succ fuel ih =>
      intro a n i hn _ hi hspad
      have hpiece : ∀ k, i < k → (readPiece m w a k).getD i 0 = memByte m.spad (a + i) := by
        intro k hk
        rw [readPiece, rowOf_spad (show a < 0x14000000 by omega)]
        simp [memRead_eq, hk]
      simp only [cutsFrom, beq_iff_eq, show n ≠ 0 by omega, if_false]
      by_cases hk : n ≤ 65536 - a % 65536
      · rw [if_pos hk, List.foldr_cons, List.foldr_nil, List.append_nil, hpiece n hi]
      · rw [if_neg hk, List.foldr_cons]
        by_cases hin : i < 65536 - a % 65536
        · rw [List.getD_append _ _ _ _ (by rwa [length_readPiece]), hpiece _ hin]
        · have hmod : (a + (65536 - a % 65536)) % 65536 = 0 := by omega
          rw [List.getD_append_right _ _ _ _ (by rw [length_readPiece]; omega), length_readPiece,
            ih _ _ _ (by rw [hmod]; omega) (by omega) (by omega) (by omega)]
          congr 1
          omega
  exact key _ _ _ _ (by omega) (by omega) hi h

theorem getD_memRead (m : Memory) (a n i : Nat) (hi : i < n) : (memRead m a n).getD i 0 = memByte m (a + i) := by
  simp [memRead_eq, hi]

/-- Bytes of one lane of a row in memory: four, or three of packed ht6. -/
def laneBytes (ht6 : Bool) : Nat := if ht6 then 3 else 4

/-- A lane of a row depends on its own bytes alone. -/
theorem lane_lanesOfBytes_congr (ht6 : Bool) (xs ys : List Byte) (k : Nat) (hk : k < 64)
    (h : ∀ j, j < laneBytes ht6 → xs.getD (laneBytes ht6 * k + j) 0 = ys.getD (laneBytes ht6 * k + j) 0) :
    lane (lanesOfBytes ht6 xs) k = lane (lanesOfBytes ht6 ys) k := by
  cases ht6 with
  | true =>
    have h0 := h 0 (by decide)
    have h1 := h 1 (by decide)
    have h2 := h 2 (by decide)
    simp only [laneBytes, if_true, Nat.add_zero] at h0 h1 h2
    simp only [lanesOfBytes, if_true]
    rw [lane_vecOf _ _ hk, lane_vecOf _ _ hk, h0, h1, h2]
  | false =>
    have hbit : ∀ (bs : List Byte) (i : Nat), i < 32 →
        (lane (lanesOfBytes false bs) k).getLsbD i = (bs.getD (4 * k + i / 8) 0).getLsbD (i % 8) := by
      intro bs i hi
      have hbyte : (BitVec.ofNat 2048 (natOfBytes bs)).extractLsb' (8 * (4 * k + i / 8)) 8 = bs.getD (4 * k + i / 8) 0 :=
        extractLsb'_ofDigits bs (4 * k + i / 8) (by omega)
      rw [← hbyte]
      simp only [lane, lanesOfBytes, Bool.false_eq_true, if_false, BitVec.getLsbD_extractLsb', hi, decide_true, Bool.true_and,
        show i % 8 < 8 by omega]
      congr 1
      omega
    apply BitVec.eq_of_getLsbD_eq
    intro i hi
    rw [hbit xs i hi, hbit ys i hi]
    exact congrArg (fun b : Byte => b.getLsbD (i % 8)) (h (i / 8) (by show i / 8 < 4; omega))

theorem vecOf_congr {f g : Nat → W32} (h : ∀ k, k < 64 → f k = g k) : vecOf f = vecOf g := by
  have hfold : ∀ f : Nat → W32, vecOf f = BitVec.ofNat 2048 (ofDigits ((List.range 64).map f)) := by
    intro f
    rw [ofDigits, List.foldr_map]
    rfl
  rw [hfold, hfold, List.map_congr_left (fun k hk => h k (List.mem_range.1 hk))]

/-- A row of an ht tile, without its zero blocks, as a load reads it: bytes beyond scratchpad lie in zero blocks alone. -/
theorem htRow_data {s : State} {f : BitVec 4} (hf : f = 9 ∨ f = 10) (scales : List Byte) (m a : Nat)
    (h : ∀ q ∈ htRow f scales m a, partReached s q) :
    clearZeroBlocks f (scaleToReg f (scaleMem f scales m))
        (lanesOfBytes (f == 10) (readMem s.mem (coreWho s) a (rowBytes f))) =
      clearZeroBlocks f (scaleToReg f (scaleMem f scales m)) (lanesOfBytes (f == 10) (memRead s.mem.spad a (rowBytes f))) := by
  have hpack : packOf f = 4 := by rcases hf with rfl | rfl <;> rfl
  have hmx : isMx f = false := by rcases hf with rfl | rfl <;> rfl
  have hbytes : rowBytes f = 64 * laneBytes (f == 10) := by rcases hf with rfl | rfl <;> rfl
  refine vecOf_congr (fun k hk => ?_)
  have hscale : (scaleToReg f (scaleMem f scales m)).getD (k * packOf f / 32) 0 = scales.getD (8 * m + k / 8) 0 := by
    have hblock : k * 4 / 32 = k / 8 := by omega
    have hin : k / 8 < 2 * 4 := by omega
    simp [scaleToReg, hmx, scaleMem, bytesAt, hpack, hblock, hin, List.getD_eq_getElem?_getD, List.getElem?_take_of_lt]
  rw [hscale]
  by_cases hzero : scales.getD (8 * m + k / 8) 0 = zeroBlock
  · rw [if_pos (by simpa using hzero), if_pos (by simpa using hzero)]
  · rw [if_neg (by simpa using hzero), if_neg (by simpa using hzero)]
    obtain ⟨q, hq, hlo, hhi⟩ := (htRow_parts f scales m a).2 (k / 8) (by omega) hzero
    have hend := (h q hq).2.1
    refine lane_lanesOfBytes_congr _ _ _ k hk (fun j hj => ?_)
    have hin : laneBytes (f == 10) * k + j < rowBytes f ∧
        laneBytes (f == 10) * k + j < rowBytes f / 8 * (k / 8) + rowBytes f / 8 := by
      rcases hf with rfl | rfl
      · change j < 4 at hj
        exact ⟨by show 4 * k + j < 256; omega, by show 4 * k + j < 32 * (k / 8) + 32; omega⟩
      · change j < 3 at hj
        exact ⟨by show 3 * k + j < 192; omega, by show 3 * k + j < 24 * (k / 8) + 24; omega⟩
    rw [getD_readMem_spad _ _ _ _ _ hin.1 (by omega), getD_memRead _ _ _ _ hin.1]

/-- The rows of a load that stays in scratchpad give the tile of the bytes there. -/
theorem parseTile_reached {s : State} {p : TilePlace} {f : BitVec 4} {t : Bool} {scales : List Byte}
    (h : ∀ q ∈ p.loadParts f t scales, partReached s q) (trailer : List Byte) :
    parseTile f (p.rows.map (fun a => readMem s.mem (coreWho s) a (rowBytes f))) trailer scales =
      parseTile f (p.rows.map (fun a => memRead s.mem.spad a (rowBytes f))) trailer scales := by
  by_cases hf : f = 9 ∨ f = 10
  · have hscalable : scalable f = true := by rcases hf with rfl | rfl <;> rfl
    have hht : (f == 9 || f == 10) = true := by simpa using hf
    simp only [parseTile, hscalable, if_true]
    congr 2
    refine List.ext_getElem (by simp) (fun i hi hi' => ?_)
    simp only [List.getElem_map, List.getElem_zip, List.getElem_range]
    have hrow : i < p.rows.length := by
      simp only [List.length_map, List.length_zip] at hi
      omega
    refine htRow_data hf scales i p.rows[i] (fun q hq => h q ?_)
    rw [TilePlace.loadParts, if_pos hht]
    refine List.mem_append_left _ (List.mem_flatten.2 ⟨htRow f scales i p.rows[i], List.mem_map.2 ⟨(p.rows[i], i), ?_, rfl⟩, hq⟩)
    simp [List.mem_zipIdx_iff_getElem?, hrow]
  · have hht : (f == 9 || f == 10) = false := by simpa using hf
    have hrows : p.rows.map (fun a => readMem s.mem (coreWho s) a (rowBytes f)) =
        p.rows.map (fun a => memRead s.mem.spad a (rowBytes f)) := by
      refine List.map_congr_left (fun a ha => ?_)
      obtain ⟨i, hi, rfl⟩ := List.getElem_of_mem ha
      refine readMem_part (q := { lane := i, addr := p.rows[i], len := rowBytes f }) (h _ ?_)
      rw [TilePlace.loadParts, hht, if_neg Bool.false_ne_true, TilePlace.parts]
      refine List.mem_append_left _ (List.mem_map.2 ⟨(p.rows[i], i), ?_, rfl⟩)
      simp [List.mem_zipIdx_iff_getElem?, hi]
    rw [hrows]

/-! ### The word -/

/-- A tile that lands with the flags of a load whose pages are all resident. -/
theorem landNow_tile (d : Reg4) (t : Tile) (s : State) :
    landNow { Pending.none .memory with tiles := [(d, t)], pregs := [(15, 0)] } s =
      onSeq (fun q => (q.setP 15 0).setT d t) s := by
  have hfstat : s.seq.fstat ||| (0 : Flags).setWidth 64 ||| ((0 : Flags).setWidth 64 <<< 8) = s.seq.fstat := by simp
  have hraised : s.seq.group.raised ||| (0 : Flags) = s.seq.group.raised := BitVec.or_zero
  show ({ s with seq := { (s.seq.setP 15 0).setT d t with
    fstat := s.seq.fstat ||| (0 : Flags).setWidth 64 ||| ((0 : Flags).setWidth 64 <<< 8),
    group := { s.seq.group with raised := s.seq.group.raised ||| (0 : Flags) } } } : State) = _
  rw [hfstat, hraised]
  rfl

/-- The tile that a load reads, its trailer apart, from the parts of its place. -/
def tileAtPlace (s : State) (p : TilePlace) (f : BitVec 4) (trailer : List Byte) : MemTile :=
  parseTile f (p.rows.map (fun a => readMem s.mem (coreWho s) a (rowBytes f))) trailer
    ((p.scale.map (fun a => readMem s.mem (coreWho s) a (scaleBytes f))).getD [])

theorem loadTile_gen (d : Reg4) (f : BitVec 4) (p : TilePlace) (s : State) (hbad : (tileAtPlace s p f []).badScale = none) :
    loadTile false d f p s = onSeq (fun q => (q.setP 15 0).setT d (loadedTile f (tileAtPlace s p f []).data
      (tileAtPlace s p f []).scales (formSums f (tileValues f (scalable f) (tileAtPlace s p f []).data (tileAtPlace s p f []).scales))
      (readT s d))) s := by
  rw [← landNow_tile]
  obtain ⟨base, rows, trailer, scale, align⟩ := p
  unfold tileAtPlace at hbad ⊢
  cases trailer <;> cases scale <;>
  · simp only [Option.map_none, Option.map_some, Option.getD_none, Option.getD_some] at hbad ⊢
    simp only [loadTile, Bool.false_eq_true, if_false, hbad]

theorem loadTile_chk (d : Reg4) (f : BitVec 4) {p : TilePlace} {s : State} {a : Nat} (htrailer : p.trailer = some a)
    {m : MemTile} (hm : tileAtPlace s p f (readMem s.mem (coreWho s) a (trailerBytes f)) = m) (hbad : m.badScale = none) :
    let v := verifySums f (tileValues f (scalable f) m.data m.scales) { rows := m.rows, cols := m.cols }
    loadTile true d f p s = checkedLoad d p.base f m (loadedTile f m.data m.scales v.fresh (readT s d)) v s := by
  subst hm
  obtain ⟨base, rows, trailer, scale, align⟩ := p
  cases htrailer
  unfold tileAtPlace at hbad ⊢
  cases scale <;>
  · simp only [Option.map_none, Option.map_some, Option.getD_none, Option.getD_some] at hbad ⊢
    simp only [loadTile, if_true, hbad]

section
variable {s : State} {p : TilePlace} {f : BitVec 4} (hscale : scalable f = false → p.scale = none)
include hscale

/-- A load that stays in scratchpad reads the tile of the bytes there. -/
theorem tileAtPlace_reached {t : Bool} (h : tileReaches s p f t) (trailer : List Byte) : tileAtPlace s p f trailer =
    parseTile f (p.rows.map (fun a => memRead s.mem.spad a (rowBytes f))) trailer (scaleImage s p f) := by
  obtain ⟨_, hparts⟩ := tileReaches_parts h hscale
  have himage : (p.scale.map (fun a => readMem s.mem (coreWho s) a (scaleBytes f))).getD [] = scaleImage s p f := by
    cases hs : p.scale with
    | none => simp [scaleImage, hs]
    | some a =>
      simp only [scaleImage, hs, Option.map_some, Option.getD_some]
      exact readMem_part (hparts _ (tail_subset_loadParts p f t _ _ (mem_tail_scale hs)))
  rw [tileAtPlace, himage, parseTile_reached hparts]

theorem tileAtPlace_trailer {a : Nat} (htrailer : p.trailer = some a) (h : tileReaches s p f true) :
    tileAtPlace s p f (readMem s.mem (coreWho s) a (trailerBytes f)) = memTile s p f := by
  obtain ⟨_, hparts⟩ := tileReaches_parts h hscale
  have hread := readMem_part (hparts _ (tail_subset_loadParts p f true _ _ (mem_tail_trailer htrailer)))
  have himage : trailerImage s p f = memRead s.mem.spad a (trailerBytes f) := by simp [trailerImage, htrailer]
  rw [tileAtPlace_reached hscale h, memTile_eq, himage]
  exact congrArg (fun t => parseTile f _ t _) hread

/-- What a load without verification takes from memory does not ask for the trailer. -/
theorem tileAtPlace_data (h : tileReaches s p f false) :
    (tileAtPlace s p f []).data = (memTile s p f).data ∧ (tileAtPlace s p f []).scales = (memTile s p f).scales ∧
      (tileAtPlace s p f []).badScale = (memTile s p f).badScale := by
  rw [tileAtPlace_reached hscale h, memTile_eq]
  exact ⟨rfl, rfl, rfl⟩

end

/-- The scale bytes by which a load finds its parts. -/
theorem scaleImage_read {s : State} {p : TilePlace} {f : BitVec 4} {t : Bool} (hscale : scalable f = false → p.scale = none)
    (h : tileReaches s p f t) {a : Nat} (hs : p.scale = some a) :
    readMem s.mem (coreWho s) a (scaleBytes f) = scaleImage s p f := by
  obtain ⟨_, hparts⟩ := tileReaches_parts h hscale
  refine (readMem_part (hparts _ (tail_subset_loadParts p f t _ _ (mem_tail_scale hs)))).trans ?_
  simp [scaleImage, hs]

/-- A `tld` that stays in scratchpad has the effect of its load at once. -/
theorem tldWord_reached {chk : Bool} {hd : Hdr} {d : Reg4} {b st : Reg5} {f : BitVec 4} {s : State} (ha : acts hd s)
    (h : tileReaches s (tilePlace s f b st) f chk) :
    tldWord chk hd d b st f s = next (loadTile chk d f (tilePlace s f b st) s) := by
  refine (issue_guarded ha).trans (congrArg next ?_)
  have hscale := tilePlace_scale_none s f b st
  dsimp only
  generalize tilePlace s f b st = p at h hscale ⊢
  obtain ⟨halign, hparts⟩ := tileReaches_parts h hscale
  have hread := fun a => scaleImage_read (a := a) hscale h
  obtain ⟨base, rows, trailer, scale, align⟩ := p
  dsimp only at halign
  subst halign
  have hgoes : ∀ scales, scales = scaleImage s ⟨base, rows, trailer, scale, none⟩ f → ∀ w : W32,
      let p : TilePlace := ⟨base, rows, trailer, scale, none⟩
      let acc : CoreAccess := { p.access .load f chk with parts := p.loadParts f chk scales }
      checkedAccess w noPre true (fun _ => acc) (metered 0 (tileLines none acc.parts) (fun s =>
        let m := absentMask acc.parts (fun q => if q.lane < 64 then 1 <<< q.lane else BitVec.allOnes 64) s
        if m.1 == 0 then loadTile chk d f p m.2
        else landNow { Pending.none .memory with pregs := [(15, m.1)] } m.2)) s = loadTile chk d f p s := by
    rintro _ rfl w
    refine (checkedAccess_reached hparts).trans ?_
    dsimp only
    rw [tileLines_reached hparts, metered_free, absentMask_reached hparts]
    rfl
  cases scale with
  | none => exact hgoes _ rfl _
  | some a => exact hgoes _ (hread a rfl) _

theorem tileLoadsFormCheckedTiles : TileLoadsFormCheckedTiles := by
  intro hd d b c f s ha gives
  constructor
  · intro p h hbad
    obtain ⟨hdata, hscales, hbad'⟩ := tileAtPlace_data (tilePlace_scale_none s f b c) h
    refine (tldWord_reached ha h).trans (congrArg next ?_)
    rw [loadTile_gen d f p s (hbad'.trans hbad), hdata, hscales]
  · intro p m v h hbad hr hc
    refine (tldWord_reached ha h).trans (congrArg next ?_)
    rw [loadTile_chk d f (p := p) rfl (tileAtPlace_trailer (tilePlace_scale_none s f b 0) rfl h) hbad]
    show checkedLoad d p.base f m (loadedTile f m.data m.scales v.fresh (readT s d)) v s = _
    rw [checkedLoad, hr, hc]
    exact landNow_tile d _ s

/-! ### Repairs -/

/-- A repair of a loaded tile is counted, and logged with CKCTL.LE. -/
theorem noteFix_eq (kind : BitVec 3) (row col tile : Nat) (res : W32) (s : State) :
    noteFix kind row col tile res s = fixNoted kind.toNat row col tile res s := by
  have hword : cklogWord kind row col tile res = fixWord kind.toNat row col tile res := by
    have hexp : (res.extractLsb' 23 8).toNat = res.toNat / 2 ^ 23 % 256 := by
      rw [BitVec.extractLsb'_toNat, Nat.shiftRight_eq_div_pow]
    rw [cklogWord, fixWord, hexp]
  unfold noteFix fixNoted
  rw [hword]
  dsimp only [onSeq]
  cases s.seq.ckctl.getLsbD 2 <;> simp only [Bool.false_eq_true, if_false, if_true]

theorem residualOf_eq (f : BitVec 4) (now was : W32) : residualOf (isIntFmt f) now was = residue f now was := by
  unfold residualOf residue
  cases isIntFmt f <;> rfl

/-- What a checked load does with one sum that does not match. -/
def repairedLoad (d : Reg4) (base : Nat) (kind row col : Nat) (info : W64) (res : W32) (loaded s : State) : State :=
  if s.seq.ckctl.getLsbD 0 then
    let u := fixNoted kind row col d.toNat res loaded
    if s.seq.ckctl.getLsbD 1 then raiseAfter (cause 4 0x04 (BitVec.ofNat 64 base) info) u else u
  else raise (cause 4 0x03 (BitVec.ofNat 64 base) info) s

section
variable (d : Reg4) (base : Nat) (f : BitVec 4) (m : MemTile) (t : Tile) (v : Verdict) (s : State)

theorem checkedLoad_row {i : Nat} (hr : v.rows = [i]) (hc : v.cols = []) : checkedLoad d base f m t v s =
    repairedLoad d base 2 i 0 (sumInfo v.rows v.cols d.toNat) (residue f (v.fresh.rows.getD i 0) (m.rows.getD i 0))
      (onSeq (fun q => (q.setP 15 0).setT d t) s) s := by
  simp only [checkedLoad, hr, hc, landNow_tile, noteFix_eq, residualOf_eq]
  rfl

theorem checkedLoad_col {i : Nat} (hr : v.rows = []) (hc : v.cols = [i]) : checkedLoad d base f m t v s =
    repairedLoad d base 3 0 (i / packOf f) (sumInfo v.rows v.cols d.toNat) (residue f (v.fresh.cols.getD i 0) (m.cols.getD i 0))
      (onSeq (fun q => (q.setP 15 0).setT d t) s) s := by
  simp only [checkedLoad, hr, hc, landNow_tile, noteFix_eq, residualOf_eq]
  rfl

theorem checkedLoad_fails (h : 1 < v.rows.length + v.cols.length) : checkedLoad d base f m t v s =
    raise (cause 4 0x08 (BitVec.ofNat 64 base) (sumInfo v.rows v.cols d.toNat)) s := by
  dsimp only [checkedLoad]
  split
  · rename_i hr hc
    simp [hr, hc] at h
  · rename_i hr hc
    simp [hr, hc] at h
  · rename_i hr hc
    simp [hr, hc] at h
  · rfl

end

theorem repairedLoad_trap {d : Reg4} {base kind row col : Nat} {info : W64} {res : W32} {loaded s : State}
    (h : s.seq.ckctl.getLsbD 0 = false) : repairedLoad d base kind row col info res loaded s =
      raise (cause 4 0x03 (BitVec.ofNat 64 base) info) s := by
  rw [repairedLoad, h, if_neg Bool.false_ne_true]

theorem repairedLoad_done {d : Reg4} {base kind row col : Nat} {info : W64} {res : W32} {loaded s : State}
    (h : s.seq.ckctl.getLsbD 0 = true) : repairedLoad d base kind row col info res loaded s =
      let u := fixNoted kind row col d.toNat res loaded
      if s.seq.ckctl.getLsbD 1 then raiseAfter (cause 4 0x04 (BitVec.ofNat 64 base) info) u else u := by
  rw [repairedLoad, h, if_pos rfl]

theorem checkedLoadsRepairOrTrap : CheckedLoadsRepairOrTrap := by
  intro hd d b f s ha p m v info bad loaded repairs h hbad
  have hword : exec (.tldChk hd d b f) s =
      next (checkedLoad d p.base f m (loadedTile f m.data m.scales v.fresh (readT s d)) v s) := by
    refine (tldWord_reached ha h).trans (congrArg next ?_)
    exact loadTile_chk d f (p := p) rfl (tileAtPlace_trailer (tilePlace_scale_none s f b 0) rfl h) hbad
  have hrepairs : ∀ kind row col now was, checkedLoad d p.base f m (loadedTile f m.data m.scales v.fresh (readT s d)) v s =
      repairedLoad d p.base kind row col info (residue f now was) loaded s → repairs kind row col now was := by
    intro kind row col now was heq
    exact ⟨fun hce => hword.trans (congrArg next (heq.trans (repairedLoad_trap hce))),
      fun hce => hword.trans (congrArg next (heq.trans (repairedLoad_done hce)))⟩
  exact ⟨fun i hr hc => hrepairs _ _ _ _ _ (checkedLoad_row d _ f m _ v s hr hc),
    fun i hr hc => hrepairs _ _ _ _ _ (checkedLoad_col d _ f m _ v s hr hc),
    fun hmany => hword.trans (congrArg next (checkedLoad_fails d _ f m _ v s hmany))⟩

end Sys2Proof.Machine

namespace Sys2Proof.Proofs
open Sys2Proof.Machine

/-- Settles O31: a load whose parts lie in scratchpad passes its checks and reads the bytes there, of an ht tile those of its
blocks that are not zero; what the sums then say decides. -/
theorem tileFormsAndLoads : Obligations.TileFormsAndLoads :=
  ⟨tileFormsPlaceTheirRows, tileLoadsFormCheckedTiles, checkedLoadsRepairOrTrap⟩

end Sys2Proof.Proofs
end

section
/-! PROOFS. One rounding into a binary format: the multiple that a magnitude rounds to, the code of it, and its flags (R30, R33,
R34, R36, R47). -/

open Sys2Proof.Claims

namespace Sys2Proof.Machine

/-! ### Magnitudes as rationals -/

/-- The magnitude mag x 2^exp. -/
def magQ (mag : Nat) (exp : Int) : Rat := mag * (2 : Rat) ^ exp

theorem ratOf_eq (neg : Bool) (mag : Nat) (exp : Int) : ratOf neg mag exp = if neg then -magQ mag exp else magQ mag exp := by
  cases neg <;> simp [ratOf, magQ]

theorem two_zpow_pos (e : Int) : (0 : Rat) < 2 ^ e := zpow_pos (by norm_num) e

theorem two_zpow_add (a b : Int) : (2 : Rat) ^ (a + b) = 2 ^ a * 2 ^ b := zpow_add₀ (by norm_num) a b

theorem magQ_nonneg (mag : Nat) (exp : Int) : 0 ≤ magQ mag exp := by
  have := two_zpow_pos exp
  unfold magQ
  positivity

theorem magQ_eq_zero {mag : Nat} {exp : Int} : magQ mag exp = 0 ↔ mag = 0 := by
  simp [magQ, (two_zpow_pos exp).ne']

theorem magQ_pos {mag : Nat} {exp : Int} (h : 0 < mag) : 0 < magQ mag exp :=
  lt_of_le_of_ne (magQ_nonneg mag exp) (Ne.symm (by rw [Ne, magQ_eq_zero]; omega))

theorem magQ_lt_magQ {a b : Nat} {e : Int} : magQ a e < magQ b e ↔ a < b := by
  unfold magQ
  rw [mul_lt_mul_iff_left₀ (two_zpow_pos e), Nat.cast_lt]

theorem magQ_le_magQ {a b : Nat} {e : Int} : magQ a e ≤ magQ b e ↔ a ≤ b := by
  rw [← not_lt, magQ_lt_magQ, not_lt]

theorem magQ_scale (mag : Nat) (exp k : Int) : magQ mag (exp + k) = magQ mag exp * (2 : Rat) ^ k := by
  rw [magQ, magQ, two_zpow_add, mul_assoc]

/-- A power of two taken from the exponent into the magnitude. -/
theorem magQ_shift (mag : Nat) (exp : Int) (k : Nat) : magQ (mag * 2 ^ k) exp = magQ mag (exp + k) := by
  rw [magQ_scale, zpow_natCast, magQ, magQ]
  push_cast
  ring

theorem magQ_two_pow (k : Nat) (exp : Int) : magQ (2 ^ k) exp = 2 ^ (exp + k) := by
  simpa [magQ] using magQ_shift 1 exp k

theorem pow2_eq {e : Int} (h : 0 ≤ e) : ((pow2 e : Nat) : Rat) = 2 ^ e := by
  lift e to Nat using h
  simp [pow2, Nat.one_shiftLeft]

theorem magQ_pow2 (mag : Nat) (exp : Int) {k : Int} (h : 0 ≤ k) : magQ (mag * pow2 k) exp = magQ mag (exp + k) := by
  rw [magQ_scale, ← pow2_eq h, magQ, magQ]
  push_cast
  ring

/-- The leading bit bounds a magnitude. -/
theorem topBit_bounds {mag : Nat} (h : 0 < mag) (exp : Int) :
    (2 : Rat) ^ topBit mag exp ≤ magQ mag exp ∧ magQ mag exp < 2 ^ (topBit mag exp + 1) := by
  have hlow : magQ (2 ^ mag.log2) exp ≤ magQ mag exp := magQ_le_magQ.2 (Nat.log2_self_le (by omega))
  have hhigh : magQ mag exp < magQ (2 ^ (mag.log2 + 1)) exp := magQ_lt_magQ.2 Nat.lt_log2_self
  rw [magQ_two_pow] at hlow hhigh
  refine ⟨hlow, ?_⟩
  push_cast at hhigh
  simpa [topBit, add_assoc] using hhigh

theorem topBit_lt_iff {mag : Nat} (h : 0 < mag) (exp e : Int) : topBit mag exp < e ↔ magQ mag exp < 2 ^ e := by
  obtain ⟨hlow, hhigh⟩ := topBit_bounds h exp
  constructor
  · intro hlt
    exact hhigh.trans_le (zpow_le_zpow_right₀ (by norm_num) (by omega))
  · intro hlt
    exact (zpow_lt_zpow_iff_right₀ (by norm_num)).1 (hlow.trans_lt hlt)

/-! ### Rounding to a multiple -/

/-- A natural number that a rational rounds to, toward zero or to nearest with ties to even (R30). -/
def roundedTo (rz : Bool) (n : Nat) (x : Rat) : Prop :=
  if rz then (n : Rat) ≤ x ∧ x < n + 1
  else (n : Rat) - 1 / 2 ≤ x ∧ x ≤ n + 1 / 2 ∧ (x = n - 1 / 2 ∨ x = n + 1 / 2 → n % 2 = 0)

theorem roundedTo_self (rz : Bool) (n : Nat) : roundedTo rz n n := by
  cases rz with
  | true => exact ⟨le_refl _, by linarith⟩
  | false => exact ⟨by linarith, by linarith, fun h => by rcases h with h | h <;> linarith⟩

/-- A rounding stays between the natural numbers that bound what it rounds. -/
theorem roundedTo_between {rz : Bool} {n a b : Nat} {x : Rat} (h : roundedTo rz n x) (ha : (a : Rat) ≤ x) (hb : x < b) :
    a ≤ n ∧ n ≤ b := by
  cases rz with
  | true =>
    obtain ⟨hlow, hhigh⟩ := h
    have h1 : (a : Rat) < (n + 1 : Nat) := by push_cast; linarith
    have h2 : (n : Rat) < b := by linarith
    exact ⟨Nat.lt_succ_iff.1 (by exact_mod_cast h1), le_of_lt (by exact_mod_cast h2)⟩
  | false =>
    obtain ⟨hlow, hhigh, -⟩ := h
    have h1 : (a : Rat) < (n + 1 : Nat) := by push_cast; linarith
    have h2 : (n : Rat) < (b + 1 : Nat) := by push_cast; linarith
    exact ⟨Nat.lt_succ_iff.1 (by exact_mod_cast h1), Nat.lt_succ_iff.1 (by exact_mod_cast h2)⟩

/-- Rounding of a quotient and its remainder. -/
theorem roundedTo_div (rz : Bool) (mag sh : Nat) (hs : 0 < sh) :
    roundedTo rz (if !rz && (2 * (mag % sh) > sh || (2 * (mag % sh) == sh && mag / sh % 2 == 1)) then mag / sh + 1 else mag / sh)
      ((mag : Rat) / sh) ∧ ((mag % sh != 0) = true ↔ ((if !rz && (2 * (mag % sh) > sh || (2 * (mag % sh) == sh && mag / sh % 2 == 1))
        then mag / sh + 1 else mag / sh : Nat) : Rat) ≠ (mag : Rat) / sh) := by
  have hsQ : (0 : Rat) < sh := by exact_mod_cast hs
  have hlo := Nat.mod_lt mag hs
  have hx : (mag : Rat) / sh = (mag / sh : Nat) + ((mag % sh : Nat) : Rat) / sh := by
    rw [add_div' _ _ _ hsQ.ne', div_left_inj' hsQ.ne']
    exact_mod_cast (by rw [Nat.mul_comm]; exact (Nat.div_add_mod mag sh).symm)
  rw [hx]
  generalize mag / sh = hi
  generalize mag % sh = lo at hlo
  have hy0 : (0 : Rat) ≤ (lo : Rat) / sh := by positivity
  have hy1 : (lo : Rat) / sh < 1 := by rw [div_lt_one hsQ]; exact_mod_cast hlo
  have hgt : 2 * lo > sh ↔ 1 / 2 < (lo : Rat) / sh := by
    rw [lt_div_iff₀ hsQ]
    constructor
    · intro h
      have : (sh : Rat) < 2 * lo := by exact_mod_cast h
      linarith
    · intro h
      have : (sh : Rat) < 2 * lo := by linarith
      exact_mod_cast this
  have heq : 2 * lo = sh ↔ (lo : Rat) / sh = 1 / 2 := by
    rw [div_eq_iff hsQ.ne']
    constructor
    · intro h
      have : (2 * lo : Rat) = sh := by exact_mod_cast h
      linarith
    · intro h
      have : (2 * lo : Rat) = sh := by linarith
      exact_mod_cast this
  have hzero : lo = 0 ↔ (lo : Rat) / sh = 0 := by simp [hsQ.ne']
  generalize (lo : Rat) / sh = y at *
  cases rz with
  | true =>
    rw [if_neg (by simp)]
    exact ⟨⟨by linarith, by linarith⟩, by simp [hzero]⟩
  | false =>
    by_cases hup : 2 * lo > sh ∨ (2 * lo = sh ∧ hi % 2 = 1)
    · rw [if_pos (by simpa using hup)]
      have hy : 1 / 2 ≤ y := by
        rcases hup with h | h
        · exact (hgt.1 h).le
        · exact (heq.1 h.1).ge
      have hlo0 : lo ≠ 0 := by omega
      refine ⟨⟨by push_cast; linarith, by push_cast; linarith, ?_⟩, ?_⟩
      · push_cast
        rintro (h | h)
        · have : ¬ 2 * lo > sh := fun hc => by have := hgt.1 hc; linarith
          omega
        · linarith
      · push_cast
        simp only [bne_iff_ne, ne_eq, hlo0, not_false_eq_true, true_iff]
        intro h
        linarith
    · rw [if_neg (by simpa using hup)]
      have hy : y ≤ 1 / 2 := by
        by_contra h
        exact hup (.inl (hgt.2 (not_le.1 h)))
      refine ⟨⟨by linarith, by linarith, ?_⟩, ?_⟩
      · rintro (h | h)
        · linarith
        · have : 2 * lo = sh := heq.2 (by linarith)
          omega
      · simp [hzero]

/-- `roundAt` rounds to a multiple, and tells whether it differs. -/
theorem roundAt_spec (rz : Bool) (mag : Nat) (exp q : Int) :
    roundedTo rz (roundAt rz mag exp q).1 (magQ mag (exp - q)) ∧
      ((roundAt rz mag exp q).2 = true ↔ ((roundAt rz mag exp q).1 : Rat) ≠ magQ mag (exp - q)) := by
  unfold roundAt
  split
  · rename_i h
    have hx : magQ mag (exp - q) = (mag * pow2 (exp - q) : Nat) := by
      push_cast
      rw [pow2_eq (by omega), magQ]
    rw [hx]
    exact ⟨roundedTo_self _ _, by simp⟩
  · rename_i h
    have hsh : 0 < pow2 (q - exp) := by simp [pow2, Nat.one_shiftLeft]
    have hx : magQ mag (exp - q) = (mag : Rat) / (pow2 (q - exp) : Nat) := by
      rw [pow2_eq (by omega), magQ, show exp - q = -(q - exp) by ring, zpow_neg, div_eq_mul_inv]
    rw [hx]
    exact roundedTo_div rz mag _ hsh

/-! ### Codes and their values -/

/-- The value half way between a code and the next. -/
def midQ (f : BinFmt) (c : Nat) : Rat := (codeQ f c + codeQ f (c + 1)) / 2

/-- A code of the normal binades. -/
theorem codeQ_normal (f : BinFmt) (e j : Nat) (hj : j < 2 ^ (f.prec - 1)) :
    codeQ f ((e + 1) * 2 ^ (f.prec - 1) + j) = magQ (2 ^ (f.prec - 1) + j) (e + (f.emin - (f.prec - 1 : Nat))) := by
  have hw : 0 < 2 ^ (f.prec - 1) := Nat.two_pow_pos _
  rw [codeQ, if_neg (by rw [Nat.add_mul]; omega), Nat.mul_comm, Nat.mul_add_mod, Nat.mod_eq_of_lt hj, Nat.mul_add_div hw,
    Nat.div_eq_of_lt hj, magQ]
  congr 2
  push_cast
  ring

/-- A code is a significand of at most f.prec bits and a count of binades, of which the first has subnormal significands. -/
theorem codeQ_eq (f : BinFmt) (e d : Nat) (hd : d ≤ 2 * 2 ^ (f.prec - 1)) (he : e = 0 ∨ 2 ^ (f.prec - 1) ≤ d) :
    codeQ f (e * 2 ^ (f.prec - 1) + d) = magQ d (e + (f.emin - (f.prec - 1 : Nat))) := by
  have hw : 0 < 2 ^ (f.prec - 1) := Nat.two_pow_pos _
  rcases Nat.lt_or_ge d (2 ^ (f.prec - 1)) with hlt | hge
  · obtain rfl : e = 0 := by omega
    rw [Nat.zero_mul, Nat.zero_add, codeQ, if_pos hlt, magQ]
    simp
  · obtain ⟨j, rfl⟩ := Nat.exists_eq_add_of_le hge
    rcases Nat.lt_or_ge j (2 ^ (f.prec - 1)) with hj | hj
    · rw [← codeQ_normal f e j hj]
      congr 1
      ring
    · obtain rfl : j = 2 ^ (f.prec - 1) := by omega
      have hcode : e * 2 ^ (f.prec - 1) + (2 ^ (f.prec - 1) + 2 ^ (f.prec - 1)) = (e + 1 + 1) * 2 ^ (f.prec - 1) + 0 := by ring
      have hdouble : 2 ^ (f.prec - 1) + 2 ^ (f.prec - 1) = 2 ^ (f.prec - 1) * 2 ^ 1 := by ring
      rw [hcode, codeQ_normal f (e + 1) 0 hw, hdouble, magQ_shift, Nat.add_zero]
      congr 1
      push_cast
      ring

/-- The significand and the count of binades of a code. -/
theorem exists_codeParts (f : BinFmt) (c : Nat) : ∃ e d, c = e * 2 ^ (f.prec - 1) + d ∧ d < 2 * 2 ^ (f.prec - 1) ∧
    (e = 0 ∨ 2 ^ (f.prec - 1) ≤ d) := by
  have hw : 0 < 2 ^ (f.prec - 1) := Nat.two_pow_pos _
  rcases Nat.lt_or_ge c (2 ^ (f.prec - 1)) with hlt | hge
  · exact ⟨0, c, by omega, by omega, .inl rfl⟩
  · have hpos : 0 < c / 2 ^ (f.prec - 1) := Nat.div_pos hge hw
    have hmod := Nat.mod_lt c hw
    refine ⟨c / 2 ^ (f.prec - 1) - 1, 2 ^ (f.prec - 1) + c % 2 ^ (f.prec - 1), ?_, by omega, .inr (by omega)⟩
    obtain ⟨e, he⟩ := Nat.exists_eq_add_of_le hpos
    have hdm := Nat.div_add_mod c (2 ^ (f.prec - 1))
    rw [he] at hdm ⊢
    rw [Nat.mul_add, Nat.mul_one] at hdm
    rw [Nat.add_sub_cancel_left, Nat.mul_comm]
    omega

theorem codeQ_strictMono (f : BinFmt) : StrictMono (codeQ f) := by
  refine strictMono_nat_of_lt_succ (fun c => ?_)
  obtain ⟨e, d, rfl, hd, he⟩ := exists_codeParts f c
  rw [Nat.add_assoc, codeQ_eq f e d hd.le he, codeQ_eq f e (d + 1) (by omega) (by omega), magQ_lt_magQ]
  exact Nat.lt_succ_self d

theorem codeQ_zero (f : BinFmt) : codeQ f 0 = 0 := by
  rw [codeQ, if_pos (Nat.two_pow_pos _)]
  simp

theorem codeQ_nonneg (f : BinFmt) (c : Nat) : 0 ≤ codeQ f c := by
  rw [← codeQ_zero f]
  exact (codeQ_strictMono f).monotone (Nat.zero_le c)

theorem codeQ_lt_midQ (f : BinFmt) (c : Nat) : codeQ f c < midQ f c := by
  have := codeQ_strictMono f (Nat.lt_succ_self c)
  unfold midQ
  linarith

theorem midQ_lt_codeQ (f : BinFmt) (c : Nat) : midQ f c < codeQ f (c + 1) := by
  have := codeQ_strictMono f (Nat.lt_succ_self c)
  unfold midQ
  linarith

/-- A code that a magnitude rounds to, to nearest with ties to even: it lies between the points half way to the neighbours. -/
def nearestCode (f : BinFmt) (c : Nat) (x : Rat) : Prop :=
  (∀ b, c = b + 1 → midQ f b ≤ x ∧ (midQ f b = x → c % 2 = 0)) ∧ x ≤ midQ f c ∧ (x = midQ f c → c % 2 = 0)

theorem nearestCode_nearest {f : BinFmt} {c : Nat} {x : Rat} (h : nearestCode f c x) (d : Nat) :
    |codeQ f c - x| ≤ |codeQ f d - x| ∧ (|codeQ f c - x| = |codeQ f d - x| → d = c ∨ c % 2 = 0) := by
  obtain ⟨hlow, hhigh, heven⟩ := h
  have hmono := codeQ_strictMono f
  rcases Nat.lt_trichotomy d c with hd | rfl | hd
  · obtain ⟨b, rfl⟩ : ∃ b, c = b + 1 := ⟨c - 1, by omega⟩
    obtain ⟨hmid, htie⟩ := hlow b rfl
    have hdb : codeQ f d ≤ codeQ f b := hmono.monotone (by omega)
    have hbc := midQ_lt_codeQ f b
    unfold midQ at hmid htie hbc
    rw [abs_of_nonpos (show codeQ f d - x ≤ 0 by linarith)]
    rcases le_total (codeQ f (b + 1) - x) 0 with hs | hs
    · rw [abs_of_nonpos hs]
      exact ⟨by linarith, fun h => by linarith⟩
    · rw [abs_of_nonneg hs]
      exact ⟨by linarith, fun h => .inr (htie (by linarith))⟩
  · exact ⟨le_refl _, fun _ => .inl rfl⟩
  · have hcd : codeQ f (c + 1) ≤ codeQ f d := hmono.monotone hd
    have hbc := codeQ_lt_midQ f c
    unfold midQ at hhigh heven hbc
    rw [abs_of_nonneg (show 0 ≤ codeQ f d - x by linarith)]
    rcases le_total (codeQ f c - x) 0 with hs | hs
    · rw [abs_of_nonpos hs]
      exact ⟨by linarith, fun h => .inr (heven (by linarith))⟩
    · rw [abs_of_nonneg hs]
      exact ⟨by linarith, fun h => by linarith⟩

/-- The significand that rounds in a binade gives the code that rounds. -/
theorem code_of_roundedTo {f : BinFmt} (hf : 2 ≤ f.prec) {rz : Bool} {e d : Nat} {y : Rat} (h : roundedTo rz d y)
    (hy : y < (2 * 2 ^ (f.prec - 1) : Nat)) (he : e = 0 ∨ ((2 ^ (f.prec - 1) : Nat) : Rat) ≤ y) (hy0 : 0 ≤ y) :
    let c := e * 2 ^ (f.prec - 1) + d
    let x := y * 2 ^ ((e : Int) + (f.emin - (f.prec - 1 : Nat)))
    codeQ f c = magQ d (e + (f.emin - (f.prec - 1 : Nat))) ∧ (rz = false → nearestCode f c x) ∧
      (rz = true → codeQ f c ≤ x ∧ x < codeQ f (c + 1)) := by
  intro c x
  have hd := (roundedTo_between h (a := 0) (by simpa using hy0) hy).2
  have hde : e = 0 ∨ 2 ^ (f.prec - 1) ≤ d := he.imp id (fun h' => (roundedTo_between h h' hy).1)
  have hcode := codeQ_eq f e d hd hde
  have hnext : d < 2 * 2 ^ (f.prec - 1) → codeQ f (c + 1) = magQ (d + 1) (e + (f.emin - (f.prec - 1 : Nat))) := by
    intro hlt
    rw [← codeQ_eq f e (d + 1) hlt (by omega)]
    rfl
  have hprev : ∀ b, c = b + 1 → (e = 0 ∨ 2 ^ (f.prec - 1) < d) → codeQ f b = magQ (d - 1) (e + (f.emin - (f.prec - 1 : Nat))) ∧ 1 ≤ d := by
    intro b hb hin
    have hw : 0 < 2 ^ (f.prec - 1) := Nat.two_pow_pos _
    have hd1 : 1 ≤ d := by
      rcases hin with rfl | hin
      · simp only [c, Nat.zero_mul] at hb
        omega
      · omega
    rw [← codeQ_eq f e (d - 1) (by omega) (by omega)]
    exact ⟨congrArg (codeQ f) (by omega), hd1⟩
  have heven : c % 2 = d % 2 := by
    have hw : 2 ^ (f.prec - 1) = 2 * 2 ^ (f.prec - 2) := by
      rw [← Nat.pow_succ', show (f.prec - 2).succ = f.prec - 1 by omega]
    simp only [c, hw]
    rw [Nat.mul_left_comm, Nat.mul_add_mod]
  have hpos := two_zpow_pos ((e : Int) + (f.emin - (f.prec - 1 : Nat)))
  have hnotTop : (d : Rat) ≤ y → d < 2 * 2 ^ (f.prec - 1) := fun hle => by exact_mod_cast hle.trans_lt hy
  refine ⟨hcode, ?_, ?_⟩
  · rintro rfl
    obtain ⟨hlow, hhigh, htie⟩ := h
    refine ⟨fun b hb => ?_, ?_⟩
    · by_cases hin : e = 0 ∨ 2 ^ (f.prec - 1) < d
      · obtain ⟨hb', hd1⟩ := hprev b hb hin
        have hmid : midQ f b = (d - 1 / 2) * 2 ^ ((e : Int) + (f.emin - (f.prec - 1 : Nat))) := by
          rw [midQ, ← hb, hb', hcode, magQ, magQ, Nat.cast_sub hd1]
          push_cast
          ring
        rw [hmid, heven]
        exact ⟨mul_le_mul_of_nonneg_right hlow hpos.le, fun hx => htie (.inl (mul_right_cancel₀ hpos.ne' hx).symm)⟩
      · have hcx : codeQ f c ≤ x := by
          rw [hcode, magQ]
          refine mul_le_mul_of_nonneg_right ?_ hpos.le
          have hdw : d = 2 ^ (f.prec - 1) := by omega
          rw [hdw]
          exact he.resolve_left (by omega)
        have hbc := midQ_lt_codeQ f b
        rw [← hb] at hbc
        exact ⟨by linarith, fun hx => by linarith⟩
    · by_cases hin : d < 2 * 2 ^ (f.prec - 1)
      · have hmid : midQ f c = (d + 1 / 2) * 2 ^ ((e : Int) + (f.emin - (f.prec - 1 : Nat))) := by
          rw [midQ, hnext hin, hcode, magQ, magQ]
          push_cast
          ring
        rw [hmid, heven]
        exact ⟨mul_le_mul_of_nonneg_right hhigh hpos.le, fun hx => htie (.inr (mul_right_cancel₀ hpos.ne' hx))⟩
      · have hxc : x < codeQ f c := by
          rw [hcode, magQ]
          refine mul_lt_mul_of_pos_right (hy.trans_le ?_) hpos
          exact_mod_cast not_lt.1 hin
        have hbc := codeQ_lt_midQ f c
        exact ⟨by linarith, fun hx => by linarith⟩
  · rintro rfl
    obtain ⟨hlow, hhigh⟩ := h
    rw [hnext (hnotTop hlow), hcode, magQ, magQ]
    refine ⟨mul_le_mul_of_nonneg_right hlow hpos.le, mul_lt_mul_of_pos_right ?_ hpos⟩
    push_cast
    exact hhigh

/-! ### The code of a rounded magnitude, and its flags -/

theorem magQ_sub_lt {mag : Nat} (h : 0 < mag) {exp q k : Int} (hq : topBit mag exp + 1 ≤ k + q) : magQ mag (exp - q) < 2 ^ k := by
  have hhigh := (topBit_bounds h exp).2.trans_le (zpow_le_zpow_right₀ (a := (2 : Rat)) (by norm_num) hq)
  rw [sub_eq_add_neg, magQ_scale]
  refine (mul_lt_mul_of_pos_right hhigh (two_zpow_pos _)).trans_le ?_
  rw [← two_zpow_add, add_neg_cancel_right]

theorem le_magQ_sub {mag : Nat} (h : 0 < mag) {exp q k : Int} (hq : k + q ≤ topBit mag exp) : 2 ^ k ≤ magQ mag (exp - q) := by
  have hlow := (zpow_le_zpow_right₀ (a := (2 : Rat)) (by norm_num) hq).trans (topBit_bounds h exp).1
  rw [sub_eq_add_neg, magQ_scale]
  refine le_trans ?_ (mul_le_mul_of_nonneg_right hlow (two_zpow_pos _).le)
  rw [← two_zpow_add, add_neg_cancel_right]

theorem magQ_sub_mul (mag : Nat) (exp q : Int) : magQ mag (exp - q) * 2 ^ q = magQ mag exp := by
  rw [← magQ_scale, sub_add_cancel]

/-- A magnitude's code is the one it rounds to, and the inexact mark tells whether it is the magnitude's own. -/
theorem magCode_code {f : BinFmt} (hf : 2 ≤ f.prec) (rz : Bool) {mag : Nat} (h : 0 < mag) (exp : Int) :
    let c := (magCode f rz mag exp).1
    let x := magQ mag exp
    (rz = false → nearestCode f c x) ∧ (rz = true → codeQ f c ≤ x ∧ x < codeQ f (c + 1)) ∧
      ((magCode f rz mag exp).2.2 = true ↔ codeQ f c ≠ x) := by
  intro c x
  have hq : ∃ q : Int, q = max (topBit mag exp - (f.prec - 1 : Nat)) (f.emin - (f.prec - 1 : Nat)) := ⟨_, rfl⟩
  obtain ⟨q, hq⟩ := hq
  have he : ((q - (f.emin - (f.prec - 1 : Nat))).toNat : Int) + (f.emin - (f.prec - 1 : Nat)) = q := by omega
  obtain ⟨hround, hinexact⟩ := roundAt_spec rz mag exp q
  have hlt : magQ mag (exp - q) < (2 * 2 ^ (f.prec - 1) : Nat) := by
    have := magQ_sub_lt h (exp := exp) (q := q) (k := ((f.prec - 1 + 1 : Nat) : Int)) (by omega)
    rw [zpow_natCast, pow_succ'] at this
    exact_mod_cast this
  have hge : (q - (f.emin - (f.prec - 1 : Nat))).toNat = 0 ∨ ((2 ^ (f.prec - 1) : Nat) : Rat) ≤ magQ mag (exp - q) := by
    by_cases hmin : q = f.emin - (f.prec - 1 : Nat)
    · exact .inl (by omega)
    · have := le_magQ_sub h (exp := exp) (q := q) (k := ((f.prec - 1 : Nat) : Int)) (by omega)
      rw [zpow_natCast] at this
      exact .inr (by exact_mod_cast this)
  obtain ⟨hcode, hnear, hfloor⟩ := code_of_roundedTo hf hround hlt hge (magQ_nonneg _ _)
  rw [he, magQ_sub_mul] at hnear hfloor
  have hc : c = (q - (f.emin - (f.prec - 1 : Nat))).toNat * 2 ^ (f.prec - 1) + (roundAt rz mag exp q).1 := by rw [hq]; rfl
  have hi : (magCode f rz mag exp).2.2 = (roundAt rz mag exp q).2 := by rw [hq]; rfl
  rw [← hc] at hcode hnear hfloor
  refine ⟨hnear, hfloor, ?_⟩
  have hdq : magQ (roundAt rz mag exp q).1 q = (roundAt rz mag exp q).1 * 2 ^ q := rfl
  rw [hi, hinexact, hcode, he, hdq, show x = magQ mag (exp - q) * 2 ^ q from (magQ_sub_mul mag exp q).symm, Ne, Ne,
    mul_left_inj' (two_zpow_pos q).ne']

/-- The bound below which a magnitude, rounded to the format's precision, stays below the smallest normal value. -/
def tinyBound (f : BinFmt) (rz : Bool) : Rat := 2 ^ f.emin - (if rz then 0 else 2 ^ (f.emin - f.prec - 1))

theorem tinyBound_le (f : BinFmt) (rz : Bool) : tinyBound f rz ≤ 2 ^ f.emin := by
  have := two_zpow_pos (f.emin - f.prec - 1)
  unfold tinyBound
  split <;> linarith

theorem le_tinyBound (f : BinFmt) (rz : Bool) : 2 ^ (f.emin - 1) ≤ tinyBound f rz := by
  have hhalf : (2 : Rat) ^ f.emin = 2 * 2 ^ (f.emin - 1) := by
    rw [← zpow_one_add₀ (by norm_num)]
    congr 1
    ring
  have hstep : (2 : Rat) ^ (f.emin - f.prec - 1) ≤ 2 ^ (f.emin - 1) := zpow_le_zpow_right₀ (by norm_num) (by omega)
  have hpos := two_zpow_pos (f.emin - 1)
  unfold tinyBound
  split <;> linarith

/-- In the binade below the smallest normal value a rounded significand stays in it below the half of its last place. -/
theorem rounded_lt_top {rz : Bool} {d w : Nat} {y : Rat} (h : roundedTo rz d y) (hy : y < (2 * w : Nat)) :
    d < 2 * w ↔ y < 2 * w - (if rz then 0 else 1 / 2) := by
  push_cast at hy
  cases rz with
  | true =>
    have hd : (d : Rat) < (2 * w : Nat) := by
      push_cast
      exact h.1.trans_lt hy
    simpa [hy] using Nat.cast_lt.1 hd
  | false =>
    obtain ⟨hlow, hhigh, htie⟩ := h
    simp only [Bool.false_eq_true, if_false]
    constructor
    · intro hd
      have hdQ : (d : Rat) + 1 ≤ 2 * w := by exact_mod_cast hd
      refine lt_of_le_of_ne (by linarith) (fun heq => ?_)
      have hdw : (d : Rat) + 1 = 2 * w := by linarith
      have hodd : d + 1 = 2 * w := by exact_mod_cast hdw
      have := htie (.inr (by linarith))
      omega
    · intro hd
      have hdQ : (d : Rat) < 2 * w := by linarith
      exact_mod_cast hdQ

theorem magCode_tiny {f : BinFmt} (hf : 2 ≤ f.prec) (rz : Bool) {mag : Nat} (h : 0 < mag) (exp : Int) :
    (magCode f rz mag exp).2.1 = true ↔ magQ mag exp < tinyBound f rz := by
  have hu : ∃ qu : Int, qu = topBit mag exp - (f.prec - 1 : Nat) := ⟨_, rfl⟩
  obtain ⟨qu, hu⟩ := hu
  have hround := (roundAt_spec rz mag exp qu).1
  have htiny : (magCode f rz mag exp).2.1 = decide (topBit (roundAt rz mag exp qu).1 qu < f.emin) := by rw [hu]; rfl
  have hlt : magQ mag (exp - qu) < (2 * 2 ^ (f.prec - 1) : Nat) := by
    have := magQ_sub_lt h (exp := exp) (q := qu) (k := ((f.prec - 1 + 1 : Nat) : Int)) (by omega)
    rw [zpow_natCast, pow_succ'] at this
    exact_mod_cast this
  have hge : ((2 ^ (f.prec - 1) : Nat) : Rat) ≤ magQ mag (exp - qu) := by
    have := le_magQ_sub h (exp := exp) (q := qu) (k := ((f.prec - 1 : Nat) : Int)) (by omega)
    rw [zpow_natCast] at this
    exact_mod_cast this
  have hw := Nat.two_pow_pos (f.prec - 1)
  obtain ⟨hlow, hhigh⟩ := roundedTo_between hround hge hlt
  obtain ⟨hxlow, hxhigh⟩ := topBit_bounds h exp
  rw [htiny, decide_eq_true_iff, topBit_lt_iff (by omega)]
  have htop : magQ (2 * 2 ^ (f.prec - 1)) qu = 2 ^ (topBit mag exp + 1) := by
    rw [← pow_succ', magQ_two_pow, hu]
    congr 1
    push_cast
    ring
  rcases lt_trichotomy (topBit mag exp) (f.emin - 1) with hbit | hbit | hbit
  · have hpow : (2 : Rat) ^ (topBit mag exp + 1) ≤ 2 ^ (f.emin - 1) := zpow_le_zpow_right₀ (by norm_num) (by omega)
    have hstep : (2 : Rat) ^ (f.emin - 1) < 2 ^ f.emin := zpow_lt_zpow_right₀ (by norm_num) (by omega)
    have hu' := (magQ_le_magQ (e := qu)).2 hhigh
    have hbound := le_tinyBound f rz
    exact ⟨fun _ => by linarith, fun _ => by linarith⟩
  · have hemin : (2 : Rat) ^ f.emin = magQ (2 * 2 ^ (f.prec - 1)) qu := by
      rw [htop, hbit, sub_add_cancel]
    have hbound : tinyBound f rz = (2 * (2 ^ (f.prec - 1) : Nat) - (if rz then 0 else 1 / 2)) * 2 ^ qu := by
      rw [sub_mul, tinyBound, hemin, magQ]
      congr 1
      · push_cast
        rfl
      · cases rz with
        | true => simp
        | false =>
          have hq : f.emin - f.prec - 1 = qu + (-1) := by omega
          rw [hq, two_zpow_add]
          norm_num
          ring
    rw [hemin, magQ_lt_magQ, rounded_lt_top hround hlt, hbound, ← magQ_sub_mul mag exp qu,
      mul_lt_mul_iff_left₀ (two_zpow_pos qu)]
  · have hpow : (2 : Rat) ^ f.emin ≤ 2 ^ topBit mag exp := zpow_le_zpow_right₀ (by norm_num) (by omega)
    have hbase : magQ (2 ^ (f.prec - 1)) qu = 2 ^ topBit mag exp := by
      rw [magQ_two_pow, hu, sub_add_cancel]
    have hu' := (magQ_le_magQ (e := qu)).2 hlow
    have hbound := tinyBound_le f rz
    exact ⟨fun _ => by linarith, fun _ => by linarith⟩

/-! ### Rounding into a format -/

/-- Two magnitudes lie alike to a point. -/
def alike (p x y : Rat) : Prop := (p ≤ x ↔ p ≤ y) ∧ (x ≤ p ↔ y ≤ p)

/-- The points that decide a rounding to nearest: the codes, those half way between, and the bound of underflow. -/
def decisive (f : BinFmt) (p : Rat) : Prop := (∃ c, p = codeQ f c) ∨ (∃ c, p = midQ f c) ∨ p = tinyBound f false

theorem nearestCode_alike {f : BinFmt} {c : Nat} {x y : Rat} (h : ∀ p, decisive f p → alike p x y) (hc : nearestCode f c x) :
    nearestCode f c y := by
  obtain ⟨hlow, hhigh, htie⟩ := hc
  have hmid := fun b => h (midQ f b) (.inr (.inl ⟨b, rfl⟩))
  refine ⟨fun b hb => ⟨(hmid b).1.1 (hlow b hb).1, fun heq => (hlow b hb).2 ?_⟩, (hmid c).2.1 hhigh, fun heq => htie ?_⟩
  · exact le_antisymm (hlow b hb).1 ((hmid b).2.2 heq.ge)
  · exact le_antisymm hhigh ((hmid c).1.2 heq.ge)

/-- A code at least as near as its neighbours, with the tie rule, is the nearest. -/
theorem nearestCode_of_nearest {f : BinFmt} {c : Nat} {x : Rat}
    (h : ∀ d, |codeQ f c - x| ≤ |codeQ f d - x| ∧ (|codeQ f c - x| = |codeQ f d - x| → d = c ∨ c % 2 = 0)) : nearestCode f c x := by
  have hmono := codeQ_strictMono f
  refine ⟨fun b hb => ?_, ?_⟩
  · subst hb
    obtain ⟨hle, htie⟩ := h b
    have hlt := hmono (Nat.lt_succ_self b)
    have hmid : midQ f b ≤ x := by
      unfold midQ
      by_contra hc
      rw [abs_of_pos (show 0 < codeQ f (b + 1) - x by linarith)] at hle
      rcases le_total (codeQ f b - x) 0 with hs | hs
      · rw [abs_of_nonpos hs] at hle
        linarith
      · rw [abs_of_nonneg hs] at hle
        linarith
    refine ⟨hmid, fun heq => ?_⟩
    unfold midQ at heq
    rw [abs_of_pos (show 0 < codeQ f (b + 1) - x by linarith), abs_of_neg (show codeQ f b - x < 0 by linarith)] at htie
    exact (htie (by linarith)).resolve_left (by omega)
  · obtain ⟨hle, htie⟩ := h (c + 1)
    have hlt := hmono (Nat.lt_succ_self c)
    have hmid : x ≤ midQ f c := by
      unfold midQ
      by_contra hc
      rw [abs_of_neg (show codeQ f c - x < 0 by linarith)] at hle
      rcases le_total (codeQ f (c + 1) - x) 0 with hs | hs
      · rw [abs_of_nonpos hs] at hle
        linarith
      · rw [abs_of_nonneg hs] at hle
        linarith
    refine ⟨hmid, fun heq => ?_⟩
    unfold midQ at heq
    rw [abs_of_neg (show codeQ f c - x < 0 by linarith), abs_of_pos (show 0 < codeQ f (c + 1) - x by linarith)] at htie
    exact (htie (by linarith)).resolve_left (by omega)

/-- What rounds a magnitude to nearest rounds every one that lies alike to the points that decide it. -/
theorem roundsTo_alike {f : BinFmt} {ovf : Nat} {neg : Bool} {x y : Rat} {r : Res W32} (h : ∀ p, decisive f p → alike p x y)
    (hr : roundsTo f false ovf neg x r) : roundsTo f false ovf neg y r := by
  obtain ⟨c, hnear, -, hval, hbig, hflags⟩ := hr
  have hcode : codeQ f c = x ↔ codeQ f c = y := by
    obtain ⟨hle, hge⟩ := h (codeQ f c) (.inl ⟨c, rfl⟩)
    rw [le_antisymm_iff, le_antisymm_iff, hle, hge]
  have htiny : x < tinyBound f false ↔ y < tinyBound f false := by
    rw [← not_le, ← not_le, (h _ (.inr (.inr rfl))).1]
  refine ⟨c, fun _ => nearestCode_nearest (nearestCode_alike h (nearestCode_of_nearest (hnear rfl))), by simp, hval, hbig, fun hc => ?_⟩
  obtain ⟨hexact, hunder, hinexact⟩ := hflags hc
  exact ⟨fun heq => hexact (hcode.2 heq), fun hne ht => hunder (mt hcode.1 hne) (htiny.2 ht),
    fun hne ht => hinexact (mt hcode.1 hne) (fun hx => ht (htiny.1 hx))⟩

/-- The model's rounding of a magnitude is one rounding. -/
theorem roundFin_roundsTo {f : BinFmt} (hf : 2 ≤ f.prec) (rz : Bool) (ovf : Nat) (neg : Bool) {mag : Nat} (hm : 0 < mag) (exp : Int) :
    roundsTo f rz ovf neg (magQ mag exp) (roundFin f rz ovf neg mag exp) := by
  obtain ⟨hnear, hfloor, hinexact⟩ := magCode_code hf rz hm exp
  have htiny := magCode_tiny hf rz hm exp
  have hmag : (mag == 0) = false := by simpa using hm.ne'
  simp only [roundFin, hmag, Bool.false_eq_true, if_false]
  refine ⟨(magCode f rz mag exp).1, fun hrz => nearestCode_nearest (hnear hrz), hfloor, ?_, fun hc => ?_,
    fun hc => ⟨fun heq => ?_, fun hne ht => ?_, fun hne ht => ?_⟩⟩
  · by_cases hc : (magCode f rz mag exp).1 > f.maxCode
    · rw [if_pos hc, if_neg (by omega), withSign]
    · simp only [if_neg hc, if_pos (Nat.le_of_not_gt hc), withSign]
  · rw [if_pos hc]
  · have hex : (magCode f rz mag exp).2.2 = false := by simpa [heq] using hinexact
    rw [if_neg (by omega)]
    simp [hex]
  · rw [if_neg (by omega), if_pos (hinexact.2 hne), if_pos (htiny.2 ht)]
  · rw [if_neg (by omega), if_pos (hinexact.2 hne), if_neg (fun h => ht (htiny.1 h))]

/-- What a rounding delivers of a value that a code has. -/
theorem roundsTo_exact {f : BinFmt} {rz : Bool} {ovf : Nat} {neg : Bool} {x : Rat} {r : Res W32} {c : Nat}
    (hr : roundsTo f rz ovf neg x r) (hc : codeQ f c = x) (hmax : c ≤ f.maxCode) : r = { val := withSign f neg c, flags := 0 } := by
  obtain ⟨c', hnear, hfloor, hval, -, hflags⟩ := hr
  have hmono := codeQ_strictMono f
  have heq : c' = c := by
    rw [← hc] at hnear hfloor
    cases rz with
    | true =>
      obtain ⟨hlow, hhigh⟩ := hfloor rfl
      exact le_antisymm (hmono.le_iff_le.1 hlow) (Nat.lt_succ_iff.1 (hmono.lt_iff_lt.1 hhigh))
    | false =>
      have h0 := (hnear rfl c).1
      rw [sub_self, abs_zero] at h0
      exact hmono.injective (sub_eq_zero.1 (abs_eq_zero.1 (le_antisymm h0 (abs_nonneg _))))
  subst heq
  cases r
  simp only [Res.mk.injEq]
  rw [if_pos hmax] at hval
  exact ⟨hval, (hflags hmax).1 hc⟩

/-- A magnitude that is the value of a code of the format rounds to this code, exactly. -/
theorem roundFin_exact {f : BinFmt} (hf : 2 ≤ f.prec) (rz : Bool) (ovf : Nat) (neg : Bool) {mag : Nat} {exp : Int} {c : Nat}
    (hc : codeQ f c = magQ mag exp) (hmax : c ≤ f.maxCode) : roundFin f rz ovf neg mag exp = { val := withSign f neg c, flags := 0 } := by
  rcases Nat.eq_zero_or_pos mag with rfl | hm
  · obtain rfl : c = 0 := (codeQ_strictMono f).injective (by rw [hc, codeQ_zero, magQ_eq_zero])
    rfl
  · exact roundsTo_exact (roundFin_roundsTo hf rz ovf neg hm exp) hc hmax

end Sys2Proof.Machine
end

section
/-! PROOFS. What the words of the binary formats decode to (R34 to R36, R44). -/

open Sys2Proof.Claims

namespace Sys2Proof.Machine

/-! ### Codes of the binary formats -/

theorem ratOf_false (mag : Nat) (exp : Int) : ratOf false mag exp = magQ mag exp := by simp [ratOf_eq]

/-- The parts of a code as a significand and an exponent are those of its value. -/
theorem decodeFin_eq {f : BinFmt} {we wf : Nat} {bias : Int} (hp : f.prec = wf + 1) (he : f.emin = 1 - bias) (neg : Bool) {code : Nat}
    (hc : code < 2 ^ (we + wf)) : ∃ mag exp, decodeFin we wf bias neg code = .fin neg mag exp ∧ magQ mag exp = codeQ f code ∧
      mag < 2 ^ (wf + 1) ∧ 1 - bias - wf ≤ exp ∧ exp ≤ 2 ^ we - bias - wf := by
  have hw : 0 < 2 ^ wf := Nat.two_pow_pos _
  have hfrac := Nat.mod_lt code hw
  have hpow : (1 : Int) ≤ 2 ^ we := by exact_mod_cast Nat.one_le_two_pow
  have hdiv : code / 2 ^ wf < 2 ^ we := by
    rw [Nat.div_lt_iff_lt_mul hw, ← pow_add]
    exact hc
  have hcodeQ : codeQ f code = if code < 2 ^ wf then magQ code (1 - bias - wf)
      else magQ (2 ^ wf + code % 2 ^ wf) ((code / 2 ^ wf : Nat) - bias - wf) := by
    rw [codeQ, hp, he]
    simp only [Nat.add_sub_cancel, magQ]
    split
    · rfl
    · congr 2
      ring
  unfold decodeFin
  simp only [Nat.mod_eq_of_lt hdiv, beq_iff_eq, Nat.div_eq_zero_iff]
  rw [hcodeQ]
  by_cases hsub : code < 2 ^ wf
  · rw [if_pos (.inr hsub), if_pos hsub, Nat.mod_eq_of_lt hsub]
    have hsum : 2 ^ (wf + 1) = 2 ^ wf + 2 ^ wf := by ring
    exact ⟨_, _, rfl, rfl, by omega, le_refl _, by linarith⟩
  · rw [if_neg (by omega), if_neg hsub]
    have hsum : 2 ^ (wf + 1) = 2 ^ wf + 2 ^ wf := by ring
    have hpos : 0 < code / 2 ^ wf := Nat.div_pos (by omega) hw
    refine ⟨_, _, rfl, rfl, by omega, by omega, ?_⟩
    have : ((code / 2 ^ wf : Nat) : Int) + 1 ≤ 2 ^ we := by exact_mod_cast hdiv
    linarith

theorem isFinite_decodeFin {f : BinFmt} {we wf : Nat} {bias : Int} (hp : f.prec = wf + 1) (he : f.emin = 1 - bias) (neg : Bool)
    {code : Nat} (hc : code < 2 ^ (we + wf)) : isFinite (decodeFin we wf bias neg code) neg (codeQ f code) := by
  obtain ⟨mag, exp, heq, hq, -⟩ := decodeFin_eq hp he neg hc
  exact ⟨mag, exp, heq, by rw [ratOf_false, hq]⟩

/-! ### Words of the binary formats -/

/-- A finite binary32. -/
theorem decodeF32_fin {x : W32} (h : f32Fin x) : ∃ mag exp, decodeF32 x = .fin x.msb mag exp ∧
    magQ mag exp = codeQ binF32 (x.toNat % 2 ^ 31) ∧ mag < 2 ^ 24 ∧ -149 ≤ exp ∧ exp ≤ 106 := by
  unfold f32Fin at h
  obtain ⟨mag, exp, heq, hq, hmag, hlow, hhigh⟩ := decodeFin_eq (f := binF32) (we := 8) (wf := 23) (bias := 127) rfl rfl x.msb
    (code := x.toNat % 2 ^ 31) (by omega)
  refine ⟨mag, exp, ?_, hq, hmag, by simpa using hlow, by simpa using hhigh⟩
  unfold decodeF32
  rw [if_neg (by simp; omega), if_neg (by omega)]
  exact heq

theorem decodeF32_inf {x : W32} (h : f32Inf x) : decodeF32 x = .inf x.msb := by
  unfold f32Inf at h
  unfold decodeF32
  rw [if_pos (by simpa using h)]

theorem decodeF32_nan {x : W32} (h : f32Nan x) : decodeF32 x = .nan := by
  unfold f32Nan at h
  unfold decodeF32
  rw [if_neg (by simp; omega), if_pos (by omega)]

theorem f32_cases (x : W32) : f32Fin x ∨ f32Inf x ∨ f32Nan x := by
  unfold f32Fin f32Inf f32Nan
  omega

/-- The value of a finite binary32 is that of its parts. -/
theorem f32Q_of_decode {x : W32} {mag : Nat} {exp : Int} (hq : magQ mag exp = codeQ binF32 (x.toNat % 2 ^ 31)) :
    f32Q x = ratOf x.msb mag exp := by
  rw [ratOf_eq, hq, f32Q]
  split <;> simp

/-- A bf16 code is the f32 code of its bits and sixteen zeros. -/
theorem codeQ_binBf16 (c : Nat) : codeQ binF32 (c * 2 ^ 16) = codeQ binBf16 c := by
  obtain ⟨e, d, rfl, hd, he⟩ := exists_codeParts binBf16 c
  have hcode : (e * 2 ^ (binBf16.prec - 1) + d) * 2 ^ 16 = e * 2 ^ (binF32.prec - 1) + d * 2 ^ 16 := by
    simp only [binBf16, binF32]
    ring
  have hsig : d * 2 ^ 16 ≤ 2 * 2 ^ (binF32.prec - 1) := by
    simp only [binBf16, binF32] at hd ⊢
    omega
  have hbin : e = 0 ∨ 2 ^ (binF32.prec - 1) ≤ d * 2 ^ 16 := by
    simp only [binBf16, binF32] at he ⊢
    omega
  rw [hcode, codeQ_eq binF32 e _ hsig hbin, codeQ_eq binBf16 e d hd.le he, magQ_shift]
  congr 1
  simp only [binBf16, binF32]
  push_cast
  ring

theorem bf16_magnitude (y : BitVec 16) : (y ++ 0#16).toNat % 2 ^ 31 = y.toNat % 2 ^ 15 * 2 ^ 16 := by
  rw [BitVec.toNat_append]
  simp only [BitVec.toNat_ofNat, Nat.zero_mod, Nat.or_zero, Nat.shiftLeft_eq]
  omega

theorem bf16_msb (y : BitVec 16) : (y ++ 0#16).msb = y.msb := by
  rw [BitVec.msb_append]
  simp

theorem decodeBf16_fin {y : BitVec 16} (h : y.toNat % 2 ^ 15 < 0x7F80) :
    isFinite (decodeBf16 y) y.msb (codeQ binBf16 (y.toNat % 2 ^ 15)) := by
  have hfin : f32Fin (y ++ 0#16) := by
    unfold f32Fin
    rw [bf16_magnitude]
    omega
  obtain ⟨mag, exp, heq, hq, -⟩ := decodeF32_fin hfin
  rw [bf16_msb] at heq
  exact ⟨mag, exp, heq, by rw [ratOf_false, hq, bf16_magnitude, codeQ_binBf16]⟩

theorem decodeBf16_inf {y : BitVec 16} (h : y.toNat % 2 ^ 15 = 0x7F80) : decodeBf16 y = .inf y.msb := by
  have hinf : f32Inf (y ++ 0#16) := by
    unfold f32Inf
    rw [bf16_magnitude]
    omega
  rw [← bf16_msb]
  exact decodeF32_inf hinf

theorem decodeBf16_nan {y : BitVec 16} (h : 0x7F80 < y.toNat % 2 ^ 15) : decodeBf16 y = .nan := by
  refine decodeF32_nan ?_
  unfold f32Nan
  rw [bf16_magnitude]
  omega

theorem decodeE4m3_fin {y : Byte} (h : y.toNat % 2 ^ 7 < 0x7F) : isFinite (decodeE4m3 y) y.msb (codeQ binE4m3 (y.toNat % 2 ^ 7)) := by
  unfold decodeE4m3
  rw [if_neg (by simp; omega)]
  exact isFinite_decodeFin rfl rfl y.msb (Nat.mod_lt _ (by decide))

theorem decodeE4m3_nan {y : Byte} (h : y.toNat % 2 ^ 7 = 0x7F) : decodeE4m3 y = .nan := by
  unfold decodeE4m3
  rw [if_pos (by simpa using h)]

theorem decodeE5m2_fin {y : Byte} (h : y.toNat % 2 ^ 7 < 0x7C) : isFinite (decodeE5m2 y) y.msb (codeQ binE5m2 (y.toNat % 2 ^ 7)) := by
  unfold decodeE5m2
  rw [if_neg (by simp; omega), if_neg (by omega)]
  exact isFinite_decodeFin rfl rfl y.msb (Nat.mod_lt _ (by decide))

theorem decodeE5m2_inf {y : Byte} (h : y.toNat % 2 ^ 7 = 0x7C) : decodeE5m2 y = .inf y.msb := by
  unfold decodeE5m2
  rw [if_pos (by simpa using h)]

theorem decodeE5m2_nan {y : Byte} (h : 0x7C < y.toNat % 2 ^ 7) : decodeE5m2 y = .nan := by
  unfold decodeE5m2
  rw [if_neg (by simp; omega), if_pos (by omega)]

theorem isFinite_decodeE2m1 (y : BitVec 4) : isFinite (decodeE2m1 y) y.msb (codeQ binE2m1 (y.toNat % 2 ^ 3)) :=
  isFinite_decodeFin rfl rfl y.msb (Nat.mod_lt _ (by decide))

/-! ### Elements of a lane -/

/-- Element j of a slot, its low bits. -/
theorem elem_low (x : W32) (w j : Nat) {k l : Nat} (h : k ≤ l) :
    (x.extractLsb' (w * j) l).toNat % 2 ^ k = x.toNat / 2 ^ (w * j) % 2 ^ k := by
  rw [BitVec.extractLsb'_toNat, Nat.shiftRight_eq_div_pow, Nat.mod_mod_of_dvd _ (Nat.pow_dvd_pow 2 h)]

theorem elem_bits (x : W32) (w j l : Nat) : (x.extractLsb' (w * j) l).toNat = x.toNat / 2 ^ (w * j) % 2 ^ l := by
  rw [BitVec.extractLsb'_toNat, Nat.shiftRight_eq_div_pow]

theorem elem_msb (x : W32) (w j : Nat) (h : 0 < w) : (x.extractLsb' (w * j) w).msb = x.getLsbD (w * j + w - 1) := by
  rw [BitVec.msb_eq_getLsbD_last, BitVec.getLsbD_extractLsb', decide_eq_true (by omega), Bool.true_and]
  congr 1
  omega

theorem ofInt_toInt {w : Nat} (x : BitVec w) : ofInt x.toInt = .fin x.msb x.toInt.natAbs 0 := by
  rw [ofInt, BitVec.msb_eq_toInt]

theorem ofInt_natCast (n : Nat) : ofInt n = .fin false n 0 := by
  simp [ofInt]

theorem binaryElementsDecode : BinaryElementsDecode := by
  refine ⟨⟨rfl, rfl, rfl, rfl, rfl⟩, fun x j => ⟨fun h => ?_, decodeF32_inf, decodeF32_nan, ofInt_toInt x, fun _ => ?_,
    fun _ => ?_, fun _ => ?_⟩⟩
  · obtain ⟨mag, exp, heq, hq, -⟩ := decodeF32_fin h
    exact ⟨mag, exp, heq, by rw [ratOf_false, hq]⟩
  · dsimp only
    rw [← elem_msb x 16 j (by decide), ← elem_low x 16 j (k := 15) (l := 16) (by decide)]
    exact ⟨decodeBf16_fin, decodeBf16_inf, decodeBf16_nan⟩
  · have hbyte := elem_bits x 8 j 8
    have hsix := elem_bits x 8 j 6
    dsimp only
    rw [← elem_msb x 8 j (by decide), ← elem_low x 8 j (k := 7) (l := 8) (by decide), ← hbyte, ← hsix]
    exact ⟨ofInt_toInt _, ofInt_natCast _, decodeE4m3_fin, decodeE4m3_nan, decodeE5m2_fin, decodeE5m2_inf, decodeE5m2_nan, rfl, rfl⟩
  · dsimp only
    rw [← elem_msb x 4 j (by decide), ← elem_low x 4 j (k := 3) (l := 4) (by decide)]
    exact isFinite_decodeE2m1 _

end Sys2Proof.Machine
end

section
/-! PROOFS. Sums, products and fused sums of f32 codes, and the order of f32 codes (R30, R33, R49). -/

open Sys2Proof.Claims

namespace Sys2Proof.Machine

/-! ### The sign and the size of a value -/

theorem abs_ratOf (neg : Bool) (mag : Nat) (exp : Int) : |ratOf neg mag exp| = magQ mag exp := by
  rw [ratOf_eq]
  split
  · rw [abs_neg, abs_of_nonneg (magQ_nonneg mag exp)]
  · rw [abs_of_nonneg (magQ_nonneg mag exp)]

theorem ratOf_eq_zero {neg : Bool} {mag : Nat} {exp : Int} : ratOf neg mag exp = 0 ↔ mag = 0 := by
  rw [← abs_eq_zero, abs_ratOf, magQ_eq_zero]

theorem ratOf_neg_iff {neg : Bool} {mag : Nat} {exp : Int} : ratOf neg mag exp < 0 ↔ neg = true ∧ 0 < mag := by
  rw [ratOf_eq]
  cases neg with
  | true =>
    simp only [if_true, neg_lt_zero, true_and]
    exact ⟨fun h => Nat.pos_of_ne_zero (fun hz => h.ne' (magQ_eq_zero.2 hz)), magQ_pos⟩
  | false => simp [not_lt.2 (magQ_nonneg mag exp)]

theorem ratOf_int (neg : Bool) (n : Int) (hneg : neg = decide (n < 0)) (exp : Int) : ratOf neg n.natAbs exp = n * (2 : Rat) ^ exp := by
  subst hneg
  rw [ratOf_eq, magQ]
  by_cases h : n < 0
  · have habs : ((n.natAbs : Nat) : Rat) = -(n : Rat) := by
      rw [Nat.cast_natAbs, abs_of_neg h]
      push_cast
      rfl
    simp [h, habs]
  · have habs : ((n.natAbs : Nat) : Rat) = (n : Rat) := by
      rw [Nat.cast_natAbs, abs_of_nonneg (not_lt.1 h)]
    simp [h, habs]

/-- The value of an integer multiple, whatever sign a zero bears. -/
theorem ratOf_natAbs (neg : Bool) (n : Int) (hneg : n ≠ 0 → neg = decide (n < 0)) (exp : Int) :
    ratOf neg n.natAbs exp = n * (2 : Rat) ^ exp := by
  rcases eq_or_ne n 0 with rfl | h
  · simp [ratOf]
  · exact ratOf_int neg n (hneg h) exp

/-! ### Exact sums and products -/

theorem ratOf_common (neg : Bool) (mag : Nat) {exp e : Int} (h : e ≤ exp) :
    ratOf neg mag exp =
      ((if neg then -((mag * pow2 (exp - e) : Nat) : Int) else ((mag * pow2 (exp - e) : Nat) : Int)) : Int) * (2 : Rat) ^ e := by
  have hq : magQ mag exp = ((mag * pow2 (exp - e) : Nat) : Rat) * 2 ^ e := by
    have := magQ_pow2 mag e (k := exp - e) (by omega)
    rw [add_sub_cancel] at this
    rw [← this, magQ]
  rw [ratOf_eq, hq]
  split
  · push_cast
    ring
  · push_cast
    ring

/-- The exact sum of two finite values. -/
theorem numAdd_fin (na nb : Bool) (ma mb : Nat) (ea eb : Int) : ∃ neg mag exp,
    Num.add (.fin na ma ea) (.fin nb mb eb) = { val := .fin neg mag exp, flags := 0 } ∧
      ratOf neg mag exp = ratOf na ma ea + ratOf nb mb eb ∧ (mag = 0 → neg = (na && nb && ma == 0 && mb == 0)) := by
  refine ⟨_, _, _, rfl, ?_, ?_⟩
  · rw [ratOf_natAbs _ _ (fun h => if_neg (by simpa using h)), ratOf_common na ma (min_le_left ea eb),
      ratOf_common nb mb (min_le_right ea eb), ← add_mul]
    push_cast
    rfl
  · intro h
    rw [if_pos (by simpa using h)]

theorem numMul_fin (na nb : Bool) (ma mb : Nat) (ea eb : Int) :
    Num.mul (.fin na ma ea) (.fin nb mb eb) = { val := .fin (na != nb) (ma * mb) (ea + eb), flags := 0 } := rfl

theorem ratOf_mul (na nb : Bool) (ma mb : Nat) (ea eb : Int) :
    ratOf (na != nb) (ma * mb) (ea + eb) = ratOf na ma ea * ratOf nb mb eb := by
  have hq : magQ (ma * mb) (ea + eb) = magQ ma ea * magQ mb eb := by
    rw [magQ, magQ, magQ, two_zpow_add]
    push_cast
    ring
  rw [ratOf_eq, ratOf_eq, ratOf_eq, hq]
  cases na <;> cases nb <;> simp

/-! ### One rounding into f32 -/

theorem roundRes_fin (neg : Bool) (mag : Nat) (exp : Int) :
    roundRes { val := .fin neg mag exp, flags := 0 } = roundFin binF32 false 0x7F800000 neg mag exp := by
  simp [roundRes, rneF32]

/-- A finite value rounded into f32. -/
theorem givesF32_roundFin {neg : Bool} {mag : Nat} {exp : Int} {v : Rat} {zero : W32} (hv : ratOf neg mag exp = v)
    (hz : mag = 0 → zero = withSign binF32 neg 0) : givesF32 v zero (roundFin binF32 false 0x7F800000 neg mag exp) := by
  subst hv
  refine ⟨fun hne => ?_, fun heq => ?_⟩
  · have hm : 0 < mag := Nat.pos_of_ne_zero (fun h => hne (ratOf_eq_zero.2 h))
    have hneg : decide (ratOf neg mag exp < 0) = neg := by simp [ratOf_neg_iff, hm]
    rw [hneg, abs_ratOf]
    exact roundFin_roundsTo (by decide) false _ neg hm exp
  · obtain rfl := ratOf_eq_zero.1 heq
    rw [hz rfl]
    rfl

/-! ### f32 codes -/

/-- A finite f32 code, decoded. -/
theorem decodeF32_value {x : W32} (h : f32Fin x) : ∃ mag exp, decodeF32 x = .fin x.msb mag exp ∧ ratOf x.msb mag exp = f32Q x ∧
    (mag = 0 ↔ f32Zero x) := by
  obtain ⟨mag, exp, heq, hq, -⟩ := decodeF32_fin h
  refine ⟨mag, exp, heq, (f32Q_of_decode hq).symm, ?_⟩
  rw [← magQ_eq_zero (exp := exp), hq, ← codeQ_zero binF32, (codeQ_strictMono binF32).injective.eq_iff]

theorem msb_eq_decide (x : W32) : x.msb = decide (2 ^ 31 ≤ x.toNat) := BitVec.msb_eq_decide x

/-- A code is its sign and its magnitude code. -/
theorem eq_withSign (x : W32) : x = withSign binF32 x.msb (x.toNat % 2 ^ 31) := by
  apply BitVec.eq_of_toNat_eq
  have hx := x.isLt
  rw [msb_eq_decide, withSign, BitVec.toNat_ofNat, show binF32.width - 1 = 31 from rfl]
  by_cases h : 2 ^ 31 ≤ x.toNat
  · rw [decide_eq_true h, if_pos rfl]
    omega
  · rw [decide_eq_false h, if_neg (by simp)]
    omega

theorem eq_iff_sign_magnitude {x y : W32} : x = y ↔ x.msb = y.msb ∧ x.toNat % 2 ^ 31 = y.toNat % 2 ^ 31 := by
  constructor
  · rintro rfl
    exact ⟨rfl, rfl⟩
  · rintro ⟨hs, hm⟩
    rw [eq_withSign x, eq_withSign y, hs, hm]

theorem negZero_iff {x : W32} : x = 0x80000000 ↔ x.msb = true ∧ f32Zero x := eq_iff_sign_magnitude

theorem f32Inf_eq {x : W32} (h : f32Inf x) : x = withSign binF32 x.msb 0x7F800000 := by
  conv_lhs => rw [eq_withSign x, show x.toNat % 2 ^ 31 = _ from h]

/-- The sign bit turned over negates. -/
theorem flip_magnitude (x : W32) : (x ^^^ 0x80000000).toNat % 2 ^ 31 = x.toNat % 2 ^ 31 := by
  rw [BitVec.toNat_xor, Nat.xor_mod_two_pow]
  simp

theorem flip_msb (x : W32) : (x ^^^ 0x80000000).msb = !x.msb := by
  rw [BitVec.msb_xor, show (0x80000000 : W32).msb = true from rfl, Bool.xor_true]

theorem decodeFin_negate (we wf : Nat) (bias : Int) (neg : Bool) (code : Nat) :
    decodeFin we wf bias (!neg) code = (decodeFin we wf bias neg code).negate := by
  unfold decodeFin
  dsimp only
  split <;> rfl

theorem decodeF32_flip (x : W32) : decodeF32 (x ^^^ 0x80000000) = (decodeF32 x).negate := by
  have hm := flip_magnitude x
  unfold decodeF32
  rw [show (0x80000000 : Nat) = 2 ^ 31 by norm_num, hm, flip_msb]
  dsimp only
  split
  · rfl
  · split
    · rfl
    · exact decodeFin_negate _ _ _ _ _

theorem subF32_eq (a b : W32) : subF32 a b = addF32 a (b ^^^ 0x80000000) := by
  rw [subF32, addF32, decodeF32_flip]

/-! ### Finite operands -/

theorem ite_negZero {p : Prop} [Decidable p] {neg : Bool} (h : neg = true ↔ p) :
    (if p then 0x80000000 else 0 : W32) = withSign binF32 neg 0 := by
  by_cases hp : p
  · rw [if_pos hp, h.2 hp]
    rfl
  · rw [if_neg hp, Bool.eq_false_iff.2 (fun hn => hp (h.1 hn))]
    rfl

theorem addF32_gives {a b : W32} (ha : f32Fin a) (hb : f32Fin b) :
    givesF32 (f32Q a + f32Q b) (if a = 0x80000000 ∧ b = 0x80000000 then 0x80000000 else 0) (addF32 a b) := by
  obtain ⟨ma, ea, hda, hva, hza⟩ := decodeF32_value ha
  obtain ⟨mb, eb, hdb, hvb, hzb⟩ := decodeF32_value hb
  obtain ⟨neg, mag, exp, heq, hv, hneg⟩ := numAdd_fin a.msb b.msb ma mb ea eb
  rw [addF32, hda, hdb, heq, roundRes_fin]
  refine givesF32_roundFin (by rw [hv, hva, hvb]) (fun hm => ite_negZero ?_)
  rw [hneg hm, negZero_iff, negZero_iff, ← hza, ← hzb]
  simp only [Bool.and_eq_true, beq_iff_eq]
  tauto

theorem mulF32_gives {a b : W32} (ha : f32Fin a) (hb : f32Fin b) :
    givesF32 (f32Q a * f32Q b) (if (a.msb != b.msb) = true then 0x80000000 else 0) (mulF32 a b) := by
  obtain ⟨ma, ea, hda, hva, -⟩ := decodeF32_value ha
  obtain ⟨mb, eb, hdb, hvb, -⟩ := decodeF32_value hb
  rw [mulF32, hda, hdb, numMul_fin, roundRes_fin]
  exact givesF32_roundFin (by rw [ratOf_mul, hva, hvb]) (fun _ => ite_negZero Iff.rfl)

theorem fmaF32_gives {a b c : W32} (ha : f32Fin a) (hb : f32Fin b) (hc : f32Fin c) :
    givesF32 (f32Q a * f32Q b + f32Q c)
      (if (f32Zero a ∨ f32Zero b) ∧ (a.msb != b.msb) = true ∧ c = 0x80000000 then 0x80000000 else 0)
      (fmaF32 (decodeF32 a) (decodeF32 b) (decodeF32 c)) := by
  obtain ⟨ma, ea, hda, hva, hza⟩ := decodeF32_value ha
  obtain ⟨mb, eb, hdb, hvb, hzb⟩ := decodeF32_value hb
  obtain ⟨mc, ec, hdc, hvc, hzc⟩ := decodeF32_value hc
  obtain ⟨neg, mag, exp, heq, hv, hneg⟩ := numAdd_fin (a.msb != b.msb) c.msb (ma * mb) mc (ea + eb) ec
  rw [fmaF32, hda, hdb, hdc, numMul_fin]
  dsimp only
  rw [heq, BitVec.or_self, roundRes_fin]
  refine givesF32_roundFin (by rw [hv, ratOf_mul, hva, hvb, hvc]) (fun hm => ite_negZero ?_)
  rw [hneg hm, negZero_iff, ← hza, ← hzb, ← hzc]
  simp only [Bool.and_eq_true, beq_iff_eq, Nat.mul_eq_zero]
  tauto

/-! ### NaN and the infinities -/

theorem numAdd_nan_left (x : Num) : Num.add .nan x = { val := .nan, flags := 0 } := by cases x <;> rfl

theorem numMul_nan_left (x : Num) : Num.mul .nan x = { val := .nan, flags := 0 } := by cases x <;> rfl

theorem numAdd_nan_right (x : Num) : Num.add x .nan = { val := .nan, flags := 0 } := by cases x <;> rfl

theorem numMul_nan_right (x : Num) : Num.mul x .nan = { val := .nan, flags := 0 } := by cases x <;> rfl

theorem roundRes_nan (g : Flags) : roundRes { val := .nan, flags := g } = { val := 0x7FC00000, flags := g } := by
  simp [roundRes, rneF32]

theorem roundRes_inf (neg : Bool) : roundRes { val := .inf neg, flags := 0 } = { val := withSign binF32 neg 0x7F800000, flags := 0 } := by
  simp [roundRes, rneF32]

theorem withSign_inf (neg : Bool) : (if neg then 0xFF800000 else 0x7F800000 : W32) = withSign binF32 neg 0x7F800000 := by
  cases neg <;> rfl

theorem fmaF32_fin_prod {x y z : Num} {p : Num} (h : Num.mul x y = { val := p, flags := 0 }) : fmaF32 x y z = roundRes (Num.add p z) := by
  rw [fmaF32, h]
  simp [roundRes]

theorem fmaF32_invalid {x y z : Num} (h : Num.mul x y = { val := .nan, flags := flagNV }) :
    fmaF32 x y z = { val := 0x7FC00000, flags := flagNV } := by
  rw [fmaF32, h]
  dsimp only
  rw [numAdd_nan_left, roundRes_nan]
  rfl

/-- A NaN operand gives the canonical NaN. -/
theorem arithmetic_nan {a b : W32} (h : f32Nan a ∨ f32Nan b) (c : W32) :
    addF32 a b = { val := 0x7FC00000, flags := 0 } ∧ mulF32 a b = { val := 0x7FC00000, flags := 0 } ∧
      (fmaF32 (decodeF32 a) (decodeF32 b) (decodeF32 c)).val = 0x7FC00000 := by
  have hadd : Num.add (decodeF32 a) (decodeF32 b) = { val := .nan, flags := 0 } := by
    rcases h with h | h
    · rw [decodeF32_nan h, numAdd_nan_left]
    · rw [decodeF32_nan h, numAdd_nan_right]
  have hmul : Num.mul (decodeF32 a) (decodeF32 b) = { val := .nan, flags := 0 } := by
    rcases h with h | h
    · rw [decodeF32_nan h, numMul_nan_left]
    · rw [decodeF32_nan h, numMul_nan_right]
  refine ⟨by rw [addF32, hadd, roundRes_nan], by rw [mulF32, hmul, roundRes_nan], ?_⟩
  rw [fmaF32_fin_prod hmul, numAdd_nan_left, roundRes_nan]

theorem addF32_inf_clash {a b : W32} (ha : f32Inf a) (hb : f32Inf b) (hne : a ≠ b) :
    addF32 a b = { val := 0x7FC00000, flags := flagNV } := by
  have hs : (a.msb == b.msb) = false := beq_false_of_ne (fun h => hne (eq_iff_sign_magnitude.2 ⟨h, ha.trans hb.symm⟩))
  rw [addF32, decodeF32_inf ha, decodeF32_inf hb]
  simp [Num.add, hs, roundRes_nan]

theorem addF32_inf {a b : W32} (ha : f32Inf a) (hb : f32Fin b ∨ b = a) :
    addF32 a b = { val := a, flags := 0 } ∧ addF32 b a = { val := a, flags := 0 } := by
  have hsum : Num.add (.inf a.msb) (decodeF32 b) = { val := .inf a.msb, flags := 0 } ∧
      Num.add (decodeF32 b) (.inf a.msb) = { val := .inf a.msb, flags := 0 } := by
    rcases hb with hb | rfl
    · obtain ⟨mag, exp, heq, -⟩ := decodeF32_fin hb
      rw [heq]
      exact ⟨rfl, rfl⟩
    · rw [decodeF32_inf ha]
      simp [Num.add]
  have hval := f32Inf_eq ha
  rw [addF32, addF32, decodeF32_inf ha, hsum.1, hsum.2, roundRes_inf, ← hval]
  exact ⟨rfl, rfl⟩

/-- An infinity times zero is invalid. -/
theorem numMul_inf_zero {a b : W32} (ha : f32Inf a) (hb : f32Zero b) :
    Num.mul (decodeF32 a) (decodeF32 b) = { val := .nan, flags := flagNV } ∧
      Num.mul (decodeF32 b) (decodeF32 a) = { val := .nan, flags := flagNV } := by
  have hfin : f32Fin b := by
    unfold f32Zero at hb
    unfold f32Fin
    omega
  obtain ⟨mag, exp, heq, -, hz⟩ := decodeF32_value hfin
  rw [hz.2 hb] at heq
  rw [decodeF32_inf ha, heq]
  exact ⟨rfl, rfl⟩

/-- An infinity times a value that is neither NaN nor zero. -/
theorem numMul_inf {a b : W32} (ha : f32Inf a) (hb : ¬ f32Nan b) (hb0 : ¬ f32Zero b) :
    Num.mul (decodeF32 a) (decodeF32 b) = { val := .inf (a.msb != b.msb), flags := 0 } ∧
      Num.mul (decodeF32 b) (decodeF32 a) = { val := .inf (a.msb != b.msb), flags := 0 } := by
  rw [decodeF32_inf ha]
  rcases f32_cases b with hfin | hinf | hnan
  · obtain ⟨mag, exp, heq, -, hz⟩ := decodeF32_value hfin
    have hm : (mag == 0) = false := beq_false_of_ne (fun h => hb0 (hz.1 h))
    rw [heq]
    simp [Num.mul, hm, bne_comm]
  · rw [decodeF32_inf hinf]
    simp [Num.mul, bne_comm]
  · exact absurd hnan hb

/-- An infinity as the product of a fused sum. -/
theorem fmaF32_inf_prod {x y : Num} {c : W32} {neg : Bool} (h : Num.mul x y = { val := .inf neg, flags := 0 }) :
    (f32Nan c → fmaF32 x y (decodeF32 c) = { val := 0x7FC00000, flags := 0 }) ∧
    (c = (if !neg then 0xFF800000 else 0x7F800000) → fmaF32 x y (decodeF32 c) = { val := 0x7FC00000, flags := flagNV }) ∧
    (f32Fin c ∨ c = (if neg then 0xFF800000 else 0x7F800000) →
      fmaF32 x y (decodeF32 c) = { val := if neg then 0xFF800000 else 0x7F800000, flags := 0 }) := by
  have hinf : ∀ s : Bool, decodeF32 (if s then 0xFF800000 else 0x7F800000) = .inf s := by decide
  rw [fmaF32_fin_prod h]
  refine ⟨fun hc => ?_, fun hc => ?_, fun hc => ?_⟩
  · rw [decodeF32_nan hc, numAdd_nan_right, roundRes_nan]
  · rw [hc, hinf]
    cases neg <;> exact roundRes_nan _
  · have hsum : Num.add (.inf neg) (decodeF32 c) = { val := .inf neg, flags := 0 } := by
      rcases hc with hc | hc
      · obtain ⟨mag, exp, heq, -⟩ := decodeF32_fin hc
        rw [heq]
        rfl
      · rw [hc, hinf]
        simp [Num.add]
    rw [hsum, roundRes_inf, withSign_inf]

/-- A finite product of a fused sum with an addend that is not finite. -/
theorem fmaF32_addend {a b c : W32} (ha : f32Fin a) (hb : f32Fin b) :
    (f32Nan c → fmaF32 (decodeF32 a) (decodeF32 b) (decodeF32 c) = { val := 0x7FC00000, flags := 0 }) ∧
    (f32Inf c → fmaF32 (decodeF32 a) (decodeF32 b) (decodeF32 c) = { val := c, flags := 0 }) := by
  obtain ⟨ma, ea, hda, -⟩ := decodeF32_fin ha
  obtain ⟨mb, eb, hdb, -⟩ := decodeF32_fin hb
  rw [hda, hdb, fmaF32_fin_prod (numMul_fin _ _ _ _ _ _)]
  refine ⟨fun hc => ?_, fun hc => ?_⟩
  · rw [decodeF32_nan hc, numAdd_nan_right, roundRes_nan]
  · have hval := f32Inf_eq hc
    rw [decodeF32_inf hc]
    exact (roundRes_inf c.msb).trans (by rw [← hval])

theorem arithmeticRoundsOnce : ArithmeticRoundsOnce := by
  intro a b c
  refine ⟨subF32_eq a b, fun ha hb => ⟨addF32_gives ha hb, mulF32_gives ha hb, fmaF32_gives ha hb⟩, fun h => arithmetic_nan h c,
    addF32_inf_clash, addF32_inf, fun ha hb => ?_, fun ha hb hb0 => ?_, fmaF32_addend⟩
  · obtain ⟨hab, hba⟩ := numMul_inf_zero ha hb
    exact ⟨by rw [mulF32, hab, roundRes_nan], by rw [mulF32, hba, roundRes_nan], fun _ => fmaF32_invalid hab⟩
  · obtain ⟨hab, hba⟩ := numMul_inf ha hb hb0
    have hres := roundRes_inf (a.msb != b.msb)
    rw [← withSign_inf, ← hab] at hres
    have hres' := roundRes_inf (a.msb != b.msb)
    rw [← withSign_inf, ← hba] at hres'
    exact ⟨hres, hres', fmaF32_inf_prod hab⟩

/-! ### The order of f32 codes -/

theorem isNanF32_iff (x : W32) : isNanF32 x = true ↔ f32Nan x := by
  unfold isNanF32 f32Nan
  rw [decide_eq_true_iff]
  exact Iff.rfl

/-- The key of an f32 code from its sign and its magnitude code. -/
theorem orderKey_eq (x : W32) : orderKey x = if x.msb then -((x.toNat % 2 ^ 31 : Nat) : Int) - 1 else ((x.toNat % 2 ^ 31 : Nat) : Int) := by
  unfold orderKey
  split
  · rfl
  · rename_i h
    have hx := x.isLt
    rw [msb_eq_decide, decide_eq_true_iff] at h
    omega

/-- The extended value of an f32 code as a code with a sign; f32 values are in the order of these, zeros alike. -/
def signedCode (x : W32) : Int := if x.msb then -((x.toNat % 2 ^ 31 : Nat) : Int) else ((x.toNat % 2 ^ 31 : Nat) : Int)

theorem f32Q_le_iff (x y : W32) : f32Q x ≤ f32Q y ↔ signedCode x ≤ signedCode y := by
  have hmono := codeQ_strictMono binF32
  have hx := codeQ_nonneg binF32 (x.toNat % 2 ^ 31)
  have hy := codeQ_nonneg binF32 (y.toNat % 2 ^ 31)
  have hzero : ∀ c, codeQ binF32 c = 0 ↔ c = 0 := fun c => by rw [← codeQ_zero binF32, hmono.injective.eq_iff]
  unfold f32Q signedCode
  cases x.msb <;> cases y.msb
  · simp only [Bool.false_eq_true, if_false, one_mul, hmono.le_iff_le, Nat.cast_le]
  · have hsum : codeQ binF32 (x.toNat % 2 ^ 31) ≤ -codeQ binF32 (y.toNat % 2 ^ 31) ↔
        codeQ binF32 (x.toNat % 2 ^ 31) = 0 ∧ codeQ binF32 (y.toNat % 2 ^ 31) = 0 :=
      ⟨fun h => ⟨by linarith, by linarith⟩, fun h => by rw [h.1, h.2, neg_zero]⟩
    rw [hzero, hzero] at hsum
    simp only [Bool.false_eq_true, if_false, if_true, one_mul, neg_one_mul, hsum]
    omega
  · simp only [Bool.false_eq_true, if_false, if_true, one_mul, neg_one_mul]
    exact ⟨fun _ => by omega, fun _ => by linarith⟩
  · simp only [if_true, neg_one_mul, neg_le_neg_iff, hmono.le_iff_le, Nat.cast_le]

theorem posInf_iff {x : W32} : x = 0x7F800000 ↔ x.msb = false ∧ x.toNat % 2 ^ 31 = 0x7F800000 := eq_iff_sign_magnitude

theorem negInf_iff {x : W32} : x = 0xFF800000 ↔ x.msb = true ∧ x.toNat % 2 ^ 31 = 0x7F800000 := eq_iff_sign_magnitude

theorem f32Le_iff {x y : W32} (hx : ¬ f32Nan x) (hy : ¬ f32Nan y) : f32Le x y ↔ signedCode x ≤ signedCode y := by
  unfold f32Nan at hx hy
  rw [f32Le, negInf_iff, posInf_iff, f32Q_le_iff]
  unfold f32Fin signedCode
  cases x.msb <;> cases y.msb <;>
    simp only [Bool.false_eq_true, Bool.true_eq_false, if_true, if_false, true_and, false_and, false_or] <;> omega

/-- The key orders as the values do, and puts -0 below +0. -/
theorem orderKey_le_iff (x y : W32) : orderKey x ≤ orderKey y ↔
    signedCode x < signedCode y ∨ (signedCode x = signedCode y ∧ (x.msb = true ∨ y.msb = false)) := by
  rw [orderKey_eq, orderKey_eq]
  unfold signedCode
  cases x.msb <;> cases y.msb <;> simp <;> omega

theorem numEq_iff {a b : W32} (ha : ¬ f32Nan a) (hb : ¬ f32Nan b) : numEq a b = true ↔ a = b ∨ (f32Zero a ∧ f32Zero b) := by
  have hna : isNanF32 a = false := Bool.eq_false_iff.2 (mt (isNanF32_iff a).1 ha)
  have hnb : isNanF32 b = false := Bool.eq_false_iff.2 (mt (isNanF32_iff b).1 hb)
  simp [numEq, hna, hnb, f32Zero]

/-- The key of a comparison: both zeros lie at 0. -/
theorem numLt_iff {a b : W32} (ha : ¬ f32Nan a) (hb : ¬ f32Nan b) : numLt a b = true ↔ signedCode a < signedCode b := by
  have hna : isNanF32 a = false := Bool.eq_false_iff.2 (mt (isNanF32_iff a).1 ha)
  have hnb : isNanF32 b = false := Bool.eq_false_iff.2 (mt (isNanF32_iff b).1 hb)
  have hkey : ∀ x : W32, (if x.toNat % 0x80000000 == 0 then (0 : Int) else orderKey x) =
      if x.toNat % 2 ^ 31 = 0 then 0 else signedCode x - if x.msb then 1 else 0 := by
    intro x
    rw [orderKey_eq, signedCode]
    simp only [beq_iff_eq]
    cases x.msb <;> simp
  simp only [numLt, hna, hnb, Bool.or_self, Bool.not_false, Bool.true_and, decide_eq_true_iff, hkey]
  unfold signedCode
  cases a.msb <;> cases b.msb <;> simp only [Bool.false_eq_true, if_true, if_false] <;> omega

theorem signedCode_eq_iff (a b : W32) : signedCode a = signedCode b ↔ a = b ∨ (f32Zero a ∧ f32Zero b) := by
  rw [eq_iff_sign_magnitude (x := a)]
  unfold signedCode f32Zero
  cases a.msb <;> cases b.msb <;> simp <;> omega

theorem posZero_iff {x : W32} : x = 0 ↔ x.msb = false ∧ f32Zero x := eq_iff_sign_magnitude

theorem not_isNanF32 {a b : W32} (ha : ¬ f32Nan a) (hb : ¬ f32Nan b) : ¬ (isNanF32 a || isNanF32 b) = true := by
  rw [Bool.or_eq_true, isNanF32_iff, isNanF32_iff]
  tauto

/-- The lesser and the greater of two codes that are no NaN, by the key. -/
theorem minF32_maxF32_cases {a b : W32} (ha : ¬ f32Nan a) (hb : ¬ f32Nan b) :
    (minF32 a b = a ∧ maxF32 a b = b ∧ orderKey a ≤ orderKey b) ∨ (minF32 a b = b ∧ maxF32 a b = a ∧ orderKey b ≤ orderKey a) := by
  unfold minF32 maxF32
  rw [if_neg (not_isNanF32 ha hb), if_neg (not_isNanF32 ha hb)]
  by_cases h : orderKey a ≤ orderKey b
  · rw [if_pos h, if_pos h]
    exact .inl ⟨rfl, rfl, h⟩
  · rw [if_neg h, if_neg h]
    exact .inr ⟨rfl, rfl, by omega⟩

theorem f32Le_of_key {x y : W32} (hx : ¬ f32Nan x) (hy : ¬ f32Nan y) (h : orderKey x ≤ orderKey y) : f32Le x y := by
  rw [orderKey_le_iff] at h
  rw [f32Le_iff hx hy]
  omega

theorem f32Le_refl {x : W32} (hx : ¬ f32Nan x) : f32Le x x := f32Le_of_key hx hx (le_refl _)

/-- Of two zeros, -0 has the lesser key. -/
theorem zero_of_key {x y : W32} (hx : f32Zero x) (hy : f32Zero y) (h : orderKey x ≤ orderKey y) :
    (x = 0 ↔ x = 0 ∧ y = 0) ∧ (y = 0 ↔ x = 0 ∨ y = 0) := by
  rw [orderKey_eq, orderKey_eq, show x.toNat % 2 ^ 31 = 0 from hx, show y.toNat % 2 ^ 31 = 0 from hy] at h
  have hsign : x.msb = false → y.msb = false := by
    intro hx'
    rw [hx'] at h
    by_contra hy'
    rw [Bool.not_eq_false] at hy'
    simp [hy'] at h
  rw [posZero_iff, posZero_iff]
  tauto

theorem f32CodesAreOrdered : F32CodesAreOrdered := by
  intro a b
  refine ⟨fun h => ?_, isNanF32_iff a, fun ha hb => ?_⟩
  · rw [← isNanF32_iff, ← isNanF32_iff, ← Bool.or_eq_true] at h
    simp [minF32, maxF32, numLt, numEq, h]
  · have hlt : numLt a b = true ↔ f32Le a b ∧ numEq a b = false := by
      rw [numLt_iff ha hb, f32Le_iff ha hb, ← Bool.not_eq_true, numEq_iff ha hb, ← signedCode_eq_iff]
      exact lt_iff_le_and_ne
    rcases minF32_maxF32_cases ha hb with ⟨hmin, hmax, hkey⟩ | ⟨hmin, hmax, hkey⟩
    · rw [hmin, hmax]
      exact ⟨.inl rfl, f32Le_refl ha, f32Le_of_key ha hb hkey, .inr rfl, f32Le_of_key ha hb hkey, f32Le_refl hb,
        fun hza hzb => zero_of_key hza hzb hkey, numEq_iff ha hb, hlt⟩
    · rw [hmin, hmax]
      refine ⟨.inr rfl, f32Le_of_key hb ha hkey, f32Le_refl hb, .inl rfl, f32Le_refl ha, f32Le_of_key hb ha hkey,
        fun hza hzb => ?_, numEq_iff ha hb, hlt⟩
      rw [and_comm (b := b = 0), or_comm]
      exact zero_of_key hzb hza hkey

end Sys2Proof.Machine
end

section
/-! PROOFS. Scaled elements of a row, cells and the steps and matches of checksums (R40, R44, R51, R57, R58, R62). -/

open Sys2Proof.Claims

namespace Sys2Proof.Machine

/-! ### Block scales -/

theorem ratOf_scale (neg : Bool) (mag : Nat) (exp k : Int) : ratOf neg mag (exp + k) = ratOf neg mag exp * (2 : Rat) ^ k := by
  rw [ratOf, ratOf, two_zpow_add, ← mul_assoc]

theorem isFinite_scale (neg : Bool) (mag : Nat) (exp k : Int) :
    isFinite (Num.scale k (.fin neg mag exp)) neg (ratOf false mag exp * (2 : Rat) ^ k) :=
  ⟨mag, exp + k, rfl, ratOf_scale false mag exp k⟩

/-- An entry of lists of one length joined together. -/
theorem getElem?_flatten_map {α : Type} (g : Nat → List α) (p : Nat) (hp : ∀ i, (g i).length = p) {j : Nat} (hj : j < p) :
    ∀ (n s k : Nat), k < n → ((List.range' s n).map g).flatten[k * p + j]? = (g (s + k))[j]?
  | n + 1, s, 0, _ => by
    rw [List.range'_succ, List.map_cons, List.flatten_cons, Nat.zero_mul, Nat.zero_add, List.getElem?_append_left (by rw [hp]; exact hj)]
    rfl
  | n + 1, s, k + 1, hk => by
    have hidx : (k + 1) * p + j = p + (k * p + j) := by ring
    rw [List.range'_succ, List.map_cons, List.flatten_cons, hidx, List.getElem?_append_right (by rw [hp]; omega), hp,
      Nat.add_sub_cancel_left, getElem?_flatten_map g p hp hj n (s + 1) k (by omega), Nat.add_right_comm]
    rfl

theorem packOf_cases : ∀ f : BitVec 4, packOf f = 1 ∨ packOf f = 2 ∨ packOf f = 4 ∨ packOf f = 8 := by decide

/-- A slot lies in one block of 32 elements. -/
theorem block_of_slot (f : BitVec 4) (k : Nat) {j : Nat} (hj : j < packOf f) : (k * packOf f + j) / 32 = k * packOf f / 32 := by
  have hp := packOf_cases f
  rcases hp with h | h | h | h <;> rw [h] at hj ⊢ <;> omega

/-- The values of slot k of a row. -/
def slotValues (f : BitVec 4) (sc : Bool) (row : BitVec 2048) (scales : List Byte) (k : Nat) : List Num :=
  let sh := slotShift f sc scales k
  if sh == zeroBlock then List.replicate (packOf f) (.fin false 0 0)
  else (slotElems f (lane row k)).map (Num.scale (shiftOf sh))

theorem length_slotValues (f : BitVec 4) (sc : Bool) (row : BitVec 2048) (scales : List Byte) (k : Nat) :
    (slotValues f sc row scales k).length = packOf f := by
  unfold slotValues
  dsimp only
  split
  · simp
  · simp [slotElems]

theorem rowValues_eq (f : BitVec 4) (sc : Bool) (row : BitVec 2048) (scales : List Byte) :
    rowValues f sc row scales = ((List.range' 0 64).map (slotValues f sc row scales)).flatten := by
  rw [rowValues, rowSlots, zipIdx_map_range, List.map_map, ← List.range_eq_range']
  rfl

theorem blockScalesApply : BlockScalesApply := by
  refine ⟨fun neg mag exp k => ⟨isFinite_scale neg mag exp k, rfl, rfl⟩, fun f sc row scales k j hk hj => ?_⟩
  rw [rowValues_eq, getElem?_flatten_map _ _ (length_slotValues f sc row scales) hj 64 0 k hk, Nat.zero_add]
  have hs : slotShift f sc scales k = if sc then scales.getD ((k * packOf f + j) / 32) 0 else 0 := by
    rw [block_of_slot f k hj, slotShift]
  rw [← hs, slotValues]
  dsimp only
  by_cases hz : slotShift f sc scales k = 0x80
  · rw [if_pos hz, if_pos (beq_iff_eq.2 hz : (_ == zeroBlock) = true), List.getElem?_replicate, if_pos hj]
  · rw [if_neg hz, if_neg (fun h : (_ == zeroBlock) = true => hz (beq_iff_eq.1 h)), slotElems, List.map_map, List.getElem?_map,
    List.getElem?_range hj]
    rfl

/-! ### Checksums -/

theorem addTo_gives {s : W32} (hs : f32Fin s) (neg : Bool) (mag : Nat) (exp : Int) :
    givesF32 (f32Q s + ratOf neg mag exp) (if s = 0x80000000 ∧ neg = true ∧ mag = 0 then 0x80000000 else 0)
      (roundRes (Num.add (decodeF32 s) (.fin neg mag exp))) := by
  obtain ⟨ms, es, hds, hvs, hzs⟩ := decodeF32_value hs
  obtain ⟨neg', mag', exp', heq, hv, hneg⟩ := numAdd_fin s.msb neg ms mag es exp
  rw [hds, heq, roundRes_fin]
  refine givesF32_roundFin (by rw [hv, hvs]) (fun hm => ite_negZero ?_)
  rw [hneg hm, negZero_iff, ← hzs]
  simp only [Bool.and_eq_true, beq_iff_eq]
  tauto

theorem addTo_nan {s : W32} {x : Num} (h : f32Nan s ∨ x = .nan) : addTo s x = 0x7FC00000 := by
  have hsum : Num.add (decodeF32 s) x = { val := .nan, flags := 0 } := by
    rcases h with h | h
    · rw [decodeF32_nan h, numAdd_nan_left]
    · rw [h, numAdd_nan_right]
  rw [addTo, hsum, roundRes_nan]

/-- Magnitudes compare by their multiples of the lesser place. -/
theorem magQ_le_iff (a b : Nat) (ea eb : Int) :
    magQ a ea ≤ magQ b eb ↔ a * pow2 (ea - min ea eb) ≤ b * pow2 (eb - min ea eb) := by
  rw [← magQ_le_magQ (e := min ea eb), magQ_pow2 _ _ (by omega), magQ_pow2 _ _ (by omega), add_sub_cancel, add_sub_cancel]

/-- Two finite values lie within a finite tolerance. -/
theorem numWithin_iff (na nb tn : Bool) (ma mb tm : Nat) (ea eb te : Int) :
    numWithin (.fin na ma ea) (.fin nb mb eb) (.fin tn tm te) = true ↔ |ratOf na ma ea - ratOf nb mb eb| ≤ ratOf tn tm te := by
  obtain ⟨neg, mag, exp, heq, hv, -⟩ := numAdd_fin na (!nb) ma mb ea eb
  have hdiff : ratOf na ma ea - ratOf nb mb eb = ratOf neg mag exp := by
    rw [hv, ratOf_eq (!nb), ratOf_eq nb]
    cases nb <;> simp [sub_eq_add_neg]
  have hnum : numWithin (.fin na ma ea) (.fin nb mb eb) (.fin tn tm te) =
      (!(tn && tm != 0) && decide (mag * pow2 (exp - min exp te) ≤ tm * pow2 (te - min exp te))) := by
    unfold numWithin
    simp only [Num.negate, heq]
  rw [hnum, hdiff, abs_ratOf, Bool.and_eq_true, decide_eq_true_iff, ← magQ_le_iff, ratOf_eq tn]
  have hmag := magQ_nonneg mag exp
  have htol := magQ_nonneg tm te
  by_cases hneg : tn = true ∧ tm ≠ 0
  · have hpos := magQ_pos (exp := te) (Nat.pos_of_ne_zero hneg.2)
    rw [if_pos hneg.1]
    simp only [hneg.1, Bool.true_and, Bool.not_eq_true', bne_eq_false_iff_eq, hneg.2, false_and, false_iff]
    linarith
  · have hval : (if tn = true then -magQ tm te else magQ tm te) = magQ tm te := by
      split
      · rename_i h
        have hz : magQ tm te = 0 := magQ_eq_zero.2 (by tauto)
        rw [hz, neg_zero]
      · rfl
    rw [hval, and_iff_right]
    simp only [Bool.not_eq_true', Bool.and_eq_false_iff, bne_eq_false_iff_eq]
    cases tn <;> simp_all

theorem finiteF32_iff (x : W32) : finiteF32 x = true ↔ f32Fin x := by
  unfold finiteF32
  rw [decide_eq_true_iff]
  exact Iff.rfl

theorem numWithin_tolerance {s x m : W32} (hs : f32Fin s) (hx : f32Fin x) (hm : f32Fin m) :
    numWithin (decodeF32 x) (decodeF32 s) (tolerance 4 m) = true ↔ |f32Q x - f32Q s| ≤ 4 / 2 ^ 22 * f32Q m := by
  obtain ⟨ms, es, hds, hvs, -⟩ := decodeF32_value hs
  obtain ⟨mx, ex, hdx, hvx, -⟩ := decodeF32_value hx
  obtain ⟨mm, em, hdm, hvm, -⟩ := decodeF32_value hm
  have htol : tolerance 4 m = .fin (false != m.msb) (4 * mm) (-22 + em) := by rw [tolerance, hdm, numMul_fin]
  have hfour : ratOf false 4 (-22) = 4 / 2 ^ 22 := by
    rw [ratOf_false, magQ]
    norm_num
  rw [hds, hdx, htol, numWithin_iff, ratOf_mul, hvs, hvx, hvm, hfour]

theorem checksumsRoundEachStep : ChecksumsRoundEachStep := by
  refine ⟨fun s neg mag exp hs => ⟨_, addTo_gives hs neg mag exp⟩, fun s x h => addTo_nan h,
    fun fmt s x m => ⟨fun h => ?_, fun hi hne => ?_, fun hi hne hm => ?_⟩⟩
  · simp [sumMatches, h]
  · simp [sumMatches, hi, hne]
  · have hbeq : (s == x) = false := beq_false_of_ne hne
    rw [sumMatches, hbeq, hi]
    simp only [Bool.false_or, Bool.not_false, Bool.true_and, Bool.and_eq_true, finiteF32_iff, and_assoc]
    exact ⟨fun ⟨hs, hx, h⟩ => ⟨hs, hx, (numWithin_tolerance hs hx hm).1 h⟩, fun ⟨hs, hx, h⟩ => ⟨hs, hx, (numWithin_tolerance hs hx hm).2 h⟩⟩

/-! ### The products of a cell -/

/-- A pair of values with no product: an infinity and a zero. -/
def pairClash (p : Num × Num) : Prop := (numInf p.1 ∧ numZero p.2) ∨ (numZero p.1 ∧ numInf p.2)

/-- A pair of values whose product is an infinity of a sign. -/
def pairInf (p : Num × Num) (neg : Bool) : Prop := p.1 ≠ .nan ∧ p.2 ≠ .nan ∧ ¬ numZero p.1 ∧ ¬ numZero p.2 ∧
  (numInf p.1 ∨ numInf p.2) ∧ (numNeg p.1 != numNeg p.2) = neg

@[simp] theorem numInf_nan : ¬ numInf .nan := by simp [numInf]
@[simp] theorem numInf_inf (neg : Bool) : numInf (.inf neg) := ⟨neg, rfl⟩
@[simp] theorem numInf_fin (neg : Bool) (mag : Nat) (exp : Int) : ¬ numInf (.fin neg mag exp) := by simp [numInf]
@[simp] theorem numZero_nan : ¬ numZero .nan := by simp [numZero]
@[simp] theorem numZero_inf (neg : Bool) : ¬ numZero (.inf neg) := by simp [numZero]
@[simp] theorem numZero_fin (neg : Bool) (mag : Nat) (exp : Int) : numZero (.fin neg mag exp) ↔ mag = 0 := by simp [numZero]

/-- What a product is: NaN, an infinity, or the exact product of two finite values. -/
theorem numMul_cases (x y : Num) :
    (pairClash (x, y) ∧ Num.mul x y = { val := .nan, flags := flagNV }) ∨
    (¬ pairClash (x, y) ∧ (x = .nan ∨ y = .nan) ∧ Num.mul x y = { val := .nan, flags := 0 }) ∨
    (¬ pairClash (x, y) ∧ pairInf (x, y) (numNeg x != numNeg y) ∧ Num.mul x y = { val := .inf (numNeg x != numNeg y), flags := 0 }) ∨
    (¬ pairClash (x, y) ∧ ¬ (x = .nan ∨ y = .nan) ∧ (∀ neg, ¬ pairInf (x, y) neg) ∧
      ∃ mag exp, Num.mul x y = { val := .fin (numNeg x != numNeg y) mag exp, flags := 0 } ∧
        ratOf (numNeg x != numNeg y) mag exp = numQ x * numQ y ∧ (mag = 0 ↔ numZero x ∨ numZero y)) := by
  unfold pairClash pairInf
  cases x with
  | nan => exact .inr (.inl ⟨by simp, .inl rfl, numMul_nan_left y⟩)
  | inf a =>
    cases y with
    | nan => exact .inr (.inl ⟨by simp, .inr rfl, rfl⟩)
    | inf b => exact .inr (.inr (.inl ⟨by simp, by simp, rfl⟩))
    | fin b m e =>
      rcases Nat.eq_zero_or_pos m with rfl | hm
      · exact .inl ⟨by simp, rfl⟩
      · exact .inr (.inr (.inl ⟨by simp [hm.ne'], by simp [hm.ne'], by simp [Num.mul, hm.ne', numNeg]⟩))
  | fin a m e =>
    cases y with
    | nan => exact .inr (.inl ⟨by simp, .inr rfl, rfl⟩)
    | inf b =>
      rcases Nat.eq_zero_or_pos m with rfl | hm
      · exact .inl ⟨by simp, rfl⟩
      · exact .inr (.inr (.inl ⟨by simp [hm.ne'], by simp [hm.ne'], by simp [Num.mul, hm.ne', numNeg]⟩))
    | fin b m' e' =>
      exact .inr (.inr (.inr ⟨by simp, by simp, by simp, m * m', e + e', rfl, ratOf_mul a b m m' e e', by simp⟩))

/-! ### Exact sums of several values -/

/-- A value that is -0. -/
def isNegZero : Num → Bool
  | .fin neg mag _ => neg && mag == 0
  | _ => false

/-- Values added from the left, without flags. -/
def sumFrom (s : Num) (vs : List Num) : Num := vs.foldl (fun s y => (Num.add s y).val) s

theorem sumFrom_nan : ∀ (vs : List Num) (s : Num), Num.nan ∈ s :: vs → sumFrom s vs = .nan
  | [], s, h => by simpa [sumFrom, eq_comm] using h
  | v :: vs, s, h => by
    refine sumFrom_nan vs (Num.add s v).val ?_
    rcases List.mem_cons.1 h with h | h
    · rw [← h, numAdd_nan_left]
      exact List.mem_cons_self
    · rcases List.mem_cons.1 h with h | h
      · rw [← h, numAdd_nan_right]
        exact List.mem_cons_self
      · exact List.mem_cons_of_mem _ h

theorem sumFrom_inf (neg : Bool) : ∀ (vs : List Num) (s : Num), (∀ v ∈ s :: vs, v ≠ .nan ∧ v ≠ .inf (!neg)) → .inf neg ∈ s :: vs →
    sumFrom s vs = .inf neg
  | [], s, _, h => by simpa [sumFrom, eq_comm] using h
  | v :: vs, s, hall, h => by
    have hs := hall s (by simp)
    have hv := hall v (by simp)
    have hsum : (Num.add s v).val ≠ .nan ∧ (Num.add s v).val ≠ .inf (!neg) ∧
        (s = .inf neg ∨ v = .inf neg → (Num.add s v).val = .inf neg) := by
      cases s <;> cases v <;> simp_all [Num.add]
    refine sumFrom_inf neg vs (Num.add s v).val (fun w hw => ?_) ?_
    · rcases List.mem_cons.1 hw with rfl | hw
      · exact ⟨hsum.1, hsum.2.1⟩
      · exact hall w (by simp [hw])
    · simp only [List.mem_cons] at h ⊢
      rcases h with h | h | h
      · exact .inl (hsum.2.2 (.inl h.symm)).symm
      · exact .inl (hsum.2.2 (.inr h.symm)).symm
      · exact .inr h

/-- A sum is -0 when both of its values are. -/
theorem isNegZero_add {na nb neg : Bool} {ma mb mag : Nat} {ea eb exp : Int} (hv : ratOf neg mag exp = ratOf na ma ea + ratOf nb mb eb)
    (hneg : mag = 0 → neg = (na && nb && ma == 0 && mb == 0)) :
    isNegZero (.fin neg mag exp) = (isNegZero (.fin na ma ea) && isNegZero (.fin nb mb eb)) := by
  unfold isNegZero
  rw [Bool.eq_iff_iff]
  simp only [Bool.and_eq_true, beq_iff_eq] at hneg ⊢
  constructor
  · rintro ⟨rfl, hm⟩
    have := (hneg hm).symm
    simp only [Bool.and_eq_true, beq_iff_eq] at this
    tauto
  · rintro ⟨⟨rfl, rfl⟩, rfl, rfl⟩
    have hz : mag = 0 := by
      rw [← ratOf_eq_zero (neg := neg) (exp := exp), hv, ratOf_eq_zero.2 rfl, ratOf_eq_zero.2 rfl, add_zero]
    exact ⟨by simpa using hneg hz, hz⟩

theorem sumFrom_fin : ∀ (vs : List Num) (s : Num), (∀ v ∈ s :: vs, v ≠ .nan ∧ ¬ numInf v) →
    ∃ neg mag exp, sumFrom s vs = .fin neg mag exp ∧ ratOf neg mag exp = ((s :: vs).map numQ).sum ∧
      (mag = 0 → neg = (s :: vs).all isNegZero)
  | [], s, hall => by
    obtain ⟨hnan, hinf⟩ := hall s (by simp)
    cases s with
    | nan => exact absurd rfl hnan
    | inf neg => exact absurd (numInf_inf neg) hinf
    | fin neg mag exp => exact ⟨neg, mag, exp, rfl, by simp [numQ], fun h => by simp [isNegZero, h]⟩
  | v :: vs, s, hall => by
    obtain ⟨hsnan, hsinf⟩ := hall s (by simp)
    obtain ⟨hvnan, hvinf⟩ := hall v (by simp)
    cases s with
    | nan => exact absurd rfl hsnan
    | inf neg => exact absurd (numInf_inf neg) hsinf
    | fin na ma ea =>
      cases v with
      | nan => exact absurd rfl hvnan
      | inf neg => exact absurd (numInf_inf neg) hvinf
      | fin nb mb eb =>
        obtain ⟨neg, mag, exp, heq, hv, hneg⟩ := numAdd_fin na nb ma mb ea eb
        obtain ⟨neg', mag', exp', heq', hv', hneg'⟩ := sumFrom_fin vs (.fin neg mag exp) (fun w hw => by
          rcases List.mem_cons.1 hw with rfl | hw
          · simp
          · exact hall w (by simp [hw]))
        refine ⟨neg', mag', exp', ?_, ?_, fun hm => ?_⟩
        · rw [← heq', sumFrom, List.foldl_cons, heq]
          rfl
        · rw [hv']
          simp only [List.map_cons, List.sum_cons, numQ, hv, add_assoc]
        · rw [hneg' hm, List.all_cons, List.all_cons, List.all_cons, ← Bool.and_assoc, isNegZero_add hv hneg]

/-! ### Cells -/

theorem numMul_nan_iff (p : Num × Num) : (Num.mul p.1 p.2).val = .nan ↔ pairClash p ∨ p.1 = .nan ∨ p.2 = .nan := by
  rcases numMul_cases p.1 p.2 with ⟨hc, h⟩ | ⟨hc, hn, h⟩ | ⟨hc, ⟨hn1, hn2, -⟩, h⟩ | ⟨hc, hn, -, _, _, h, -⟩ <;> rw [h] <;> simp_all

theorem not_pairInf_of_pairClash {p : Num × Num} (h : pairClash p) (neg : Bool) : ¬ pairInf p neg := by
  rintro ⟨-, -, h1, h2, -⟩
  rcases h with h | h
  · exact h2 h.2
  · exact h1 h.1

theorem numMul_inf_iff (p : Num × Num) (neg : Bool) : (Num.mul p.1 p.2).val = .inf neg ↔ pairInf p neg := by
  rcases numMul_cases p.1 p.2 with ⟨hc, h⟩ | ⟨hc, hn, h⟩ | ⟨hc, hi, h⟩ | ⟨hc, hn, hi, _, _, h, -⟩
  · simp [h, not_pairInf_of_pairClash hc]
  · rw [h]
    simp only [reduceCtorEq, false_iff]
    exact fun hp => hn.elim hp.1 hp.2.1
  · rw [h]
    simp only [Num.inf.injEq]
    constructor
    · rintro rfl
      exact hi
    · intro hp
      exact hp.2.2.2.2.2
  · simp [h, hi]

theorem numMul_flags (p : Num × Num) :
    (pairClash p → (Num.mul p.1 p.2).flags = flagNV) ∧ (¬ pairClash p → (Num.mul p.1 p.2).flags = 0) := by
  rcases numMul_cases p.1 p.2 with ⟨hc, h⟩ | ⟨hc, -, h⟩ | ⟨hc, -, h⟩ | ⟨hc, -, -, _, _, h, -⟩ <;> rw [h] <;> simp_all

theorem foldl_flags_none (qs : List (Res Num)) (h : ∀ q ∈ qs, q.flags = 0) (f : Flags) : qs.foldl (fun f q => f ||| q.flags) f = f := by
  induction qs generalizing f with
  | nil => rfl
  | cons q qs ih =>
    rw [List.foldl_cons, h q (by simp), show f ||| 0 = f from BitVec.or_zero]
    exact ih (fun q hq => h q (by simp [hq])) f

theorem foldl_flags_invalid (qs : List (Res Num)) (h : ∀ q ∈ qs, q.flags = 0 ∨ q.flags = flagNV) {f : Flags}
    (hf : f = flagNV ∨ (f = 0 ∧ ∃ q ∈ qs, q.flags = flagNV)) : qs.foldl (fun f q => f ||| q.flags) f = flagNV := by
  induction qs generalizing f with
  | nil => simpa using hf
  | cons q qs ih =>
    refine ih (fun q hq => h q (by simp [hq])) ?_
    have hq := h q (by simp)
    dsimp only
    rcases hf with rfl | ⟨rfl, q', hq', hnv⟩
    · rcases hq with hq | hq <;> rw [hq] <;> exact .inl rfl
    · rcases hq with hq | hq
      · rw [hq]
        refine .inr ⟨rfl, q', (List.mem_cons.1 hq').resolve_left ?_, hnv⟩
        rintro rfl
        rw [hq] at hnv
        exact absurd hnv (by decide)
      · rw [hq]
        exact .inl rfl

/-- The exact sum of the products of pairs of values. -/
def dotPairs (ps : List (Num × Num)) : Res Num :=
  let qs := ps.map (fun p => Num.mul p.1 p.2)
  { val := (sumExact (qs.map (·.val))).val, flags := qs.foldl (fun f q => f ||| q.flags) (sumExact (qs.map (·.val))).flags }

theorem cellF_eq_dotPairs {xs ys : List Num} {sa sw : Byte} (ha : sa ≠ 0x80) (hw : sw ≠ 0x80) :
    cellF (xs, sa) (ys, sw) =
      let s := dotPairs (xs.zip ys)
      roundRes { val := Num.scale (sa.toInt + sw.toInt) s.val, flags := s.flags } := by
  have hz : ¬ (sa == zeroBlock || sw == zeroBlock) = true := by
    rw [Bool.or_eq_true, beq_iff_eq, beq_iff_eq]
    exact not_or.2 ⟨ha, hw⟩
  have hqs : List.zipWith Num.mul xs ys = (xs.zip ys).map (fun p => Num.mul p.1 p.2) := by
    rw [List.zip_eq_zipWith, List.map_zipWith]
  unfold cellF
  dsimp only
  rw [if_neg hz, dotExact, hqs]
  rfl

section
variable {ps : List (Num × Num)}

theorem mem_products {v : Num} : v ∈ (ps.map (fun p => Num.mul p.1 p.2)).map (·.val) ↔ ∃ p ∈ ps, (Num.mul p.1 p.2).val = v := by
  simp

/-- The exact sum unless infinities of both signs stand in it. -/
theorem sumExact_cons (v : Num) (vs : List Num) : sumExact (v :: vs) =
    if .inf false ∈ v :: vs ∧ .inf true ∈ v :: vs then { val := .nan, flags := flagNV } else { val := sumFrom v vs, flags := 0 } := by
  unfold sumExact sumFrom
  simp only [Bool.and_eq_true, List.contains_iff_mem]

theorem product_flags (p : Num × Num) : (Num.mul p.1 p.2).flags = 0 ∨ (Num.mul p.1 p.2).flags = flagNV := by
  by_cases h : pairClash p
  · exact .inr ((numMul_flags p).1 h)
  · exact .inl ((numMul_flags p).2 h)

/-- The flags of a sum of products: NV beside a product that has no value or infinities of both signs. -/
theorem dotPairs_flags (hne : ps ≠ []) :
    ((∃ p ∈ ps, pairClash p) ∨ ((∃ p ∈ ps, pairInf p true) ∧ ∃ p ∈ ps, pairInf p false) → (dotPairs ps).flags = flagNV) ∧
    (¬ (∃ p ∈ ps, pairClash p) → ¬ ((∃ p ∈ ps, pairInf p true) ∧ ∃ p ∈ ps, pairInf p false) → (dotPairs ps).flags = 0) := by
  have hinf : ∀ neg, (∃ p ∈ ps, pairInf p neg) ↔ .inf neg ∈ (ps.map (fun p => Num.mul p.1 p.2)).map (·.val) := by
    intro neg
    simp only [mem_products, numMul_inf_iff]
  obtain ⟨v, vs, hvs⟩ := List.exists_cons_of_ne_nil (l := (ps.map (fun p => Num.mul p.1 p.2)).map (·.val)) (by simpa using hne)
  rw [hinf, hinf, hvs]
  unfold dotPairs
  dsimp only
  rw [hvs, sumExact_cons]
  refine ⟨fun h => foldl_flags_invalid _ ?_ ?_, fun hc hi => ?_⟩
  · simp only [List.mem_map, forall_exists_index, and_imp, forall_apply_eq_imp_iff₂]
    exact fun p _ => product_flags p
  · by_cases hi : .inf false ∈ v :: vs ∧ .inf true ∈ v :: vs
    · rw [if_pos hi]
      exact .inl rfl
    · rw [if_neg hi]
      obtain ⟨p, hp, hc⟩ := h.resolve_right (fun hb => hi hb.symm)
      exact .inr ⟨rfl, _, List.mem_map_of_mem hp, (numMul_flags p).1 hc⟩
  · rw [if_neg (fun hb => hi hb.symm), foldl_flags_none]
    simp only [List.mem_map, forall_exists_index, and_imp, forall_apply_eq_imp_iff₂]
    exact fun p hp => (numMul_flags p).2 (fun h => hc ⟨p, hp, h⟩)

theorem dotPairs_val_eq (hne : ps ≠ []) : ∃ v vs, (ps.map (fun p => Num.mul p.1 p.2)).map (·.val) = v :: vs ∧
    (dotPairs ps).val = if .inf false ∈ v :: vs ∧ .inf true ∈ v :: vs then .nan else sumFrom v vs := by
  obtain ⟨v, vs, hvs⟩ := List.exists_cons_of_ne_nil (l := (ps.map (fun p => Num.mul p.1 p.2)).map (·.val)) (by simpa using hne)
  refine ⟨v, vs, hvs, ?_⟩
  unfold dotPairs
  dsimp only
  rw [hvs, sumExact_cons]
  split <;> rfl

theorem dotPairs_nan (hne : ps ≠ []) (h : (∃ p ∈ ps, pairClash p ∨ p.1 = .nan ∨ p.2 = .nan) ∨
    ((∃ p ∈ ps, pairInf p true) ∧ ∃ p ∈ ps, pairInf p false)) : (dotPairs ps).val = .nan := by
  obtain ⟨v, vs, hvs, hval⟩ := dotPairs_val_eq hne
  simp only [← numMul_nan_iff, ← numMul_inf_iff, ← mem_products, hvs] at h
  rw [hval]
  by_cases hi : .inf false ∈ v :: vs ∧ .inf true ∈ v :: vs
  · rw [if_pos hi]
  · rw [if_neg hi, sumFrom_nan _ _ (h.resolve_right (fun hb => hi hb.symm))]

theorem dotPairs_inf (hne : ps ≠ []) (hn : ¬ ∃ p ∈ ps, pairClash p ∨ p.1 = .nan ∨ p.2 = .nan) {neg : Bool} (hi : ∃ p ∈ ps, pairInf p neg)
    (hi' : ¬ ∃ p ∈ ps, pairInf p (!neg)) : (dotPairs ps).val = .inf neg := by
  obtain ⟨v, vs, hvs, hval⟩ := dotPairs_val_eq hne
  simp only [← numMul_nan_iff, ← numMul_inf_iff, ← mem_products, hvs] at hn hi hi'
  rw [hval, if_neg (by cases neg <;> simp_all)]
  refine sumFrom_inf neg vs v (fun w hw => ⟨?_, ?_⟩) hi
  · rintro rfl
    exact hn hw
  · rintro rfl
    exact hi' hw

/-- The product of two values that give neither NaN nor an infinity. -/
theorem numMul_of_finite {p : Num × Num} (hn : ¬ (pairClash p ∨ p.1 = .nan ∨ p.2 = .nan)) (hi : ∀ neg, ¬ pairInf p neg) :
    ∃ mag exp, (Num.mul p.1 p.2).val = .fin (numNeg p.1 != numNeg p.2) mag exp ∧
      ratOf (numNeg p.1 != numNeg p.2) mag exp = numQ p.1 * numQ p.2 ∧ (mag = 0 ↔ numZero p.1 ∨ numZero p.2) := by
  rcases numMul_cases p.1 p.2 with ⟨hc, -⟩ | ⟨-, hx, -⟩ | ⟨-, hx, -⟩ | ⟨-, -, -, mag, exp, h, hrest⟩
  · exact absurd (.inl hc) hn
  · exact absurd (.inr hx) hn
  · exact absurd hx (hi _)
  · exact ⟨mag, exp, by rw [h], hrest⟩

/-- The exact sum of finite products. -/
theorem dotPairs_fin (hne : ps ≠ []) (hn : ¬ ∃ p ∈ ps, pairClash p ∨ p.1 = .nan ∨ p.2 = .nan) (hi : ∀ neg, ¬ ∃ p ∈ ps, pairInf p neg) :
    ∃ neg mag exp, (dotPairs ps).val = .fin neg mag exp ∧ ratOf neg mag exp = (ps.map (fun p => numQ p.1 * numQ p.2)).sum ∧
      (mag = 0 → (neg = true ↔ ∀ p ∈ ps, (numNeg p.1 != numNeg p.2) = true ∧ (numZero p.1 ∨ numZero p.2))) := by
  have hfin : ∀ p ∈ ps, _ := fun p hp => numMul_of_finite (fun h => hn ⟨p, hp, h⟩) (fun neg h => hi neg ⟨p, hp, h⟩)
  obtain ⟨v, vs, hvs, hval⟩ := dotPairs_val_eq hne
  have hmem : ∀ w ∈ v :: vs, w ≠ .nan ∧ ¬ numInf w := by
    intro w hw
    obtain ⟨p, hp, rfl⟩ := mem_products.1 (hvs ▸ hw)
    obtain ⟨mag, exp, h, -⟩ := hfin p hp
    simp [h]
  have hboth : ¬ (Num.inf false ∈ v :: vs ∧ Num.inf true ∈ v :: vs) := fun h => (hmem _ h.1).2 (numInf_inf false)
  obtain ⟨neg, mag, exp, heq, hv, hneg⟩ := sumFrom_fin vs v hmem
  refine ⟨neg, mag, exp, by rw [hval, if_neg hboth, heq], ?_, fun hm => ?_⟩
  · rw [hv, ← hvs, List.map_map, List.map_map]
    refine congrArg List.sum (List.map_congr_left (fun p hp => ?_))
    obtain ⟨mag, exp, h, hq, -⟩ := hfin p hp
    simp only [Function.comp_apply, h, numQ, hq]
  · rw [hneg hm, ← hvs, List.all_map, List.all_map, List.all_eq_true]
    refine forall₂_congr (fun p hp => ?_)
    obtain ⟨mag, exp, h, -, hz⟩ := hfin p hp
    simp [h, isNegZero, hz]

end

/-- A value that scales and rounds to a code whatever its shift. -/
theorem roundRes_scale_nan (k : Int) (g : Flags) : roundRes { val := Num.scale k .nan, flags := g } = { val := 0x7FC00000, flags := g } :=
  roundRes_nan g

theorem roundRes_scale_inf (k : Int) (neg : Bool) :
    roundRes { val := Num.scale k (.inf neg), flags := 0 } = { val := if neg then 0xFF800000 else 0x7F800000, flags := 0 } := by
  rw [withSign_inf]
  exact roundRes_inf neg

theorem cellF_zeroBlock {xs ys : List Num} {sa sw : Byte} (h : sa = 0x80 ∨ sw = 0x80) :
    cellF (xs, sa) (ys, sw) = { val := 0, flags := 0 } := by
  have hz : (sa == zeroBlock || sw == zeroBlock) = true := by
    rw [Bool.or_eq_true, beq_iff_eq, beq_iff_eq]
    exact h
  unfold cellF
  dsimp only
  rw [if_pos hz]

/-- The clauses of a cell whose blocks are not zero, over the pairs of its values. -/
theorem dotPairs_rounds {ps : List (Num × Num)} (hne : ps ≠ []) (k : Int) :
    let q := roundRes { val := Num.scale k (dotPairs ps).val, flags := (dotPairs ps).flags }
    let clash := ∃ p ∈ ps, pairClash p
    let nan := clash ∨ ∃ p ∈ ps, p.1 = .nan ∨ p.2 = .nan
    let toInf := fun neg => ∃ p ∈ ps, pairInf p neg
    let sum := (ps.map (fun p => numQ p.1 * numQ p.2)).sum * (2 : Rat) ^ k
    (nan ∨ (toInf true ∧ toInf false) → q.val = 0x7FC00000) ∧
    (clash ∨ (toInf true ∧ toInf false) → q.flags = flagNV) ∧
    (nan → ¬ clash → ¬ (toInf true ∧ toInf false) → q.flags = 0) ∧
    (∀ neg, ¬ nan → toInf neg → ¬ toInf (!neg) → q = { val := if neg then 0xFF800000 else 0x7F800000, flags := 0 }) ∧
    (¬ nan → ¬ toInf true → ¬ toInf false →
      ∃ neg, givesF32 sum (withSign binF32 neg 0) q ∧
        (sum = 0 → (neg = true ↔ ∀ p ∈ ps, (numNeg p.1 != numNeg p.2) = true ∧ (numZero p.1 ∨ numZero p.2)))) := by
  intro q clash nan toInf sum
  obtain ⟨hinvalid, hvalid⟩ := dotPairs_flags hne
  have hnan : nan ↔ ∃ p ∈ ps, pairClash p ∨ p.1 = .nan ∨ p.2 = .nan := by
    simp only [nan, clash, ← exists_or, ← and_or_left]
  have hqnan : nan ∨ (toInf true ∧ toInf false) → q = { val := 0x7FC00000, flags := (dotPairs ps).flags } := by
    intro h
    simp only [q, dotPairs_nan hne (h.imp_left hnan.1), roundRes_scale_nan]
  refine ⟨fun h => ?_, fun h => ?_, fun hn hc hb => ?_, fun neg hn hi hi' => ?_, fun hn ht hf => ?_⟩
  · rw [hqnan h]
  · rw [hqnan (h.imp_left .inl), hinvalid h]
  · rw [hqnan (.inl hn), hvalid hc hb]
  · have hb : ¬ (toInf true ∧ toInf false) := by
      cases neg
      · exact fun h => hi' h.1
      · exact fun h => hi' h.2
    simp only [q, dotPairs_inf hne (fun h => hn (hnan.2 h)) hi hi', hvalid (fun h => hn (.inl h)) hb, roundRes_scale_inf]
  · obtain ⟨neg, mag, exp, hval, hv, hneg⟩ := dotPairs_fin hne (fun h => hn (hnan.2 h)) (fun neg => by cases neg <;> assumption)
    have hsum : ratOf neg mag (exp + k) = sum := by rw [ratOf_scale, hv]
    simp only [q, hval, hvalid (fun h => hn (.inl h)) (fun h => ht h.1), Num.scale, roundRes_fin]
    exact ⟨neg, givesF32_roundFin hsum (fun _ => rfl), fun hs => hneg (ratOf_eq_zero.1 (hsum.trans hs))⟩

theorem cellsRoundOnce : CellsRoundOnce := by
  intro xs ys sa sw hlen hxs
  have hne : xs.zip ys ≠ [] := by
    rw [Ne, ← List.length_eq_zero_iff, List.length_zip, ← hlen, Nat.min_self, List.length_eq_zero_iff]
    exact hxs
  refine ⟨cellF_zeroBlock, fun ha hw => ?_⟩
  obtain ⟨hnan, hinvalid, hvalid, hinf, hfin⟩ := dotPairs_rounds hne (sa.toInt + sw.toInt)
  rw [← cellF_eq_dotPairs ha hw] at hnan hinvalid hvalid hinf hfin
  refine ⟨hnan, hinvalid, hvalid, hinf, fun hn ht hf => ?_⟩
  obtain ⟨neg, ⟨hround, hzero⟩, hneg⟩ := hfin hn ht hf
  refine ⟨hround, fun hs => ⟨fun hz => ?_, fun hz => ?_⟩⟩
  · rw [hzero hs, ← ite_negZero ((hneg hs).trans ⟨fun h => List.all_eq_true.2 (fun p hp => (h p hp).1),
      fun h p hp => ⟨List.all_eq_true.1 h p hp, hz p hp⟩⟩)]
  · have hpos : neg = false := by
      rw [← Bool.not_eq_true, hneg hs]
      exact fun h => hz (fun p hp => (h p hp).2)
    rw [hzero hs, hpos]
    rfl

end Sys2Proof.Machine
end

section
/-! PROOFS. Words of the ht formats: the value of a bit string, its order, and the rounding by strings (R37, R38, R39). -/

open Sys2Proof.Claims

namespace Sys2Proof.Machine

/-! ### Bit strings -/

theorem length_bitsDown (w : Nat) : ∀ n, (bitsDown w n).length = n
  | 0 => rfl
  | n + 1 => by simp [bitsDown, length_bitsDown w n]

theorem foldl_bits (bs : List Bool) (a : Nat) : bs.foldl (fun a b => 2 * a + b.toNat) a = a * 2 ^ bs.length + natOfBits bs := by
  induction bs generalizing a with
  | nil => simp [natOfBits]
  | cons b bs ih =>
    rw [natOfBits, List.foldl_cons, List.foldl_cons, ih, ih, List.length_cons]
    ring

@[simp] theorem natOfBits_nil : natOfBits [] = 0 := rfl

theorem natOfBits_cons (b : Bool) (bs : List Bool) : natOfBits (b :: bs) = b.toNat * 2 ^ bs.length + natOfBits bs := by
  change bs.foldl _ (2 * 0 + b.toNat) = _
  rw [foldl_bits, Nat.mul_zero, Nat.zero_add]

theorem natOfBits_lt : ∀ bs : List Bool, natOfBits bs < 2 ^ bs.length
  | [] => by simp
  | b :: bs => by
    have := natOfBits_lt bs
    rw [natOfBits_cons, List.length_cons, pow_succ]
    cases b <;> simp <;> omega

/-- A word's bits are those of its high part and those of its low part. -/
theorem bitsDown_append (a : Nat) {b m : Nat} (hb : b < 2 ^ m) : ∀ l, bitsDown (a * 2 ^ m + b) (l + m) = bitsDown a l ++ bitsDown b m
  | 0 => by
    rw [Nat.zero_add]
    have hlow : ∀ j, j ≤ m → bitsDown (a * 2 ^ m + b) j = bitsDown b j := by
      intro j
      induction j with
      | zero => exact fun _ => rfl
      | succ j ih =>
        intro hj
        rw [bitsDown, bitsDown, ih (by omega), Nat.mul_comm, Nat.testBit_two_pow_mul_add _ hb, if_pos (by omega)]
    exact hlow m (le_refl m)
  | l + 1 => by
    rw [Nat.add_right_comm, bitsDown, bitsDown_append a hb l, Nat.mul_comm, Nat.testBit_two_pow_mul_add _ hb, if_neg (by omega),
      Nat.add_sub_cancel]
    rfl

theorem natOfBits_bitsDown : ∀ (m : Nat) {w : Nat}, w < 2 ^ m → natOfBits (bitsDown w m) = w
  | 0, w, h => by
    have : w = 0 := by simpa using h
    rw [this]
    rfl
  | m + 1, w, h => by
    have hlow : bitsDown w m = bitsDown (w % 2 ^ m) m := by
      have := bitsDown_append (w / 2 ^ m) (Nat.mod_lt w (Nat.two_pow_pos m)) 0
      rwa [Nat.zero_add, Nat.div_add_mod'] at this
    rw [bitsDown, natOfBits_cons, length_bitsDown, hlow, natOfBits_bitsDown m (Nat.mod_lt w (Nat.two_pow_pos m)),
      Nat.testBit_eq_decide_div_mod_eq]
    have hdiv : w / 2 ^ m < 2 := by
      rw [Nat.div_lt_iff_lt_mul (Nat.two_pow_pos m), ← pow_succ']
      exact h
    have hw := Nat.div_add_mod' w (2 ^ m)
    interval_cases hq : w / 2 ^ m <;> simpa using hw

theorem bitsDown_zero : ∀ m, bitsDown 0 m = List.replicate m false
  | 0 => rfl
  | m + 1 => by rw [bitsDown, bitsDown_zero m, Nat.zero_testBit, List.replicate_succ]

theorem bitsDown_ones : ∀ m, bitsDown (2 ^ m - 1) m = List.replicate m true
  | 0 => rfl
  | m + 1 => by
    have hone := Nat.two_pow_pos m
    have hsplit : 2 ^ (m + 1) - 1 = 1 * 2 ^ m + (2 ^ m - 1) := by
      rw [pow_succ]
      omega
    rw [hsplit, Nat.add_comm m 1, bitsDown_append 1 (by omega) 1, bitsDown_ones m, Nat.add_comm 1 m, List.replicate_succ]
    rfl

/-! ### The value of a string -/

/-- The significand of a string from its exponent bit on. -/
def htFrac : List Bool → Rat
  | [] => 1
  | e :: f => (if e then 2 else 1) * (1 + natOfBits f / 2 ^ f.length)

/-- The value of a string whose leading bits are its regime. -/
def htBits : List Bool → Rat
  | [] => 0
  | [b] => if b then 1 else 0
  | true :: true :: bs => 4 * htBits (true :: bs)
  | true :: false :: bs => htFrac bs
  | false :: true :: bs => htFrac bs / 4
  | false :: false :: bs => htBits (false :: bs) / 4

/-- The value of the low m bits of a word as a string. -/
def htWord (m w : Nat) : Rat := htBits (bitsDown w m)

theorem fraction_bounds (f : List Bool) : 0 ≤ (natOfBits f : Rat) / 2 ^ f.length ∧ (natOfBits f : Rat) / 2 ^ f.length < 1 := by
  have hlt : (natOfBits f : Rat) < 2 ^ f.length := by exact_mod_cast natOfBits_lt f
  exact ⟨by positivity, by rw [div_lt_one (by positivity)]; exact hlt⟩

theorem htFrac_bounds (bs : List Bool) : 1 ≤ htFrac bs ∧ htFrac bs < 4 := by
  cases bs with
  | nil => simp [htFrac]
  | cons e f =>
    obtain ⟨hlow, hhigh⟩ := fraction_bounds f
    rw [htFrac]
    split <;> constructor <;> linarith

theorem htFrac_lt {bs cs : List Bool} (hlen : bs.length = cs.length) (h : natOfBits bs < natOfBits cs) : htFrac bs < htFrac cs := by
  match bs, cs, hlen with
  | [], [], _ => simp at h
  | d :: f, e :: g, hlen =>
    have hfg : f.length = g.length := by simpa using hlen
    obtain ⟨hflow, hfhigh⟩ := fraction_bounds f
    obtain ⟨hglow, hghigh⟩ := fraction_bounds g
    have hf := natOfBits_lt f
    have hg := natOfBits_lt g
    rw [natOfBits_cons, natOfBits_cons, ← hfg] at h
    have hsame : natOfBits f < natOfBits g → (natOfBits f : Rat) / 2 ^ f.length < natOfBits g / 2 ^ g.length := by
      intro h
      rw [← hfg, div_lt_div_iff_of_pos_right (by positivity)]
      exact_mod_cast h
    rw [htFrac, htFrac]
    cases d <;> cases e <;> simp only [Bool.toNat_true, Bool.toNat_false, Nat.zero_mul, Nat.zero_add, Nat.one_mul, if_true, if_false,
      Bool.false_eq_true] at h ⊢
    · have := hsame h
      linarith
    · linarith
    · rw [← hfg] at hg
      omega
    · have := hsame (by omega)
      linarith

theorem htBits_true (bs : List Bool) : 1 ≤ htBits (true :: bs) := by
  induction bs with
  | nil => simp [htBits]
  | cons b bs ih =>
    cases b with
    | true =>
      rw [htBits]
      linarith
    | false => exact (htFrac_bounds bs).1

theorem htBits_false (bs : List Bool) : 0 ≤ htBits (false :: bs) ∧ htBits (false :: bs) < 1 := by
  induction bs with
  | nil => simp [htBits]
  | cons b bs ih =>
    cases b with
    | true =>
      obtain ⟨hlow, hhigh⟩ := htFrac_bounds bs
      rw [htBits]
      constructor <;> linarith
    | false =>
      rw [htBits]
      constructor <;> linarith [ih.1, ih.2]

/-- Strings of one length have values in the order of their numbers. -/
theorem htBits_lt : ∀ {bs cs : List Bool}, bs.length = cs.length → natOfBits bs < natOfBits cs → htBits bs < htBits cs
  | [], [], _, h => by simp at h
  | [b], [c], _, h => by
    revert h
    cases b <;> cases c <;> simp [htBits, natOfBits_cons]
  | [b], c :: d :: cs, hlen, _ => by simp at hlen
  | b :: c :: bs, [d], hlen, _ => by simp at hlen
  | false :: bs, true :: cs, _, _ => (htBits_false bs).2.trans_le (htBits_true cs)
  | true :: bs, false :: cs, hlen, h => by
    have := natOfBits_lt cs
    have hl : bs.length = cs.length := by simpa using hlen
    rw [natOfBits_cons, natOfBits_cons, hl] at h
    simp at h
    omega
  | true :: true :: bs, true :: true :: cs, hlen, h => by
    have := htBits_lt (bs := true :: bs) (cs := true :: cs) (by simpa using hlen) (by
      have hl : bs.length = cs.length := by simpa using hlen
      simp only [natOfBits_cons, List.length_cons, hl] at h ⊢
      omega)
    rw [htBits, htBits]
    linarith
  | true :: false :: bs, true :: true :: cs, _, _ => by
    rw [htBits, htBits]
    linarith [(htFrac_bounds bs).2, htBits_true cs]
  | true :: true :: bs, true :: false :: cs, hlen, h => by
    have hc := natOfBits_lt cs
    have hl : bs.length = cs.length := by simpa using hlen
    simp only [natOfBits_cons, List.length_cons, hl] at h
    simp at h
    omega
  | true :: false :: bs, true :: false :: cs, hlen, h => by
    have hl : bs.length = cs.length := by simpa using hlen
    rw [htBits, htBits]
    refine htFrac_lt hl ?_
    simp only [natOfBits_cons, List.length_cons, hl] at h
    omega
  | false :: true :: bs, false :: true :: cs, hlen, h => by
    have hl : bs.length = cs.length := by simpa using hlen
    have := htFrac_lt hl (by
      simp only [natOfBits_cons, List.length_cons, hl] at h
      omega)
    rw [htBits, htBits]
    linarith
  | false :: false :: bs, false :: true :: cs, _, _ => by
    rw [htBits, htBits]
    linarith [(htFrac_bounds cs).1, (htBits_false bs).2]
  | false :: true :: bs, false :: false :: cs, hlen, h => by
    have hc := natOfBits_lt cs
    have hl : bs.length = cs.length := by simpa using hlen
    simp only [natOfBits_cons, List.length_cons, hl] at h
    simp at h
    omega
  | false :: false :: bs, false :: false :: cs, hlen, h => by
    have := htBits_lt (bs := false :: bs) (cs := false :: cs) (by simpa using hlen) (by
      have hl : bs.length = cs.length := by simpa using hlen
      simp only [natOfBits_cons, List.length_cons, hl] at h ⊢
      omega)
    rw [htBits, htBits]
    linarith

theorem htWord_lt {m v w : Nat} (hw : w < 2 ^ m) (h : v < w) : htWord m v < htWord m w :=
  htBits_lt (by rw [length_bitsDown, length_bitsDown]) (by rwa [natOfBits_bitsDown m hw, natOfBits_bitsDown m (h.trans hw)])

theorem htWord_lt_iff {m v w : Nat} (hv : v < 2 ^ m) (hw : w < 2 ^ m) : htWord m v < htWord m w ↔ v < w := by
  refine ⟨fun h => ?_, htWord_lt hw⟩
  rcases Nat.lt_trichotomy v w with hlt | rfl | hgt
  · exact hlt
  · exact absurd h (lt_irrefl _)
  · exact absurd (htWord_lt hv hgt) (not_lt.2 h.le)

theorem htWord_le_iff {m v w : Nat} (hv : v < 2 ^ m) (hw : w < 2 ^ m) : htWord m v ≤ htWord m w ↔ v ≤ w := by
  rw [← not_lt, htWord_lt_iff hw hv, not_lt]

/-! ### Zeros at the end of a string -/

theorem natOfBits_zeros (bs : List Bool) (j : Nat) : natOfBits (bs ++ List.replicate j false) = natOfBits bs * 2 ^ j := by
  rw [natOfBits, List.foldl_append, foldl_bits, List.length_replicate]
  have hz : natOfBits (List.replicate j false) = 0 := by
    have := natOfBits_bitsDown j (Nat.two_pow_pos j)
    rwa [bitsDown_zero] at this
  rw [hz, Nat.add_zero]

theorem htFrac_zeros (bs : List Bool) (j : Nat) : htFrac (bs ++ List.replicate j false) = htFrac bs := by
  cases bs with
  | nil =>
    cases j with
    | zero => rfl
    | succ j =>
      have hz := natOfBits_zeros [] j
      rw [List.nil_append] at hz
      simp [List.replicate_succ, htFrac, hz]
  | cons e f =>
    rw [List.cons_append, htFrac, natOfBits_zeros, List.length_append, List.length_replicate, pow_add, htFrac]
    push_cast
    rw [mul_div_mul_right _ _ (by positivity)]

theorem htBits_zeros (b : Bool) (bs : List Bool) (j : Nat) : htBits (b :: bs ++ List.replicate j false) = htBits (b :: bs) := by
  induction bs generalizing b with
  | nil =>
    induction j with
    | zero => rfl
    | succ j ih =>
      cases b with
      | true =>
        have := htFrac_zeros [] j
        rw [List.nil_append] at this
        simp only [List.cons_append, List.nil_append, List.replicate_succ, htBits, this]
        rfl
      | false =>
        simp only [List.cons_append, List.nil_append] at ih
        simp only [List.cons_append, List.nil_append, List.replicate_succ, htBits, ih]
        simp
  | cons c bs ih =>
    have htrue := ih true
    have hfalse := ih false
    rw [List.cons_append] at htrue hfalse
    cases b <;> cases c <;> simp only [List.cons_append, htBits, htrue, hfalse, htFrac_zeros]

/-- Zeros after a word leave its value. -/
theorem htWord_shift {m w : Nat} (hm : 0 < m) (j : Nat) : htWord (m + j) (w * 2 ^ j) = htWord m w := by
  obtain ⟨m, rfl⟩ := Nat.exists_eq_add_of_lt hm
  have := bitsDown_append w (Nat.two_pow_pos j) (0 + m + 1)
  rw [Nat.add_zero] at this
  rw [htWord, this, bitsDown_zero, bitsDown, htBits_zeros]
  rfl

end Sys2Proof.Machine
end

section
/-! PROOFS. What ht words decode to, and the rounding into ht8 and ht6 (R37, R38, R39). -/

open Sys2Proof.Claims

namespace Sys2Proof.Machine

/-! ### The decoder -/

/-- The length of the regime of a string. -/
def htRun (b : Bool) (bits : List Bool) : Nat := (bits.takeWhile (· == b)).length

/-- The bits after the regime and its terminating bit. -/
def htTail (b : Bool) (bits : List Bool) : List Bool := bits.drop (htRun b bits + 1)

/-- The power of four that a regime stands for. -/
def htRegime (b : Bool) (bits : List Bool) : Int := if b then (htRun b bits : Int) - 1 else -(htRun b bits : Int)

/-- The exponent bit of the bits after the regime. -/
def htExpBit (tail : List Bool) : Int := if tail.headD false then 1 else 0

/-- The magnitude that the decoder makes of a string. -/
def htNum (neg b : Bool) (bits : List Bool) : Num :=
  let fb := (htTail b bits).drop 1
  .fin neg (2 ^ fb.length + natOfBits fb) (2 * htRegime b bits + htExpBit (htTail b bits) - fb.length)

/-- A word that is no special one decodes by the string of its magnitude. -/
theorem decodeHt_eq {n w : Nat} (h0 : w ≠ 0) (hn : w ≠ 2 ^ (n - 1)) :
    decodeHt n w = htNum (w.testBit (n - 1)) ((if w.testBit (n - 1) then 2 ^ n - w else w).testBit (n - 2))
      (bitsDown (if w.testBit (n - 1) then 2 ^ n - w else w) (n - 1)) := by
  have hbit : ∀ tail : List Bool, (match tail with | true :: _ => (1 : Int) | _ => 0) = htExpBit tail := by
    intro tail
    rcases tail with _ | ⟨_ | _, _⟩ <;> rfl
  unfold decodeHt htNum
  rw [if_neg (by simpa using h0), if_neg (by simpa using hn), ← hbit]
  rfl

theorem htFrac_eq (tail : List Bool) :
    htFrac tail = magQ (2 ^ (tail.drop 1).length + natOfBits (tail.drop 1)) (htExpBit tail - (tail.drop 1).length) := by
  cases tail with
  | nil => simp [htFrac, magQ, htExpBit]
  | cons e f =>
    have hpow : (2 : Rat) ^ f.length ≠ 0 := by positivity
    rw [htFrac, List.drop_one, List.tail_cons, magQ, zpow_sub₀ (by norm_num), zpow_natCast, htExpBit, List.headD_cons]
    push_cast
    cases e <;> simp <;> field_simp

theorem htBits_eq : ∀ (b : Bool) (bs : List Bool), (b = true ∨ true ∈ bs) →
    htBits (b :: bs) = htFrac (htTail b (b :: bs)) * 2 ^ (2 * htRegime b (b :: bs))
  | true, [], _ => by simp [htBits, htFrac, htTail, htRegime, htRun]
  | false, [], h => by simp at h
  | true, true :: bs, _ => by
    have hrun : htRun true (true :: true :: bs) = htRun true (true :: bs) + 1 := by simp [htRun]
    have htail : htTail true (true :: true :: bs) = htTail true (true :: bs) := by rw [htTail, htTail, hrun, List.drop_succ_cons]
    rw [htBits, htBits_eq true bs (.inl rfl), htail, htRegime, htRegime, hrun, if_pos rfl, if_pos rfl,
      show 2 * (((htRun true (true :: bs) + 1 : Nat) : Int) - 1) = 2 * ((htRun true (true :: bs) : Int) - 1) + 2 by push_cast; ring,
      two_zpow_add]
    ring
  | true, false :: bs, _ => by simp [htBits, htTail, htRegime, htRun]
  | false, true :: bs, _ => by
    simp only [htBits, htTail, htRegime, htRun]
    norm_num
    ring
  | false, false :: bs, h => by
    have hrun : htRun false (false :: false :: bs) = htRun false (false :: bs) + 1 := by simp [htRun]
    have htail : htTail false (false :: false :: bs) = htTail false (false :: bs) := by rw [htTail, htTail, hrun, List.drop_succ_cons]
    rw [htBits, htBits_eq false bs (by simpa using h), htail, htRegime, htRegime, hrun, if_neg (by simp), if_neg (by simp),
      show 2 * -((htRun false (false :: bs) + 1 : Nat) : Int) = 2 * -(htRun false (false :: bs) : Int) + -2 by push_cast; ring,
        two_zpow_add]
    norm_num
    ring

theorem isFinite_htNum {b : Bool} {bs : List Bool} (h : b = true ∨ true ∈ bs) :
    isFinite (htNum false b (b :: bs)) false (htBits (b :: bs)) := by
  refine ⟨_, _, rfl, ?_⟩
  rw [ratOf_false, htBits_eq b bs h, htFrac_eq, ← magQ_scale]
  congr 1
  ring

/-- A word below the sign has the value of its string. -/
theorem isFinite_decodeHt {n w : Nat} (hn : 2 ≤ n) (h0 : 0 < w) (hw : w < 2 ^ (n - 1)) :
    isFinite (decodeHt n w) false (htWord (n - 1) w) := by
  obtain ⟨m, rfl⟩ := Nat.exists_eq_add_of_le hn
  have hsign : w.testBit (2 + m - 1) = false := Nat.testBit_lt_two_pow hw
  rw [decodeHt_eq h0.ne' hw.ne, hsign, if_neg (by simp)]
  have hlen : 2 + m - 1 = m + 1 := by omega
  have htop : 2 + m - 2 = m := by omega
  have hone : w.testBit m = true ∨ true ∈ bitsDown w m := by
    by_contra hc
    have hzero : bitsDown w (m + 1) = List.replicate (m + 1) false := by
      refine List.eq_replicate_iff.2 ⟨length_bitsDown w _, fun b hb => ?_⟩
      rw [bitsDown, List.mem_cons] at hb
      rw [not_or] at hc
      rcases hb with rfl | hb
      · simpa using hc.1
      · cases b with
        | true => exact absurd hb hc.2
        | false => rfl
    rw [hlen] at hw
    have hnat := natOfBits_bitsDown (m + 1) hw
    rw [hzero, ← bitsDown_zero, natOfBits_bitsDown _ (Nat.two_pow_pos _)] at hnat
    omega
  rw [htWord, hlen, htop, bitsDown]
  exact isFinite_htNum hone

/-! ### Words by their fields -/

theorem htBits_ones (k : Nat) (L : List Bool) : htBits (List.replicate (k + 1) true ++ false :: L) = 4 ^ k * htFrac L := by
  induction k with
  | zero => simp [htBits]
  | succ k ih =>
    have : List.replicate (k + 1 + 1) true ++ false :: L = true :: true :: (List.replicate k true ++ false :: L) := by
      simp [List.replicate_succ]
    rw [this, htBits, show true :: (List.replicate k true ++ false :: L) =
      List.replicate (k + 1) true ++ false :: L by simp [List.replicate_succ], ih]
    ring

theorem htBits_zeros_one (k : Nat) (L : List Bool) : htBits (List.replicate (k + 1) false ++ true :: L) = htFrac L / 4 ^ (k + 1) := by
  induction k with
  | zero => simp [htBits]
  | succ k ih =>
    have : List.replicate (k + 1 + 1) false ++ true :: L = false :: false :: (List.replicate k false ++ true :: L) := by
      simp [List.replicate_succ]
    rw [this, htBits, show false :: (List.replicate k false ++ true :: L) =
      List.replicate (k + 1) false ++ true :: L by simp [List.replicate_succ], ih]
    field_simp
    ring

theorem htBits_all_ones (k : Nat) : htBits (List.replicate (k + 1) true) = 4 ^ k := by
  induction k with
  | zero => simp [htBits]
  | succ k ih =>
    rw [List.replicate_succ, List.replicate_succ, htBits, ← List.replicate_succ, ih]
    ring

theorem htFrac_word {e fl f : Nat} (he : e < 2) (hf : f < 2 ^ fl) :
    htFrac (bitsDown (e * 2 ^ fl + f) (1 + fl)) = 2 ^ e * (1 + f / 2 ^ fl) := by
  rw [bitsDown_append e hf 1]
  have hbits : bitsDown e 1 = [decide (e = 1)] := by
    interval_cases e <;> rfl
  rw [hbits, List.singleton_append, htFrac, natOfBits_bitsDown fl hf, length_bitsDown]
  interval_cases e <;> simp

/-- A word with a regime of ones. -/
theorem htWord_ones {k e fl f : Nat} (he : e < 2) (hf : f < 2 ^ fl) :
    htWord (k + 3 + fl) (((2 ^ (k + 1) - 1) * 4 + e) * 2 ^ fl + f) = 2 ^ (2 * k + e) * (1 + f / 2 ^ fl) := by
  have hw : ((2 ^ (k + 1) - 1) * 4 + e) * 2 ^ fl + f = ((2 ^ (k + 1) - 1) * 2 ^ 1 + 0) * 2 ^ (1 + fl) + (e * 2 ^ fl + f) := by ring
  have hlow : e * 2 ^ fl + f < 2 ^ (1 + fl) := by
    have : e * 2 ^ fl ≤ 1 * 2 ^ fl := Nat.mul_le_mul_right _ (by omega)
    rw [pow_add]
    omega
  rw [htWord, hw, show k + 3 + fl = k + 1 + 1 + (1 + fl) by ring, bitsDown_append _ hlow, bitsDown_append _ (by decide), bitsDown_ones,
    List.append_assoc, show bitsDown 0 1 = [false] from rfl, List.singleton_append, htBits_ones, htFrac_word he hf, pow_add, pow_mul]
  norm_num
  ring

/-- A word with a regime of zeros. -/
theorem htWord_zeros {k e fl f : Nat} (hk : 0 < k) (he : e < 2) (hf : f < 2 ^ fl) :
    htWord (k + 2 + fl) ((2 + e) * 2 ^ fl + f) = 2 ^ ((e : Int) - 2 * k) * (1 + f / 2 ^ fl) := by
  obtain ⟨k, rfl⟩ : ∃ j, k = j + 1 := ⟨k - 1, by omega⟩
  have hw : (2 + e) * 2 ^ fl + f = (0 * 2 ^ 1 + 1) * 2 ^ (1 + fl) + (e * 2 ^ fl + f) := by ring
  have hlow : e * 2 ^ fl + f < 2 ^ (1 + fl) := by
    have : e * 2 ^ fl ≤ 1 * 2 ^ fl := Nat.mul_le_mul_right _ (by omega)
    rw [pow_add]
    omega
  have hpow : (2 : Rat) ^ ((e : Int) - 2 * (k + 1 : Nat)) = 2 ^ e / 4 ^ (k + 1) := by
    rw [zpow_sub₀ (by norm_num), zpow_natCast, show (2 : Int) * (k + 1 : Nat) = ((2 * (k + 1) : Nat) : Int) by push_cast; ring,
      zpow_natCast, pow_mul]
    norm_num
  rw [htWord, hw, show k + 1 + 2 + fl = k + 1 + 1 + (1 + fl) by ring, bitsDown_append _ hlow, bitsDown_append _ (by decide), bitsDown_zero,
    List.append_assoc, show bitsDown 1 1 = [true] from rfl, List.singleton_append, htBits_zeros_one, htFrac_word he hf, hpow]
  ring

theorem onesWord_bounds {k e fl f : Nat} (he : e < 2) (hf : f < 2 ^ fl) :
    0 < ((2 ^ (k + 1) - 1) * 4 + e) * 2 ^ fl + f ∧ ((2 ^ (k + 1) - 1) * 4 + e) * 2 ^ fl + f < 2 ^ (k + 3 + fl) := by
  have hfl := Nat.two_pow_pos fl
  have hk : 2 ≤ 2 ^ (k + 1) := by
    rw [pow_succ]
    have := Nat.two_pow_pos k
    omega
  have hlow : 1 * 2 ^ fl ≤ ((2 ^ (k + 1) - 1) * 4 + e) * 2 ^ fl := Nat.mul_le_mul_right _ (by omega)
  have hhigh : ((2 ^ (k + 1) - 1) * 4 + e + 1) * 2 ^ fl ≤ (2 ^ (k + 1) * 4) * 2 ^ fl := Nat.mul_le_mul_right _ (by omega)
  have hpow : 2 ^ (k + 3 + fl) = 2 ^ (k + 1) * 4 * 2 ^ fl := by ring
  rw [Nat.add_mul, Nat.one_mul] at hhigh
  rw [hpow]
  omega

theorem zerosWord_bounds {k e fl f : Nat} (he : e < 2) (hf : f < 2 ^ fl) :
    0 < (2 + e) * 2 ^ fl + f ∧ (2 + e) * 2 ^ fl + f < 2 ^ (k + 2 + fl) := by
  have hfl := Nat.two_pow_pos fl
  have hk := Nat.two_pow_pos k
  have hlow : 1 * 2 ^ fl ≤ (2 + e) * 2 ^ fl := Nat.mul_le_mul_right _ (by omega)
  have hhigh : (2 + e + 1) * 2 ^ fl ≤ (2 ^ k * 4) * 2 ^ fl := Nat.mul_le_mul_right _ (by omega)
  have hpow : 2 ^ (k + 2 + fl) = 2 ^ k * 4 * 2 ^ fl := by ring
  rw [Nat.add_mul, Nat.one_mul] at hhigh
  rw [hpow]
  omega

theorem htWord_top (m : Nat) : htWord (m + 1) (2 ^ (m + 1) - 1) = 2 ^ (2 * m) := by
  rw [htWord, bitsDown_ones, htBits_all_ones, pow_mul]
  norm_num

theorem htWord_one (m : Nat) : htWord (m + 2) 1 = 1 / 2 ^ (2 * (m + 1)) := by
  have := bitsDown_append 0 (b := 1) (m := 1) (by decide) (m + 1)
  rw [htWord, show bitsDown 1 (m + 2) = _ from this, bitsDown_zero, show bitsDown 1 1 = [true] from rfl, htBits_zeros_one, pow_mul]
  norm_num [htFrac]

theorem htWord_below_top (m : Nat) : htWord (m + 2) (2 ^ (m + 2) - 2) = 2 ^ (2 * m) := by
  have hw : 2 ^ (m + 2) - 2 = (2 ^ (m + 1) - 1) * 2 ^ 1 + 0 := by
    rw [pow_succ]
    omega
  rw [htWord, hw, show m + 2 = m + 1 + 1 by ring, bitsDown_append _ (by decide), bitsDown_ones,
    show bitsDown 0 1 = [false] from rfl, htBits_ones, pow_mul]
  norm_num [htFrac]

/-- A word of the negative half is its two's complement with the sign. -/
theorem decodeHt_negative {n w : Nat} (hn : 0 < n) (hlow : 2 ^ (n - 1) < w) (hhigh : w < 2 ^ n) :
    ∃ mag exp, decodeHt n (2 ^ n - w) = .fin false mag exp ∧ decodeHt n w = .fin true mag exp := by
  have hpow : 2 ^ n = 2 * 2 ^ (n - 1) := by rw [← pow_succ', Nat.sub_add_cancel hn]
  have hpos := Nat.two_pow_pos (n - 1)
  have hplus : (2 ^ n - w).testBit (n - 1) = false := Nat.testBit_lt_two_pow (by omega)
  have hminus : w.testBit (n - 1) = true := by
    rw [Nat.testBit_eq_decide_div_mod_eq, Nat.div_eq_of_lt_le (k := 1) (by omega) (by omega)]
    rfl
  rw [decodeHt_eq (by omega) (by omega), decodeHt_eq (w := w) (by omega) (by omega), hplus, hminus, if_neg (by simp), if_pos rfl]
  exact ⟨_, _, rfl, rfl⟩

theorem htWordsDecode : HtWordsDecode := by
  intro n hn
  obtain ⟨m, rfl⟩ := Nat.exists_eq_add_of_le' hn
  have hval : ∀ {w : Nat} {x : Rat}, 0 < w → w < 2 ^ (m + 2) → htWord (m + 2) w = x → isFinite (decodeHt (m + 3) w) false x := by
    rintro w x h0 hw rfl
    exact isFinite_decodeHt (by omega) h0 hw
  have hfour : 4 ≤ 2 ^ (m + 2) := by
    rw [pow_add]
    have := Nat.two_pow_pos m
    omega
  refine ⟨?_, ?_, fun k e fl f he hf hk => ?_, hval ?_ ?_ (htWord_below_top m), hval ?_ ?_ (htWord_top (m + 1)),
    fun k e fl f hk0 he hf hk => ?_, hval one_pos ?_ (htWord_one m), fun w => decodeHt_negative (by omega)⟩
  · simp [decodeHt]
  · unfold decodeHt
    rw [if_neg (by simp), if_pos (by simp)]
  · obtain ⟨h0, hw⟩ := onesWord_bounds (k := k) he hf
    have hlen : k + 3 + fl = m + 2 := hk
    rw [hlen] at hw
    exact hval h0 hw (hlen ▸ htWord_ones he hf)
  · change 0 < 2 ^ (m + 2) - 2
    omega
  · change 2 ^ (m + 2) - 2 < 2 ^ (m + 2)
    omega
  · change 0 < 2 ^ (m + 2) - 1
    omega
  · change 2 ^ (m + 2) - 1 < 2 ^ (m + 2)
    omega
  · obtain ⟨h0, hw⟩ := zerosWord_bounds (k := k) he hf
    have hlen : k + 2 + fl = m + 2 := hk
    rw [hlen] at hw
    exact hval h0 hw (hlen ▸ htWord_zeros hk0 he hf)
  · omega

/-! ### Rounding by strings -/

/-- The string of a magnitude, and its length. -/
def htStringOf (mag : Nat) (exp : Int) : Nat × Nat :=
  let t := topBit mag exp
  let fl := mag.log2
  let low := (t % 2).toNat * 2 ^ fl + (mag - 2 ^ fl)
  if 0 ≤ t / 2 then (((2 ^ ((t / 2).toNat + 1) - 1) * 4) * 2 ^ fl + low, (t / 2).toNat + 3 + fl)
  else (2 * 2 ^ fl + low, (-(t / 2)).toNat + 2 + fl)

theorem htString_eq (n mag : Nat) (exp : Int) :
    htString n mag exp = roundAt false (htStringOf mag exp).1 (-((htStringOf mag exp).2 : Int)) (-(n - 1 : Nat)) := by
  unfold htString htStringOf
  dsimp only
  by_cases h : 0 ≤ topBit mag exp / 2
  · rw [if_pos h, if_pos h]
    have hpow : pow2 (topBit mag exp / 2 + 1) = 2 ^ ((topBit mag exp / 2).toNat + 1) := by
      rw [pow2, Nat.one_shiftLeft]
      congr 1
      omega
    rw [hpow]
    congr 1
    · ring
    · push_cast
      omega
  · rw [if_neg h, if_neg h]
    congr 1
    · ring
    · push_cast
      omega

/-- A string's value is the magnitude it was made from. -/
theorem htStringOf_value {mag : Nat} (hm : 0 < mag) (exp : Int) :
    (htStringOf mag exp).1 < 2 ^ (htStringOf mag exp).2 ∧ 0 < (htStringOf mag exp).2 ∧
      htWord (htStringOf mag exp).2 (htStringOf mag exp).1 = magQ mag exp := by
  have hlow : 2 ^ mag.log2 ≤ mag := Nat.log2_self_le hm.ne'
  have hhigh : mag < 2 ^ (mag.log2 + 1) := Nat.lt_log2_self
  have hf : mag - 2 ^ mag.log2 < 2 ^ mag.log2 := by
    rw [pow_succ] at hhigh
    omega
  have he : (topBit mag exp % 2).toNat < 2 := by omega
  have hmag : magQ mag exp = 2 ^ topBit mag exp * (1 + ((mag - 2 ^ mag.log2 : Nat) : Rat) / 2 ^ mag.log2) := by
    rw [magQ, topBit, two_zpow_add, zpow_natCast, Nat.cast_sub hlow]
    push_cast
    field_simp
    ring
  have ht : topBit mag exp = 2 * (topBit mag exp / 2) + ((topBit mag exp % 2).toNat : Int) := by omega
  unfold htStringOf
  dsimp only
  by_cases h : 0 ≤ topBit mag exp / 2
  · obtain ⟨-, hw⟩ := onesWord_bounds (k := (topBit mag exp / 2).toNat) he hf
    have hval := htWord_ones (k := (topBit mag exp / 2).toNat) he hf
    rw [if_pos h, ← Nat.add_assoc, ← Nat.add_mul]
    refine ⟨hw, by omega, ?_⟩
    rw [hval, hmag, ← zpow_natCast]
    congr 2
    push_cast
    omega
  · obtain ⟨-, hw⟩ := zerosWord_bounds (k := (-(topBit mag exp / 2)).toNat) he hf
    have hval := htWord_zeros (k := (-(topBit mag exp / 2)).toNat) (by omega) he hf
    rw [if_neg h, ← Nat.add_assoc, ← Nat.add_mul]
    refine ⟨hw, by omega, ?_⟩
    rw [hval, hmag]
    congr 2
    omega

/-- Words of two lengths have values in the order of their fractions. -/
theorem htWord_le_iff_fraction {m l a b : Nat} (hm : 0 < m) (hl : 0 < l) (ha : a < 2 ^ m) (hb : b < 2 ^ l) :
    htWord m a ≤ htWord l b ↔ a * 2 ^ l ≤ b * 2 ^ m := by
  rw [← htWord_shift hm l, ← htWord_shift hl m, Nat.add_comm l m]
  refine htWord_le_iff ?_ ?_
  · rw [pow_add]
    exact Nat.mul_lt_mul_of_pos_right ha (Nat.two_pow_pos l)
  · rw [Nat.add_comm m l, pow_add]
    exact Nat.mul_lt_mul_of_pos_right hb (Nat.two_pow_pos m)

/-- The order of a word and a string, by the string scaled to the word's length. -/
theorem htWord_compare {m l a b : Nat} (hm : 0 < m) (hl : 0 < l) (ha : a < 2 ^ m) (hb : b < 2 ^ l) :
    (htWord m a ≤ htWord l b ↔ (a : Rat) ≤ magQ b (m - l)) ∧ (htWord l b ≤ htWord m a ↔ magQ b (m - l) ≤ a) ∧
      (htWord m a = htWord l b ↔ (a : Rat) = magQ b (m - l)) := by
  have hpos : (0 : Rat) < 2 ^ l := by positivity
  have hb' : magQ b (m - l) = (b : Rat) * 2 ^ m / 2 ^ l := by
    rw [magQ, zpow_sub₀ (by norm_num), zpow_natCast, zpow_natCast, mul_div_assoc]
  have hle : htWord m a ≤ htWord l b ↔ (a : Rat) ≤ magQ b (m - l) := by
    rw [htWord_le_iff_fraction hm hl ha hb, hb', le_div_iff₀ hpos]
    exact_mod_cast Iff.rfl
  have hge : htWord l b ≤ htWord m a ↔ magQ b (m - l) ≤ a := by
    rw [htWord_le_iff_fraction hl hm hb ha, hb', div_le_iff₀ hpos]
    exact_mod_cast Iff.rfl
  exact ⟨hle, hge, by rw [le_antisymm_iff, le_antisymm_iff, hle, hge]⟩

/-- The words of one more bit around the word that a string rounds to. -/
theorem htWord_around {m l b c : Nat} (hl : 0 < l) (hb : b < 2 ^ l) (hc0 : 0 < c) (hc : c < 2 ^ (m + 2))
    (hround : roundedTo false c (magQ b ((m + 2 : Nat) - l))) :
    htWord (m + 3) (2 * c - 1) ≤ htWord l b ∧ htWord l b ≤ htWord (m + 3) (2 * c + 1) ∧
      (htWord (m + 3) (2 * c - 1) = htWord l b ∨ htWord l b = htWord (m + 3) (2 * c + 1) → c % 2 = 0) := by
  have hnext : 2 ^ (m + 3) = 2 * 2 ^ (m + 2) := by rw [← pow_succ']
  have hwide : magQ b ((m + 3 : Nat) - l) = 2 * magQ b ((m + 2 : Nat) - l) := by
    rw [show ((m + 3 : Nat) : Int) - l = ((m + 2 : Nat) - l) + 1 by push_cast; ring, magQ_scale]
    ring
  have hcast : ((2 * c - 1 : Nat) : Rat) = 2 * c - 1 := by
    rw [Nat.cast_sub (by omega)]
    push_cast
    rfl
  obtain ⟨hlo, -, hlo'⟩ := htWord_compare (m := m + 3) (a := 2 * c - 1) (by omega) hl (by omega) hb
  obtain ⟨-, hhi, hhi'⟩ := htWord_compare (m := m + 3) (a := 2 * c + 1) (by omega) hl (by omega) hb
  rw [hlo, hlo', hhi, eq_comm (a := htWord l b), hhi', hwide, hcast]
  generalize magQ b ((m + 2 : Nat) - l) = y at hround
  obtain ⟨hlow, hhigh, heven⟩ := hround
  push_cast
  refine ⟨by linarith, by linarith, ?_⟩
  rintro (h | h)
  · exact heven (.inl (by linarith))
  · exact heven (.inr (by linarith))

/-- A string between the ends rounds to a word that is neither zero nor the sign. -/
theorem htRound_bounds {m l b c : Nat} (hl : 0 < l) (hb : b < 2 ^ l) (hlow : 1 / 2 ^ (2 * (m + 1)) < htWord l b)
    (hhigh : htWord l b < 2 ^ (2 * (m + 1))) (hround : roundedTo false c (magQ b ((m + 2 : Nat) - l))) : 0 < c ∧ c < 2 ^ (m + 2) := by
  have hpow : 4 ≤ 2 ^ (m + 2) := by
    rw [pow_add]
    have := Nat.two_pow_pos m
    omega
  obtain ⟨-, hone, -⟩ := htWord_compare (m := m + 2) (a := 1) (by omega) hl (by omega) hb
  obtain ⟨htop, -, -⟩ := htWord_compare (m := m + 2) (a := 2 ^ (m + 2) - 1) (by omega) hl (by omega) hb
  rw [htWord_one] at hone
  rw [htWord_top] at htop
  have hlow' := not_le.1 (mt hone.2 (not_le.2 hlow))
  have hhigh' := not_le.1 (mt htop.2 (not_le.2 hhigh))
  have := roundedTo_between hround hlow'.le hhigh'
  omega

/-- The code of a magnitude between the ends, by the words of one more bit around it. -/
theorem htString_rounds {n : Nat} (hn : 3 ≤ n) {mag : Nat} (hm : 0 < mag) {exp : Int} (hlow : 1 / 2 ^ (2 * (n - 2)) < magQ mag exp)
    (hhigh : magQ mag exp < 2 ^ (2 * (n - 2))) :
    let c := (htString n mag exp).1
    let x := magQ mag exp
    0 < c ∧ c < 2 ^ (n - 1) ∧ (htWord n (2 * c - 1) ≤ x ∧ x ≤ htWord n (2 * c + 1) ∧
      (htWord n (2 * c - 1) = x ∨ x = htWord n (2 * c + 1) → c % 2 = 0)) ∧ ((htString n mag exp).2 = true ↔ htWord (n - 1) c ≠ x) := by
  intro c x
  obtain ⟨m, rfl⟩ := Nat.exists_eq_add_of_le' hn
  obtain ⟨hstr, hlen, hval⟩ := htStringOf_value hm exp
  obtain ⟨hround, hinexact⟩ := roundAt_spec false (htStringOf mag exp).1 (-((htStringOf mag exp).2 : Int)) (-(m + 3 - 1 : Nat))
  rw [← htString_eq, neg_sub_neg] at hround hinexact
  have hx : x = htWord (htStringOf mag exp).2 (htStringOf mag exp).1 := hval.symm
  rw [← hval] at hlow hhigh
  obtain ⟨hc0, hc⟩ := htRound_bounds hlen hstr hlow hhigh hround
  obtain ⟨-, -, hexact⟩ := htWord_compare (m := m + 2) (a := c) (by omega) hlen hc hstr
  rw [hx]
  refine ⟨hc0, hc, htWord_around hlen hstr hc0 hc hround, hinexact.trans (not_congr hexact.symm)⟩

theorem topBit_pow_iff {mag : Nat} (hm : 0 < mag) {exp e : Int} :
    topBit mag exp = e ∧ mag = 2 ^ mag.log2 ↔ magQ mag exp = 2 ^ e := by
  obtain ⟨hlow, hhigh⟩ := topBit_bounds hm exp
  have hpow : magQ (2 ^ mag.log2) exp = 2 ^ topBit mag exp := magQ_two_pow _ _
  constructor
  · rintro ⟨rfl, h⟩
    rw [← hpow, ← h]
  · intro h
    rw [h] at hlow hhigh
    have h1 := (zpow_le_zpow_iff_right₀ (by norm_num : (1 : Rat) < 2)).1 hlow
    have h2 := (zpow_lt_zpow_iff_right₀ (by norm_num : (1 : Rat) < 2)).1 hhigh
    have ht : topBit mag exp = e := by omega
    rw [ht, ← h] at hpow
    exact ⟨ht, le_antisymm (magQ_le_magQ.1 hpow.ge) (magQ_le_magQ.1 hpow.le)⟩

/-- The code of a rounding into an ht format, and its flags. -/
def htCode (n : Nat) (mag : Nat) (exp : Int) : Res Nat :=
  let lim : Int := 2 * (n - 2 : Nat)
  let t := topBit mag exp
  let pow := mag == 2 ^ mag.log2
  if t ≥ lim then { val := 2 ^ (n - 1) - 1, flags := if t == lim && pow then 0 else flagOF ||| flagNX }
  else if t < -lim || (t == -lim && pow) then { val := 1, flags := if t == -lim && pow then 0 else flagUF ||| flagNX }
  else { val := (htString n mag exp).1, flags := if (htString n mag exp).2 then flagNX else 0 }

theorem roundHt_eq {n : Nat} (hn : n = 8 ∨ n = 6) (neg : Bool) (mag : Nat) (exp : Int) :
    roundHt n neg mag exp =
      let c := htCode n mag exp
      { val := BitVec.ofNat 8 (if neg then 2 ^ n - c.val else c.val), flags := c.flags } := by
  rcases hn with rfl | rfl <;> rfl

/-- The three ranges of a rounding into an ht format. -/
theorem htCode_cases {n mag : Nat} (hm : 0 < mag) (exp : Int) :
    let big : Rat := 2 ^ (2 * (n - 2))
    (big ≤ magQ mag exp → htCode n mag exp = { val := 2 ^ (n - 1) - 1, flags := if magQ mag exp = big then 0 else flagOF ||| flagNX }) ∧
    (0 < n - 2 → magQ mag exp ≤ 1 / big →
      htCode n mag exp = { val := 1, flags := if magQ mag exp = 1 / big then 0 else flagUF ||| flagNX }) ∧
    (1 / big < magQ mag exp → magQ mag exp < big →
      htCode n mag exp = { val := (htString n mag exp).1, flags := if (htString n mag exp).2 then flagNX else 0 }) := by
  intro big
  have hbig : big = 2 ^ (2 * ((n - 2 : Nat) : Int)) := by
    simp only [big]
    rw [← zpow_natCast]
    push_cast
    rfl
  have hinv : 1 / big = 2 ^ (-(2 * ((n - 2 : Nat) : Int))) := by rw [hbig, zpow_neg, one_div]
  have hge : topBit mag exp ≥ 2 * (n - 2 : Nat) ↔ big ≤ magQ mag exp := by
    rw [ge_iff_le, ← not_lt, topBit_lt_iff hm, ← hbig, not_lt]
  have heq : (topBit mag exp == 2 * (n - 2 : Nat) && mag == 2 ^ mag.log2) = true ↔ magQ mag exp = big := by
    rw [Bool.and_eq_true, beq_iff_eq, beq_iff_eq, topBit_pow_iff hm, ← hbig]
  have heq' : (topBit mag exp == -(2 * (n - 2 : Nat)) && mag == 2 ^ mag.log2) = true ↔ magQ mag exp = 1 / big := by
    rw [Bool.and_eq_true, beq_iff_eq, beq_iff_eq, topBit_pow_iff hm, ← hinv]
  have hlt : topBit mag exp < -(2 * (n - 2 : Nat)) ↔ magQ mag exp < 1 / big := by
    rw [topBit_lt_iff hm, ← hinv]
  have hle : (decide (topBit mag exp < -(2 * (n - 2 : Nat))) || (topBit mag exp == -(2 * (n - 2 : Nat)) && mag == 2 ^ mag.log2)) = true ↔
      magQ mag exp ≤ 1 / big := by
    rw [Bool.or_eq_true, decide_eq_true_iff, hlt, heq', le_iff_lt_or_eq]
  unfold htCode
  dsimp only
  refine ⟨fun h => ?_, fun h0 h => ?_, fun h1 h2 => ?_⟩
  · rw [if_pos (hge.2 h)]
    simp only [heq]
  · have hlt1 : 1 / big < big := by
      rw [hinv, hbig]
      exact zpow_lt_zpow_right₀ (by norm_num) (by omega)
    rw [if_neg (fun hc => not_le.2 hlt1 ((hge.1 hc).trans h)), if_pos (hle.2 h)]
    simp only [heq']
  · rw [if_neg (fun hc => not_le.2 h2 (hge.1 hc)), if_neg (fun hc => not_le.2 h1 (hle.1 hc))]

/-- A byte as the word of an element. -/
theorem setWidth_ofNat_byte {c : Nat} (h : c < 256) : (BitVec.ofNat 8 c).setWidth 32 = BitVec.ofNat 32 c := by
  apply BitVec.eq_of_toNat_eq
  rw [BitVec.toNat_setWidth, BitVec.toNat_ofNat, BitVec.toNat_ofNat, Nat.mod_eq_of_lt h]

/-- The rounding into an ht format, as the word of an element. -/
theorem roundHt_roundsHt {n : Nat} (hn : n = 8 ∨ n = 6) (neg : Bool) {mag : Nat} (hm : 0 < mag) (exp : Int) :
    roundsHt n neg (magQ mag exp) { val := (roundHt n neg mag exp).val.setWidth 32, flags := (roundHt n neg mag exp).flags } := by
  have hn3 : 3 ≤ n := by omega
  obtain ⟨hbig, hsmall, hmid⟩ := htCode_cases (n := n) hm exp
  have hpow : 2 ^ n = 2 * 2 ^ (n - 1) ∧ 2 ^ n ≤ 256 ∧ 2 ≤ 2 ^ (n - 1) := by rcases hn with rfl | rfl <;> decide
  have hle : 0 < (htCode n mag exp).val ∧ (htCode n mag exp).val < 2 ^ (n - 1) := by
    rcases lt_or_ge (magQ mag exp) (2 ^ (2 * (n - 2))) with h2 | h2
    · rcases lt_or_ge (1 / 2 ^ (2 * (n - 2))) (magQ mag exp) with h1 | h1
      · obtain ⟨hc0, hc, -⟩ := htString_rounds hn3 hm h1 h2
        rw [hmid h1 h2]
        exact ⟨hc0, hc⟩
      · rw [hsmall (by omega) h1]
        dsimp only
        omega
    · rw [hbig h2]
      dsimp only
      omega
  rw [roundHt_eq hn]
  refine ⟨(htCode n mag exp).val, ?_, fun h => ?_, fun h => ?_, fun h1 h2 => ⟨hle.1, hle.2, ?_⟩⟩
  · exact setWidth_ofNat_byte (by split <;> omega)
  · rw [hbig h]
    exact ⟨rfl, fun heq => if_pos heq, fun hne => if_neg hne⟩
  · rw [hsmall (by omega) h]
    exact ⟨rfl, fun heq => if_pos heq, fun hne => if_neg hne⟩
  · obtain ⟨hc0, hc, ⟨hlo, hhi, heven⟩, hinexact⟩ := htString_rounds hn3 hm h1 h2
    rw [hmid h1 h2]
    have hwide : ∀ {w : Nat}, 0 < w → w < 2 ^ n → isFinite (decodeHt (n + 1) w) false (htWord n w) :=
      isFinite_decodeHt (n := n + 1) (by omega)
    dsimp only
    exact ⟨_, _, _, hwide (by omega) (by omega), hwide (by omega) (by omega), isFinite_decodeHt (by omega) hc0 hc, hlo, hhi, heven,
      fun heq => if_neg (fun h => hinexact.1 h heq), fun hne => if_pos (hinexact.2 hne)⟩

end Sys2Proof.Machine
end

section
/-! PROOFS. Conversions: the rounding into an integer, and the table of R47 (R38, R39, R47). -/

open Sys2Proof.Claims

namespace Sys2Proof.Machine

/-! ### Rounding into an integer -/

/-- What rounds to nearest lies no further than any other integer. -/
theorem nearest_of_roundedTo {c : Nat} {y : Rat} (h : roundedTo false c y) (m : Int) :
    |(c : Rat) - y| ≤ |(m : Rat) - y| ∧ (|(c : Rat) - y| = |(m : Rat) - y| → m = c ∨ c % 2 = 0) := by
  obtain ⟨hlow, hhigh, heven⟩ := h
  have hhalf : |(c : Rat) - y| ≤ 1 / 2 := abs_le.2 ⟨by linarith, by linarith⟩
  rcases lt_trichotomy m c with hm | rfl | hm
  · have hmc : (m : Rat) + 1 ≤ c := by exact_mod_cast hm
    have habs : |(m : Rat) - y| = y - m := by rw [abs_of_nonpos (by linarith), neg_sub]
    rw [habs]
    exact ⟨by linarith, fun heq => .inr (heven (.inl (by linarith)))⟩
  · exact ⟨le_refl _, fun _ => .inl rfl⟩
  · have hmc : (c : Rat) + 1 ≤ m := by exact_mod_cast hm
    have habs : |(m : Rat) - y| = m - y := abs_of_nonneg (by linarith)
    rw [habs]
    exact ⟨by linarith, fun heq => .inr (heven (.inr (by linarith)))⟩

/-- An integer with the sign of a value. -/
def signedInt (neg : Bool) (c : Nat) : Int := if neg then -(c : Int) else c

/-- A rounded magnitude with the sign of its value. -/
theorem signedInt_rounds {rz neg : Bool} {mag c : Nat} {exp : Int} (h : roundedTo rz c (magQ mag exp)) :
    (rz = false → ∀ m : Int, |(signedInt neg c : Rat) - ratOf neg mag exp| ≤ |(m : Rat) - ratOf neg mag exp| ∧
      (|(signedInt neg c : Rat) - ratOf neg mag exp| = |(m : Rat) - ratOf neg mag exp| → m = signedInt neg c ∨ signedInt neg c % 2 = 0)) ∧
    (rz = true → |(signedInt neg c : Rat)| ≤ |ratOf neg mag exp| ∧ |ratOf neg mag exp| < |(signedInt neg c : Rat)| + 1 ∧
      0 ≤ (signedInt neg c : Rat) * ratOf neg mag exp) := by
  have hmag := magQ_nonneg mag exp
  have hc : (0 : Rat) ≤ c := Nat.cast_nonneg c
  rw [abs_ratOf, ratOf_eq, signedInt]
  refine ⟨?_, ?_⟩
  · rintro rfl m
    cases neg with
    | false =>
      obtain ⟨hle, heven⟩ := nearest_of_roundedTo h m
      simp only [Bool.false_eq_true, if_false, Int.cast_natCast]
      exact ⟨hle, fun heq => (heven heq).imp id (fun he => by omega)⟩
    | true =>
      obtain ⟨hle, heven⟩ := nearest_of_roundedTo h (-m)
      have hflip : ∀ a : Rat, |-a - -magQ mag exp| = |a - magQ mag exp| := fun a => by rw [neg_sub_neg, abs_sub_comm]
      have hm : |(m : Rat) - -magQ mag exp| = |((-m : Int) : Rat) - magQ mag exp| := by
        rw [← hflip]
        push_cast
        rw [neg_neg]
      simp only [if_true, Int.cast_neg, Int.cast_natCast, hflip, hm] at hle heven ⊢
      exact ⟨hle, fun heq => (heven heq).imp (fun he => by omega) (fun he => by omega)⟩
  · rintro rfl
    obtain ⟨hlow, hhigh⟩ := h
    have hprod := mul_nonneg hc hmag
    cases neg with
    | false =>
      simp only [Bool.false_eq_true, if_false, Int.cast_natCast, abs_of_nonneg hc]
      exact ⟨hlow, hhigh, hprod⟩
    | true =>
      simp only [if_true, Int.cast_neg, Int.cast_natCast, abs_neg, abs_of_nonneg hc]
      exact ⟨hlow, hhigh, by linarith⟩

theorem signedInt_eq_ratOf {neg : Bool} {mag c : Nat} {exp : Int} :
    (signedInt neg c : Rat) = ratOf neg mag exp ↔ (c : Rat) = magQ mag exp := by
  rw [ratOf_eq, signedInt]
  cases neg <;> simp

theorem toInt_fin (rz : Bool) (lo hi : Int) (neg : Bool) (mag : Nat) (exp : Int) :
    let r := roundAt rz mag exp 0
    let n := signedInt neg r.1
    toInt rz lo hi (.fin neg mag exp) = if n < lo then { val := lo, flags := flagNV } else if n > hi then { val := hi, flags := flagNV }
      else { val := n, flags := if r.2 then flagNX else 0 } := rfl

/-- The rounding into an integer format. -/
theorem toInt_roundsInt {w : Nat} (rz : Bool) {lo hi : Int} (hlohi : lo ≤ hi) (neg : Bool) (mag : Nat) (exp : Int) :
    let r := toInt rz lo hi (.fin neg mag exp)
    roundsInt w rz lo hi (ratOf neg mag exp) { val := (BitVec.ofInt w r.val).setWidth 32, flags := r.flags } := by
  obtain ⟨hround, hinexact⟩ := roundAt_spec rz mag exp 0
  rw [sub_zero] at hround hinexact
  obtain ⟨hnear, hzero⟩ := signedInt_rounds (neg := neg) hround
  have hexact := signedInt_eq_ratOf (neg := neg) (mag := mag) (c := (roundAt rz mag exp 0).1) (exp := exp)
  rw [toInt_fin]
  dsimp only
  refine ⟨signedInt neg (roundAt rz mag exp 0).1, hnear, hzero, ?_, ?_⟩
  · by_cases hlow : signedInt neg (roundAt rz mag exp 0).1 < lo
    · rw [if_pos hlow, min_eq_right (by omega), max_eq_left hlow.le]
    · by_cases hhigh : signedInt neg (roundAt rz mag exp 0).1 > hi
      · rw [if_neg hlow, if_pos hhigh, min_eq_left hhigh.le, max_eq_right hlohi]
      · rw [if_neg hlow, if_neg hhigh, min_eq_right (not_lt.1 hhigh), max_eq_right (not_lt.1 hlow)]
  · by_cases hlow : signedInt neg (roundAt rz mag exp 0).1 < lo
    · rw [if_pos hlow, if_pos (.inl hlow)]
    · by_cases hhigh : signedInt neg (roundAt rz mag exp 0).1 > hi
      · rw [if_neg hlow, if_pos hhigh, if_pos (.inr hhigh)]
      · rw [if_neg hlow, if_neg hhigh, if_neg (not_or.2 ⟨hlow, hhigh⟩)]
        by_cases heq : (signedInt neg (roundAt rz mag exp 0).1 : Rat) = ratOf neg mag exp
        · rw [if_pos heq]
          exact if_neg (fun h => hinexact.1 h (hexact.1 heq))
        · rw [if_neg heq]
          exact if_pos (hinexact.2 (mt hexact.2 heq))

/-! ### The table of conversions -/

/-- A magnitude rounded into every floating format. -/
theorem convertTo_rounds (rz neg : Bool) {mag : Nat} (hm : 0 < mag) (exp : Int) :
    let x := fun (f : BitVec 4) => convertTo f rz (.fin neg mag exp)
    let v := ratOf false mag exp
    roundsTo binF32 rz (if rz then 0x7F7FFFFF else 0x7F800000) neg v (x 1) ∧
      roundsTo binBf16 rz (if rz then 0x7F7F else 0x7F80) neg v (x 2) ∧
      roundsTo binE4m3 rz 0x7E neg v (x 6) ∧ roundsTo binE5m2 rz 0x7B neg v (x 7) ∧ roundsTo binE2m1 rz 0x7 neg v (x 8) ∧
      roundsHt 8 neg v (x 9) ∧ roundsHt 6 neg v (x 10) := by
  have hht : ∀ n, toHt n (.fin neg mag exp) = roundHt n neg mag exp := by
    obtain ⟨m, rfl⟩ := Nat.exists_eq_add_of_lt hm
    exact fun _ => rfl
  have h8 : convertTo 9 rz (.fin neg mag exp) =
      let r := roundHt 8 neg mag exp
      { val := r.val.setWidth 32, flags := r.flags } := by
    rw [← hht]
    rfl
  have h6 : convertTo 10 rz (.fin neg mag exp) =
      let r := roundHt 6 neg mag exp
      { val := r.val.setWidth 32, flags := r.flags } := by
    rw [← hht]
    rfl
  dsimp only
  rw [ratOf_false, h8, h6]
  exact ⟨roundFin_roundsTo (by decide) rz _ neg hm exp, roundFin_roundsTo (by decide) rz _ neg hm exp,
    roundFin_roundsTo (by decide) rz _ neg hm exp, roundFin_roundsTo (by decide) rz _ neg hm exp,
    roundFin_roundsTo (by decide) rz _ neg hm exp, roundHt_roundsHt (.inl rfl) neg hm exp, roundHt_roundsHt (.inr rfl) neg hm exp⟩

theorem convertTo_i32 (rz neg : Bool) (mag : Nat) (exp : Int) :
    roundsInt 32 rz (-0x80000000) 0x7FFFFFFF (ratOf neg mag exp) (convertTo 3 rz (.fin neg mag exp)) := by
  have h : roundsInt _ _ _ _ _ _ := toInt_roundsInt (w := 32) rz (lo := -0x80000000) (hi := 0x7FFFFFFF) (by decide) neg mag exp
  rwa [BitVec.setWidth_eq] at h

theorem conversionsRoundAndSettle : ConversionsRoundAndSettle := by
  intro rz neg mag exp
  refine ⟨fun hm => convertTo_rounds rz neg hm exp, convertTo_i32 rz neg mag exp,
    toInt_roundsInt rz (lo := -128) (hi := 127) (by decide) neg mag exp,
    toInt_roundsInt rz (lo := 0) (hi := 255) (by decide) neg mag exp, ?_, ?_, ?_⟩
  · cases neg <;> exact ⟨rfl, rfl, rfl, rfl, rfl, rfl, rfl⟩
  · exact ⟨rfl, rfl, rfl, rfl, rfl, rfl, rfl, rfl, rfl, rfl⟩
  · cases neg <;> exact ⟨rfl, rfl, rfl, rfl, rfl, rfl, rfl, rfl, rfl, rfl⟩

end Sys2Proof.Machine
end

section
/-! PROOFS. Square roots, reciprocals and reciprocal square roots of f32 codes: a result truncated with a sticky bit rounds as the
exact one (R48). -/

open Sys2Proof.Claims

namespace Sys2Proof.Machine

/-! ### The points that decide a rounding into f32 -/

theorem two_zpow_pred (q : Int) : (2 : Rat) ^ q = 2 * 2 ^ (q - 1) := by
  rw [← zpow_one_add₀ (by norm_num), add_sub_cancel]

/-- The point half way between a code and the next, by the code's parts. -/
theorem midQ_eq (f : BinFmt) {e d : Nat} (hd : d < 2 * 2 ^ (f.prec - 1)) (he : e = 0 ∨ 2 ^ (f.prec - 1) ≤ d) :
    midQ f (e * 2 ^ (f.prec - 1) + d) = magQ (2 * d + 1) (e + (f.emin - (f.prec - 1 : Nat)) - 1) := by
  rw [midQ, codeQ_eq f e d hd.le he, Nat.add_assoc, codeQ_eq f e (d + 1) hd (by omega)]
  generalize (e : Int) + (f.emin - (f.prec - 1 : Nat)) = q
  rw [magQ, magQ, magQ, two_zpow_pred q]
  push_cast
  ring

/-- The parts of a point half way between two f32 codes. -/
theorem midQ_binF32 (c : Nat) : ∃ d s, midQ binF32 c = magQ (2 * d + 1) s ∧ d < 2 ^ 24 ∧ (s = -150 ∨ 2 ^ 23 ≤ d) ∧ (0 < c → 0 < d) := by
  obtain ⟨e, d, rfl, hd, he⟩ := exists_codeParts binF32 c
  refine ⟨d, _, midQ_eq binF32 hd he, hd, ?_, ?_⟩
  · rcases he with rfl | he
    · exact .inl (by decide)
    · exact .inr he
  · intro hc
    simp only [binF32] at he hc
    rcases he with rfl | he <;> omega

/-- A point that decides has a significand of few bits. -/
theorem decisive_binF32 {p : Rat} (h : decisive binF32 p) : ∃ d s, p = magQ d s ∧ d ≤ 2 ^ 25 := by
  rcases h with ⟨c, rfl⟩ | ⟨c, rfl⟩ | rfl
  · obtain ⟨e, d, rfl, hd, he⟩ := exists_codeParts binF32 c
    refine ⟨d, _, codeQ_eq binF32 e d hd.le he, ?_⟩
    simp only [binF32] at hd
    omega
  · obtain ⟨d, s, hq, hd, -⟩ := midQ_binF32 c
    exact ⟨_, s, hq, by omega⟩
  · refine ⟨2 ^ 25 - 1, -151, ?_, by omega⟩
    have hemin : (2 : Rat) ^ (-126 : Int) = 2 ^ 25 * 2 ^ (-151 : Int) := by
      rw [← zpow_natCast, ← two_zpow_add]
      norm_num
    simp only [tinyBound, binF32, magQ, Bool.false_eq_true, if_false]
    rw [hemin, show (-126 - ((24 : Nat) : Int) - 1 : Int) = -151 by norm_num, Nat.cast_sub (by norm_num)]
    push_cast
    ring

/-! ### A truncated result with a sticky bit -/

/-- A magnitude that lies to every deciding point as a target lies to its image. -/
def ordersAs (φ : Rat → Rat) (x t : Rat) : Prop := ∀ p, decisive binF32 p → (p ≤ x ↔ φ p ≤ t) ∧ (x ≤ p ↔ t ≤ φ p)

theorem magQ_sticky (n : Nat) (cut : Bool) (g : Int) :
    magQ (sticky n cut) (g - 1) = magQ n g + (if cut then 2 ^ (g - 1) else 0) := by
  rw [magQ, magQ, two_zpow_pred g, sticky]
  cases cut
  · push_cast
    simp
    ring
  · push_cast
    simp
    ring

/-- A deciding point lies below a truncated result of more than 24 bits, or is a multiple of its last place. -/
theorem decisive_grid {p : Rat} (h : decisive binF32 p) {n : Nat} (hn : 2 ^ 24 < n) (g : Int) :
    0 ≤ p ∧ (p < magQ n g ∨ ∃ k : Nat, p = magQ k g) := by
  obtain ⟨d, s, rfl, hd⟩ := decisive_binF32 h
  refine ⟨magQ_nonneg d s, ?_⟩
  rcases lt_or_ge s g with hs | hs
  · left
    have hle : magQ d s ≤ magQ (2 ^ 25) s := magQ_le_magQ.2 hd
    have hup : magQ (2 ^ 25) s ≤ magQ (2 ^ 24) g := by
      rw [magQ_two_pow, magQ_two_pow]
      exact zpow_le_zpow_right₀ (by norm_num) (by push_cast; omega)
    exact (hle.trans hup).trans_lt (magQ_lt_magQ.2 hn)
  · right
    refine ⟨d * 2 ^ (s - g).toNat, ?_⟩
    rw [magQ_shift]
    congr 1
    omega

/-- A result truncated on a fine grid, with a sticky bit for what was cut off, lies to the deciding points as the exact one. -/
theorem sticky_ordersAs {φ : Rat → Rat} (hφ : ∀ a b, 0 ≤ a → a < b → φ a < φ b) {n : Nat} (hn : 2 ^ 24 < n) {g : Int} {cut : Bool} {t : Rat}
    (hlow : φ (magQ n g) ≤ t) (hhigh : t < φ (magQ (n + 1) g)) (hcut : cut = false ↔ φ (magQ n g) = t) :
    ordersAs φ (magQ (sticky n cut) (g - 1)) t := by
  intro p hp
  obtain ⟨hp0, hgrid⟩ := decisive_grid hp hn g
  have hhalf := two_zpow_pos (g - 1)
  have hx : magQ n g ≤ magQ (sticky n cut) (g - 1) := by
    rw [magQ_sticky]
    split <;> linarith
  have hbelow : p < magQ n g → (p ≤ magQ (sticky n cut) (g - 1) ↔ φ p ≤ t) ∧ (magQ (sticky n cut) (g - 1) ≤ p ↔ t ≤ φ p) := by
    intro h
    have := hφ p _ hp0 h
    exact ⟨⟨fun _ => by linarith, fun _ => by linarith⟩, ⟨fun _ => by linarith, fun _ => by linarith⟩⟩
  rcases hgrid with h | ⟨k, rfl⟩
  · exact hbelow h
  · rcases Nat.lt_trichotomy k n with hk | rfl | hk
    · exact hbelow (magQ_lt_magQ.2 hk)
    · refine ⟨⟨fun _ => hlow, fun _ => hx⟩, ?_⟩
      cases cut with
      | false =>
        have heq := hcut.1 rfl
        rw [magQ_sticky]
        exact ⟨fun _ => heq.ge, fun _ => by simp⟩
      | true =>
        have hne : φ (magQ k g) ≠ t := fun h => absurd (hcut.2 h) (by simp)
        rw [magQ_sticky, if_pos rfl]
        exact ⟨fun h => by linarith, fun h => absurd (le_antisymm hlow h) hne⟩
    · have hkx : magQ (sticky n cut) (g - 1) < magQ (n + 1) g := by
        have hone : magQ (n + 1) g = magQ n g + 2 * 2 ^ (g - 1) := by
          rw [← two_zpow_pred, magQ, magQ]
          push_cast
          ring
        rw [hone, magQ_sticky]
        split <;> linarith
      have hle : magQ (n + 1) g ≤ magQ k g := magQ_le_magQ.2 hk
      have hφle : φ (magQ (n + 1) g) ≤ φ (magQ k g) := by
        rcases hle.lt_or_eq with h | h
        · exact (hφ _ _ (magQ_nonneg _ _) h).le
        · rw [h]
      exact ⟨⟨fun _ => by linarith, fun _ => by linarith⟩, ⟨fun _ => by linarith, fun _ => by linarith⟩⟩

/-- A rounding whose result is named by the images of the points around it. -/
theorem roundsTo_ordersAs {φ : Rat → Rat} {x t : Rat} {r : Res W32} (ho : ordersAs φ x t) (hr : roundsTo binF32 false 0x7F800000 false x r)
    (hmid : ∀ c, 0 < c → φ (midQ binF32 c) ≠ t) (hzero : φ (midQ binF32 0) < t) (htop : t < φ (midQ binF32 0x7F7FFFFF))
    (htiny : φ (tinyBound binF32 false) ≤ t) :
    ∃ c, 0 < c ∧ c < 0x7F800000 ∧ r.val = BitVec.ofNat 32 c ∧ φ (midQ binF32 (c - 1)) < t ∧ t < φ (midQ binF32 c) ∧
      r.flags = if φ (codeQ binF32 c) = t then 0 else flagNX := by
  obtain ⟨c, hnear, -, hval, -, hflags⟩ := hr
  obtain ⟨hlow, hhigh, -⟩ := nearestCode_of_nearest (hnear rfl)
  have hmidO := fun c => ho (midQ binF32 c) (.inr (.inl ⟨c, rfl⟩))
  have hle : t ≤ φ (midQ binF32 c) := (hmidO c).2.1 hhigh
  have hc0 : 0 < c := by
    rcases Nat.eq_zero_or_pos c with rfl | h
    · linarith
    · exact h
  have hmidmono : ∀ a b, a ≤ b → midQ binF32 a ≤ midQ binF32 b := by
    intro a b hab
    have h1 := (codeQ_strictMono binF32).monotone hab
    have h2 := (codeQ_strictMono binF32).monotone (Nat.succ_le_succ hab)
    unfold midQ
    linarith
  have hmax : c ≤ 0x7F7FFFFF := by
    by_contra hc
    have hle' := (hlow (c - 1) (by omega)).1
    have := (hmidO 0x7F7FFFFF).1.1 ((hmidmono _ _ (by omega)).trans hle')
    linarith
  have hge : φ (midQ binF32 (c - 1)) ≤ t := (hmidO (c - 1)).1.1 (hlow (c - 1) (by omega)).1
  have hcode : codeQ binF32 c = x ↔ φ (codeQ binF32 c) = t := by
    obtain ⟨h1, h2⟩ := ho (codeQ binF32 c) (.inl ⟨c, rfl⟩)
    rw [le_antisymm_iff, le_antisymm_iff, h1, h2]
  have hnormal : ¬ x < tinyBound binF32 false := by
    rw [not_lt, (ho _ (.inr (.inr rfl))).1]
    exact htiny
  obtain ⟨hexact, -, hinexact⟩ := hflags hmax
  refine ⟨c, hc0, by omega, ?_, lt_of_le_of_ne hge ?_, lt_of_le_of_ne hle (hmid c hc0).symm, ?_⟩
  · rw [hval, if_pos (show c ≤ binF32.maxCode from hmax)]
    rfl
  · rcases Nat.eq_zero_or_pos (c - 1) with h | h
    · rw [h]
      exact hzero.ne
    · exact hmid _ h
  · by_cases h : codeQ binF32 c = x
    · rw [hexact h, if_pos (hcode.1 h)]
    · rw [hinexact h hnormal, if_neg (mt hcode.2 h)]

/-! ### The integer square root -/

theorem isqrtFrom_spec (n : Nat) : ∀ i r, r * r ≤ n → n < (r + 2 ^ i) * (r + 2 ^ i) →
    isqrtFrom n i r * isqrtFrom n i r ≤ n ∧ n < (isqrtFrom n i r + 1) * (isqrtFrom n i r + 1)
  | 0, r, hlow, hhigh => ⟨hlow, hhigh⟩
  | i + 1, r, hlow, hhigh => by
    have hpow : r + 2 ^ (i + 1) = r + 2 ^ i + 2 ^ i := by ring
    rw [isqrtFrom]
    split
    · rename_i h
      exact isqrtFrom_spec n i _ h (hpow ▸ hhigh)
    · rename_i h
      exact isqrtFrom_spec n i _ hlow (not_le.1 h)

theorem isqrt_spec {n : Nat} (h : n < 2 ^ 128) : isqrt n * isqrt n ≤ n ∧ n < (isqrt n + 1) * (isqrt n + 1) :=
  isqrtFrom_spec n 64 0 (by omega) (by simpa using h)

/-- A square root has half the bits. -/
theorem le_isqrt {n b : Nat} (h : n < 2 ^ 128) (hb : b * b ≤ n) : b ≤ isqrt n := by
  by_contra hc
  have := Nat.mul_le_mul (show isqrt n + 1 ≤ b by omega) (show isqrt n + 1 ≤ b by omega)
  have := (isqrt_spec h).2
  omega

end Sys2Proof.Machine
end

section
/-! PROOFS. The five functions of f32 codes: roots and reciprocals rounded to nearest, exact powers and logarithms, and the special
cases (R48). -/

open Sys2Proof.Claims

namespace Sys2Proof.Machine

/-! ### Products and squares of magnitudes -/

theorem magQ_mul (a b : Nat) (s t : Int) : magQ a s * magQ b t = magQ (a * b) (s + t) := by
  rw [magQ, magQ, magQ, two_zpow_add]
  push_cast
  ring

theorem magQ_sq (a : Nat) (s : Int) : magQ a s ^ 2 = magQ (a * a) (2 * s) := by
  rw [sq, magQ_mul, two_mul]

theorem magQ_one (k : Nat) : magQ (2 ^ k) (-k) = 1 := by
  rw [magQ_two_pow, neg_add_cancel, zpow_zero]

/-- Equal magnitudes with one place not below the other. -/
theorem eq_mul_of_magQ_eq {a b : Nat} {s t : Int} (h : magQ a s = magQ b t) (hst : s ≤ t) : a = b * 2 ^ (t - s).toNat := by
  have hb : magQ b t = magQ (b * 2 ^ (t - s).toNat) s := by
    rw [magQ_shift]
    congr 1
    omega
  rw [hb] at h
  exact le_antisymm (magQ_le_magQ.1 h.le) (magQ_le_magQ.1 h.ge)

/-- The square of a point half way between two codes is no f32 value: its significand is odd and too long. -/
theorem midQ_sq_ne {m : Nat} {e : Int} (hm : m < 2 ^ 24) (he : -149 ≤ e) (c : Nat) : midQ binF32 c ^ 2 ≠ magQ m e := by
  obtain ⟨d, s, hq, -, hs, -⟩ := midQ_binF32 c
  rw [hq, magQ_sq]
  intro h
  rcases lt_or_ge (2 * s) e with hlt | hge
  · have heq := eq_mul_of_magQ_eq h hlt.le
    obtain ⟨j, hj⟩ : ∃ j, (e - 2 * s).toNat = j + 1 := ⟨(e - 2 * s).toNat - 1, by omega⟩
    rw [hj, pow_succ, ← mul_assoc] at heq
    have hodd : (2 * d + 1) * (2 * d + 1) % 2 = 1 := by simp [Nat.mul_mod]
    omega
  · have heq := eq_mul_of_magQ_eq h.symm hge
    have hd : 2 ^ 23 ≤ d := by omega
    have hsq : 2 ^ 24 * 2 ^ 24 ≤ (2 * d + 1) * (2 * d + 1) := Nat.mul_le_mul (by omega) (by omega)
    have hle := Nat.le_mul_of_pos_right ((2 * d + 1) * (2 * d + 1)) (Nat.two_pow_pos (2 * s - e).toNat)
    omega

/-- An odd number above 1 divides no power of two. -/
theorem odd_not_dvd_two_pow {d k : Nat} (hd : 0 < d) : ¬ 2 * d + 1 ∣ 2 ^ k := by
  intro h
  obtain ⟨i, -, hi⟩ := (Nat.dvd_prime_pow Nat.prime_two).1 h
  cases i with
  | zero => simp at hi; omega
  | succ i =>
    rw [pow_succ] at hi
    omega

theorem midQ_sq_mul_ne {m : Nat} {e : Int} {c : Nat} (hc : 0 < c) : midQ binF32 c ^ 2 * magQ m e ≠ 1 := by
  obtain ⟨d, s, hq, -, -, hd⟩ := midQ_binF32 c
  rw [hq, magQ_sq, magQ_mul, show (1 : Rat) = magQ 1 0 by simp [magQ]]
  intro h
  have hdvd : 2 * d + 1 ∣ (2 * d + 1) * (2 * d + 1) * m := Dvd.intro _ (mul_assoc _ _ _).symm
  rcases le_total (2 * s + e) 0 with hle | hge
  · have heq := eq_mul_of_magQ_eq h hle
    rw [heq, one_mul] at hdvd
    exact odd_not_dvd_two_pow (hd hc) hdvd
  · have heq := eq_mul_of_magQ_eq h.symm hge
    have hdvd' : 2 * d + 1 ∣ 2 ^ 0 := by
      rw [pow_zero]
      exact (hdvd.mul_right _).trans (dvd_of_eq heq.symm)
    exact odd_not_dvd_two_pow (hd hc) hdvd'

/-! ### Truncated roots and reciprocals -/

theorem sq_strictMono (a b : Rat) (ha : 0 ≤ a) (hab : a < b) : a ^ 2 < b ^ 2 := pow_lt_pow_left₀ hab ha (by norm_num)

/-- The square root's radicand on an even place. -/
theorem sqrtNum_eq {mag : Nat} (hm : 0 < mag) (hbits : mag < 2 ^ 24) (exp : Int) : ∃ n g, magQ n (2 * g) = magQ mag exp ∧
    2 ^ 56 ≤ n ∧ n < 2 ^ 128 ∧ sqrtNum mag exp = .fin false (sticky (isqrt n) (isqrt n * isqrt n != n)) (g - 1) := by
  have hlog : mag.log2 < 24 := (Nat.log2_lt hm.ne').2 hbits
  have hsh : ∃ sh : Nat, (if (exp - (56 - (mag.log2 : Int))) % 2 == 0 then 56 - (mag.log2 : Int) else 56 - (mag.log2 : Int) + 1) = sh ∧
      (exp - sh) % 2 = 0 ∧ 56 - mag.log2 ≤ sh ∧ sh ≤ 57 := by
    split
    · rename_i h
      exact ⟨56 - mag.log2, by omega, by simp at h; omega, by omega, by omega⟩
    · rename_i h
      exact ⟨57 - mag.log2, by omega, by simp at h; omega, by omega, by omega⟩
  obtain ⟨sh, hsheq, heven, hsh0, hsh1⟩ := hsh
  refine ⟨mag * 2 ^ sh, (exp - sh) / 2, ?_, ?_, ?_, ?_⟩
  · rw [magQ_shift]
    congr 1
    omega
  · calc 2 ^ 56 ≤ 2 ^ (mag.log2 + sh) := Nat.pow_le_pow_right (by norm_num) (by omega)
      _ = 2 ^ mag.log2 * 2 ^ sh := pow_add _ _ _
      _ ≤ mag * 2 ^ sh := Nat.mul_le_mul_right _ (Nat.log2_self_le hm.ne')
  · calc mag * 2 ^ sh < 2 ^ 24 * 2 ^ sh := Nat.mul_lt_mul_of_pos_right hbits (Nat.two_pow_pos sh)
      _ ≤ 2 ^ 24 * 2 ^ 57 := Nat.mul_le_mul_left _ (Nat.pow_le_pow_right (by norm_num) hsh1)
      _ < 2 ^ 128 := by norm_num
  · unfold sqrtNum
    dsimp only
    rw [hsheq, show pow2 (sh : Int) = 2 ^ sh by simp [pow2, Nat.one_shiftLeft]]

theorem sqrtNum_orders {mag : Nat} (hm : 0 < mag) (hbits : mag < 2 ^ 24) (exp : Int) : ∃ n g, 0 < n ∧ sqrtNum mag exp = .fin false n g ∧
    ordersAs (· ^ 2) (magQ n g) (magQ mag exp) := by
  obtain ⟨n, g, hval, hlow, hhigh, heq⟩ := sqrtNum_eq hm hbits exp
  obtain ⟨hroot, hroot'⟩ := isqrt_spec hhigh
  have hbig : 2 ^ 28 ≤ isqrt n := le_isqrt hhigh (by omega)
  refine ⟨_, _, by unfold sticky; omega, heq, sticky_ordersAs sq_strictMono (by omega) ?_ ?_ ?_⟩
  · rw [magQ_sq, ← hval]
    exact magQ_le_magQ.2 hroot
  · rw [magQ_sq, ← hval]
    exact magQ_lt_magQ.2 hroot'
  · rw [magQ_sq, ← hval, bne_eq_false_iff_eq]
    exact ⟨fun h => by rw [h], fun h => le_antisymm (magQ_le_magQ.1 h.le) (magQ_le_magQ.1 h.ge)⟩

/-- The comparison with 1 of a quotient on the place of its power of two. -/
theorem magQ_one_iff (a k : Nat) : (magQ a (-k) ≤ 1 ↔ a ≤ 2 ^ k) ∧ (1 < magQ a (-k) ↔ 2 ^ k < a) ∧ (magQ a (-k) = 1 ↔ a = 2 ^ k) := by
  rw [← magQ_one k]
  exact ⟨magQ_le_magQ, magQ_lt_magQ, ⟨fun h => le_antisymm (magQ_le_magQ.1 h.le) (magQ_le_magQ.1 h.ge), fun h => by rw [h]⟩⟩

theorem rcpNum_orders (neg : Bool) {mag : Nat} (hm : 0 < mag) (exp : Int) : ∃ n g, 0 < n ∧ rcpNum neg mag exp = .fin neg n g ∧
    ordersAs (· * magQ mag exp) (magQ n g) 1 := by
  have hk : ∃ k, k = 40 + 2 * mag.log2 := ⟨_, rfl⟩
  obtain ⟨k, hk⟩ := hk
  have hpos := magQ_pos (exp := exp) hm
  have hbig : 2 ^ 39 ≤ 2 ^ k / mag := by
    rw [Nat.le_div_iff_mul_le hm]
    calc 2 ^ 39 * mag ≤ 2 ^ 39 * 2 ^ (mag.log2 + 1) := Nat.mul_le_mul_left _ Nat.lt_log2_self.le
      _ = 2 ^ (39 + (mag.log2 + 1)) := (pow_add _ _ _).symm
      _ ≤ 2 ^ k := Nat.pow_le_pow_right (by norm_num) (by omega)
  have hdm := Nat.div_add_mod' (2 ^ k) mag
  have hmod := Nat.mod_lt (2 ^ k) hm
  have hprod : ∀ a, magQ a (-exp - k) * magQ mag exp = magQ (a * mag) (-k) := by
    intro a
    rw [magQ_mul]
    congr 1
    ring
  have heq : rcpNum neg mag exp = .fin neg (sticky (2 ^ k / mag) (2 ^ k % mag != 0)) (-exp - k - 1) := by
    rw [hk]
    rfl
  refine ⟨_, _, by unfold sticky; omega, heq, sticky_ordersAs (fun a b _ hab => mul_lt_mul_of_pos_right hab hpos) (by omega) ?_ ?_ ?_⟩
  · rw [hprod, (magQ_one_iff _ k).1]
    omega
  · rw [hprod, (magQ_one_iff _ k).2.1, Nat.add_mul, Nat.one_mul]
    omega
  · rw [hprod, (magQ_one_iff _ k).2.2, bne_eq_false_iff_eq]
    omega

/-- The reciprocal square root's quotient on an even place. -/
theorem rsqNum_eq (mag : Nat) (exp : Int) : ∃ (k : Nat) (g : Int), 2 * g + exp = -k ∧ 60 + mag.log2 ≤ k ∧ k ≤ 61 + mag.log2 ∧
    rsqNum mag exp = .fin false (sticky (isqrt (2 ^ k / mag))
      (isqrt (2 ^ k / mag) * isqrt (2 ^ k / mag) != 2 ^ k / mag || 2 ^ k % mag != 0)) (g - 1) := by
  have hk : ∃ k : Nat, (if (exp + (60 + (mag.log2 : Int))) % 2 == 0 then 60 + (mag.log2 : Int) else 60 + (mag.log2 : Int) + 1) = k ∧
      (exp + k) % 2 = 0 ∧ 60 + mag.log2 ≤ k ∧ k ≤ 61 + mag.log2 := by
    split
    · rename_i h
      exact ⟨60 + mag.log2, by omega, by simp at h; omega, by omega, by omega⟩
    · rename_i h
      exact ⟨61 + mag.log2, by omega, by simp at h; omega, by omega, by omega⟩
  obtain ⟨k, hkeq, heven, hk0, hk1⟩ := hk
  refine ⟨k, (-exp - k) / 2, by omega, hk0, hk1, ?_⟩
  unfold rsqNum
  dsimp only
  rw [hkeq, show pow2 (k : Int) = 2 ^ k by simp [pow2, Nat.one_shiftLeft]]

theorem rsqNum_orders {mag : Nat} (hm : 0 < mag) (exp : Int) : ∃ n g, 0 < n ∧ rsqNum mag exp = .fin false n g ∧
    ordersAs (fun p => p ^ 2 * magQ mag exp) (magQ n g) 1 := by
  obtain ⟨k, g, hplace, hk0, hk1, heq⟩ := rsqNum_eq mag exp
  have hpos := magQ_pos (exp := exp) hm
  have hq0 : 2 ^ 58 ≤ 2 ^ k / mag := by
    rw [Nat.le_div_iff_mul_le hm]
    calc 2 ^ 58 * mag ≤ 2 ^ 58 * 2 ^ (mag.log2 + 1) := Nat.mul_le_mul_left _ Nat.lt_log2_self.le
      _ = 2 ^ (58 + (mag.log2 + 1)) := (pow_add _ _ _).symm
      _ ≤ 2 ^ k := Nat.pow_le_pow_right (by norm_num) (by omega)
  have hq1 : 2 ^ k / mag < 2 ^ 128 := by
    rw [Nat.div_lt_iff_lt_mul hm]
    calc 2 ^ k ≤ 2 ^ (61 + mag.log2) := Nat.pow_le_pow_right (by norm_num) hk1
      _ = 2 ^ 61 * 2 ^ mag.log2 := pow_add _ _ _
      _ ≤ 2 ^ 61 * mag := Nat.mul_le_mul_left _ (Nat.log2_self_le hm.ne')
      _ < 2 ^ 128 * mag := Nat.mul_lt_mul_of_pos_right (by norm_num) hm
  have hdm := Nat.div_add_mod' (2 ^ k) mag
  have hmod := Nat.mod_lt (2 ^ k) hm
  obtain ⟨hroot, hroot'⟩ := isqrt_spec hq1
  have hbig : 2 ^ 29 ≤ isqrt (2 ^ k / mag) := le_isqrt hq1 (by omega)
  have hprod : ∀ a, magQ a g ^ 2 * magQ mag exp = magQ (a * a * mag) (-k) := by
    intro a
    rw [magQ_sq, magQ_mul, hplace]
  have hlow := Nat.mul_le_mul_right mag hroot
  have hhigh : (2 ^ k / mag + 1) * mag ≤ (isqrt (2 ^ k / mag) + 1) * (isqrt (2 ^ k / mag) + 1) * mag := Nat.mul_le_mul_right mag hroot'
  rw [Nat.add_mul, Nat.one_mul] at hhigh
  refine ⟨_, _, by unfold sticky; omega, heq, sticky_ordersAs
    (fun a b ha hab => mul_lt_mul_of_pos_right (sq_strictMono a b ha hab) hpos) (by omega) ?_ ?_ ?_⟩
  · rw [hprod, (magQ_one_iff _ k).1]
    omega
  · rw [hprod, (magQ_one_iff _ k).2.1]
    omega
  · rw [hprod, (magQ_one_iff _ k).2.2, Bool.or_eq_false_iff, bne_eq_false_iff_eq, bne_eq_false_iff_eq]
    constructor
    · rintro ⟨hsq, hz⟩
      rw [hsq]
      omega
    · intro h
      have hz : 2 ^ k % mag = 0 := by omega
      refine ⟨Nat.eq_of_mul_eq_mul_right hm ?_, hz⟩
      omega

end Sys2Proof.Machine
end

section
/-! PROOFS. The five functions of f32 codes, assembled (R48). -/

open Sys2Proof.Claims

namespace Sys2Proof.Machine

/-! ### Finite operands -/

theorem f32Q_sign {x : W32} : (0 < f32Q x → x.msb = false) ∧ (f32Q x < 0 → x.msb = true) := by
  have hc := codeQ_nonneg binF32 (x.toNat % 2 ^ 31)
  unfold f32Q
  cases x.msb
  · simp only [Bool.false_eq_true, if_false, one_mul, implies_true, true_and]
    intro h
    linarith
  · simp only [if_true, neg_one_mul, implies_true, and_true]
    intro h
    linarith

theorem abs_f32Q (x : W32) : |f32Q x| = codeQ binF32 (x.toNat % 2 ^ 31) := by
  have hc := codeQ_nonneg binF32 (x.toNat % 2 ^ 31)
  unfold f32Q
  split
  · rw [neg_one_mul, abs_neg, abs_of_nonneg hc]
  · rw [one_mul, abs_of_nonneg hc]

/-- A finite f32 value that is not zero, decoded. -/
theorem decodeF32_nonzero {x : W32} (h : f32Fin x) (hv : f32Q x ≠ 0) : ∃ mag exp, decodeF32 x = .fin x.msb mag exp ∧
    magQ mag exp = |f32Q x| ∧ 0 < mag ∧ mag < 2 ^ 24 ∧ -149 ≤ exp ∧ exp ≤ 106 := by
  obtain ⟨mag, exp, heq, hq, hbits, hlow, hhigh⟩ := decodeF32_fin h
  have habs : magQ mag exp = |f32Q x| := by rw [abs_f32Q, hq]
  refine ⟨mag, exp, heq, habs, Nat.pos_of_ne_zero (fun hm => ?_), hbits, hlow, hhigh⟩
  exact hv (abs_eq_zero.1 (habs ▸ magQ_eq_zero.2 hm))

/-- The range of a magnitude of f32. -/
theorem magQ_range {mag : Nat} {exp : Int} (hm : 0 < mag) (hbits : mag < 2 ^ 24) (hlow : -149 ≤ exp) (hhigh : exp ≤ 106) :
    2 ^ (-149 : Int) ≤ magQ mag exp ∧ magQ mag exp < 2 ^ (130 : Int) := by
  have h1 : magQ (2 ^ 0) exp ≤ magQ mag exp := magQ_le_magQ.2 hm
  have h2 : magQ mag exp < magQ (2 ^ 24) exp := magQ_lt_magQ.2 hbits
  rw [magQ_two_pow] at h1 h2
  have h3 : (2 : Rat) ^ (-149 : Int) ≤ 2 ^ (exp + (0 : Nat)) := zpow_le_zpow_right₀ (by norm_num) (by omega)
  have h4 : (2 : Rat) ^ (exp + (24 : Nat)) ≤ 2 ^ (130 : Int) := zpow_le_zpow_right₀ (by norm_num) (by omega)
  exact ⟨h3.trans h1, h2.trans_le h4⟩

theorem midQ_binF32_zero : midQ binF32 0 = 2 ^ (-150 : Int) := by
  have := midQ_eq binF32 (e := 0) (d := 0) (by decide) (.inl rfl)
  rw [Nat.zero_mul] at this
  rw [this, magQ]
  norm_num [binF32]

theorem midQ_binF32_top : 2 ^ (127 : Int) ≤ midQ binF32 0x7F7FFFFF := by
  have := midQ_eq binF32 (e := 253) (d := 2 ^ 24 - 1) (by decide) (.inr (by decide))
  rw [show 253 * 2 ^ (binF32.prec - 1) + (2 ^ 24 - 1) = 0x7F7FFFFF by decide] at this
  rw [this, magQ]
  norm_num [binF32]

theorem tinyBound_binF32 : 0 ≤ tinyBound binF32 false ∧ tinyBound binF32 false ≤ 2 ^ (-126 : Int) :=
  ⟨(two_zpow_pos _).le.trans (le_tinyBound binF32 false), tinyBound_le binF32 false⟩

theorem rneF32_fin (neg : Bool) (mag : Nat) (exp : Int) : rneF32 (.fin neg mag exp) = roundFin binF32 false 0x7F800000 neg mag exp := rfl

/-! ### Roots and reciprocals -/

theorem sqrtF32_eq {x : W32} {mag : Nat} {exp : Int} (h : decodeF32 x = .fin false mag exp) (hm : 0 < mag) :
    sqrtF32 x = rneF32 (sqrtNum mag exp) := by
  simp [sqrtF32, h, hm.ne']

theorem rsqF32_eq {x : W32} {mag : Nat} {exp : Int} (h : decodeF32 x = .fin false mag exp) (hm : 0 < mag) :
    rsqF32 x = rneF32 (rsqNum mag exp) := by
  simp [rsqF32, h, hm.ne']

theorem rcpF32_eq {x : W32} {neg : Bool} {mag : Nat} {exp : Int} (h : decodeF32 x = .fin neg mag exp) (hm : 0 < mag) :
    rcpF32 x = rneF32 (rcpNum neg mag exp) := by
  simp [rcpF32, h, hm.ne']

theorem sqrtF32_rounds {x : W32} (hx : f32Fin x) (hv : 0 < f32Q x) : ∃ c, 0 < c ∧ c < 0x7F800000 ∧ (sqrtF32 x).val = BitVec.ofNat 32 c ∧
    midQ binF32 (c - 1) ^ 2 < f32Q x ∧ f32Q x < midQ binF32 c ^ 2 ∧
      (sqrtF32 x).flags = if codeQ binF32 c ^ 2 = f32Q x then 0 else flagNX := by
  obtain ⟨mag, exp, heq, hq, hm, hbits, hlow, hhigh⟩ := decodeF32_nonzero hx hv.ne'
  rw [f32Q_sign.1 hv] at heq
  rw [abs_of_pos hv] at hq
  obtain ⟨n, g, hn, hnum, horder⟩ := sqrtNum_orders hm hbits exp
  obtain ⟨hr0, hr1⟩ := magQ_range hm hbits hlow hhigh
  obtain ⟨ht0, ht1⟩ := tinyBound_binF32
  rw [sqrtF32_eq heq hm, hnum, rneF32_fin, ← hq]
  refine roundsTo_ordersAs horder (roundFin_roundsTo (by decide) false _ false hn g) (fun c _ => midQ_sq_ne hbits hlow c) ?_ ?_ ?_
  · calc midQ binF32 0 ^ 2 = (2 ^ (-150 : Int)) ^ 2 := by rw [midQ_binF32_zero]
      _ < 2 ^ (-149 : Int) := by norm_num
      _ ≤ magQ mag exp := hr0
  · calc magQ mag exp < 2 ^ (130 : Int) := hr1
      _ ≤ (2 ^ (127 : Int)) ^ 2 := by norm_num
      _ ≤ midQ binF32 0x7F7FFFFF ^ 2 := pow_le_pow_left₀ (by positivity) midQ_binF32_top 2
  · calc tinyBound binF32 false ^ 2 ≤ (2 ^ (-126 : Int)) ^ 2 := pow_le_pow_left₀ ht0 ht1 2
      _ ≤ 2 ^ (-149 : Int) := by norm_num
      _ ≤ magQ mag exp := hr0

theorem rsqF32_rounds {x : W32} (hx : f32Fin x) (hv : 0 < f32Q x) : ∃ c, 0 < c ∧ c < 0x7F800000 ∧ (rsqF32 x).val = BitVec.ofNat 32 c ∧
    midQ binF32 (c - 1) ^ 2 * f32Q x < 1 ∧ 1 < midQ binF32 c ^ 2 * f32Q x ∧
      (rsqF32 x).flags = if codeQ binF32 c ^ 2 * f32Q x = 1 then 0 else flagNX := by
  obtain ⟨mag, exp, heq, hq, hm, hbits, hlow, hhigh⟩ := decodeF32_nonzero hx hv.ne'
  rw [f32Q_sign.1 hv] at heq
  rw [abs_of_pos hv] at hq
  obtain ⟨n, g, hn, hnum, horder⟩ := rsqNum_orders hm exp
  obtain ⟨hr0, hr1⟩ := magQ_range hm hbits hlow hhigh
  obtain ⟨ht0, ht1⟩ := tinyBound_binF32
  have hpos := magQ_pos (exp := exp) hm
  rw [rsqF32_eq heq hm, hnum, rneF32_fin, ← hq]
  refine roundsTo_ordersAs horder (roundFin_roundsTo (by decide) false _ false hn g) (fun c hc => midQ_sq_mul_ne hc) ?_ ?_ ?_
  · calc midQ binF32 0 ^ 2 * magQ mag exp = (2 ^ (-150 : Int)) ^ 2 * magQ mag exp := by rw [midQ_binF32_zero]
      _ < (2 ^ (-150 : Int)) ^ 2 * 2 ^ (130 : Int) := mul_lt_mul_of_pos_left hr1 (by positivity)
      _ ≤ 1 := by norm_num
  · calc (1 : Rat) < (2 ^ (127 : Int)) ^ 2 * 2 ^ (-149 : Int) := by norm_num
      _ ≤ (2 ^ (127 : Int)) ^ 2 * magQ mag exp := mul_le_mul_of_nonneg_left hr0 (by positivity)
      _ ≤ midQ binF32 0x7F7FFFFF ^ 2 * magQ mag exp :=
        mul_le_mul_of_nonneg_right (pow_le_pow_left₀ (by positivity) midQ_binF32_top 2) hpos.le
  · calc tinyBound binF32 false ^ 2 * magQ mag exp ≤ (2 ^ (-126 : Int)) ^ 2 * magQ mag exp :=
        mul_le_mul_of_nonneg_right (pow_le_pow_left₀ ht0 ht1 2) hpos.le
      _ ≤ (2 ^ (-126 : Int)) ^ 2 * 2 ^ (130 : Int) := mul_le_mul_of_nonneg_left hr1.le (by positivity)
      _ ≤ 1 := by norm_num

theorem rcpF32_rounds {x : W32} (hx : f32Fin x) (hv : f32Q x ≠ 0) : roundsTo binF32 false 0x7F800000 x.msb (1 / |f32Q x|) (rcpF32 x) := by
  obtain ⟨mag, exp, heq, hq, hm, -⟩ := decodeF32_nonzero hx hv
  obtain ⟨n, g, hn, hnum, horder⟩ := rcpNum_orders x.msb hm exp
  have hpos := magQ_pos (exp := exp) hm
  rw [rcpF32_eq heq hm, hnum, rneF32_fin, ← hq]
  refine roundsTo_alike (fun p hp => ?_) (roundFin_roundsTo (by decide) false _ x.msb hn g)
  obtain ⟨hle, hge⟩ := horder p hp
  exact ⟨hle.trans (le_div_iff₀ hpos).symm, hge.trans (div_le_iff₀ hpos).symm⟩

/-! ### Exact results -/

/-- A magnitude of few bits, not below the smallest place, is the value of a code. -/
theorem exists_code {a : Nat} {s : Int} (hbits : a < 2 ^ 24) (hs : -149 ≤ s) (hlt : magQ a s < 2 ^ (128 : Int)) :
    ∃ c, c < 0x7F800000 ∧ codeQ binF32 c = magQ a s := by
  rcases Nat.eq_zero_or_pos a with rfl | ha
  · exact ⟨0, by decide, by rw [codeQ_zero, magQ_eq_zero.2 rfl]⟩
  · have hlog : a.log2 < 24 := (Nat.log2_lt ha.ne').2 hbits
    obtain ⟨-, -, hinexact⟩ := magCode_code (f := binF32) (by decide) true ha s
    have hfits : s ≥ max (topBit a s - (binF32.prec - 1 : Nat)) (binF32.emin - (binF32.prec - 1 : Nat)) := by
      simp only [binF32, topBit]
      omega
    have hex : (magCode binF32 true a s).2.2 = false := by
      unfold magCode
      dsimp only
      unfold roundAt
      rw [if_pos hfits]
    rw [hex] at hinexact
    have hcode : codeQ binF32 (magCode binF32 true a s).1 = magQ a s := by simpa using hinexact
    refine ⟨_, ?_, hcode⟩
    have htop : codeQ binF32 0x7F800000 = 2 ^ (128 : Int) := by
      have := codeQ_normal binF32 254 0 (by decide)
      rw [show (254 + 1) * 2 ^ (binF32.prec - 1) + 0 = 0x7F800000 by decide] at this
      rw [this, magQ]
      norm_num [binF32]
    rw [← htop, ← hcode] at hlt
    exact (codeQ_strictMono binF32).lt_iff_lt.1 hlt

/-- An f32 code of a sign and a magnitude code. -/
theorem withSign_parts (neg : Bool) {c : Nat} (hc : c < 2 ^ 31) :
    (withSign binF32 neg c).msb = neg ∧ (withSign binF32 neg c).toNat % 2 ^ 31 = c := by
  have hval : (withSign binF32 neg c).toNat = c + if neg then 2 ^ 31 else 0 := by
    rw [withSign, BitVec.toNat_ofNat, Nat.mod_eq_of_lt]
    · rfl
    · split
      · change c + 2 ^ 31 < 2 ^ 32
        omega
      · omega
  rw [msb_eq_decide, hval]
  cases neg
  · simp
    omega
  · simp
    omega

/-- A value that an f32 code has rounds to it, exactly. -/
theorem rneF32_exact (neg : Bool) {a : Nat} {s : Int} (hbits : a < 2 ^ 24) (hs : -149 ≤ s) (hlt : magQ a s < 2 ^ (128 : Int)) :
    let r := rneF32 (.fin neg a s)
    r.flags = 0 ∧ f32Fin r.val ∧ f32Q r.val = ratOf neg a s := by
  obtain ⟨c, hc, hq⟩ := exists_code hbits hs hlt
  obtain ⟨hsign, hmag⟩ := withSign_parts neg (c := c) (by omega)
  have hr : rneF32 (.fin neg a s) = { val := withSign binF32 neg c, flags := 0 } :=
    roundFin_exact (by decide) false _ neg hq (Nat.le_of_lt_succ hc)
  dsimp only
  rw [hr]
  refine ⟨rfl, ?_, ?_⟩
  · change (withSign binF32 neg c).toNat % 2 ^ 31 < 0x7F800000
    rw [hmag]
    exact hc
  · rw [f32Q, hsign, hmag, hq, ratOf_eq]
    split <;> simp

theorem log2F32_exact {x : W32} (hx : f32Fin x) (hv : 0 < f32Q x) {n : Int} (hn : f32Q x = 2 ^ n) :
    (log2F32 x).flags = 0 ∧ f32Fin (log2F32 x).val ∧ f32Q (log2F32 x).val = n := by
  obtain ⟨mag, exp, heq, hq, hm, hbits, hlow, hhigh⟩ := decodeF32_nonzero hx hv.ne'
  rw [f32Q_sign.1 hv] at heq
  rw [abs_of_pos hv, hn] at hq
  obtain ⟨htop, hpow⟩ := (topBit_pow_iff hm).2 hq
  have hlog : mag.log2 < 24 := (Nat.log2_lt hm.ne').2 hbits
  have hrange : n.natAbs < 2 ^ 8 := by
    unfold topBit at htop
    omega
  have hnum : log2Num mag exp = ofInt n := by
    unfold log2Num
    dsimp only
    rw [if_pos (beq_iff_eq.2 hpow), htop]
  have hr : log2F32 x = rneF32 (ofInt n) := by
    rw [← hnum]
    simp [log2F32, heq, hm.ne']
  have hlt : magQ n.natAbs 0 < 2 ^ (128 : Int) := by
    have : magQ n.natAbs 0 < magQ (2 ^ 8) 0 := magQ_lt_magQ.2 hrange
    rw [magQ_two_pow] at this
    exact this.trans (zpow_lt_zpow_right₀ (by norm_num) (by norm_num))
  have hval := rneF32_exact (decide (n < 0)) (by omega) (by decide) hlt
  rw [hr]
  rwa [ratOf_int _ n rfl, zpow_zero, mul_one] at hval

/-- The power of two of an integer, whatever magnitude and place give it. -/
theorem exp2Num_int {neg : Bool} {mag : Nat} {exp n : Int} (hexp : -149 ≤ exp) (hval : ratOf neg mag exp = n) (hlow : -149 ≤ n)
    (hhigh : n ≤ 127) : exp2Num neg mag exp = .fin false 1 n := by
  rcases Nat.eq_zero_or_pos mag with rfl | hm
  · have hn : (0 : Rat) = n := by rw [← hval, ratOf_eq_zero.2 rfl]
    have hn0 : n = 0 := by exact_mod_cast hn.symm
    rw [hn0]
    rfl
  · have hsigned : (((if neg then -1 else 1) * (mag : Int) : Int) : Rat) * 2 ^ exp = n := by
      rw [← hval, ratOf]
      push_cast
      rfl
    have htop : ¬ topBit mag exp ≥ 9 := by
      have habs : magQ mag exp = |(n : Rat)| := by rw [← hval, abs_ratOf]
      have hn : |(n : Rat)| < 2 ^ (9 : Int) := by
        have : |n| < 512 := by
          rw [abs_lt]
          omega
        have : |(n : Rat)| < 512 := by exact_mod_cast this
        norm_num
        exact this
      rw [ge_iff_le, not_le, topBit_lt_iff hm, habs]
      exact hn
    unfold exp2Num
    dsimp only
    rw [if_neg (by simpa using hm.ne'), if_neg htop]
    by_cases hpos : exp ≥ 0
    · have hint : (if neg then -1 else 1) * (mag : Int) * (pow2 exp : Nat) = n := by
        rw [← pow2_eq hpos] at hsigned
        exact_mod_cast hsigned
      rw [if_pos hpos, hint]
    · have hint : (if neg then -1 else 1) * (mag : Int) * (pow2 (exp + fixBits) : Nat) = n * (2 ^ fixBits : Nat) := by
        have hscaled : (((if neg then -1 else 1) * (mag : Int) : Int) : Rat) * (pow2 (exp + fixBits) : Nat) = n * (2 ^ fixBits : Nat) := by
          rw [pow2_eq (by unfold fixBits; omega), two_zpow_add, ← mul_assoc, hsigned, zpow_natCast]
          push_cast
          rfl
        exact_mod_cast hscaled
      have hone : ((2 ^ fixBits : Nat) : Int) ≠ 0 := by positivity
      rw [if_neg hpos, hint, Int.mul_emod_left, Int.mul_ediv_cancel _ hone]
      rfl

theorem exp2F32_exact {x : W32} (hx : f32Fin x) {n : Int} (hn : f32Q x = n) (hlow : -149 ≤ n) (hhigh : n ≤ 127) :
    (exp2F32 x).flags = 0 ∧ f32Fin (exp2F32 x).val ∧ f32Q (exp2F32 x).val = 2 ^ n := by
  obtain ⟨mag, exp, heq, hq, hbits, hexp, -⟩ := decodeF32_fin hx
  have hval : ratOf x.msb mag exp = n := by rw [← f32Q_of_decode hq, hn]
  have hnum := exp2Num_int hexp hval hlow hhigh
  have hr : exp2F32 x = rneF32 (.fin false 1 n) := by
    rw [← hnum]
    simp [exp2F32, heq]
  have hone : magQ 1 n = 2 ^ n := by simp [magQ]
  have hlt : magQ 1 n < 2 ^ (128 : Int) := by
    rw [hone]
    exact zpow_lt_zpow_right₀ (by norm_num) (by omega)
  have := rneF32_exact false (a := 1) (by norm_num) hlow hlt
  rw [hr]
  rwa [ratOf_false, hone] at this

/-! ### Special cases -/

theorem f32Zero_cases {x : W32} (h : f32Zero x) : x = 0 ∨ x = 0x80000000 := by
  rw [posZero_iff, negZero_iff]
  cases hx : x.msb
  · exact .inl ⟨rfl, h⟩
  · exact .inr ⟨rfl, h⟩

theorem functions_negative {x : W32} (hx : f32Fin x) (hv : f32Q x < 0) : sqrtF32 x = { val := 0x7FC00000, flags := flagNV } ∧
    rsqF32 x = { val := 0x7FC00000, flags := flagNV } ∧ log2F32 x = { val := 0x7FC00000, flags := flagNV } := by
  obtain ⟨mag, exp, heq, -, hm, -⟩ := decodeF32_nonzero hx hv.ne
  rw [f32Q_sign.2 hv] at heq
  simp [sqrtF32, rsqF32, log2F32, heq, hm.ne']

theorem functions_zero {x : W32} (h : f32Zero x) : sqrtF32 x = { val := x, flags := 0 } ∧
    rcpF32 x = { val := x ||| 0x7F800000, flags := 0 } ∧ rsqF32 x = { val := x ||| 0x7F800000, flags := 0 } ∧
    exp2F32 x = { val := 0x3F800000, flags := 0 } ∧ log2F32 x = { val := 0xFF800000, flags := 0 } := by
  rcases f32Zero_cases h with rfl | rfl <;> decide

theorem functions_nan {x : W32} (h : f32Nan x) : sqrtF32 x = { val := 0x7FC00000, flags := 0 } ∧
    rcpF32 x = { val := 0x7FC00000, flags := 0 } ∧
    rsqF32 x = { val := 0x7FC00000, flags := 0 } ∧ exp2F32 x = { val := 0x7FC00000, flags := 0 } ∧
    log2F32 x = { val := 0x7FC00000, flags := 0 } := by
  simp [sqrtF32, rcpF32, rsqF32, exp2F32, log2F32, decodeF32_nan h]

theorem functionsOfF32Codes : FunctionsOfF32Codes := by
  intro x
  refine ⟨fun hx hv => ⟨sqrtF32_rounds hx hv, rsqF32_rounds hx hv, fun n hn => log2F32_exact hx hv hn⟩, rcpF32_rounds,
    fun hx n hn hlow hhigh => exp2F32_exact hx hn hlow hhigh, functions_negative, functions_zero, ?_, ?_, functions_nan⟩
  · rintro rfl
    exact ⟨rfl, rfl, rfl, rfl, rfl⟩
  · rintro rfl
    exact ⟨rfl, rfl, rfl, rfl, rfl⟩

end Sys2Proof.Machine
end

section
/-! PROOFS. What the number formats, arithmetic, conversions, cells and checksums do, assembled. -/

namespace Sys2Proof.Proofs
open Sys2Proof.Machine

/-- Settles O14: each clause is settled by its own theorem; one rounding of a magnitude is `roundFin_roundsTo`, and truncated roots
and reciprocals round as the exact ones by `sticky_ordersAs`. -/
theorem numbersDecodeAndRoundOnce : Obligations.NumbersDecodeAndRoundOnce :=
  ⟨binaryElementsDecode, htWordsDecode, arithmeticRoundsOnce, f32CodesAreOrdered, functionsOfF32Codes, conversionsRoundAndSettle,
    blockScalesApply, reductionsPairAdjacentLanes, cellsRoundOnce, checksumsRoundEachStep⟩

end Sys2Proof.Proofs
end

section
/-! PROOFS. Stores of tiles into scratchpad (R56, R158, R160). -/

open Sys2Proof.Claims

namespace Sys2Proof.Machine

/-! ### Stores whose parts lie in scratchpad -/

/-- A part of a store lies in scratchpad without a race. -/
def partStored (s : State) (q : Part) : Prop :=
  0 < q.len ∧ q.addr + q.len ≤ 0x14000000 ∧ raceOf s.mem s.agent true q.addr q.len = none

theorem rowOf_partStored {s : State} {q : Part} (h : partStored s q) : rowOf q.addr = some (.scratchpad, 0x14000000) := by
  obtain ⟨hpos, hend, -⟩ := h
  exact rowOf_spad (by omega)

/-- One part that is stored passes each check of R136. -/
theorem checks_partStored {s : State} {q : Part} (h : partStored s q) :
    checkMap q = none ∧ checkSpace s .store false 0 q = none ∧ checkRights s.mem (coreWho s) .store q = none ∧
      checkExtent s.mem (coreWho s) .store q = none ∧ checkWindow s q = none ∧ checkHost s q = none ∧
      checkOwner s.mem s.agent .store q = none ∧ checkDamage s.mem .store q = none := by
  have hrow := rowOf_partStored h
  obtain ⟨-, hend, hrace⟩ := h
  have howner : checkOwner s.mem s.agent .store q = none := by
    simp [checkOwner, hrace]
  have hmap : checkMap q = none := by
    rw [checkMap, hrow]
    exact if_neg (by omega)
  exact ⟨hmap, by simp [checkSpace, hrow], by simp [checkRights, hrow], by simp [checkExtent, hrow],
    by simp [checkWindow, hrow], by simp [checkHost, hrow], howner, rfl⟩

/-- A store all of whose parts are stored goes on to its effect. -/
theorem checkedAccess_stored {w : W32} {s : State} {parts : List Part} {pre : State → Option TrapInfo} {f : State → State}
    (h : ∀ q ∈ parts, partStored s q) (hpre : pre s = none) :
    checkedAccess w pre true
      (fun _ => { kind := .store, narrow := false, fn := 0, parts := parts, align := none }) f s = f s := by
  have hall : ∀ check : Part → Option Failure, (∀ q, partStored s q → check q = none) → parts.findSome? check = none :=
    fun check hcheck => List.findSome?_eq_none_iff.2 (fun q hq => hcheck q (h q hq))
  have haccess : checkAccess s { kind := .store, narrow := false, fn := 0, parts := parts, align := none } = none := by
    simp only [checkAccess, Option.none_or, Option.or_eq_none_iff]
    refine ⟨hall _ ?_, hall _ ?_, hall _ ?_, hall _ ?_, hall _ ?_, hall _ ?_, hall _ ?_, hall _ ?_⟩ <;>
    · intro q hq
      simp only [checks_partStored hq]
  have hsame : checkSameRow parts = none := by
    cases parts with
    | nil => rfl
    | cons p rest =>
      simp only [checkSameRow, rowOf_partStored (h p List.mem_cons_self), rowLow]
      refine List.findSome?_eq_none_iff.2 (fun q hq => ?_)
      obtain ⟨hpos, hend, -⟩ := h q hq
      rw [if_neg (by simp; omega), if_neg (by omega)]
  have hpriv : checkPrivilege s parts = none := by
    unfold checkPrivilege
    split
    · rfl
    · rw [Option.map_eq_none_iff, List.find?_eq_none]
      intro q hq
      simp [rowOf_partStored (h q hq)]
  simp only [checkedAccess, hpriv, hpre, if_true, hsame, haccess, Option.none_or]

/-- A store of bytes in scratchpad. -/
def storeLies (x : Nat × List Byte) : Prop := x.2 ≠ [] ∧ x.1 + x.2.length ≤ 0x14000000

theorem rowOf_storeLies {x : Nat × List Byte} (h : storeLies x) : rowOf x.1 = some (.scratchpad, 0x14000000) := by
  have hpos := List.length_pos_of_ne_nil h.1
  obtain ⟨-, hend⟩ := h
  exact rowOf_spad (by omega)

/-- A store's bytes put into scratchpad by an agent, whose its granules become. -/
def putOwned (agent : BitVec 9) (u : State) (x : Nat × List Byte) : State :=
  onMem (fun m => ownRange (m.putSpad x.1 x.2) agent x.1 x.2.length) u

theorem storePart_storeLies {x : Nat × List Byte} (h : storeLies x) (u : State) :
    storePart x.1 x.2 u = putOwned u.agent u x := by
  simp only [storePart, rowOf_storeLies h]
  exact congrArg (fun m => { u with mem := ownRange m u.agent x.1 x.2.length })
    (writeMem_spad u.mem (coreWho u) x.1 x.2 h.1 h.2)

theorem foldl_storePart {stores : List (Nat × List Byte)} (h : ∀ x ∈ stores, storeLies x) (s : State) :
    stores.foldl (fun u x => storePart x.1 x.2 u) s = stores.foldl (putOwned s.agent) s := by
  induction stores generalizing s with
  | nil => rfl
  | cons x rest ih =>
    rw [List.foldl_cons, List.foldl_cons, storePart_storeLies (h x List.mem_cons_self)]
    exact ih (fun y hy => h y (List.mem_cons_of_mem _ hy)) (putOwned s.agent s x)

theorem windowStores_none {stores : List (Nat × List Byte)} (h : ∀ x ∈ stores, storeLies x) : windowStores stores = [] := by
  rw [windowStores, List.filter_eq_nil_iff]
  intro x hx
  simp [rowOf_storeLies (h x hx)]

/-- Stores that lie in scratchpad wait for nothing, cost nothing, and are made in order. -/
theorem performStores_lies {parts : List Part} {stores : List (Nat × List Byte)} {s : State}
    (hparts : ∀ q ∈ parts, partStored s q) (h : ∀ x ∈ stores, storeLies x) :
    performStores parts stores s = stores.foldl (putOwned s.agent) s := by
  have hhost : hostStores stores = [] := by
    rw [hostStores, List.filter_eq_nil_iff]
    intro x hx
    simp [rowOf_storeLies (h x hx)]
  have hready : windowsReady s stores = true := by simp [windowsReady, windowStores_none h]
  have hlink : linkBytes stores = 0 :=
    foldl_keepsOn _ stores (fun n x hx => by simp [rowOf_storeLies (h x hx)]) 0
  have hcost : hbmAccesses parts = 0 :=
    foldl_keepsOn _ parts (fun n q hq => by simp [rowOf_partStored (hparts q hq)]) 0
  unfold performStores
  simp only [hhost, List.all_nil, hready, Bool.not_true, hlink, hcost, metered_free]
  exact foldl_storePart h s

/-! ### The sizes of a tile's image -/

/-- Lists of one length joined together. -/
theorem length_flatten_of_forall {α : Type} {xss : List (List α)} {n : Nat} (h : ∀ xs ∈ xss, xs.length = n) :
    xss.flatten.length = xss.length * n := by
  rw [List.length_flatten, List.map_congr_left h, List.map_const', List.sum_replicate, smul_eq_mul]

theorem length_columnsOf {α : Type} {n : Nat} {rows : List (List α)} (h : ∀ r ∈ rows, r.length = n) :
    (columnsOf n rows).length = n := by
  induction rows with
  | nil => exact List.length_replicate
  | cons r rows ih =>
    have hrest := ih (fun q hq => h q (List.mem_cons_of_mem _ hq))
    rw [columnsOf, List.foldr_cons, List.length_zipWith, h r List.mem_cons_self]
    exact min_eq_left hrest.ge

theorem length_rowValues (f : BitVec 4) (sc : Bool) (r : BitVec 2048) (scales : List Byte) :
    (rowValues f sc r scales).length = 64 * packOf f := by
  rw [rowValues_eq, length_flatten_of_forall (n := packOf f)]
  · rw [List.length_map, List.length_range']
  · intro xs hxs
    obtain ⟨k, -, rfl⟩ := List.mem_map.1 hxs
    exact length_slotValues f sc r scales k

theorem tileValues_rows (f : BitVec 4) (sc : Bool) (d : BitVec 131072) (scales : BitVec 8192) :
    (tileValues f sc d scales).length = 64 ∧ ∀ r ∈ tileValues f sc d scales, r.length = 64 * packOf f := by
  refine ⟨by simp [tileValues], fun r hr => ?_⟩
  obtain ⟨m, -, rfl⟩ := List.mem_map.1 hr
  exact length_rowValues f sc _ _

theorem length_memTrailer (x : Sums) : (memTrailer x).length = (x.rows.length + x.cols.length) * 4 := by
  rw [memTrailer, length_flatten_of_forall (n := 4)]
  · rw [List.length_map, List.length_append]
  · intro bs hbs
    obtain ⟨w, -, rfl⟩ := List.mem_map.1 hbs
    exact bytesOfNat_length 4 _

theorem length_memTrailer_tile (chk : Bool) (t : Tile) :
    (memTrailer (if chk then heldSums t else formSums (tagFmt t.tag) t.values)).length = trailerBytes (tagFmt t.tag) := by
  obtain ⟨hrows, hcols⟩ := tileValues_rows (tagFmt t.tag) (tagSc t.tag) t.data t.scales
  rw [length_memTrailer]
  cases chk
  · simp only [Bool.false_eq_true, if_false, formSums, List.length_map, Tile.values, hrows, length_columnsOf hcols, trailerBytes]
    omega
  · simp only [if_true, heldSums, List.length_map, List.length_range, trailerBytes]
    omega

theorem length_bytesOfLanes (f : BitVec 4) (x : BitVec 2048) : (bytesOfLanes (f == 10) x).length = rowBytes f := by
  unfold bytesOfLanes rowBytes
  split
  · rw [length_flatten_of_forall (n := 3)]
    · rw [List.length_map, rowSlots, List.length_map, List.length_range]
    · intro bs hbs
      obtain ⟨w, -, rfl⟩ := List.mem_map.1 hbs
      rfl
  · exact bytesOfNat_length _ _

theorem length_scaleToMem (f : BitVec 4) (bs : List Byte) : (scaleToMem f bs).length = bs.length := by
  unfold scaleToMem
  split
  · exact List.length_map _
  · rfl

theorem length_memScales {f : BitVec 4} (hf : scalable f = true) (sc : Bool) (scales : BitVec 8192) :
    (memScales f sc scales).length = scaleBytes f := by
  rw [memScales, if_pos hf, scaleBytes, if_pos hf, length_flatten_of_forall (n := 2 * packOf f)]
  · rw [List.length_map, List.length_range]
    ring
  · intro bs hbs
    obtain ⟨m, -, rfl⟩ := List.mem_map.1 hbs
    have hp := packOf_cases f
    rw [length_scaleToMem, List.length_take]
    cases sc <;> simp [zeroBytes, scaleRow] <;> omega

/-! ### The word -/

theorem tileStored_parts {s : State} {p : TilePlace} {f : BitVec 4} (h : tileStored s p f)
    (hscale : scalable f = false → p.scale = none) : p.align = none ∧ ∀ q ∈ p.parts f true, partStored s q := by
  obtain ⟨halign, hparts⟩ := h
  refine ⟨halign, fun q hq => ⟨?_, hparts q hq⟩⟩
  rcases List.mem_append.1 hq with hq | hq
  · obtain ⟨x, -, rfl⟩ := List.mem_map.1 hq
    exact rowBytes_pos f
  · rcases List.mem_append.1 hq with hq | hq
    · cases htr : p.trailer <;> simp [htr] at hq
      rw [hq]
      show 0 < trailerBytes f
      rw [trailerBytes]
      omega
    · cases hs : p.scale <;> simp [hs] at hq
      have hf : scalable f = true := by
        by_contra hf
        simp [hscale (by simpa using hf)] at hs
      have := packOf_pos f
      rw [hq]
      show 0 < scaleBytes f
      rw [scaleBytes, if_pos hf]
      omega

/-- A store of as many bytes as a stored part has lies in scratchpad. -/
theorem storeLies_of_part {s : State} {q : Part} (h : partStored s q) {bs : List Byte} (hlen : bs.length = q.len) :
    storeLies (q.addr, bs) := by
  obtain ⟨hpos, hend, -⟩ := h
  exact ⟨List.length_pos_iff.1 (hlen ▸ hpos), by rw [hlen]; exact hend⟩

/-- Each store of a tile's image fills a part of its place. -/
theorem tileStores_lie {chk : Bool} {s : State} {p : TilePlace} {t : Tile}
    (hscale : scalable (tagFmt t.tag) = false → p.scale = none) (h : ∀ q ∈ p.parts (tagFmt t.tag) true, partStored s q) :
    ∀ x ∈ tileStores chk (tagFmt t.tag) p t, storeLies x := by
  have htail := fun q hq => h q (List.mem_append_right _ hq)
  intro x hx
  rcases List.mem_append.1 hx with hx | hx
  · rcases List.mem_append.1 hx with hx | hx
    · obtain ⟨i, hi, rfl⟩ := List.getElem_of_mem hx
      rw [List.length_zip] at hi
      have hrow := h { lane := i, addr := p.rows[i]'(by omega), len := rowBytes (tagFmt t.tag) } (List.mem_append_left _
        (List.mem_map.2 ⟨(p.rows[i]'(by omega), i), by simp [List.mem_zipIdx_iff_getElem?], rfl⟩))
      rw [List.getElem_zip]
      exact storeLies_of_part hrow (by simpa [memRows] using length_bytesOfLanes _ _)
    · cases htr : p.trailer with
      | none => simp [htr] at hx
      | some a =>
        simp only [htr, List.mem_singleton] at hx
        rw [hx]
        exact storeLies_of_part (htail _ (mem_tail_trailer htr)) (length_memTrailer_tile chk t)
  · cases hs : p.scale with
    | none => simp [hs] at hx
    | some a =>
      simp only [hs, List.mem_singleton] at hx
      have hf : scalable (tagFmt t.tag) = true := by
        by_contra hf
        simp [hscale (by simpa using hf)] at hs
      rw [hx]
      exact storeLies_of_part (htail _ (mem_tail_scale hs)) (length_memScales hf _ _)

/-- A `tst` of a tile of its format into scratchpad makes the stores of the tile's image, in order. -/
theorem tstWord_stored {chk : Bool} {hd : Hdr} {d : Reg4} {b st : Reg5} {s : State} (ha : acts hd s)
    (hbad : badTag (readT s d).tag = false) (hcv : chk = true → tagCv (readT s d).tag = true) {f : BitVec 4}
    (hf : tagFmt (readT s d).tag = f) (h : tileStored s (tilePlace s f b st) f) :
    tstWord chk hd d b st f s =
      next ((tileStores chk f (tilePlace s f b st) (readT s d)).foldl (putOwned s.agent) s) := by
  refine (issue_guarded ha).trans (congrArg next ?_)
  subst hf
  have hscale := tilePlace_scale_none s (tagFmt (readT s d).tag) b st
  have hpre : tstCheck chk d (tagFmt (readT s d).tag) s = none := by
    have hcv' : (chk && !tagCv (readT s d).tag) = false := by
      cases chk
      · rfl
      · rw [hcv rfl]; rfl
    simp [tstCheck, hbad, hcv']
  dsimp only
  generalize tilePlace s (tagFmt (readT s d).tag) b st = p at h hscale ⊢
  obtain ⟨halign, hparts⟩ := tileStored_parts h hscale
  have hlie := tileStores_lie (chk := chk) hscale hparts
  have hpieces : windowPieces (tileStores chk (tagFmt (readT s d).tag) p (readT s d)) =
      tileStores chk (tagFmt (readT s d).tag) p (readT s d) := by
    rw [windowPieces, windowStores_none hlie]
    rfl
  rw [hpieces, TilePlace.access, halign]
  exact (checkedAccess_stored hparts hpre).trans (performStores_lies hparts hlie)

end Sys2Proof.Machine

namespace Sys2Proof.Proofs
open Sys2Proof.Machine

/-- Settles O32: every store of the image fills a part of the tile's place, all of which lie in scratchpad without a race, so
that the word passes its checks and makes them in order. -/
theorem tileStoresWriteImages : Obligations.TileStoresWriteImages := by
  intro hd d b c f s ha t stores gives hf hbad
  refine ⟨fun h => (tstWord_stored ha hbad (by simp) hf h).trans ?_, fun hcv h => (tstWord_stored ha hbad (fun _ => hcv) hf h).trans ?_⟩
  · subst hf
    rfl
  · rfl

end Sys2Proof.Proofs
end

section
/-! PROOFS. The stationary planes, and the matrix multiplies that enter the array (R61, R136, R161 to R165, R334). -/

open Sys2Proof.Claims

namespace Sys2Proof.Machine

/-! ### The planes -/

theorem exec_tlds {hd : Hdr} {s : State} (h : xacts hd s) (a : Reg4) (ht : badTag (readT s a).tag = false) :
    exec (.tlds hd a) s = next (if tagCv (readT s a).tag then
      pendX { Pending.none .array with reads := [a] } (onSeq (fun q => { q with w' := planeOf (readT s a) }) s)
      else raise (sumTrap 0x09 0 [] [] a.toNat) s) := by
  refine (xWord_acts h).trans (congrArg next ?_)
  cases hcv : tagCv (readT s a).tag
  · exact unlessCheck_some (by rw [tileCheck_good ht, hcv]; rfl)
  · exact unlessCheck_none (by rw [tileCheck_good ht, hcv]; rfl)

theorem planesLoadAndSwap : PlanesLoadAndSwap := by
  intro hd a s h t
  refine ⟨fun ht hcv => ?_, fun ht hcv => ?_, xWord_acts h⟩
  · rw [exec_tlds h a ht, if_pos hcv]
    rfl
  · have hinfo : sumInfo [] [] a.toNat = BitVec.ofNat 64 a.toNat := by simp [sumInfo]
    rw [exec_tlds h a ht, if_neg (by simpa using hcv), sumTrap, hinfo]
    rfl

/-! ### The element of a buffer -/

/-- Granules that no other agent holds are all released. -/
theorem relGranules_free {agent : BitVec 9} {o : Option Owner} (ho : ∀ x, o = some (.excl x) → x = agent) (gs : List Nat) (m : Mem)
    (h : ∀ g ∈ gs, ∀ x, ownerOf m g = some (.excl x) → x = agent) :
    (relGranules m agent o gs).2 = none ∧ (relGranules m agent o gs).1.spad = m.spad ∧
      ∀ g, ownerOf (relGranules m agent o gs).1 g = if g ∈ gs then o else ownerOf m g := by
  induction gs generalizing m with
  | nil => exact ⟨rfl, rfl, fun g => rfl⟩
  | cons x gs ih =>
    have hstep : relGranules m agent o (x :: gs) = relGranules (setOwner m x o) agent o gs := by
      simp only [relGranules]
      split
      · rename_i y hy
        rw [if_pos (beq_iff_eq.2 (h x List.mem_cons_self y hy))]
      · rfl
    obtain ⟨hrace, hspad, howner⟩ := ih (setOwner m x o) (fun g hg y hy => by
      rw [ownerOf_setOwner] at hy
      split at hy
      · exact ho y hy
      · exact h g (List.mem_cons_of_mem _ hg) y hy)
    rw [hstep]
    refine ⟨hrace, hspad, fun g => ?_⟩
    rw [howner, ownerOf_setOwner]
    by_cases hx : g = x <;> by_cases hg : g ∈ gs <;> simp [hx, hg]

/-- An element that no other agent holds is taken: its granules open, and the count advances. -/
theorem takeElement_free {desc : Nat} {c : CbDesc} {f : State → State} {s : State} (hf : (f s).mem = s.mem)
    (hc : c.ccnt = spadWord s.mem (desc + 24) 8)
    (h : ∀ g ∈ granulesOf (c.elem c.ccnt) c.esize, ∀ x, ownerOf s.mem g = some (.excl x) → x = s.agent) :
    (takeElement desc c f s).seq = (f s).seq ∧
      (takeElement desc c f s).mem.spad = (setSpadWord s.mem (desc + 24) 8 (c.ccnt + 1)).spad ∧
      ∀ g, ownerOf (takeElement desc c f s).mem g =
        if g ∈ granulesOf (c.elem c.ccnt) c.esize then none else ownerOf s.mem g := by
  have hgranules : cbGranules c c.ccnt 1 = granulesOf (c.elem c.ccnt) c.esize := by simp [cbGranules]
  obtain ⟨hrace, -, howner⟩ := relGranules_free (o := none) (by simp) (granulesOf (c.elem c.ccnt) c.esize) s.mem h
  have htake : takeElement desc c f s = onMem (fun m => cbAddC
      { (relGranules s.mem s.agent none (granulesOf (c.elem c.ccnt) c.esize)).1 with spad := m.spad } desc 1) (f s) := by
    simp only [takeElement, hgranules, hrace]
  rw [htake]
  refine ⟨rfl, ?_, howner⟩
  rw [onMem_mem, hf, hc]
  rfl

/-- A range within one that holds no uncorrectable error holds none. -/
theorem badByte_within {m : Mem} {a n b k : Nat} (h : m.badByte a n = none) (hlo : a ≤ b) (hhi : b + k ≤ a + n) :
    m.badByte b k = none := by
  unfold Mem.badByte at h ⊢
  rw [Option.map_eq_none_iff, List.find?_eq_none] at h ⊢
  intro d hd
  have := h d hd
  simp only [Bool.and_eq_true, decide_eq_true_eq, not_and, not_lt] at this ⊢
  omega

/-- A part lies within a range. -/
def partWithin (a n : Nat) (q : Part) : Prop := a ≤ q.addr ∧ q.addr + q.len ≤ a + n

theorem partWithin_joinPart {a n : Nat} {p : Part} {rest : List Part} (hp : partWithin a n p) (h : ∀ q ∈ rest, partWithin a n q) :
    ∀ q ∈ joinPart p rest, partWithin a n q := by
  unfold joinPart
  split
  · rename_i q more
    have hq := h q List.mem_cons_self
    have hmore := fun r hr => h r (List.mem_cons_of_mem q hr)
    split
    · rename_i hmeet
      have hmeet : p.addr + p.len = q.addr := by simpa using hmeet
      refine List.forall_mem_cons.2 ⟨⟨hp.1, ?_⟩, hmore⟩
      show p.addr + (p.len + q.len) ≤ a + n
      have := hq.2
      omega
    · exact List.forall_mem_cons.2 ⟨hp, h⟩
  · exact List.forall_mem_cons.2 ⟨hp, by simp⟩

/-- The parts of a row of an ht tile lie in the row. -/
theorem partWithin_htRow (f : BitVec 4) (scales : List Byte) (m a : Nat) :
    ∀ q ∈ htRow f scales m a, partWithin a (rowBytes f) q := by
  have hrow : 8 * (rowBytes f / 8) = rowBytes f := by revert f; decide
  have key : ∀ bs : List Nat, (∀ b ∈ bs, b < 8) →
      ∀ q ∈ bs.foldr (fun b rest => joinPart { lane := m, addr := a + rowBytes f / 8 * b, len := rowBytes f / 8 } rest) [],
        partWithin a (rowBytes f) q := by
    intro bs
    induction bs with
    | nil => simp
    | cons b bs ih =>
      intro hb
      refine partWithin_joinPart ⟨Nat.le_add_right _ _, ?_⟩ (ih (fun c hc => hb c (List.mem_cons_of_mem _ hc)))
      have hle : rowBytes f / 8 * (b + 1) ≤ rowBytes f / 8 * 8 := Nat.mul_le_mul_left _ (hb b List.mem_cons_self)
      show a + rowBytes f / 8 * b + rowBytes f / 8 ≤ a + rowBytes f
      rw [Nat.mul_succ] at hle
      omega
  exact key _ (fun b hb => List.mem_range.1 (List.mem_filter.1 hb).1)

/-- What a load of a contiguous tile reads lies in the tile. -/
theorem partWithin_wholePlace (f : BitVec 4) (a : Nat) (scales : List Byte) :
    ∀ q ∈ (wholePlace f a).loadParts f true scales, partWithin a (tileBytes f) q := by
  have hsize : tileBytes f = 64 * rowBytes f + trailerBytes f + scaleBytes f := rfl
  have hrow : ∀ x ∈ (wholePlace f a).rows.zipIdx, a ≤ x.1 ∧ x.1 + rowBytes f ≤ a + tileBytes f := by
    intro x hx
    obtain ⟨m, hm, hx⟩ := List.mem_map.1 (List.fst_mem_of_mem_zipIdx hx)
    have hle : (m + 1) * rowBytes f ≤ 64 * rowBytes f := Nat.mul_le_mul_right _ (List.mem_range.1 hm)
    rw [Nat.succ_mul] at hle
    omega
  have htail : ∀ q ∈ (wholePlace f a).tail f true, partWithin a (tileBytes f) q := by
    have hdata : dataBytes f = 64 * rowBytes f := rfl
    refine List.forall_mem_append.2 ⟨fun q hq => ?_, fun q hq => ?_⟩
    · rw [List.mem_singleton.1 hq]
      exact ⟨Nat.le_add_right _ _, by show a + dataBytes f + trailerBytes f ≤ _; omega⟩
    · cases hs : (wholePlace f a).scale <;> simp only [hs, List.not_mem_nil, List.mem_singleton] at hq
      obtain ⟨-, rfl⟩ : scalable f = true ∧ a + dataBytes f + trailerBytes f = _ := by simpa [wholePlace] using hs
      rw [hq]
      exact ⟨by show a ≤ a + dataBytes f + trailerBytes f; omega,
        by show a + dataBytes f + trailerBytes f + scaleBytes f ≤ _; omega⟩
  unfold TilePlace.loadParts TilePlace.parts
  split
  · refine List.forall_mem_append.2 ⟨fun q hq => ?_, htail⟩
    obtain ⟨row, hmem, hq⟩ := List.mem_flatten.1 hq
    obtain ⟨x, hx, rfl⟩ := List.mem_map.1 hmem
    obtain ⟨hlo, hhi⟩ := partWithin_htRow f scales x.2 x.1 q hq
    obtain ⟨hrlo, hrhi⟩ := hrow x hx
    exact ⟨hrlo.trans hlo, hhi.trans hrhi⟩
  · refine List.forall_mem_append.2 ⟨fun q hq => ?_, htail⟩
    obtain ⟨x, hx, rfl⟩ := List.mem_map.1 hq
    exact hrow x hx

theorem elementFailure_none {s : State} {f : BitVec 4} {a : Nat} (ha : a % 256 = 0) (h : s.mem.badByte a (tileBytes f) = none) :
    elementFailure s f a = none := by
  have hparts : ∀ scales, ((wholePlace f a).loadParts f true scales).findSome?
      (fun q => (s.mem.badByte q.addr q.len).map (fun x => failAt 5 0x09 x 0)) = none := by
    intro scales
    refine List.findSome?_eq_none_iff.2 (fun q hq => ?_)
    obtain ⟨hlo, hhi⟩ := partWithin_wholePlace f a scales q hq
    rw [badByte_within h hlo hhi]
    rfl
  simp only [elementFailure, ha]
  exact hparts _

/-! ### The words -/

theorem exec_mma {hd : Hdr} {s : State} (h : xacts hd s) (d a : Reg4) (e z w v t : BitVec 1)
    (hc : mmaCheck (mmaOpts e z w v t) d (readT s a).tag a.toNat (tagCv (readT s a).tag) s = none)
    (ht : t = 1 → transposeCheck (readT s a) a.toNat a.toNat = none) :
    exec (.mma hd d a e z w v t) s = next (mmaEnter (mmaOpts e z w v t) d [a] (readT s a) s) := by
  refine (xWord_acts h).trans (congrArg next (unlessCheck_none ?_))
  have htr : (if (mmaOpts e z w v t).tr then transposeCheck (readT s a) a.toNat a.toNat else none) = none := by
    split
    · rename_i htr
      exact ht (by simpa [mmaOpts] using htr)
    · rfl
  rw [hc, htr]
  rfl

/-- A streamed `mma` whose checks pass takes of its slot. -/
theorem exec_mmaCb {hd : Hdr} {s : State} (h : xacts hd s) (d k : BitVec 4) (e z w v t : BitVec 1)
    (hf : (tagFmt s.seq.vtag).toNat ≤ 10) (hsc : tagSc s.seq.vtag = false)
    (hc : mmaCheck (mmaOpts e z w v t) d s.seq.vtag k.toNat true s = none) :
    exec (.mmaCb hd d k e z w v t) s = next (streamTake (mmaOpts e z w v t) d k (tagFmt s.seq.vtag) s) := by
  refine (xWord_acts h).trans (congrArg next ?_)
  dsimp only
  rw [if_neg (by omega), hsc, if_neg (by simp), unlessCheck_none hc]

/-- A consumer's slot gives the buffer of its descriptor, unless that cannot be read. -/
theorem streamTake_bound {o : MmaOpts} {d : Reg4} {k : BitVec 4} {f : BitVec 4} {s : State}
    (hb : (s.seq.slots.get k.toFin).bound = true) (hp : (s.seq.slots.get k.toFin).producer = false)
    (he : (s.seq.slots.get k.toFin).engine = false) : streamTake o d k f s =
      unlessBad (s.seq.slots.get k.toFin).desc.toNat 64 (streamBuffer o d k f (s.seq.slots.get k.toFin)) s := by
  simp [streamTake, hb, hp, he]

/-- A buffer of elements of the format that holds one and has not failed gives it. -/
theorem streamBuffer_feeds {o : MmaOpts} {d : Reg4} {k : BitVec 4} {f : BitVec 4} {slot : CbSlot} {s : State}
    (hsize : (cbRead s.mem slot.desc.toNat).esize = tileBytes f) (hstate : (cbRead s.mem slot.desc.toNat).state < 3)
    (havail : 0 < (cbRead s.mem slot.desc.toNat).avail) :
    streamBuffer o d k f slot s = streamFeed o d k f slot.desc (cbRead s.mem slot.desc.toNat) s := by
  unfold streamBuffer
  simp only [hsize, bne_self_eq_false, Bool.false_eq_true, if_false, beq_iff_eq]
  rw [if_neg (by omega), if_neg (by omega), if_neg (by omega)]

/-- The element that a streamed feed reads of its buffer. -/
def feedElement (f : BitVec 4) (c : CbDesc) (s : State) : MemTile := tileOf f (memRead s.mem.spad (c.elem c.ccnt) (tileBytes f))

/-- What verifying the element finds. -/
def feedVerdict (f : BitVec 4) (m : MemTile) : Verdict := verifySums f (m.values f) { rows := m.rows, cols := m.cols }

/-- The tile that a verified element feeds to the array. -/
def feedTile (f : BitVec 4) (m : MemTile) : Tile := loadedTile f m.data m.scales (feedVerdict f m).fresh Tile.zero

/-- An element that can be read and verifies enters the array. -/
theorem streamFeed_takes {o : MmaOpts} {d : Reg4} {k : BitVec 4} {f : BitVec 4} {desc : W64} {c : CbDesc} {s : State}
    (hfail : elementFailure s f (c.elem c.ccnt) = none) (hbad : (feedElement f c s).badScale = none)
    (hr : (feedVerdict f (feedElement f c s)).rows = []) (hcol : (feedVerdict f (feedElement f c s)).cols = [])
    (ht : o.tr = true → transposeCheck (feedTile f (feedElement f c s)) k.toNat 0 = none) :
    streamFeed o d k f desc c s = takeElement desc.toNat c (mmaEnter o d [] (feedTile f (feedElement f c s))) s := by
  have htr : (if o.tr then transposeCheck (feedTile f (feedElement f c s)) k.toNat 0 else none) = none := by
    split
    · exact ht ‹_›
    · rfl
  unfold feedTile feedVerdict feedElement at *
  simp only [streamFeed, hfail, hbad, hr, hcol, List.isEmpty_nil, Bool.and_self, Bool.not_true, htr]
  rfl

theorem matrixMultipliesEnterTheArray : MatrixMultipliesEnterTheArray := by
  intro hd d a k e z w v t s h o
  refine ⟨fun hc ht => exec_mma h d a e z w v t hc ht, ?_⟩
  intro f slot c m sums r
  refine ⟨fun hf hsc hc hb hp he x hx => ?_, fun hf hsc hc hb hp he hsize hstate havail hbad hr hcol ht halign hdesc helem hown => ?_⟩
  · rw [exec_mmaCb h d k e z w v t hf hsc hc, streamTake_bound hb hp he, unlessBad, hx]
    rfl
  · have hfeed : streamFeed o d k f slot.desc c s = takeElement slot.desc.toNat c (mmaEnter o d [] (feedTile f m)) s :=
      streamFeed_takes (elementFailure_none halign helem) hbad hr hcol (fun htr => ht (by simpa [o] using htr))
    have hexec : exec (.mmaCb hd d k e z w v t) s = next (takeElement slot.desc.toNat c (mmaEnter o d [] (feedTile f m)) s) := by
      rw [exec_mmaCb h d k e z w v t hf hsc hc, streamTake_bound hb hp he, unlessBad, hdesc]
      exact congrArg next ((streamBuffer_feeds hsize hstate havail).trans hfeed)
    exact ⟨_, hexec, takeElement_free rfl rfl hown⟩

end Sys2Proof.Machine

namespace Sys2Proof.Proofs
open Sys2Proof.Machine

/-- Settles O33: a word whose checks pass takes the one branch that pends; the element of a streamed feed can be read because all
that its load reads lies in the element, and its release opens the granules that no other agent holds. -/
theorem planesAndMatrixMultiplies : Obligations.PlanesAndMatrixMultiplies :=
  ⟨planesLoadAndSwap, matrixMultipliesEnterTheArray⟩

end Sys2Proof.Proofs
end

section
/-! PROOFS. The classes of an accumulator's lines, and the tile that a drain leaves (R57, R60, R64, R67). -/

open Sys2Proof.Claims

namespace Sys2Proof.Machine

/-! ### The class of a line -/

/-- Two finite codes lie within k x 2^-22 of a finite magnitude. -/
theorem numWithin_tolerance_iff (k : Nat) {s x m : W32} (hs : f32Fin s) (hx : f32Fin x) (hm : f32Fin m) :
    numWithin (decodeF32 x) (decodeF32 s) (tolerance k m) = true ↔ |f32Q x - f32Q s| ≤ k / 2 ^ 22 * f32Q m := by
  obtain ⟨ms, es, hds, hvs, -⟩ := decodeF32_value hs
  obtain ⟨mx, ex, hdx, hvx, -⟩ := decodeF32_value hx
  obtain ⟨mm, em, hdm, hvm, -⟩ := decodeF32_value hm
  have htol : tolerance k m = .fin (false != m.msb) (k * mm) (-22 + em) := by rw [tolerance, hdm, numMul_fin]
  have hk : ratOf false k (-22) = k / 2 ^ 22 := by
    rw [ratOf_false, magQ, zpow_neg, div_eq_mul_inv]
    norm_num
  rw [hds, hdx, htol, numWithin_iff, ratOf_mul, hvs, hvx, hvm, hk]

theorem classify_int (nacc : Nat) (sat : Bool) (act pred mag : W32) :
    classify true nacc sat act pred mag = if sat then .exempt else if act = pred then .clean else .flagged := by
  simp only [classify, if_true, beq_iff_eq]

theorem classify_float (nacc : Nat) (sat : Bool) (act pred mag : W32) :
    classify false nacc sat act pred mag =
      if f32Fin pred ∧ f32Fin mag then
        (if f32Fin act ∧ |f32Q act - f32Q pred| ≤ (nacc + 4) / 2 ^ 22 * f32Q mag then .clean else .flagged)
      else .exempt := by
  have hfin : (!(finiteF32 pred && finiteF32 mag)) = true ↔ ¬ (f32Fin pred ∧ f32Fin mag) := by
    rw [Bool.not_eq_true', ← Bool.not_eq_true, Bool.and_eq_true, finiteF32_iff, finiteF32_iff]
  unfold classify
  rw [if_neg Bool.false_ne_true]
  by_cases h : f32Fin pred ∧ f32Fin mag
  · rw [if_neg (mt hfin.1 (not_not.2 h)), if_pos h]
    by_cases hact : f32Fin act
    · have hwithin := numWithin_tolerance_iff (nacc + 4) h.1 hact h.2
      rw [Nat.cast_add, Nat.cast_ofNat] at hwithin
      simp only [(finiteF32_iff act).2 hact, Bool.not_true, Bool.false_eq_true, if_false, hwithin, hact, true_and]
    · have hnot : (!finiteF32 act) = true := by simpa using mt (finiteF32_iff act).1 hact
      rw [if_pos hnot, if_neg (fun hboth => hact hboth.1)]
  · rw [if_pos (hfin.2 h), if_neg h]

/-! ### The actual sums -/

/-- The value of an accumulator's element: an i32 word, or an f32 code. -/
def accItem (int : Bool) (x : W32) : Num := if int then .fin x.msb x.toInt.natAbs 0 else decodeF32 x

/-- The sum of a line of 64 values: of integers wrapped, of f32 codes a chain of rounded steps. -/
def accTotal (int : Bool) (x : Nat → Num) : W32 :=
  if int then BitVec.ofInt 32 ((List.range 64).map (fun c => numInt (x c))).sum else chainF x 64

theorem elemValue_acc (int : Bool) (x : W32) : elemValue (if int then 3 else 1) x 0 = accItem int x := by
  cases int
  · rfl
  · exact ofInt_toInt x

theorem sumOf_acc (int : Bool) (x : Nat → Num) : sumOf (if int then 3 else 1) ((List.range 64).map x) = accTotal int x := by
  cases int
  · exact foldl_addTo x 64
  · show BitVec.ofInt 32 (((List.range 64).map x).foldl (fun s y => s + numInt y) 0) = _
    rw [← List.foldl_map, List.map_map, ← List.sum_eq_foldl]
    rfl

theorem actualSums_eq (int : Bool) (t : Tile) : actualSums int (accRows t) =
    { rows := (List.range 64).map (fun m => accTotal int (fun n => accItem int (lane (rowBits t.data m) n)))
      cols := (List.range 64).map (fun n => accTotal int (fun m => accItem int (lane (rowBits t.data m) n))) } := by
  have hpack : 64 * packOf (if int then 3 else 1) = 64 := by cases int <;> rfl
  have hvals : (accRows t).map (fun r => r.map (fun x => elemValue (if int then 3 else 1) x 0)) =
      (List.range 64).map (fun m => (List.range 64).map (fun n => accItem int (lane (rowBits t.data m) n))) := by
    simp only [accRows, rowSlots, List.map_map, Function.comp_def, elemValue_acc]
  simp only [actualSums, formSums, hvals, hpack, columnsOf_map_range, List.map_map, Function.comp_def, sumOf_acc]

/-! ### The classes of all lines -/

/-- The class of each line, by its index. -/
theorem classes_eq (int : Bool) (nacc : Nat) (sat : W64) {a : List W32} (ha : a.length = 64) (p m : Nat → W32) :
    (a.zip (((List.range 64).map p).zip ((List.range 64).map m))).zipIdx.map
        (fun x => classify int nacc (sat.getLsbD x.2) x.1.1 x.1.2.1 x.1.2.2) =
      (List.range 64).map (fun i => classify int nacc (sat.getLsbD i) (a.getD i 0) (p i) (m i)) := by
  conv_lhs => rw [eq_map_range_getD a 0 ha]
  simp only [List.zip, zipWith_map_range, zipIdx_map_range, List.map_map, Function.comp_def]

section
variable (t : Tile)

theorem drainView_act : (drainView t).act = actualSums (tagFmt t.tag == 3) (accRows t) := rfl

theorem drainView_cols_eq : (drainView t).cols = ((drainView t).act.cols.zip ((colWords t 0 64).zip (colWords t 64 64))).zipIdx.map
    (fun x => classify (tagFmt t.tag == 3) t.nacc ((colMask t 194).getLsbD x.2) x.1.1 x.1.2.1 x.1.2.2) := by
  simp only [drainView]

theorem length_drainView_act : (drainView t).act.rows.length = 64 ∧ (drainView t).act.cols.length = 64 := by
  simp [drainView_act, actualSums_eq]

theorem drainView_rows : (drainView t).rows = (List.range 64).map (fun i => classify (tagFmt t.tag == 3) t.nacc
    ((colMask t 192).getLsbD i) ((drainView t).act.rows.getD i 0) (lane t.rowSum i) (lane t.colSum (128 + i))) :=
  classes_eq (tagFmt t.tag == 3) t.nacc (colMask t 192) (length_drainView_act t).1 (lane t.rowSum)
    (fun i => lane t.colSum (128 + i))

theorem drainView_cols : (drainView t).cols = (List.range 64).map (fun i => classify (tagFmt t.tag == 3) t.nacc
    ((colMask t 194).getLsbD i) ((drainView t).act.cols.getD i 0) (lane t.colSum i) (lane t.colSum (64 + i))) := by
  have h := (drainView_cols_eq t).trans (classes_eq _ _ _ (length_drainView_act t).2 _ _)
  simpa only [Nat.zero_add] using h

theorem length_drainView : (drainView t).rows.length = 64 ∧ (drainView t).cols.length = 64 := by
  simp [drainView_rows, drainView_cols]

end

/-! ### The tile that a drain leaves -/

/-- The four masks of an accumulator, after its sums and magnitudes. -/
theorem lane_accRow_tail {c mc mr : List W32} (hc : c.length = 64) (hmc : mc.length = 64) (hmr : mr.length = 64)
    (satr satc nfr nfc : W64) (i : Nat) (h : i < 8) : lane (accRow c mc mr satr satc nfr nfc) (192 + i) =
      (maskWords satr ++ maskWords satc ++ maskWords nfr ++ maskWords nfc).getD i 0 := by
  have hlen : (c ++ mc ++ mr).length = 192 := by simp [hc, hmc, hmr]
  have hsplit : c ++ mc ++ mr ++ maskWords satr ++ maskWords satc ++ maskWords nfr ++ maskWords nfc =
      (c ++ mc ++ mr) ++ (maskWords satr ++ maskWords satc ++ maskWords nfr ++ maskWords nfc) := by
    simp only [List.append_assoc]
  rw [accRow, lane_ofWords _ _ (by omega), hsplit, List.getD_append_right _ _ _ _ (by omega), hlen, Nat.add_sub_cancel_left]

/-- A mask's bit says whether the line of its index is exempt. -/
theorem exemptMask_bit {cs : List LineClass} (h : cs.length = 64) (i : Nat) (hi : i < 64) :
    (maskOfList (cs.map (· == .exempt))).getLsbD i = true ↔ cs[i]? = some .exempt := by
  rw [map_eq_map_range_getD _ cs .clean h, getLsbD_maskOfList _ i hi, beq_iff_eq, getElem?_eq_some_getD cs .clean (by omega),
    Option.some_inj]

/-- A mask is zero when no line is exempt. -/
theorem exemptMask_zero {cs : List LineClass} (h : cs.length = 64) :
    maskOfList (cs.map (· == .exempt)) = 0 ↔ ∀ x ∈ cs, x ≠ .exempt := by
  constructor
  · intro hzero x hx he
    obtain ⟨i, hi, hxi⟩ := List.getElem_of_mem hx
    have hbit := (exemptMask_bit h i (by omega)).2 (by rw [List.getElem?_eq_getElem hi, hxi, he])
    rw [hzero] at hbit
    simp at hbit
  · intro hall
    refine maskOfList_none _ (fun b hb => ?_)
    obtain ⟨x, hx, rfl⟩ := List.mem_map.1 hb
    exact beq_false_of_ne (hall x hx)

theorem nacc_drained (t : Tile) (act : Sums) (rows cols : List LineClass) : (drained t act rows cols).nacc = 0 :=
  nacc_setNacc _ t.status 0 rfl

theorem data_drained (t : Tile) (act : Sums) (rows cols : List LineClass) : (drained t act rows cols).data = t.data := rfl

section
variable (t : Tile) {act : Sums} {rows cols : List LineClass} (hcols : act.cols.length = 64)
include hcols

/-- The sums of a drained tile, and its magnitudes, which are cleared. -/
theorem drained_sums (i : Nat) (h : i < 64) :
    lane (drained t act rows cols).rowSum i = act.rows.getD i 0 ∧ lane (drained t act rows cols).colSum i = act.cols.getD i 0 ∧
      lane (drained t act rows cols).colSum (64 + i) = 0 ∧ lane (drained t act rows cols).colSum (128 + i) = 0 := by
  have hz : (List.replicate 64 (0 : W32)).length = 64 := List.length_replicate
  obtain ⟨hc, hmc, hmr⟩ := lane_accRow_sums hcols hz hz (colMask t 192) (colMask t 194) (maskOfList (rows.map (· == .exempt)))
    (maskOfList (cols.map (· == .exempt))) i h
  have hzero : (List.replicate 64 (0 : W32)).getD i 0 = 0 := List.getD_replicate _ h
  exact ⟨lane_ofWords _ _ (by omega), hc, hmc.trans hzero, hmr.trans hzero⟩

/-- The masks of a drained tile: the saturation masks stay, and the exempt lines are marked. -/
theorem drained_masks :
    (∀ j, j < 4 → lane (drained t act rows cols).colSum (192 + j) = lane t.colSum (192 + j)) ∧
      (lane (drained t act rows cols).colSum 197 ++ lane (drained t act rows cols).colSum 196 : W64) =
        maskOfList (rows.map (· == .exempt)) ∧
      (lane (drained t act rows cols).colSum 199 ++ lane (drained t act rows cols).colSum 198 : W64) =
        maskOfList (cols.map (· == .exempt)) := by
  have hz : (List.replicate 64 (0 : W32)).length = 64 := List.length_replicate
  have htail := lane_accRow_tail hcols hz hz (colMask t 192) (colMask t 194) (maskOfList (rows.map (· == .exempt)))
    (maskOfList (cols.map (· == .exempt)))
  refine ⟨fun j hj => (htail j (by omega)).trans ?_, ?_, ?_⟩
  · have hmask := maskWords_or t t j hj
    rw [BitVec.or_self, BitVec.or_self, BitVec.or_self] at hmask
    rw [List.append_assoc, List.getD_append _ _ _ _ (by simpa [maskWords] using hj), hmask]
  · exact (congrArg₂ (· ++ ·) (htail 5 (by decide)) (htail 4 (by decide))).trans (append_maskWords _)
  · exact (congrArg₂ (· ++ ·) (htail 7 (by decide)) (htail 6 (by decide))).trans (append_maskWords _)

end

/-- A drained tile is checked when no line is exempt. -/
theorem drained_cv (t : Tile) (act : Sums) {rows cols : List LineClass} (hr : rows.length = 64) (hc : cols.length = 64) :
    tagCv (drained t act rows cols).tag = true ↔ ∀ x ∈ rows ++ cols, x ≠ .exempt := by
  have htag : tagCv (drained t act rows cols).tag =
      (maskOfList (rows.map (· == .exempt)) == 0 && maskOfList (cols.map (· == .exempt)) == 0) := tagCv_mkTag _ _ _
  rw [htag, Bool.and_eq_true, beq_iff_eq, beq_iff_eq, exemptMask_zero hr, exemptMask_zero hc, List.forall_mem_append]

theorem drainsClassifyLines : DrainsClassifyLines := by
  constructor
  · intro nacc sat act pred mag
    refine ⟨classify_int nacc sat act pred mag, ?_, fun hpred hmag => ?_⟩
    · rw [classify_float]
      split_ifs with h hact
      · exact iff_of_false (by decide) (not_not.2 h)
      · exact iff_of_false (by decide) (not_not.2 h)
      · exact iff_of_true rfl h
    · rw [classify_float, if_pos ⟨hpred, hmag⟩]
      split_ifs with h
      · exact iff_of_true rfl h
      · exact iff_of_false (by decide) h
  · intro t i hi w int item total mask
    obtain ⟨hactR, hactC⟩ := length_drainView_act t
    obtain ⟨hrows, hcols⟩ := length_drainView t
    obtain ⟨hsums, hmasks⟩ := drained_masks t (rows := w.rows) (cols := w.cols) hactC
    obtain ⟨hr, hc, hmc, hmr⟩ := drained_sums t (rows := w.rows) (cols := w.cols) hactC i hi
    refine ⟨?_, ?_, ?_, ?_, nacc_drained t _ _ _, data_drained t _ _ _, hr, hc, hmc, hmr, hsums, ?_, ?_,
      drained_cv t _ hrows hcols, tagFmt_mkTag _ _ _⟩
    · show (drainView t).act.rows[i]? = _
      rw [drainView_act, actualSums_eq, List.getElem?_map, List.getElem?_range hi]
      rfl
    · show (drainView t).act.cols[i]? = _
      rw [drainView_act, actualSums_eq, List.getElem?_map, List.getElem?_range hi]
      rfl
    · show (drainView t).rows[i]? = _
      rw [drainView_rows, List.getElem?_map, List.getElem?_range hi]
      rfl
    · show (drainView t).cols[i]? = _
      rw [drainView_cols, List.getElem?_map, List.getElem?_range hi]
      rfl
    · rw [hmasks.1]
      exact exemptMask_bit hrows i hi
    · rw [hmasks.2]
      exact exemptMask_bit hcols i hi

end Sys2Proof.Machine
end

section
/-! PROOFS. The corrected element of an accumulator (R66). -/

open Sys2Proof.Claims

namespace Sys2Proof.Machine

/-! ### The values of a line but for one -/

/-- The values of a line but for the one of an index. -/
def otherValues (x : Nat → W32) (i : Nat) : List W32 := ((List.range 64).filter (fun k => k != i)).map x

theorem without_eq_otherValues (x : Nat → W32) {i : Nat} (h : i < 64) : without ((List.range 64).map x) i = otherValues x i := by
  have hlen : i < (List.range 64).length := by rwa [List.length_range]
  have herase : (List.range 64).eraseIdx i = (List.range 64).filter (fun k => k != i) := by
    rw [← List.nodup_range.erase_eq_filter, ← List.nodup_range.erase_getElem i hlen, List.getElem_range]
  rw [without, List.eraseIdx_map, herase]
  rfl

section
variable (t : Tile) {m0 n0 : Nat} (hm : m0 < 64) (hn : n0 < 64)
include hm hn

/-- The row and the column of an element. -/
theorem accRows_lines : (accRows t).getD m0 [] = (List.range 64).map (fun n => lane (rowBits t.data m0) n) ∧
    (columnsOf 64 (accRows t)).getD n0 [] = (List.range 64).map (fun m => lane (rowBits t.data m) n0) := by
  have hcols : columnsOf 64 (accRows t) = (List.range 64).map (fun n => (List.range 64).map (fun m => lane (rowBits t.data m) n)) :=
    columnsOf_map_range _ 64 64
  rw [hcols, accRows, getD_map_range _ _ _ _ hm, getD_map_range _ _ _ _ hn]
  exact ⟨rfl, rfl⟩

/-- What a row's and a column's prediction leave for one integer element. -/
theorem correctElement_int (h : tagFmt t.tag = 3) : correctElement t m0 n0 =
    let cr := lane t.rowSum m0 - (otherValues (fun n => lane (rowBits t.data m0) n) n0).sum
    let cc := lane t.colSum n0 - (otherValues (fun m => lane (rowBits t.data m) n0) m0).sum
    if cr = cc then some cr else none := by
  obtain ⟨hrow, hcol⟩ := accRows_lines t hm hn
  simp only [correctElement, h, beq_self_eq_true, if_true, hrow, hcol, without_eq_otherValues _ hm, without_eq_otherValues _ hn,
    List.sum_eq_foldl, beq_iff_eq]

end

/-- What a prediction leaves for one f32 element. -/
def restF (p : W32) (xs : List W32) : W32 := (subF32 p (xs.foldl (fun s x => addTo s (decodeF32 x)) 0x80000000)).val

/-- A value that lies within the tolerance of what row and column leave for it. -/
def candidateFits (k : Nat) (cr cc mr mc x : W32) : Bool :=
  finiteF32 x && numWithin (decodeF32 x) (decodeF32 cr) (tolerance k mr) && numWithin (decodeF32 x) (decodeF32 cc) (tolerance k mc)

/-- How far a code lies from another. -/
def distNum (c x : W32) : Num := (Num.add (decodeF32 x) (decodeF32 c).negate).val.abs

/-- Whether one value lies as near to a code as another. -/
def nearer (c y x : W32) : Bool := numWithin (distNum c y) (.fin false 0 0) (distNum c x)

/-- The least of the values met so far, the earliest among equals. -/
def keepLeast {α : Type} (le : α → α → Bool) (best : Option α) (x : α) : Option α :=
  match best with
  | none => some x
  | some y => if le y x then some y else some x

theorem correctElement_float (t : Tile) {m0 n0 : Nat} (hm : m0 < 64) (hn : n0 < 64) (h : tagFmt t.tag ≠ 3) : correctElement t m0 n0 =
    let cr := restF (lane t.rowSum m0) (otherValues (fun n => lane (rowBits t.data m0) n) n0)
    let cc := restF (lane t.colSum n0) (otherValues (fun m => lane (rowBits t.data m) n0) m0)
    (((List.range 32).map (fun b => lane (rowBits t.data m0) n0 ^^^ (1 <<< b))).filter
      (candidateFits (t.nacc + 4) cr cc (lane t.colSum (128 + m0)) (lane t.colSum (64 + n0)))).foldl (keepLeast (nearer cr)) none := by
  obtain ⟨hrow, hcol⟩ := accRows_lines t hm hn
  have hint : (tagFmt t.tag == 3) = false := beq_false_of_ne h
  have hsum : ∀ xs : List W32, sumF (xs.map decodeF32) = xs.foldl (fun s x => addTo s (decodeF32 x)) 0x80000000 :=
    fun xs => List.foldl_map
  simp only [correctElement, hint, Bool.false_eq_true, if_false, hrow, hcol, without_eq_otherValues _ hm,
    without_eq_otherValues _ hn, hsum, getD_map_range _ _ _ _ hn]
  refine congrArg₂ (fun step xs => List.foldl step none xs) (funext fun best => funext fun x => ?_) rfl
  cases best <;> rfl

/-! ### The first of the least -/

theorem foldl_keepLeast_mem {α : Type} (le : α → α → Bool) (xs : List α) (b : Option α) :
    xs.foldl (keepLeast le) b = b ∨ ∃ y ∈ xs, xs.foldl (keepLeast le) b = some y := by
  induction xs generalizing b with
  | nil => exact .inl rfl
  | cons x xs ih =>
    have hstep : keepLeast le b x = b ∨ keepLeast le b x = some x := by
      cases b with
      | none => exact .inr rfl
      | some y =>
        simp only [keepLeast]
        split
        · exact .inl rfl
        · exact .inr rfl
    rw [List.foldl_cons]
    rcases ih (keepLeast le b x) with h | ⟨y, hy, h⟩
    · rw [h]
      exact hstep.imp id (fun h => ⟨x, List.mem_cons_self, h⟩)
    · exact .inr ⟨y, List.mem_cons_of_mem _ hy, h⟩

/-- A value that those before it exceed, and those after it do not fall below, is kept. -/
theorem foldl_keepLeast_eq {α : Type} {le : α → α → Bool} {before after : List α} {x : α} (hbefore : ∀ y ∈ before, le y x = false)
    (hafter : ∀ y ∈ after, le x y = true) : (before ++ x :: after).foldl (keepLeast le) none = some x := by
  have hx : keepLeast le (before.foldl (keepLeast le) none) x = some x := by
    rcases foldl_keepLeast_mem le before none with h | ⟨y, hy, h⟩
    · rw [h]
      rfl
    · rw [h, keepLeast, hbefore y hy, if_neg Bool.false_ne_true]
  rw [List.foldl_append, List.foldl_cons, hx]
  induction after with
  | nil => rfl
  | cons y ys ih =>
    have hy : keepLeast le (some x) y = some x := by rw [keepLeast, hafter y List.mem_cons_self, if_pos rfl]
    rw [List.foldl_cons, hy]
    exact ih (fun z hz => hafter z (List.mem_cons_of_mem _ hz))

/-- Of the values of rising indices that pass a test, the least is kept, and of several the one of the lowest index. -/
theorem foldl_keepLeast_lowest {α : Type} {le : α → α → Bool} {ok : α → Bool} {key : α → Rat}
    (hle : ∀ x y, ok x = true → ok y = true → (le x y = true ↔ key x ≤ key y)) (f : Nat → α) {bs : List Nat}
    (hbs : bs.Pairwise (· < ·)) {b : Nat} (hb : b ∈ bs) (hok : ok (f b) = true)
    (hmin : ∀ y ∈ bs, ok (f y) = true → key (f b) < key (f y) ∨ (key (f b) = key (f y) ∧ b ≤ y)) :
    ((bs.map f).filter ok).foldl (keepLeast le) none = some (f b) := by
  obtain ⟨before, after, rfl⟩ := List.append_of_mem hb
  obtain ⟨-, hafter, hcross⟩ := List.pairwise_append.1 hbs
  rw [List.map_append, List.map_cons, List.filter_append, List.filter_cons_of_pos hok]
  refine foldl_keepLeast_eq (fun y hy => ?_) (fun y hy => ?_)
  · obtain ⟨hy, hoky⟩ := List.mem_filter.1 hy
    obtain ⟨i, hi, rfl⟩ := List.mem_map.1 hy
    have hib := hcross i hi b List.mem_cons_self
    rw [← Bool.not_eq_true, hle _ _ hoky hok, not_le]
    rcases hmin i (List.mem_append_left _ hi) hoky with h | ⟨-, h⟩
    · exact h
    · omega
  · obtain ⟨hy, hoky⟩ := List.mem_filter.1 hy
    obtain ⟨i, hi, rfl⟩ := List.mem_map.1 hy
    rw [hle _ _ hok hoky]
    rcases hmin i (List.mem_append_right _ (List.mem_cons_of_mem _ hi)) hoky with h | ⟨h, -⟩
    · exact h.le
    · exact h.le

/-! ### Tolerances and distances -/

/-- Nothing lies within a tolerance of a code that is not finite. -/
theorem f32Fin_of_numWithin {x t : Num} {s : W32} (h : numWithin x (decodeF32 s) t = true) : f32Fin s := by
  rcases f32_cases s with hs | hs | hs
  · exact hs
  · rw [decodeF32_inf hs] at h
    cases x <;> simp [numWithin] at h
  · rw [decodeF32_nan hs] at h
    cases x <;> simp [numWithin] at h

/-- A finite value lies within the tolerance of a code: the code is finite, and the two are near. -/
theorem within_iff (k : Nat) {x s m : W32} (hx : f32Fin x) (hm : f32Fin m) :
    numWithin (decodeF32 x) (decodeF32 s) (tolerance k m) = true ↔ f32Fin s ∧ |f32Q x - f32Q s| ≤ k / 2 ^ 22 * f32Q m :=
  ⟨fun h => ⟨f32Fin_of_numWithin h, (numWithin_tolerance_iff k (f32Fin_of_numWithin h) hx hm).1 h⟩,
    fun h => (numWithin_tolerance_iff k h.1 hx hm).2 h.2⟩

theorem candidateFits_iff (k : Nat) {cr cc mr mc : W32} (hmr : f32Fin mr) (hmc : f32Fin mc) (x : W32) :
    candidateFits k cr cc mr mc x = true ↔ f32Fin x ∧ f32Fin cr ∧ f32Fin cc ∧ |f32Q x - f32Q cr| ≤ k / 2 ^ 22 * f32Q mr ∧
      |f32Q x - f32Q cc| ≤ k / 2 ^ 22 * f32Q mc := by
  rw [candidateFits, Bool.and_eq_true, Bool.and_eq_true, finiteF32_iff]
  by_cases hx : f32Fin x
  · rw [within_iff k hx hmr, within_iff k hx hmc]
    tauto
  · tauto

theorem distNum_eq {c x : W32} (hc : f32Fin c) (hx : f32Fin x) :
    ∃ mag exp, distNum c x = .fin false mag exp ∧ ratOf false mag exp = |f32Q x - f32Q c| := by
  obtain ⟨mx, ex, hdx, hvx, -⟩ := decodeF32_value hx
  obtain ⟨mc, ec, hdc, hvc, -⟩ := decodeF32_value hc
  obtain ⟨neg, mag, exp, heq, hv, -⟩ := numAdd_fin x.msb (!c.msb) mx mc ex ec
  refine ⟨mag, exp, ?_, ?_⟩
  · rw [distNum, hdx, hdc, Num.negate, heq]
    rfl
  · have hneg : ratOf (!c.msb) mc ec = -f32Q c := by
      rw [← hvc, ratOf_eq, ratOf_eq]
      cases c.msb <;> simp
    rw [ratOf_false, ← abs_ratOf neg, hv, hvx, hneg, sub_eq_add_neg]

theorem nearer_iff {c y x : W32} (hc : f32Fin c) (hy : f32Fin y) (hx : f32Fin x) :
    nearer c y x = true ↔ |f32Q y - f32Q c| ≤ |f32Q x - f32Q c| := by
  obtain ⟨my, ey, hdy, hvy⟩ := distNum_eq hc hy
  obtain ⟨mx, ex, hdx, hvx⟩ := distNum_eq hc hx
  have hzero : ratOf false 0 0 = 0 := ratOf_eq_zero.2 rfl
  rw [nearer, hdy, hdx, numWithin_iff, hvy, hvx, hzero, sub_zero, abs_abs]

theorem correctionsChangeOneBit : CorrectionsChangeOneBit := by
  intro t m0 n0 hm hn c others rp cp
  refine ⟨fun h => correctElement_int t hm hn h, ?_⟩
  intro h minus cr cc far slack cand fits hmr hmc
  have hcast : ((t.nacc + 4 : Nat) : Rat) = (t.nacc + 4 : Rat) := by push_cast; rfl
  have hfits : ∀ x, candidateFits (t.nacc + 4) cr cc (lane t.colSum (128 + m0)) (lane t.colSum (64 + n0)) x = true ↔ fits x := by
    intro x
    rw [candidateFits_iff _ hmr hmc, hcast]
  have heq : correctElement t m0 n0 = (((List.range 32).map cand).filter
      (candidateFits (t.nacc + 4) cr cc (lane t.colSum (128 + m0)) (lane t.colSum (64 + n0)))).foldl (keepLeast (nearer cr)) none :=
    correctElement_float t hm hn h
  rw [heq]
  constructor
  · intro hnone
    rw [List.filter_eq_nil_iff.2]
    · rfl
    · intro x hx
      obtain ⟨b, hb, rfl⟩ := List.mem_map.1 hx
      exact fun hx => hnone b (List.mem_range.1 hb) ((hfits _).1 hx)
  · intro b hb hfit hmin
    refine foldl_keepLeast_lowest (key := fun x => far x cr) ?_ cand List.pairwise_lt_range (List.mem_range.2 hb) ((hfits _).2 hfit)
      (fun y hy hok => hmin y (List.mem_range.1 hy) ((hfits _).1 hok))
    intro x y hx hy
    obtain ⟨hxfin, hcr, -⟩ := (hfits x).1 hx
    exact nearer_iff hcr hxfin ((hfits y).1 hy).1

end Sys2Proof.Machine
end

section
/-! PROOFS. The error map's counts, and drains with flagged lines (R64 to R67, R74, R166, R341). -/

open Sys2Proof.Claims

namespace Sys2Proof.Machine

/-! ### Words of the error map -/

/-- A search for entries that a filter treats alike. -/
theorem find?_filter_alike {α : Type} {p q : α → Bool} {c : Bool} (h : ∀ e, q e = true → p e = c) (l : List α) :
    (l.filter p).find? q = if c then l.find? q else none := by
  induction l with
  | nil => cases c <;> rfl
  | cons e l ih =>
    cases hq : q e with
    | false => cases hp : p e <;> simp [hp, hq, ih]
    | true =>
      have hp := h e hq
      cases c <;> simp [hp, hq, ih]

/-- Setting a word of the error map leaves the others. -/
theorem errmapWord_setErrmap_other (f : Firmware) {bay index : Nat} (x : W64) {b i : Nat} (h : ¬ (b = bay ∧ i = index)) :
    errmapWord (setErrmap f bay index x) b i = errmapWord f b i := by
  by_cases hx : x = 0
  · rw [hx, errmapWord_setErrmap_zero, if_neg h]
  · have hset : (setErrmap f bay index x).errmap =
        (f.errmap.filter (fun e => !(e.1 == bay && e.2.1 == index))).filter
          (fun e => e.1 < bay || (e.1 == bay && e.2.1 < index)) ++ [(bay, index, x)] ++
        (f.errmap.filter (fun e => !(e.1 == bay && e.2.1 == index))).filter
          (fun e => bay < e.1 || (e.1 == bay && index < e.2.1)) := if_neg (by simpa using hx)
    have hrest : (f.errmap.filter (fun e => !(e.1 == bay && e.2.1 == index))).find? (fun e => e.1 == b && e.2.1 == i) =
        f.errmap.find? (fun e => e.1 == b && e.2.1 == i) := by
      refine (find?_filter_alike (c := true) (fun e he => ?_) _).trans (if_pos rfl)
      simp only [Bool.and_eq_true, beq_iff_eq] at he
      rw [he.1, he.2]
      simpa [imp_iff_not_or] using h
    have hlow := find?_filter_alike (p := fun e : Nat × Nat × W64 => e.1 < bay || (e.1 == bay && e.2.1 < index))
      (q := fun e => e.1 == b && e.2.1 == i) (c := b < bay || (b == bay && i < index)) (fun e he => by
        simp only [Bool.and_eq_true, beq_iff_eq] at he
        rw [he.1, he.2]) (f.errmap.filter (fun e => !(e.1 == bay && e.2.1 == index)))
    have hhigh := find?_filter_alike (p := fun e : Nat × Nat × W64 => bay < e.1 || (e.1 == bay && index < e.2.1))
      (q := fun e => e.1 == b && e.2.1 == i) (c := bay < b || (b == bay && index < i)) (fun e he => by
        simp only [Bool.and_eq_true, beq_iff_eq] at he
        rw [he.1, he.2]) (f.errmap.filter (fun e => !(e.1 == bay && e.2.1 == index)))
    have hmid : [(bay, index, x)].find? (fun e => e.1 == b && e.2.1 == i) = none := by
      rw [List.find?_singleton, if_neg]
      simp only [Bool.and_eq_true, beq_iff_eq]
      exact fun he => h ⟨he.1.symm, he.2.symm⟩
    have hfind : (setErrmap f bay index x).errmap.find? (fun e => e.1 == b && e.2.1 == i) =
        f.errmap.find? (fun e => e.1 == b && e.2.1 == i) := by
      rw [hset, List.find?_append, List.find?_append, hlow, hhigh, hmid, hrest]
      by_cases hlt : b < bay ∨ (b = bay ∧ i < index)
      · have hnot : ¬ (bay < b ∨ (b = bay ∧ index < i)) := by omega
        simp [hlt, hnot]
      · have hgt : bay < b ∨ (b = bay ∧ index < i) := by omega
        simp [hlt, hgt]
    unfold errmapWord
    rw [hfind]

/-! ### Counts -/

/-- One count of the error map. -/
theorem countErr_counts (k : Nat) {index : Nat} (hi : index < 134) (s : State) : counts k [index] s (countErr k index s) := by
  simp only [counts, List.mem_singleton]
  by_cases hfull : (errmapWord s.fw s.seq.bayId.toNat index).toNat / 2 ^ (21 * k) % 2 ^ 21 = 2 ^ 21 - 1
  · have hsame : countErr k index s = s := if_pos (beq_iff_eq.2 hfull)
    rw [hsame]
    refine ⟨rfl, fun b i => (if_neg ?_).symm⟩
    rintro ⟨rfl, -, rfl, hne⟩
    exact hne hfull
  · have hset : countErr k index s = onFw (fun f => setErrmap f s.seq.bayId.toNat index
        (BitVec.ofNat 64 ((errmapWord s.fw s.seq.bayId.toNat index).toNat + 2 ^ (21 * k)))) s :=
      if_neg (mt beq_iff_eq.1 hfull)
    rw [hset]
    refine ⟨rfl, fun b i => ?_⟩
    show errmapWord (setErrmap _ _ _ _) b i = _
    by_cases hword : b = s.seq.bayId.toNat ∧ i = index
    · obtain ⟨rfl, rfl⟩ := hword
      by_cases hbay : s.seq.bayId.toNat < 160
      · rw [errmapWord_setErrmap _ _ _ _ hbay hi, if_pos ⟨rfl, hbay, rfl, hfull⟩, BitVec.ofNat_add, BitVec.ofNat_toNat,
          BitVec.setWidth_eq]
      · rw [if_neg (fun h => hbay h.2.1)]
        simp [errmapWord, hbay]
    · rw [errmapWord_setErrmap_other _ _ hword, if_neg (fun h => hword ⟨h.1, h.2.2.1⟩)]

theorem counts_congr {k : Nat} {ws ws' : List Nat} {s u : State} (h : ∀ i, i ∈ ws ↔ i ∈ ws') (hc : counts k ws s u) : counts k ws' s u := by
  simpa only [counts, h] using hc

/-- Counts of words and of others one after the other are the counts of all of them. -/
theorem counts_trans {k : Nat} {ws ws' : List Nat} {s u v : State} (h : counts k ws s u) (h' : counts k ws' u v)
    (hd : ∀ i ∈ ws, i ∉ ws') : counts k (ws ++ ws') s v := by
  obtain ⟨hu, hwu⟩ := h
  obtain ⟨hv, hwv⟩ := h'
  have hbay : u.seq.bayId = s.seq.bayId := by rw [hu]
  refine ⟨?_, fun b i => ?_⟩
  · rw [hu] at hv
    exact hv
  · rw [hwv, hwu, hbay]
    by_cases hi : i ∈ ws
    · simp [hi, hd i hi]
    · simp [hi]

theorem foldl_countErr_counts (k : Nat) {words : List Nat} (hn : words.Nodup) (hw : ∀ i ∈ words, i < 134) (s : State) :
    counts k words s (words.foldl (fun s i => countErr k i s) s) := by
  induction words generalizing s with
  | nil => exact ⟨rfl, fun b i => by simp⟩
  | cons i words ih =>
    obtain ⟨hi, hrest⟩ := List.nodup_cons.1 hn
    exact counts_trans (countErr_counts k (hw i List.mem_cons_self) s) (ih hrest (fun j hj => hw j (List.mem_cons_of_mem _ hj)) _)
      (by simpa using hi)

/-! ### The words that a drain counts in -/

theorem physicalRow_le (rowmap : W64) {m : Nat} (h : m < 64) : physicalRow rowmap m ≤ 65 := by
  unfold physicalRow
  split_ifs <;> omega

theorem physicalRow_inj (rowmap : W64) {m n : Nat} (hm : m < 64) (hn : n < 64) (h : physicalRow rowmap m = physicalRow rowmap n) :
    m = n := by
  unfold physicalRow at h
  simp only [Bool.and_eq_true, beq_iff_eq] at h
  split_ifs at h <;> omega

theorem mapWords_nodup (s : State) {rows cols : List Nat} (hr : rows.Nodup) (hrow : ∀ m ∈ rows, m < 64) (hc : cols.Nodup)
    (hcol : ∀ n ∈ cols, n < 64) :
    (64 :: mapWords s rows cols).Nodup ∧ ∀ i ∈ 64 :: mapWords s rows cols, i < 131 := by
  have hmem : ∀ i ∈ mapWords s rows cols, (65 ≤ i ∧ i < 131) ∨ i < 64 := by
    intro i hi
    rcases List.mem_append.1 hi with hi | hi
    · obtain ⟨m, hm, rfl⟩ := List.mem_map.1 hi
      have := physicalRow_le (errmapWord s.fw s.seq.bayId.toNat 132) (hrow m hm)
      omega
    · exact .inr (hcol i hi)
  refine ⟨List.nodup_cons.2 ⟨fun h => by have := hmem 64 h; omega, List.nodup_append'.2 ⟨?_, hc, ?_⟩⟩, ?_⟩
  · exact hr.map_on (fun m hm n hn heq => physicalRow_inj _ (hrow m hm) (hrow n hn) (Nat.add_left_cancel heq))
  · intro i hi hi'
    obtain ⟨m, -, rfl⟩ := List.mem_map.1 hi
    have := hcol _ hi'
    omega
  · refine List.forall_mem_cons.2 ⟨by decide, fun i hi => ?_⟩
    have := hmem i hi
    omega

theorem rowmapOf_countErr (k : Nat) {index : Nat} (hi : index < 131) (s : State) : rowmapOf (countErr k index s) = rowmapOf s := by
  obtain ⟨hs, hwords⟩ := countErr_counts k (show index < 134 by omega) s
  have hbay : (countErr k index s).seq.bayId = s.seq.bayId := by rw [hs]
  rw [rowmapOf, hwords, if_neg, hbay, rowmapOf]
  simp only [List.mem_singleton]
  omega

/-- The rows of a drain are counted where the spare mapping places them, which counting leaves alone. -/
theorem countRows_eq (k : Nat) {rows : List Nat} (h : ∀ m ∈ rows, m < 64) (s : State) :
    rows.foldl (fun s m => countErr k (65 + physicalRow (rowmapOf s) m) s) s =
      (rows.map (fun m => 65 + physicalRow (rowmapOf s) m)).foldl (fun s i => countErr k i s) s := by
  induction rows generalizing s with
  | nil => rfl
  | cons m rows ih =>
    have hm := physicalRow_le (rowmapOf s) (h m List.mem_cons_self)
    rw [List.foldl_cons, ih (fun n hn => h n (List.mem_cons_of_mem _ hn)), rowmapOf_countErr k (by omega)]
    rfl

theorem countDrain_counts (k : Nat) {rows cols : List Nat} (hr : rows.Nodup) (hrow : ∀ m ∈ rows, m < 64) (hc : cols.Nodup)
    (hcol : ∀ n ∈ cols, n < 64) (s : State) :
    counts k (if k = 1 ∧ cols = [] then 64 :: mapWords s rows cols else mapWords s rows cols) s (countDrain k rows cols s) := by
  obtain ⟨hnodup, hlt⟩ := mapWords_nodup s hr hrow hc hcol
  obtain ⟨hnot, hnodup⟩ := List.nodup_cons.1 hnodup
  have hlines : counts k (mapWords s rows cols) s ((mapWords s rows cols).foldl (fun s i => countErr k i s) s) :=
    foldl_countErr_counts k hnodup (fun i hi => (hlt i (List.mem_cons_of_mem _ hi)).trans (by decide)) s
  have hdrain : countDrain k rows cols s =
      if k == 1 && cols.isEmpty then countErr k 64 ((mapWords s rows cols).foldl (fun s i => countErr k i s) s)
      else (mapWords s rows cols).foldl (fun s i => countErr k i s) s := by
    rw [mapWords, List.foldl_append]
    unfold countDrain
    dsimp only
    rw [countRows_eq k hrow]
    rfl
  rw [hdrain]
  by_cases h : k = 1 ∧ cols = []
  · rw [if_pos h, if_pos (by simpa using h)]
    refine counts_congr (fun i => ?_) (counts_trans hlines (countErr_counts k (by decide) _) (fun i hi => ?_))
    · simp [or_comm]
    · rintro hi'
      rw [List.mem_singleton.1 hi'] at hi
      exact hnot hi
  · rw [if_neg h, if_neg (by simpa using h)]
    exact hlines

/-! ### Flagged lines -/

/-- The indices of a class, each once and within the list. -/
theorem indicesOf_nodup (c : LineClass) (cs : List LineClass) : (indicesOf c cs).Nodup ∧ ∀ i ∈ indicesOf c cs, i < cs.length := by
  have hsub : (indicesOf c cs).Sublist (List.range' 0 cs.length) := by
    rw [← List.zipIdx_map_snd 0 cs]
    exact List.filter_sublist.map _
  exact ⟨hsub.nodup List.nodup_range', fun i hi => by simpa using hsub.subset hi⟩

end Sys2Proof.Machine
end

section
/-! PROOFS. `tdrain` and `tchk`, and what a drain with flagged lines does (R64 to R67, R74, R166). -/

open Sys2Proof.Claims

namespace Sys2Proof.Machine

/-! ### What a drain of a tile gives -/

section
variable (ce : Bool) (t : Tile)

theorem drainTile_clean (hr : indicesOf .flagged (drainView t).rows = []) (hc : indicesOf .flagged (drainView t).cols = []) :
    drainTile ce t = .done (drained t (drainView t).act (drainView t).rows (drainView t).cols) none [] [] := by
  simp only [drainTile, hr, hc]

theorem residualOf_drain (now was : W32) :
    residualOf (drainView t).int now was = residue (if tagFmt t.tag = 3 then 3 else 1) now was := by
  rw [← residualOf_eq]
  congr 1
  show (tagFmt t.tag == 3) = _
  split
  · exact beq_iff_eq.2 ‹_›
  · exact beq_false_of_ne ‹_›

/-- A flagged row and a flagged column meet at an element that is corrected. -/
theorem drainTile_crossed {m n : Nat} (hr : indicesOf .flagged (drainView t).rows = [m])
    (hc : indicesOf .flagged (drainView t).cols = [n]) :
    drainTile false t = .trap 0x02 [m] [n] ∧
      (correctElement t m n = none → drainTile true t = .trap 0x01 [m] [n]) ∧
      ∀ x, correctElement t m n = some x →
        let u := { t with data := setSlot t.data m n x }
        drainTile true t = .done (drained u (drainView u).act (drainView t).rows (drainView t).cols)
          (some (1, m, n, residue (if tagFmt t.tag = 3 then 3 else 1) ((drainView t).act.rows.getD m 0) (lane t.rowSum m)))
          [m] [n] := by
  refine ⟨?_, fun hx => ?_, fun x hx => ?_⟩
  · simp only [drainTile, hr, hc, Bool.not_false, if_true]
  · simp only [drainTile, hr, hc, Bool.not_true, Bool.false_eq_true, if_false, hx]
  · rw [← residualOf_drain]
    simp only [drainTile, hr, hc, Bool.not_true, Bool.false_eq_true, if_false, hx]
    rfl

/-- One flagged row is repaired. -/
theorem drainTile_row {m : Nat} (hr : indicesOf .flagged (drainView t).rows = [m])
    (hc : indicesOf .flagged (drainView t).cols = []) :
    drainTile false t = .trap 0x03 [m] [] ∧
      drainTile true t = .done (drained t (drainView t).act (drainView t).rows (drainView t).cols)
        (some (2, m, 0, residue (if tagFmt t.tag = 3 then 3 else 1) ((drainView t).act.rows.getD m 0) (lane t.rowSum m)))
        [m] [] := by
  rw [← residualOf_drain]
  simp only [drainTile, hr, hc, Bool.not_false, Bool.not_true, Bool.false_eq_true, if_true, if_false, and_self]

/-- One flagged column is repaired. -/
theorem drainTile_col {n : Nat} (hr : indicesOf .flagged (drainView t).rows = [])
    (hc : indicesOf .flagged (drainView t).cols = [n]) :
    drainTile false t = .trap 0x03 [] [n] ∧
      drainTile true t = .done (drained t (drainView t).act (drainView t).rows (drainView t).cols)
        (some (3, 0, n, residue (if tagFmt t.tag = 3 then 3 else 1) ((drainView t).act.cols.getD n 0) (lane t.colSum n)))
        [] [n] := by
  rw [← residualOf_drain]
  simp only [drainTile, hr, hc, Bool.not_false, Bool.not_true, Bool.false_eq_true, if_true, if_false, and_self]

/-- More than one flagged row, or more than one flagged column, is a failure. -/
theorem drainTile_many (h : 1 < (indicesOf .flagged (drainView t).rows).length ∨ 1 < (indicesOf .flagged (drainView t).cols).length) :
    drainTile ce t =
      .trap 0x01 (indicesOf .flagged (drainView t).rows) (indicesOf .flagged (drainView t).cols) := by
  unfold drainTile
  dsimp only
  split
  · rename_i hr hc
    simp [hr, hc] at h
  · rename_i hr hc
    simp [hr, hc] at h
  · rename_i hr hc
    simp [hr, hc] at h
  · rename_i hr hc
    simp [hr, hc] at h
  · rfl

end

/-! ### A drain that traps, and one that goes on -/

/-- The state that a correction or repair leaves: the tile written, and the event noted and counted. -/
def fixedState (r : Reg4) (tile : Tile) (kind : BitVec 3) (row col : Nat) (res : W32) (rows cols : List Nat) (s : State) : State :=
  countDrain (if kind.toNat = 1 then 0 else 1) rows cols
    (fixNoted kind.toNat row col r.toNat res (onSeq (fun q => q.setT r tile) s))

/-- What follows a correction or repair: the trap of CKCTL.TC, before or after the rest of the word, or the rest alone. -/
def afterFix (quits : Bool) (t : TrapInfo) (tc : Bool) (after : State → State) (u : State) : State :=
  if tc then (if quits then raise t u else raiseAfter t (after u)) else after u

theorem fixField_toNat : ∀ kind : BitVec 3, (if kind == 1 then 0 else 1 : Nat) = if kind.toNat = 1 then 0 else 1 := by
  decide

theorem countDrain_seq (k : Nat) (rows cols : List Nat) (s : State) : (countDrain k rows cols s).seq = s.seq := by
  have herr : ∀ (s : State) (i : Nat), (countErr k i s).seq = s.seq := by
    intro s i
    simp only [countErr]
    split <;> rfl
  have hfold : ∀ (f : State → Nat → Nat) (xs : List Nat) (s : State), (xs.foldl (fun s i => countErr k (f s i) s) s).seq = s.seq :=
    fun f xs s => foldl_keeps State.seq _ (fun s i => herr s (f s i)) xs s
  unfold countDrain
  dsimp only
  split
  · rw [herr, hfold, hfold]
  · rw [hfold, hfold]

theorem vectors_fixedState (r : Reg4) (tile : Tile) (kind : BitVec 3) (row col : Nat) (res : W32) (rows cols : List Nat) (s : State) :
    (fixedState r tile kind row col res rows cols s).seq.v = s.seq.v := by
  rw [fixedState, countDrain_seq]
  rfl

section
variable (quits : Bool) (r : Reg4) (after : State → State) {s : State} (hn : (readT s r).nacc ≠ 0)
include hn

theorem drain_trap {detail : BitVec 6} {rows cols : List Nat}
    (h : drainTile (correctEnabled s) (readT s r) = .trap detail rows cols) : drain quits r after s =
      raise (cause 4 detail 0 (sumInfo rows cols r.toNat)) (if detail = 1 then countDrain 2 rows cols s else s) := by
  have hnacc : ((readT s r).nacc == 0) = false := beq_false_of_ne hn
  simp only [drain, hnacc, Bool.false_eq_true, if_false, h, beq_iff_eq]
  rfl

theorem drain_clean {tile : Tile} {rows cols : List Nat}
    (h : drainTile (correctEnabled s) (readT s r) = .done tile none rows cols) :
    drain quits r after s = after (onSeq (fun q => q.setT r tile) s) := by
  have hnacc : ((readT s r).nacc == 0) = false := beq_false_of_ne hn
  simp only [drain, hnacc, Bool.false_eq_true, if_false, h, landTiles_single]

theorem drain_fixes {tile : Tile} {kind : BitVec 3} {row col : Nat} {res : W32} {rows cols : List Nat}
    (h : drainTile (correctEnabled s) (readT s r) = .done tile (some (kind, row, col, res)) rows cols) :
    drain quits r after s = afterFix quits (cause 4 0x04 0 (sumInfo rows cols r.toNat)) (s.seq.ckctl.getLsbD 1) after
      (fixedState r tile kind row col res rows cols s) := by
  have hnacc : ((readT s r).nacc == 0) = false := beq_false_of_ne hn
  have htc : trapOnCorrect (fixedState r tile kind row col res rows cols s) = s.seq.ckctl.getLsbD 1 := by
    rw [trapOnCorrect, fixedState, countDrain_seq]
    rfl
  rw [← htc]
  unfold fixedState
  rw [← fixField_toNat]
  simp only [drain, hnacc, Bool.false_eq_true, if_false, h, landTiles_single, noteFix_eq]
  rfl

end

/-- A drain of a tile of products does as R64 to R67 say. -/
theorem drain_drains {quits : Bool} {r : Reg4} {after : State → State} {s : State} (hn : (readT s r).nacc ≠ 0)
    {traps : BitVec 6 → State → Prop} {goesOn : Bool → State → Prop} {info : W64}
    (hinfo : sumInfo (indicesOf .flagged (drainView (readT s r)).rows) (indicesOf .flagged (drainView (readT s r)).cols) r.toNat = info)
    (htraps : ∀ detail u, drain quits r after s = raise (cause 4 detail 0 info) u → traps detail u)
    (hclean : ∀ u, u.seq.v = s.seq.v → drain quits r after s = after u → goesOn false u)
    (hfixed : ∀ u, u.seq.v = s.seq.v →
      drain quits r after s = afterFix quits (cause 4 0x04 0 info) (s.seq.ckctl.getLsbD 1) after u → goesOn true u) :
    drains r s traps goesOn := by
  unfold drains
  intro t w fr fc ce left fixed kind rowRes fails
  have hlines : fr.Nodup ∧ (∀ m ∈ fr, m < 64) ∧ fc.Nodup ∧ ∀ n ∈ fc, n < 64 := by
    obtain ⟨hr, hrow⟩ := indicesOf_nodup .flagged w.rows
    obtain ⟨hc, hcol⟩ := indicesOf_nodup .flagged w.cols
    obtain ⟨hrows, hcols⟩ := length_drainView t
    rw [hrows] at hrow
    rw [hcols] at hcol
    exact ⟨hr, hrow, hc, hcol⟩
  have hcounts := fun k => countDrain_counts k hlines.1 hlines.2.1 hlines.2.2.1 hlines.2.2.2
  have hinfo : sumInfo fr fc r.toNat = info := hinfo
  have htrap : ∀ {detail on}, on = ce → drainTile on t = .trap detail fr fc →
      traps detail (if detail = 1 then countDrain 2 fr fc s else s) := by
    intro detail on hon h
    rw [hon] at h
    exact htraps detail _ ((drain_trap quits r after hn h).trans (by rw [hinfo]))
  have hfails : ∀ {on}, on = ce → drainTile on t = .trap 0x01 fr fc → fails :=
    fun hon h => ⟨_, htrap hon h, hcounts 2 s⟩
  have hfix : ∀ {tile on row col res} (k : BitVec 3), on = ce → drainTile on t = .done tile (some (k, row, col, res)) fr fc →
      fixed k.toNat row col res tile
        (if (if k.toNat = 1 then 0 else 1) = 1 ∧ fc = [] then 64 :: mapWords s fr fc else mapWords s fr fc) := by
    intro tile on row col res k hon h
    rw [hon] at h
    exact ⟨fixedState r tile k row col res fr fc s, hfixed _ (vectors_fixedState ..)
      ((drain_fixes quits r after hn h).trans (by rw [hinfo])), hcounts _ _⟩
  refine ⟨fun hr hc => hclean _ rfl (drain_clean quits r after hn (drainTile_clean _ t hr hc)), fun m n hr hc => ?_,
    fun m hr hc => ?_, fun n hr hc => ?_, fun h => hfails rfl (drainTile_many _ t h)⟩
  · obtain ⟨hoff, hnone, hsome⟩ := drainTile_crossed t hr hc
    rw [← hr, ← hc] at hoff hnone hsome
    refine ⟨fun hce => htrap hce.symm hoff, fun hce hx => hfails hce.symm (hnone hx), fun x hce hx => ?_⟩
    have h := hfix 1 hce.symm (hsome x hx)
    rwa [hr, hc] at h
  · obtain ⟨hoff, hon⟩ := drainTile_row t hr hc
    rw [← hr, ← hc] at hoff hon
    refine ⟨fun hce => htrap hce.symm hoff, fun hce => ?_⟩
    have h := hfix 2 hce.symm hon
    rwa [hr, hc] at h
  · obtain ⟨hoff, hon⟩ := drainTile_col t hr hc
    rw [← hc, ← hr] at hoff hon
    refine ⟨fun hce => htrap hce.symm hoff, fun hce => ?_⟩
    have h := hfix 3 hce.symm hon
    rwa [hr, hc] at h

end Sys2Proof.Machine
end

section
/-! PROOFS. `tdrain`, `tchk` and `tdrq` (R64 to R67, R166, R167). -/

open Sys2Proof.Claims

namespace Sys2Proof.Machine

/-! ### Drains and checks without and with flagged lines -/

/-- A class that no line has gives no index. -/
theorem indicesOf_eq_nil {c : LineClass} {cs : List LineClass} (h : ∀ x ∈ cs, x ≠ c) : indicesOf c cs = [] := by
  rw [indicesOf, List.map_eq_nil_iff, List.filter_eq_nil_iff]
  intro x hx
  simpa using h x.1 (List.fst_mem_of_mem_zipIdx hx)

theorem checkTile_sums {t : Tile} (hn : t.nacc = 0) (tile : Nat) : checkTile t tile =
    if (verifySums (tagFmt t.tag) t.values (heldSums t)).rows = [] ∧ (verifySums (tagFmt t.tag) t.values (heldSums t)).cols = [] then none
    else some (cause 4 0x0B 0 (sumInfo (verifySums (tagFmt t.tag) t.values (heldSums t)).rows
      (verifySums (tagFmt t.tag) t.values (heldSums t)).cols tile)) := by
  simp only [checkTile, hn, beq_self_eq_true, if_true, Bool.and_eq_true, List.isEmpty_iff]
  rfl

theorem checkTile_lines {t : Tile} (hn : t.nacc ≠ 0) (tile : Nat) : checkTile t tile =
    if indicesOf .flagged (drainView t).rows = [] ∧ indicesOf .flagged (drainView t).cols = [] then none
    else some (cause 4 0x0B 0 (sumInfo (indicesOf .flagged (drainView t).rows) (indicesOf .flagged (drainView t).cols) tile)) := by
  simp only [checkTile, beq_false_of_ne hn, Bool.false_eq_true, if_false, Bool.and_eq_true, List.isEmpty_iff]
  rfl

/-- A drain of a tile without products is its check. -/
theorem drain_checks {quits : Bool} {r : Reg4} {after : State → State} {s : State} (hn : (readT s r).nacc = 0) :
    drain quits r after s = match checkTile (readT s r) r.toNat with
      | some x => raise x s
      | none => after s := by
  rw [drain]
  exact if_pos (beq_iff_eq.2 hn)

section
variable {hd : Hdr} {s : State} (h : xacts hd s) {d : Reg4} (ht : badTag (readT s d).tag = false)
include h ht

theorem exec_tdrain : exec (.tdrain hd d) s = next (drain false d id s) :=
  (xWord_acts h).trans (congrArg next (unlessCheck_none (tileCheck_good ht)))

theorem exec_tchk : exec (.tchk hd d) s = next (unlessCheck (fun s => checkTile (readT s d) d.toNat) id s) := by
  refine (xWord_acts h).trans (congrArg next ?_)
  simp only [unlessCheck, tileCheck_good ht, Option.none_or]

theorem exec_tchk_of_none (hc : checkTile (readT s d) d.toNat = none) : exec (.tchk hd d) s = next s :=
  (exec_tchk h ht).trans (congrArg next (unlessCheck_none hc))

theorem exec_tchk_of_some {x : TrapInfo} (hc : checkTile (readT s d) d.toNat = some x) : exec (.tchk hd d) s = next (raise x s) :=
  (exec_tchk h ht).trans (congrArg next (unlessCheck_some hc))

end

theorem drainsRecomputeSums : DrainsRecomputeSums := by
  intro hd d s h t v w ht
  refine ⟨fun hn hr hc => ?_, fun hn hbad => ?_, fun hn hnone => ?_⟩
  · have hcheck : checkTile t d.toNat = none := (checkTile_sums hn _).trans (if_pos ⟨hr, hc⟩)
    refine ⟨(exec_tdrain h ht).trans (congrArg next ?_), exec_tchk_of_none h ht hcheck⟩
    rw [drain_checks hn, hcheck]
    rfl
  · have hcheck : checkTile t d.toNat = some (cause 4 0x0B 0 (sumInfo v.rows v.cols d.toNat)) :=
      (checkTile_sums hn _).trans (if_neg hbad)
    refine ⟨(exec_tdrain h ht).trans (congrArg next ?_), exec_tchk_of_some h ht hcheck⟩
    rw [drain_checks hn, hcheck]
  · obtain ⟨hrows, hcols⟩ := List.forall_mem_append.1 hnone
    have hr : indicesOf .flagged w.rows = [] := indicesOf_eq_nil hrows
    have hc : indicesOf .flagged w.cols = [] := indicesOf_eq_nil hcols
    refine ⟨(exec_tdrain h ht).trans (congrArg next ?_), exec_tchk_of_none h ht ((checkTile_lines hn _).trans (if_pos ⟨hr, hc⟩)),
      data_drained _ _ _ _, nacc_drained _ _ _ _, rfl⟩
    exact drain_clean false d id hn (drainTile_clean _ t hr hc)

theorem flaggedDrainsCorrectOrTrap : FlaggedDrainsCorrectOrTrap := by
  intro hd d s h t w fr fc info ht hn
  refine ⟨drain_drains (quits := false) (after := id) hn rfl (fun detail u hu => ?_) (fun u _ hu => ?_) (fun u _ hu => ?_),
    fun hflag => ?_⟩
  · rw [exec_tdrain h ht, hu]
  · rw [exec_tdrain h ht, hu]
    rfl
  · rw [exec_tdrain h ht, hu]
    rfl
  · exact exec_tchk_of_some h ht ((checkTile_lines hn _).trans (if_neg (mt List.append_eq_nil_iff.2 hflag)))

/-! ### Requantisation -/

/-- A byte of the four that a slot is put together from. -/
theorem extractLsb'_bytes (g : Nat → Byte) {j : Nat} (h : j < 4) :
    (g 3 ++ g 2 ++ g 1 ++ g 0 : W32).extractLsb' (8 * j) 8 = g j := by
  interval_cases j
  · exact BitVec.extractLsb'_append_eq_right
  · rw [BitVec.extractLsb'_append_eq_of_le (by decide)]
    exact BitVec.extractLsb'_append_eq_right
  · rw [BitVec.extractLsb'_append_eq_of_le (by decide), BitVec.extractLsb'_append_eq_of_le (by decide)]
    exact BitVec.extractLsb'_append_eq_right
  · rw [BitVec.extractLsb'_append_eq_of_le (by decide), BitVec.extractLsb'_append_eq_of_le (by decide)]
    exact BitVec.extractLsb'_append_eq_left

/-- The byte of an element of a row, requantised with the parameters of its column. -/
def requantByte (fmt : BitVec 4) (bias : Bool) (p : Nat → Nat → W32) (r : List W32) (n : Nat) : Byte :=
  requantise (fmt == 5) bias (r.getD n 0) (p 0 n) (p 1 n) (p 2 n) (p 3 n)

/-- A slot of a requantised row. -/
def requantSlot (fmt : BitVec 4) (bias : Bool) (p : Nat → Nat → W32) (r : List W32) (k : Nat) : W32 :=
  if k < 16 then
    requantByte fmt bias p r (4 * k + 3) ++ requantByte fmt bias p r (4 * k + 2) ++ requantByte fmt bias p r (4 * k + 1) ++
      requantByte fmt bias p r (4 * k)
  else 0

section
variable (fmt : BitVec 4) (bias : Bool) (t : Tile) (p : Nat → Nat → W32) (old : Tile)

theorem requantTile_data : (requantTile fmt bias (accRows t) p old).data =
    dataOfRows ((accRows t).map (fun r => ofWords 2048 ((List.range 64).map (requantSlot fmt bias p r)))) := rfl

/-- The bytes of a requantised tile: four elements to a slot in the first 16 slots of a row, and zeros after them. -/
theorem requantTile_byte {m k j : Nat} (hm : m < 64) (hk : k < 64) (hj : j < 4) :
    (lane (rowBits (requantTile fmt bias (accRows t) p old).data m) k).extractLsb' (8 * j) 8 =
      if k < 16 then requantise (fmt == 5) bias (lane (rowBits t.data m) (4 * k + j)) (p 0 (4 * k + j)) (p 1 (4 * k + j))
        (p 2 (4 * k + j)) (p 3 (4 * k + j)) else 0 := by
  have hslot : lane (rowBits (requantTile fmt bias (accRows t) p old).data m) k =
      requantSlot fmt bias p (rowSlots (rowBits t.data m)) k := by
    rw [requantTile_data, rowBits_dataOfRows _ _ hm, accRows, List.map_map, getD_map_range _ _ _ _ hm, Function.comp_apply,
      lane_ofWords _ _ (by omega), getD_map_range _ _ _ _ hk]
  rw [hslot, requantSlot]
  split
  · have helem : (rowSlots (rowBits t.data m)).getD (4 * k + j) 0 = lane (rowBits t.data m) (4 * k + j) :=
      getD_map_range _ _ _ _ (by omega)
    refine (extractLsb'_bytes (fun i => requantByte fmt bias p _ (4 * k + i)) hj).trans ?_
    rw [requantByte, helem]
  · exact BitVec.extractLsb'_zero

end

/-- The tile of `tdrq` is the accumulator requantised. -/
theorem requantTile_requantised (s : State) (v : Reg5) {f : BitVec 4} (hf : f = 4 ∨ f = 5) (e : BitVec 1) (t old : Tile) :
    requantised s v f e t (requantTile f (e == 1) (accRows t) (fun i n => lane (readV s (v + BitVec.ofNat 5 i)).data n) old) := by
  have hscale : scalable f = false := by rcases hf with rfl | rfl <;> decide
  refine ⟨?_, nacc_setNacc _ old.status 0 rfl, fun m k j hm hk hj => ?_⟩
  · rw [← hscale]
    rfl
  · rw [requantTile_byte _ _ _ _ _ hm hk hj]
    simp only [requantise, beq_iff_eq, apply_ite (BitVec.ofInt 8)]

section
variable {hd : Hdr} {s : State} (h : xacts hd s) (d : Reg4) {a : Reg4} {v : Reg5} (f : BitVec 4) (e : BitVec 1)

/-- What `tdrq` does after its drain. -/
def requantAct (d a : Reg4) (v : Reg5) (f : BitVec 4) (e : BitVec 1) (s : State) : State :=
  landTiles [(d, requantTile f (e == 1) (accRows (readT s a)) (fun i n => lane (readV s (v + BitVec.ofNat 5 i)).data n)
    (readT s d))] 0 s

theorem paramCheck_none (hv : ∀ i, i < 4 → intReg s (v + BitVec.ofNat 5 i)) : paramCheck v s = none := by
  rw [paramCheck, List.findSome?_eq_none_iff]
  intro i hi
  have hint := hv i (List.mem_range.1 hi)
  exact if_pos (by simpa [intReg] using hint)

include h in
theorem exec_tdrq (hfmt : tagFmt (readT s a).tag = 3) (hsc : tagSc (readT s a).tag = false)
    (hv : ∀ i, i < 4 → intReg s (v + BitVec.ofNat 5 i)) :
    exec (.tdrq hd d a v f e) s = next (drain true a (requantAct d a v f e) s) := by
  have hgood : badTag (readT s a).tag = false := by
    simp only [badTag, hfmt, hsc]
    rfl
  refine (xWord_acts h).trans (congrArg next (unlessCheck_none ?_))
  simp only [paramCheck_none hv, hfmt, hgood]
  rfl

/-- The landing of `tdrq`, in a state that holds the vector registers of `s`. -/
theorem requantAct_lands {f : BitVec 4} (hf : f = 4 ∨ f = 5) (a : Reg4) (v : Reg5) {u : State} (hv : u.seq.v = s.seq.v) :
    ∃ x : Tile, tileLands (next (requantAct d a v f e u)) d x u ∧ requantised s v f e (readT u a) x := by
  have hread : readV s = readV u := by
    funext r
    rw [readV, readV, hv]
  refine ⟨_, congrArg next (landTiles_single _ _ _), ?_⟩
  rw [requantised, hread]
  exact requantTile_requantised u v hf e _ _

end

theorem requantisationClampsElements : RequantisationClampsElements := by
  intro hd d a v f e s h t sums word w info hfmt hsc hf hv
  have hword : word = next (drain true a (requantAct d a v f e) s) := exec_tdrq h d f e hfmt hsc hv
  have hcheck : t.nacc = 0 → checkTile t a.toNat = if sums.rows = [] ∧ sums.cols = [] then none
      else some (cause 4 0x0B 0 (sumInfo sums.rows sums.cols a.toNat)) := by
    intro hn
    rw [checkTile_sums hn, hfmt]
  refine ⟨fun hn hr hc => ?_, fun hn hbad => ?_, fun hn => ?_⟩
  · rw [hword, drain_checks hn, (hcheck hn).trans (if_pos ⟨hr, hc⟩)]
    exact requantAct_lands d e hf a v rfl
  · rw [hword, drain_checks hn, (hcheck hn).trans (if_neg hbad)]
  · refine drain_drains (quits := true) (after := requantAct d a v f e) hn rfl (fun detail u hu => ?_) (fun u huv hu => ?_)
      (fun u huv hu => ?_)
    · rw [hword, hu]
    · rw [hword, hu]
      exact requantAct_lands d e hf a v huv
    · rw [hword, hu, afterFix]
      cases s.seq.ckctl.getLsbD 1
      · exact requantAct_lands d e hf a v huv
      · rfl

end Sys2Proof.Machine

namespace Sys2Proof.Proofs

open Sys2Proof.Machine

/-- Settles O35: a drain follows the classes of the lines, whose sums and tolerances the arithmetic of f32 codes gives; its counts
change the listed words of the error map alone; `tdrq` requantises what the drain leaves. -/
theorem drainsAndRequantisation : Obligations.DrainsAndRequantisation :=
  ⟨drainsRecomputeSums, drainsClassifyLines, correctionsChangeOneBit, flaggedDrainsCorrectOrTrap, requantisationClampsElements⟩

end Sys2Proof.Proofs
end

section
/-! PROOFS. The decoder and the encoder undo each other (R77, R87 to R92): the fields of each operand format, what the decoder
reads of an encoded word, and what it demands of a word that it accepts. -/

namespace Sys2Proof

/-! ### The fields of a word -/

theorem packWord_fields (hd : Hdr) (op : BitVec 6) (r : BitVec 19) :
    headerOf (packWord hd op r) = hd ∧ (packWord hd op r).extractLsb' 19 6 = op ∧ (packWord hd op r).extractLsb' 0 19 = r := by
  refine ⟨?_, ?_, ?_⟩
  · obtain ⟨c, g, pg, ps⟩ := hd
    simp only [headerOf, packWord, headerBits, Hdr.mk.injEq]
    refine ⟨?_, ?_, ?_, ?_⟩
    · simp; grind
    · simp; grind
    · ext; simp; grind
    · simp; grind
  · ext; simp [packWord]; grind
  · ext; simp [packWord]; grind

theorem packWord_headerOf (w : W32) : packWord (headerOf w) (w.extractLsb' 19 6) (w.extractLsb' 0 19) = w := by
  ext; simp [packWord, headerOf, headerBits]; grind

/-! ### The fields of the operand formats (R87, R88) -/

section
variable (a b cc : BitVec 5) (r : BitVec 19)

theorem packR_fields (fn : BitVec 4) :
    (packR a b cc fn).extractLsb' 14 5 = a ∧ (packR a b cc fn).extractLsb' 9 5 = b ∧
      (packR a b cc fn).extractLsb' 4 5 = cc ∧ (packR a b cc fn).extractLsb' 0 4 = fn := by
  refine ⟨?_, ?_, ?_, ?_⟩ <;> ext <;> simp [packR] <;> grind

theorem packI_fields (i : BitVec 9) :
    (packI a b i).extractLsb' 14 5 = a ∧ (packI a b i).extractLsb' 9 5 = b ∧ (packI a b i).extractLsb' 0 9 = i := by
  refine ⟨?_, ?_, ?_⟩ <;> ext <;> simp [packI] <;> grind

theorem packL_fields (i : BitVec 14) : (packL a i).extractLsb' 14 5 = a ∧ (packL a i).extractLsb' 0 14 = i := by
  refine ⟨?_, ?_⟩ <;> ext <;> simp [packL] <;> grind

theorem packM_fields (d : BitVec 6) (m : BitVec 3) :
    (packM a b d m).extractLsb' 14 5 = a ∧ (packM a b d m).extractLsb' 9 5 = b ∧ (packM a b d m).extractLsb' 3 6 = d ∧
      (packM a b d m).extractLsb' 0 3 = m := by
  refine ⟨?_, ?_, ?_, ?_⟩ <;> ext <;> simp [packM] <;> grind

theorem packT_fields (td ta tb : BitVec 4) (f : BitVec 7) :
    (packT td ta tb f).extractLsb' 15 4 = td ∧ (packT td ta tb f).extractLsb' 11 4 = ta ∧
      (packT td ta tb f).extractLsb' 7 4 = tb ∧ (packT td ta tb f).extractLsb' 0 7 = f := by
  refine ⟨?_, ?_, ?_, ?_⟩ <;> ext <;> simp [packT] <;> grind

theorem packTM_fields (td f : BitVec 4) (m : BitVec 1) :
    (packTM td a b f m).extractLsb' 15 4 = td ∧ (packTM td a b f m).extractLsb' 10 5 = a ∧
      (packTM td a b f m).extractLsb' 5 5 = b ∧ (packTM td a b f m).extractLsb' 1 4 = f ∧
      (packTM td a b f m).extractLsb' 0 1 = m := by
  refine ⟨?_, ?_, ?_, ?_, ?_⟩ <;> ext <;> simp [packTM] <;> grind

theorem packTV_fields (t : BitVec 4) :
    (packTV t a b cc).extractLsb' 15 4 = t ∧ (packTV t a b cc).extractLsb' 10 5 = a ∧
      (packTV t a b cc).extractLsb' 5 5 = b ∧ (packTV t a b cc).extractLsb' 0 5 = cc := by
  refine ⟨?_, ?_, ?_, ?_⟩ <;> ext <;> simp [packTV] <;> grind

theorem packLoopi_fields (k : BitVec 10) (l : BitVec 9) :
    (packLoopi k l).extractLsb' 9 10 = k ∧ (packLoopi k l).extractLsb' 0 9 = l := by
  refine ⟨?_, ?_⟩ <;> ext <;> simp [packLoopi] <;> grind

theorem packTdrq_fields (td ta fo : BitVec 4) (bi ze : BitVec 1) :
    (packTdrq td ta a fo bi ze).extractLsb' 15 4 = td ∧ (packTdrq td ta a fo bi ze).extractLsb' 11 4 = ta ∧
      (packTdrq td ta a fo bi ze).extractLsb' 6 5 = a ∧ (packTdrq td ta a fo bi ze).extractLsb' 2 4 = fo ∧
      (packTdrq td ta a fo bi ze).extractLsb' 1 1 = bi ∧ (packTdrq td ta a fo bi ze).extractLsb' 0 1 = ze := by
  refine ⟨?_, ?_, ?_, ?_, ?_, ?_⟩ <;> ext <;> simp [packTdrq] <;> grind

theorem exists_packR : ∃ a b cc fn, r = packR a b cc fn :=
  ⟨r.extractLsb' 14 5, r.extractLsb' 9 5, r.extractLsb' 4 5, r.extractLsb' 0 4, by ext; simp [packR]; grind⟩

theorem exists_packI : ∃ a b i, r = packI a b i :=
  ⟨r.extractLsb' 14 5, r.extractLsb' 9 5, r.extractLsb' 0 9, by ext; simp [packI]; grind⟩

theorem exists_packL : ∃ a i, r = packL a i :=
  ⟨r.extractLsb' 14 5, r.extractLsb' 0 14, by ext; simp [packL]; grind⟩

theorem exists_packM : ∃ a b d m, r = packM a b d m :=
  ⟨r.extractLsb' 14 5, r.extractLsb' 9 5, r.extractLsb' 3 6, r.extractLsb' 0 3, by ext; simp [packM]; grind⟩

theorem exists_packT : ∃ td ta tb f, r = packT td ta tb f :=
  ⟨r.extractLsb' 15 4, r.extractLsb' 11 4, r.extractLsb' 7 4, r.extractLsb' 0 7, by ext; simp [packT]; grind⟩

theorem exists_packTM : ∃ td b st f m, r = packTM td b st f m :=
  ⟨r.extractLsb' 15 4, r.extractLsb' 10 5, r.extractLsb' 5 5, r.extractLsb' 1 4, r.extractLsb' 0 1, by
    ext; simp [packTM]; grind⟩

theorem exists_packTV : ∃ t x y f, r = packTV t x y f :=
  ⟨r.extractLsb' 15 4, r.extractLsb' 10 5, r.extractLsb' 5 5, r.extractLsb' 0 5, by ext; simp [packTV]; grind⟩

theorem exists_packLoopi : ∃ k l, r = packLoopi k l :=
  ⟨r.extractLsb' 9 10, r.extractLsb' 0 9, by ext; simp [packLoopi]; grind⟩

theorem exists_packTdrq : ∃ td ta v f e z, r = packTdrq td ta v f e z :=
  ⟨r.extractLsb' 15 4, r.extractLsb' 11 4, r.extractLsb' 6 5, r.extractLsb' 2 4, r.extractLsb' 1 1, r.extractLsb' 0 1, by
    ext; simp [packTdrq]; grind⟩

end

/-! ### Fields that are made of parts

Each shape has its parts read back, and its parts put together again where some of them are known. -/

section
variable (x : BitVec 5) (i : BitVec 9) (f : BitVec 7)

/-- A field that names a predicate: bit 4, and the predicate's number. -/
theorem pred_fields (y : BitVec 1) (p : BitVec 4) :
    (y ++ p : BitVec 5).extractLsb' 4 1 = y ∧ (y ++ p : BitVec 5).extractLsb' 0 4 = p :=
  ⟨BitVec.extractLsb'_append_eq_left, BitVec.extractLsb'_append_eq_right⟩

theorem pred_of_fields {y : BitVec 1} (h : x.extractLsb' 4 1 = y) : (y ++ x.extractLsb' 0 4 : BitVec 5) = x := by
  subst h; ext; simp; grind

/-- I9 of `trap`, `fence` and the copy words. -/
theorem imm_fields (k : BitVec 3) (e : BitVec 6) :
    (k ++ e : BitVec 9).extractLsb' 6 3 = k ∧ (k ++ e : BitVec 9).extractLsb' 0 6 = e :=
  ⟨BitVec.extractLsb'_append_eq_left, BitVec.extractLsb'_append_eq_right⟩

theorem imm_of_fields {k : BitVec 3} (h : i.extractLsb' 6 3 = k) : (k ++ i.extractLsb' 0 6 : BitVec 9) = i := by
  subst h; ext; simp; grind

/-- I9 of the shifts by a constant. -/
theorem shift_fields (k : BitVec 2) (y : BitVec 1) (h : BitVec 6) :
    (k ++ y ++ h : BitVec 9).extractLsb' 7 2 = k ∧ (k ++ y ++ h : BitVec 9).extractLsb' 6 1 = y ∧
      (k ++ y ++ h : BitVec 9).extractLsb' 0 6 = h := by
  refine ⟨?_, ?_, ?_⟩ <;> ext <;> simp <;> grind

theorem shift_of_fields {k : BitVec 2} {y : BitVec 1} (hk : i.extractLsb' 7 2 = k) (hy : i.extractLsb' 6 1 = y) :
    (k ++ y ++ i.extractLsb' 0 6 : BitVec 9) = i := by
  subst hk hy; ext; simp; grind

/-- Cc of the conversions: two bits together, PART and RZ. -/
theorem cvt_fields (y t : BitVec 2) (z : BitVec 1) :
    (y ++ t ++ z : BitVec 5).extractLsb' 3 2 = y ∧ (y ++ t ++ z : BitVec 5).extractLsb' 1 2 = t ∧
      (y ++ t ++ z : BitVec 5).extractLsb' 0 1 = z := by
  refine ⟨?_, ?_, ?_⟩ <;> ext <;> simp <;> grind

/-- Cc of the conversions, its upper bits apart. -/
theorem cvtUnsigned_fields (u y : BitVec 1) (t : BitVec 2) (z : BitVec 1) :
    (u ++ y ++ t ++ z : BitVec 5).extractLsb' 4 1 = u ∧ (u ++ y ++ t ++ z : BitVec 5).extractLsb' 3 1 = y ∧
      (u ++ y ++ t ++ z : BitVec 5).extractLsb' 3 2 = u ++ y ∧
      (u ++ y ++ t ++ z : BitVec 5).extractLsb' 1 2 = t ∧ (u ++ y ++ t ++ z : BitVec 5).extractLsb' 0 1 = z := by
  refine ⟨?_, ?_, ?_, ?_, ?_⟩ <;> ext <;> simp <;> grind

theorem exists_cvtUnsigned : ∃ (u y : BitVec 1) (t : BitVec 2) (z : BitVec 1), x = u ++ y ++ t ++ z :=
  ⟨x.extractLsb' 4 1, x.extractLsb' 3 1, x.extractLsb' 1 2, x.extractLsb' 0 1, by ext; simp; grind⟩

/-- F7 of the matrix multiplies. -/
theorem mma_fields (c y e s w v t : BitVec 1) :
    (c ++ y ++ e ++ s ++ w ++ v ++ t : BitVec 7).extractLsb' 6 1 = c ∧
      (c ++ y ++ e ++ s ++ w ++ v ++ t : BitVec 7).extractLsb' 5 1 = y ∧
      (c ++ y ++ e ++ s ++ w ++ v ++ t : BitVec 7).extractLsb' 4 1 = e ∧
      (c ++ y ++ e ++ s ++ w ++ v ++ t : BitVec 7).extractLsb' 3 1 = s ∧
      (c ++ y ++ e ++ s ++ w ++ v ++ t : BitVec 7).extractLsb' 2 1 = w ∧
      (c ++ y ++ e ++ s ++ w ++ v ++ t : BitVec 7).extractLsb' 1 1 = v ∧
      (c ++ y ++ e ++ s ++ w ++ v ++ t : BitVec 7).extractLsb' 0 1 = t := by
  refine ⟨?_, ?_, ?_, ?_, ?_, ?_, ?_⟩ <;> ext <;> simp <;> grind

theorem mma_of_fields {c y : BitVec 1} (hc : f.extractLsb' 6 1 = c) (hy : f.extractLsb' 5 1 = y) :
    (c ++ y ++ f.extractLsb' 4 1 ++ f.extractLsb' 3 1 ++ f.extractLsb' 2 1 ++ f.extractLsb' 1 1 ++ f.extractLsb' 0 1 :
      BitVec 7) = f := by
  subst hc hy; ext; simp; grind

/-- F7 of the tile operations. -/
theorem tops_fields (k : BitVec 4) (y : BitVec 3) :
    (k ++ y : BitVec 7).extractLsb' 3 4 = k ∧ (k ++ y : BitVec 7).extractLsb' 0 3 = y :=
  ⟨BitVec.extractLsb'_append_eq_left, BitVec.extractLsb'_append_eq_right⟩

/-- F7 of the tile operations, RZ of `tcvt` apart. -/
theorem tcvt_fields (k : BitVec 4) (y : BitVec 2) (z : BitVec 1) :
    (k ++ y ++ z : BitVec 7).extractLsb' 3 4 = k ∧ (k ++ y ++ z : BitVec 7).extractLsb' 0 3 = y ++ z ∧
      (k ++ y ++ z : BitVec 7).extractLsb' 1 2 = y ∧ (k ++ y ++ z : BitVec 7).extractLsb' 0 1 = z := by
  refine ⟨?_, ?_, ?_, ?_⟩ <;> ext <;> simp <;> grind

theorem exists_tcvt : ∃ (k : BitVec 4) (y : BitVec 2) (z : BitVec 1), f = k ++ y ++ z :=
  ⟨f.extractLsb' 3 4, f.extractLsb' 1 2, f.extractLsb' 0 1, by ext; simp; grind⟩

end

theorem append_eq_zero_two {u y : BitVec 1} : (u ++ y : BitVec 2) = 0#2 ↔ u = 0#1 ∧ y = 0#1 := by
  decide +revert

theorem append_eq_zero_three {y : BitVec 2} {z : BitVec 1} : (y ++ z : BitVec 3) = 0#3 ↔ y = 0#2 ∧ z = 0#1 := by
  decide +revert

/-- The literal of a code that a decoder has matched. -/
theorem eq_ofNat_of_toNat_eq {n k : Nat} {x : BitVec n} (h : x.toNat = k) : x = BitVec.ofNat n k := by
  rw [← h, BitVec.ofNat_toNat, BitVec.setWidth_eq]

/-! ### The opcode map and the checks -/

/-- The major opcode map (R90). -/
theorem decodeMajor_map (hd : Hdr) (r : BitVec 19) :
    decodeMajor hd 0x00#6 r = decodeSys hd r ∧ decodeMajor hd 0x01#6 r = decodeAlu hd r ∧
    decodeMajor hd 0x02#6 r = decodeAlu2 hd r ∧ decodeMajor hd 0x03#6 r = decodeAddi hd r ∧
    decodeMajor hd 0x04#6 r = decodeAndi hd r ∧ decodeMajor hd 0x05#6 r = decodeOri hd r ∧
    decodeMajor hd 0x06#6 r = decodeXori hd r ∧ decodeMajor hd 0x07#6 r = decodeShi hd r ∧
    decodeMajor hd 0x08#6 r = decodeLi hd r ∧ decodeMajor hd 0x09#6 r = decodeLsh hd r ∧
    decodeMajor hd 0x0A#6 r = decodeCmp hd r ∧ decodeMajor hd 0x0B#6 r = decodeCmpeqi hd r ∧
    decodeMajor hd 0x0C#6 r = decodeCmplti hd r ∧ decodeMajor hd 0x0D#6 r = decodeCmpltui hd r ∧
    decodeMajor hd 0x0E#6 r = decodeBr hd r ∧ decodeMajor hd 0x0F#6 r = decodeCall hd r ∧
    decodeMajor hd 0x10#6 r = decodeJmp hd r ∧ decodeMajor hd 0x11#6 r = decodeLoop hd r ∧
    decodeMajor hd 0x12#6 r = decodeLoopi hd r ∧ decodeMajor hd 0x13#6 r = decodePred hd r ∧
    decodeMajor hd 0x15#6 r = decodeLd hd r ∧ decodeMajor hd 0x16#6 r = decodeSt hd r ∧
    decodeMajor hd 0x17#6 r = decodeFe hd r ∧ decodeMajor hd 0x18#6 r = decodeVld hd r ∧
    decodeMajor hd 0x19#6 r = decodeVst hd r ∧ decodeMajor hd 0x1A#6 r = decodeVldg hd r ∧
    decodeMajor hd 0x1B#6 r = decodeVsts hd r ∧ decodeMajor hd 0x1C#6 r = decodeAtom32 hd r ∧
    decodeMajor hd 0x1D#6 r = decodeAtom64 hd r ∧ decodeMajor hd 0x1E#6 r = decodeFence hd r ∧
    decodeMajor hd 0x1F#6 r = decodeOwn hd r ∧ decodeMajor hd 0x20#6 r = decodeValu hd r ∧
    decodeMajor hd 0x21#6 r = decodeValus hd r ∧ decodeMajor hd 0x22#6 r = decodeVfalu hd r ∧
    decodeMajor hd 0x23#6 r = decodeVfma hd r ∧ decodeMajor hd 0x24#6 r = decodeVcmp hd r ∧
    decodeMajor hd 0x25#6 r = decodeVcvt hd r ∧ decodeMajor hd 0x26#6 r = decodeVred hd r ∧
    decodeMajor hd 0x27#6 r = decodeVperm hd r ∧ decodeMajor hd 0x28#6 r = decodeVsplat hd r ∧
    decodeMajor hd 0x29#6 r = decodeTld hd r ∧ decodeMajor hd 0x2A#6 r = decodeTst hd r ∧
    decodeMajor hd 0x2B#6 r = decodeTlds hd r ∧ decodeMajor hd 0x2C#6 r = decodeMma hd r ∧
    decodeMajor hd 0x2D#6 r = decodeTops hd r ∧ decodeMajor hd 0x2E#6 r = decodeTdrq hd r ∧
    decodeMajor hd 0x2F#6 r = decodeTvec hd r ∧ decodeMajor hd 0x30#6 r = decodeCb hd r ∧
    decodeMajor hd 0x31#6 r = decodeCpy hd r ∧ decodeMajor hd 0x32#6 r = decodeSync hd r ∧
    decodeMajor hd 0x33#6 r = decodeRec hd r ∧ decodeMajor hd 0x34#6 r = decodeColl hd r ∧
    decodeMajor hd 0x35#6 r = decodeLaunch hd r ∧ decodeMajor hd 0x36#6 r = decodeTime hd r ∧
    decodeMajor hd 0x37#6 r = decodeWin hd r := by
  and_intros <;> rfl

theorem checkRaw_eq_ok {raw : RawInstr} {i : Instr} :
    checkRaw raw = .ok i ↔
      raw.instr = i ∧ raw.predOk = true ∧ raw.limitOk = true ∧ raw.zeroOk = true ∧ i.wellFormed = true := by
  constructor
  · intro h
    unfold checkRaw at h
    split_ifs at h
    cases h
    simp_all [Instr.wellFormed]
  · rintro ⟨rfl, hp, hl, hz, hwf⟩
    simp_all [checkRaw, Instr.wellFormed]

/-- A word decodes to what its major's decoder reads, if that passes the checks. -/
theorem decodeWord_packWord {hd : Hdr} {op : BitVec 6} {r : BitVec 19} {i : Instr} :
    decodeWord (packWord hd op r) = .ok i ↔ ∃ raw, decodeMajor hd op r = .ok raw ∧ checkRaw raw = .ok i := by
  obtain ⟨hhd, hop, hr⟩ := packWord_fields hd op r
  rw [decodeWord, hhd, hop, hr]
  cases decodeMajor hd op r <;> simp

/-! ### From an instruction to its word and back -/

/-- The decoder of an encoded word's major reads the instruction, and finds every bit that no field shows as it must be. -/
theorem decodeMajor_of_encode {i : Instr} {w : W32} (h : encode i = some w) :
    ∃ hd op r, w = packWord hd op r ∧ decodeMajor hd op r = .ok ⟨i, true, true, true⟩ := by
  cases i <;> cases h <;> refine ⟨_, _, _, rfl, ?_⟩ <;>
    simp only [decodeMajor_map, decodeSys, decodeAlu, decodeAlu2, decodeAddi, decodeAndi, decodeOri, decodeXori, decodeShi,
      decodeLi, decodeLsh, decodeCmp, decodeCmpeqi, decodeCmplti, decodeCmpltui, decodeBr, decodeCall, decodeJmp, decodeLoop,
      decodeLoopi, decodePred, decodeLd, decodeSt, decodeFe, decodeVld, decodeVst, decodeVldg, decodeVsts, decodeAtom32,
      decodeAtom64, decodeFence, decodeOwn, decodeValu, decodeValus, decodeVfalu, decodeVfma, decodeVcmp, decodeVcvt, decodeVred,
      decodeVperm, decodeVsplat, decodeTld, decodeTst, decodeTlds, decodeMma, decodeTops, decodeTdrq, decodeTvec, decodeCb,
      decodeCpy, decodeSync, decodeRec, decodeColl, decodeLaunch, decodeTime, decodeWin, packR_fields, packI_fields, packL_fields,
      packJ, packM_fields, packT_fields, packTM_fields, packTV_fields, packLoopi_fields, packTdrq_fields, pred_fields, imm_fields,
      shift_fields, cvt_fields, cvtUnsigned_fields, mma_fields, tops_fields, tcvt_fields, BitVec.extractLsb'_eq_self,
      BitVec.reduceToNat, beq_self_eq_true, Bool.and_self, BitVec.ofNat_eq_ofNat]

end Sys2Proof

namespace Sys2Proof.Proofs

/-- Settles O2: the decoder of the word's major reads the instruction back, and well-formedness is what the checks ask. -/
theorem decodeUndoesEncode : Obligations.DecodeUndoesEncode := by
  intro i w he hwf
  obtain ⟨hd, op, r, rfl, hread⟩ := decodeMajor_of_encode he
  exact decodeWord_packWord.2 ⟨_, hread, checkRaw_eq_ok.2 ⟨rfl, rfl, rfl, rfl, hwf⟩⟩

end Sys2Proof.Proofs

namespace Sys2Proof

/-! ### From a word to its instruction and back -/

/-- What a decoder reads from operand bits encodes, once the bits that no field shows are as they must be, to the word that it
was read from. -/
def Rereads (hd : Hdr) (op : BitVec 6) (r : BitVec 19) : Except DecodeError RawInstr → Prop
  | .error _ => True
  | .ok raw => raw.predOk = true → raw.limitOk = true → raw.zeroOk = true → encode raw.instr = some (packWord hd op r)

section
variable {hd : Hdr} {op : BitVec 6} {r : BitVec 19}

theorem rereads_error {e : DecodeError} : Rereads hd op r (.error e) := trivial

theorem rereads_ok {r' : BitVec 19} {i : Instr} {p l z : Bool} (he : encode i = some (packWord hd op r'))
    (h : p = true → l = true → z = true → r' = r) : Rereads hd op r (.ok ⟨i, p, l, z⟩) :=
  fun hp hl hz => he.trans (by rw [h hp hl hz])

/-- The majors of format F-R whose minor code is FN, `vcvt` apart (R87, R90). -/
def majorsR : List (BitVec 6) := [0x01#6, 0x02#6, 0x0A#6, 0x10#6, 0x13#6, 0x1B#6, 0x1C#6, 0x1D#6, 0x1F#6, 0x20#6, 0x21#6,
  0x22#6, 0x23#6, 0x24#6, 0x26#6, 0x27#6]

/-- The majors of formats F-I and F-E with a minor code, the copy words apart (R87, R88, R90). -/
def majorsI : List (BitVec 6) := [0x00#6, 0x07#6, 0x30#6, 0x32#6, 0x33#6, 0x34#6, 0x35#6, 0x36#6, 0x37#6]

/-- The majors of format F-I that are one instruction each (R87, R90). -/
def majorsImm : List (BitVec 6) := [0x03#6, 0x04#6, 0x05#6, 0x06#6, 0x0B#6, 0x0C#6, 0x0D#6, 0x11#6, 0x1E#6]

/-- The majors of format F-M (R87, R90). -/
def majorsM : List (BitVec 6) := [0x15#6, 0x16#6, 0x17#6, 0x18#6, 0x19#6]

/-- The reserved majors (R90). -/
def majorsReserved : List (BitVec 6) := [0x14#6, 0x38#6, 0x39#6, 0x3A#6, 0x3B#6, 0x3C#6, 0x3D#6, 0x3E#6, 0x3F#6]

variable (hd r)

theorem rereads_formatR (h : op ∈ majorsR) : Rereads hd op r (decodeMajor hd op r) := by
  obtain ⟨a, b, cc, fn, rfl⟩ := exists_packR r
  unfold majorsR at h
  fin_cases h <;>
    simp only [decodeMajor_map, decodeAlu, decodeAlu2, decodeCmp, decodeJmp, decodePred, decodeVsts, decodeAtom32, decodeAtom64,
      decodeOwn, decodeValu, decodeValus, decodeVfalu, decodeVfma, decodeVcmp, decodeVred, decodeVperm, packR_fields] <;>
    split <;> first
    | exact rereads_error
    | rename_i hminor
      refine rereads_ok rfl ?_
      simp +contextual only [eq_ofNat_of_toNat_eq hminor, pred_of_fields, Bool.and_eq_true, beq_iff_eq, implies_true,
        BitVec.ofNat_eq_ofNat]

theorem rereads_vcvt : Rereads hd 0x25#6 r (decodeMajor hd 0x25#6 r) := by
  obtain ⟨a, b, cc, fn, rfl⟩ := exists_packR r
  obtain ⟨u, y, t, z, rfl⟩ := exists_cvtUnsigned cc
  simp only [decodeMajor_map, decodeVcvt, packR_fields, cvtUnsigned_fields]
  split <;> first
    | exact rereads_error
    | rename_i hminor
      refine rereads_ok rfl ?_
      simp +contextual only [eq_ofNat_of_toNat_eq hminor, append_eq_zero_two, Bool.and_eq_true, beq_iff_eq, implies_true,
        BitVec.ofNat_eq_ofNat, BitVec.reduceAppend]

theorem rereads_formatI (h : op ∈ majorsI) : Rereads hd op r (decodeMajor hd op r) := by
  obtain ⟨a, b, i, rfl⟩ := exists_packI r
  unfold majorsI at h
  fin_cases h <;>
    simp only [decodeMajor_map, decodeSys, decodeShi, decodeCb, decodeSync, decodeRec, decodeColl, decodeLaunch, decodeTime,
      decodeWin, packI_fields] <;>
    split <;> first
    | exact rereads_error
    | rename_i hminor
      refine rereads_ok rfl ?_
      simp +contextual only [eq_ofNat_of_toNat_eq hminor, shift_of_fields, imm_of_fields, Bool.and_eq_true, beq_iff_eq,
        implies_true, BitVec.ofNat_eq_ofNat]

theorem rereads_copy : Rereads hd 0x31#6 r (decodeMajor hd 0x31#6 r) := by
  obtain ⟨a, b, i, rfl⟩ := exists_packI r
  obtain ⟨k, e, rfl⟩ : ∃ (k : BitVec 3) (e : BitVec 6), i = k ++ e := ⟨_, _, (imm_of_fields i rfl).symm⟩
  simp only [decodeMajor_map, decodeCpy, packI_fields, imm_fields]
  split <;> first
    | exact rereads_error
    | rename_i hminor
      refine rereads_ok rfl ?_
      simp +contextual only [eq_ofNat_of_toNat_eq hminor, Bool.and_eq_true, beq_iff_eq, implies_true, BitVec.ofNat_eq_ofNat]

theorem rereads_immediate (h : op ∈ majorsImm) : Rereads hd op r (decodeMajor hd op r) := by
  obtain ⟨a, b, i, rfl⟩ := exists_packI r
  unfold majorsImm at h
  fin_cases h <;>
    simp only [decodeMajor_map, decodeAddi, decodeAndi, decodeOri, decodeXori, decodeCmpeqi, decodeCmplti, decodeCmpltui,
      decodeLoop, decodeFence, packI_fields] <;>
    refine rereads_ok rfl ?_ <;>
    simp +contextual only [pred_of_fields, imm_of_fields, Bool.and_eq_true, beq_iff_eq, implies_true, BitVec.ofNat_eq_ofNat]

theorem rereads_formatM (h : op ∈ majorsM) : Rereads hd op r (decodeMajor hd op r) := by
  obtain ⟨a, b, d, m, rfl⟩ := exists_packM r
  unfold majorsM at h
  fin_cases h <;>
    simp only [decodeMajor_map, decodeLd, decodeSt, decodeFe, decodeVld, decodeVst, packM_fields] <;>
    split <;> first
    | exact rereads_error
    | rename_i hminor
      exact rereads_ok rfl fun _ _ _ => by rw [eq_ofNat_of_toNat_eq hminor]

theorem rereads_formatL (h : op ∈ [0x08#6, 0x09#6, 0x28#6]) : Rereads hd op r (decodeMajor hd op r) := by
  obtain ⟨a, i, rfl⟩ := exists_packL r
  fin_cases h <;> simp only [decodeMajor_map, decodeLi, decodeLsh, decodeVsplat, packL_fields] <;>
    exact rereads_ok rfl fun _ _ _ => rfl

theorem rereads_formatJ (h : op ∈ [0x0E#6, 0x0F#6]) : Rereads hd op r (decodeMajor hd op r) := by
  fin_cases h <;> simp only [decodeMajor_map, decodeBr, decodeCall, BitVec.extractLsb'_eq_self] <;>
    exact rereads_ok rfl fun _ _ _ => rfl

theorem rereads_loopi : Rereads hd 0x12#6 r (decodeMajor hd 0x12#6 r) := by
  obtain ⟨k, l, rfl⟩ := exists_packLoopi r
  simp only [decodeMajor_map, decodeLoopi, packLoopi_fields]
  exact rereads_ok rfl fun _ _ _ => rfl

theorem rereads_vldg : Rereads hd 0x1A#6 r (decodeMajor hd 0x1A#6 r) := by
  obtain ⟨a, b, cc, fn, rfl⟩ := exists_packR r
  simp only [decodeMajor_map, decodeVldg, packR_fields]
  exact rereads_ok rfl fun _ _ _ => rfl

theorem rereads_tld_tst (h : op ∈ [0x29#6, 0x2A#6]) : Rereads hd op r (decodeMajor hd op r) := by
  obtain ⟨td, b, st, f, m, rfl⟩ := exists_packTM r
  fin_cases h <;> simp only [decodeMajor_map, decodeTld, decodeTst, packTM_fields] <;> split <;> first
    | exact rereads_error
    | rename_i hminor
      refine rereads_ok rfl ?_
      simp +contextual only [eq_ofNat_of_toNat_eq hminor, beq_iff_eq, implies_true, BitVec.ofNat_eq_ofNat]

theorem rereads_tlds : Rereads hd 0x2B#6 r (decodeMajor hd 0x2B#6 r) := by
  obtain ⟨td, ta, tb, f, rfl⟩ := exists_packT r
  simp only [decodeMajor_map, decodeTlds, packT_fields]
  refine rereads_ok rfl ?_
  simp +contextual only [Bool.and_eq_true, beq_iff_eq, implies_true, BitVec.ofNat_eq_ofNat]

theorem rereads_mma : Rereads hd 0x2C#6 r (decodeMajor hd 0x2C#6 r) := by
  obtain ⟨td, ta, tb, f, rfl⟩ := exists_packT r
  simp only [decodeMajor_map, decodeMma, packT_fields]
  split <;> first
    | exact rereads_error
    | rename_i hminor
      refine rereads_ok rfl ?_
      simp +contextual only [eq_ofNat_of_toNat_eq hminor, mma_of_fields, Bool.and_eq_true, beq_iff_eq, implies_true,
        BitVec.ofNat_eq_ofNat]

theorem rereads_tops : Rereads hd 0x2D#6 r (decodeMajor hd 0x2D#6 r) := by
  obtain ⟨td, ta, tb, f, rfl⟩ := exists_packT r
  obtain ⟨k, y, z, rfl⟩ := exists_tcvt f
  simp only [decodeMajor_map, decodeTops, packT_fields, tcvt_fields]
  split <;> first
    | exact rereads_error
    | rename_i hminor
      refine rereads_ok rfl ?_
      simp +contextual only [eq_ofNat_of_toNat_eq hminor, append_eq_zero_three, Bool.and_eq_true, beq_iff_eq, implies_true,
        BitVec.ofNat_eq_ofNat, BitVec.reduceAppend]

theorem rereads_tdrq : Rereads hd 0x2E#6 r (decodeMajor hd 0x2E#6 r) := by
  obtain ⟨td, ta, v, f, e, z, rfl⟩ := exists_packTdrq r
  simp only [decodeMajor_map, decodeTdrq, packTdrq_fields]
  refine rereads_ok rfl ?_
  simp +contextual only [beq_iff_eq, implies_true, BitVec.ofNat_eq_ofNat]

theorem rereads_tvec : Rereads hd 0x2F#6 r (decodeMajor hd 0x2F#6 r) := by
  obtain ⟨t, x, y, f, rfl⟩ := exists_packTV r
  simp only [decodeMajor_map, decodeTvec, packTV_fields]
  split <;> first
    | exact rereads_error
    | rename_i hminor
      refine rereads_ok rfl ?_
      simp +contextual only [eq_ofNat_of_toNat_eq hminor, beq_iff_eq, implies_true, BitVec.ofNat_eq_ofNat]

theorem rereads_reserved (h : op ∈ majorsReserved) : Rereads hd op r (decodeMajor hd op r) := by
  unfold majorsReserved at h
  fin_cases h <;> exact rereads_error

theorem decodeMajor_rereads (op : BitVec 6) : Rereads hd op r (decodeMajor hd op r) := by
  have hop : op ∈ majorsR ∨ op ∈ majorsI ∨ op ∈ majorsImm ∨ op ∈ majorsM ∨ op ∈ [0x08#6, 0x09#6, 0x28#6] ∨
      op ∈ [0x0E#6, 0x0F#6] ∨ op ∈ [0x29#6, 0x2A#6] ∨ op = 0x12#6 ∨ op = 0x1A#6 ∨ op = 0x25#6 ∨ op = 0x2B#6 ∨
      op = 0x2C#6 ∨ op = 0x2D#6 ∨ op = 0x2E#6 ∨ op = 0x2F#6 ∨ op = 0x31#6 ∨ op ∈ majorsReserved := by
    decide +revert
  rcases hop with h | h | h | h | h | h | h | rfl | rfl | rfl | rfl | rfl | rfl | rfl | rfl | rfl | h
  · exact rereads_formatR hd r h
  · exact rereads_formatI hd r h
  · exact rereads_immediate hd r h
  · exact rereads_formatM hd r h
  · exact rereads_formatL hd r h
  · exact rereads_formatJ hd r h
  · exact rereads_tld_tst hd r h
  · exact rereads_loopi hd r
  · exact rereads_vldg hd r
  · exact rereads_vcvt hd r
  · exact rereads_tlds hd r
  · exact rereads_mma hd r
  · exact rereads_tops hd r
  · exact rereads_tdrq hd r
  · exact rereads_tvec hd r
  · exact rereads_copy hd r
  · exact rereads_reserved hd r h

end

end Sys2Proof

namespace Sys2Proof.Proofs

/-- Settles O3: a word is made of the fields that its decoder reads, so what passes the checks encodes to it. -/
theorem encodeUndoesDecode : Obligations.EncodeUndoesDecode := by
  intro i w h
  rw [← packWord_headerOf w] at h ⊢
  obtain ⟨raw, hread, hcheck⟩ := decodeWord_packWord.1 h
  obtain ⟨rfl, hp, hl, hz, hwf⟩ := checkRaw_eq_ok.1 hcheck
  have hback := decodeMajor_rereads (headerOf w) (w.extractLsb' 0 19) (w.extractLsb' 19 6)
  rw [hread] at hback
  exact ⟨hback hp hl hz, hwf⟩

end Sys2Proof.Proofs
end

section
/-! PROOFS. How every word answers: never with a fault or a refusal, and not at all where its guard fails (R81, R121, R131); words
of the other mode (R90, R201, R323). -/

open Sys2Proof.Claims

namespace Sys2Proof.Machine

/-! ### Every instruction answers a next state -/

theorem closeGroup_next (us : List Use) (n : Nat) (s t : State) : ∃ t', closeGroup us n s t = .next t' := by
  unfold closeGroup
  dsimp only
  split
  · exact ⟨_, rfl⟩
  · split <;> exact ⟨_, rfl⟩

theorem presentGroup_next (us : List Use) (n : Nat) (f : State → State) (s : State) :
    ∃ t, presentGroup us n f s = .next t := by
  unfold presentGroup
  split
  · exact ⟨_, rfl⟩
  · split
    · exact ⟨_, rfl⟩
    · split
      · exact ⟨_, rfl⟩
      · exact closeGroup_next _ _ _ _

theorem issue_next (u : Use) (f : State → State) (s : State) : ∃ t, issue u f s = .next t := by
  unfold issue
  split
  · exact ⟨_, rfl⟩
  · exact presentGroup_next _ _ _ _

/-! ### Words whose guard fails -/

/-- A word of another pipe than V has its effect under its guard's lane 0. -/
theorem exec_guarded (i : Instr) (u : Use) (h : useInstr i = some u) (hv : u.pipe ≠ .v) :
    ∃ f, ∀ s, exec i s = issue u (guarded u.hd f) s := by
  cases i <;> cases h <;> first
    | exact absurd rfl hv
    | exact ⟨_, fun _ => rfl⟩

theorem noLane_passes {hd : Hdr} {s : State} (hg : hd.g = true) (hm : guardMask hd s = 0) :
    (hd.g && guardMask hd s == 0) = true := by
  simp [hg, hm]

/-- A word of pipe V that is no reduction leaves the state as it is where no lane passes. -/
theorem exec_lanes (i : Instr) (u : Use) (h : useInstr i = some u) (hv : u.pipe = .v) (hr : u.reduces = false) :
    ∃ f, (∀ s, exec i s = issue u f s) ∧ ∀ s, u.hd.g = true → guardMask u.hd s = 0 → f s = s := by
  cases i <;> cases h <;> cases hv <;> cases hr <;>
    exact ⟨_, fun _ => rfl, fun _ hg hm => if_pos (noLane_passes hg hm)⟩

end Sys2Proof.Machine

namespace Sys2Proof.Proofs
open Sys2Proof.Machine

/-- Settles O6: every word is an effect passed to `issue`, and every event an effect that is taken at once. -/
theorem noInstructionIsRefused : Obligations.NoInstructionIsRefused := by
  intro i s
  cases hu : useInstr i with
  | none =>
    obtain ⟨f, hf⟩ := exec_event i hu
    exact ⟨f s, hf s⟩
  | some u =>
    obtain ⟨f, hf⟩ := exec_word i u hu
    rw [hf s]
    exact issue_next u f s

/-- Settles O7: outside pipe V a word's effect is guarded by lane 0, and in pipe V by the lanes that pass. -/
theorem failingGuardsLeaveNoEffect : Obligations.FailingGuardsLeaveNoEffect := by
  intro i u s hu ho
  refine ⟨fun hv hg => ?_, fun hv hr hg hm => ?_⟩
  · obtain ⟨f, hf⟩ := exec_guarded i u hu hv
    rw [hf s, issue_open ho, guarded_fail hg]
  · obtain ⟨f, hf, hsame⟩ := exec_lanes i u hu hv hr
    rw [hf s, issue_open ho, hsame s hg hm]

end Sys2Proof.Proofs

namespace Sys2Proof.Machine

/-! ### Words of the other mode -/

/-- An X word in supervisor mode (R323). -/
theorem xWord_traps {u : Use} {f : State → State} {s : State} (h : acts u.hd s) (hs : s.seq.supervisor = true) :
    xWord u f s = next (raise (cause 12 0x06 0 0) s) :=
  (issue_guarded h).trans (congrArg next (if_pos hs))

/-- A supervisor word in user mode (R90, R290). -/
theorem supervisorOnly_traps {u : Use} {hd : Hdr} {w : W32} {f : State → State} {s : State} (h : acts hd s)
    (hs : s.seq.supervisor = false) :
    issue u (guarded hd (supervisorOnly w f)) s = next (raise (cause 1 0x04 0 (w.setWidth 64 <<< 32)) s) :=
  (issue_guarded h).trans (congrArg next (if_neg (by simp [hs])))

theorem arrayWordsTrapInSupervisorMode : ArrayWordsTrapInSupervisorMode := by
  intro hd d a b x y w k f e z p q r s h hs i hi
  fin_cases hi <;> exact xWord_traps h hs

theorem supervisorWordsTrapInUserMode : SupervisorWordsTrapInUserMode := by
  intro hd a w s h hs i hi he
  fin_cases hi <;> cases he <;> exact supervisorOnly_traps h hs

end Sys2Proof.Machine

namespace Sys2Proof.Proofs
open Sys2Proof.Machine

/-- Settles O40: both checks come before any effect of the word. -/
theorem wordsOfTheOtherModeTrap : Obligations.WordsOfTheOtherModeTrap :=
  ⟨arrayWordsTrapInSupervisorMode, supervisorWordsTrapInUserMode⟩

end Sys2Proof.Proofs
end

section
/-! PROOFS. A word that is a group by itself: what it waits for, and how its group is closed (R80, R81, R84, R152, R155, R156, R176,
R178, R198, R200, R316, R320, R326). -/

open Sys2Proof.Claims

namespace Sys2Proof.Machine

/-! ### The closing of a group -/

section
variable {us : List Use} {n : Nat} {s t : State}

theorem closeGroup_trapped {p : Nat} {x : TrapInfo} (h : t.seq.group.trap = some (p, x)) :
    closeGroup us n s t = .next (trapped us x t) := by
  simp only [closeGroup, h]

theorem closeGroup_stalled {w : Wait} (h : t.seq.group.trap = none) (hw : t.seq.group.stalled = some w) :
    closeGroup us n s t = .next (stalledStep w false (onHost (fun h => { h with requests := t.host.requests }) s)) := by
  simp only [closeGroup, h, hw]

theorem closeGroup_issued (h : t.seq.group.trap = none) (hw : t.seq.group.stalled = none) :
    closeGroup us n s t = .next (issued n t) := by
  simp only [closeGroup, h, hw]

end

/-! ### A word by itself -/

section
variable {i : Instr} {u : Use} {s : State} (hu : useInstr i = some u) (ho : s.seq.group.isOpen = false)
include hu ho

theorem exec_free (hf : free u s) :
    ∃ t, exec i (openGroup s) = .next t ∧ exec i s = closeGroup [u] 1 s t := by
  obtain ⟨f, hexec⟩ := exec_word i u hu
  obtain ⟨hdrains, hsettleDrains, hwaits, hsettle⟩ := hf
  refine ⟨f (openGroup s), (hexec _).trans (issue_open rfl), ?_⟩
  rw [hexec, issue_closed ho, presentGroup]
  simp [hdrains, hsettleDrains, hwaits, hsettle]

theorem exec_drains (h : u.drains s = true ∨ u.settleDrains s = true) : exec i s = .next (stalledStep .other true s) := by
  obtain ⟨f, hexec⟩ := exec_word i u hu
  rw [hexec, issue_closed ho, presentGroup]
  exact if_pos (by simpa using h)

variable (hd : u.drains s = false) (hs : u.settleDrains s = false)
include hd hs

theorem exec_waits (h : u.waits s = true) : exec i s = .next (stalledStep .other false s) := by
  obtain ⟨f, hexec⟩ := exec_word i u hu
  rw [hexec, issue_closed ho, presentGroup]
  simp [hd, hs, h]

theorem exec_settleWait {w : Wait} (hw : u.waits s = false) (h : u.settleWait s = some w) :
    exec i s = .next (stalledStep w false s) := by
  obtain ⟨f, hexec⟩ := exec_word i u hu
  rw [hexec, issue_closed ho, presentGroup]
  simp [hd, hs, hw, h]

/-- A wait without a name is the same step as a wait on operands. -/
theorem exec_settleWait_other (h : u.settleWait s = some .other) : exec i s = .next (stalledStep .other false s) := by
  cases hw : u.waits s with
  | false => exact exec_settleWait hu ho hd hs hw h
  | true => exact exec_waits hu ho hd hs hw

end

theorem freeWordsAreIssued : FreeWordsAreIssued := by
  intro i u s hu ho hf
  obtain ⟨t, hopen, hclose⟩ := exec_free hu ho hf
  refine ⟨t, hopen, fun p x h => hclose.trans (closeGroup_trapped h), fun h => ⟨fun w hw => ?_, fun hw => ?_⟩⟩
  · exact hclose.trans (closeGroup_stalled h hw)
  · exact hclose.trans (closeGroup_issued h hw)

/-! ### The waits on registers, tiles and X words -/

section
variable {u : Use} {s : State}

theorem drains_of_inFlight (ht : u.timing = .scoreboarded) {r : RegName} (hr : r ∈ u.writes) {e : InFlight} (he : e ∈ s.seq.ifq)
    (hw : e.writesReg r = true) : u.drains s = true := by
  simp only [Use.drains, ht, beq_self_eq_true, Bool.true_and, List.any_eq_true]
  exact ⟨r, hr, e, he, hw⟩

theorem drains_nil (h : s.seq.ifq = []) : u.drains s = false := by
  simp [Use.drains, h]

theorem pendingReg_of_mem {sb : List Pending} {p : Pending} (hp : p ∈ sb) {r : RegName} (h : p.writesReg r = true) :
    pendingReg sb r = true := List.any_eq_true.2 ⟨p, hp, h⟩

/-- What makes a word wait that is no X word of supervisor code. -/
theorem waits_of (h : u.pipe ≠ .x ∨ s.seq.supervisor = false)
    (hw : (∃ r ∈ u.names, pendingReg s.seq.sb r = true ∧ ∀ t, u.acc = some t → r ≠ .t t) ∨
      (∃ r ∈ u.writes, tileRead s.seq.sb r = true) ∨ (u.pipe = .x ∧ ∃ p ∈ s.seq.sb, p.started = false) ∨
      (u.pipe = .m ∧ ∃ p ∈ s.seq.sb, p.kind = .atomic)) : u.waits s = true := by
  have hx : (u.pipe == .x && s.seq.supervisor) = false := by
    rcases h with h | h <;> simp [h]
  cases hacc : u.acc <;> simp [Use.waits, hx, hacc, or_assoc] at hw ⊢ <;>
    exact hw.imp_right (.imp_right (.imp_right .inr))

theorem waits_of_guard (hg : u.hd.g = true) (h : pendingReg s.seq.sb (.p u.hd.pg) = true) : u.waits s = true := by
  by_cases hx : u.pipe ≠ .x ∨ s.seq.supervisor = false
  · refine waits_of hx (.inl ⟨.p u.hd.pg, ?_, h, fun t _ => nofun⟩)
    simp [Use.names, Use.allReads, Use.guardReg, hg]
  · simp only [not_or, not_not, Bool.not_eq_false] at hx
    simp [Use.waits, hx, Use.guardReg, hg, h]

theorem waits_nil (h : s.seq.sb = []) : u.waits s = false := by
  have htile : ∀ r, tileRead [] r = false := by rintro (_ | _ | _ | _) <;> rfl
  simp [Use.waits, h, pendingReg, htile]

end

/-! ### The waits for what is in flight before a word -/

section
variable {u : Use} {s : State}

theorem settles_of (hg : guardPass u.hd s = true)
    (hp : u.hd.g = true → ∀ p ∈ s.seq.sb, p.writesReg (.p u.hd.pg) = false) : u.settles s = true := by
  cases hguard : u.hd.g
  · simp [Use.settles, Use.guardReg, hg, hguard]
  · simpa [Use.settles, Use.guardReg, hg, hguard, pendingReg] using hp hguard

theorem settleDrains_of (h : u.settle = some .all ∨ u.settle = some .supervisor) (hs : u.settles s = true)
    (hi : s.seq.ifq ≠ []) : u.settleDrains s = true := by
  rcases h with h | h <;> simp [Use.settleDrains, h, hs, hi]

theorem settleDrains_nil (h : s.seq.ifq = []) : u.settleDrains s = false := by
  simp [Use.settleDrains, h]

variable (hs : u.settles s = true)
include hs

theorem settleWait_all (h : u.settle = some .all) (hsb : s.seq.sb ≠ []) : u.settleWait s = some .other := by
  simp [Use.settleWait, hs, h, hsb]

theorem settleWait_supervisor (h : u.settle = some .supervisor) (hp : ∃ p ∈ s.seq.sb, p.sup = true) :
    u.settleWait s = some .other := by
  simpa [Use.settleWait, hs, h] using hp

theorem settleWait_atomics (h : u.settle = some .atomics) (hp : ∃ p ∈ s.seq.sb, p.kind = .atomic) :
    u.settleWait s = some .other := by
  simpa [Use.settleWait, hs, h] using hp

theorem settleWait_scoreboard (h : u.settle = some .scoreboard)
    (hp : (∃ p ∈ s.seq.sb, frozenNow s p = false) ∨ atBoundary s = false) : u.settleWait s = some .other := by
  have held : (s.seq.sb.any (fun p => !frozenNow s p) || !atBoundary s) = true := by simpa using hp
  simp only [Use.settleWait, hs, h, held]
  rfl

theorem settleWait_reflected (h : u.settle = some (.reflected none)) (hr : reflectionSettled s none = false) :
    u.settleWait s = some (.reflected none) := by
  simp [Use.settleWait, hs, h, hr]

theorem settleWait_window {b : Reg5} {w : TxWindow} (h : u.settle = some (.reflected (some b)))
    (hw : windowOf s (placeOf s (readS s b)) = some w) (hr : reflectionSettled s (some w.id) = false) :
    u.settleWait s = some (.reflected (some w.id)) := by
  simp [Use.settleWait, hs, h, hw, hr]

end

theorem wordsWaitForWhatIsInFlight : WordsWaitForWhatIsInFlight := by
  refine ⟨fun i u s hu ho => ?_, fun hd a b s ho hg hp => ?_⟩
  · intro waits pending
    refine ⟨fun ht r hr e he hw => exec_drains hu ho (.inl (drains_of_inFlight ht hr he hw)), fun hd hs => ?_⟩
    have wait : u.waits s = true → waits false := exec_waits hu ho hd hs
    refine ⟨fun hg hp => ?_, fun hx => ⟨fun r hr hacc hp => ?_, fun t ht p hp hread => ?_⟩, fun hx hv p hp hstart => ?_,
      fun hm p hp hk => ?_⟩
    · obtain ⟨p, hp, hw⟩ := hp
      exact wait (waits_of_guard hg (pendingReg_of_mem hp hw))
    · obtain ⟨p, hp, hw⟩ := hp
      refine wait (waits_of hx (.inl ⟨r, ?_, pendingReg_of_mem hp hw, hacc⟩))
      simpa [Use.names, Use.allReads] using .inr (List.mem_append.1 hr)
    · exact wait (waits_of hx (.inr (.inl ⟨_, ht, List.any_eq_true.2 ⟨p, hp, by simpa using hread⟩⟩)))
    · exact wait (waits_of (.inr hv) (.inr (.inr (.inl ⟨hx, p, hp, hstart⟩))))
    · exact wait (waits_of (.inl (by simp [hm])) (.inr (.inr (.inr ⟨hm, p, hp, hk⟩))))
  · intro waits
    have settles : ∀ u : Use, u.hd = hd → u.settles s = true := by
      rintro u rfl
      exact settles_of hg hp
    refine ⟨fun hi i hmem => ?_, fun hi => ?_⟩
    · have drain : ∀ (i : Instr) (u : Use), useInstr i = some u → u.hd = hd →
          u.settle = some .all ∨ u.settle = some .supervisor → waits i .other true :=
        fun i u hu hhd hset => exec_drains hu ho (.inr (settleDrains_of hset (settles u hhd) hi))
      fin_cases hmem
      · exact drain _ _ rfl rfl (.inl rfl)
      · exact drain _ _ rfl rfl (.inl rfl)
      · exact drain _ _ rfl rfl (.inr rfl)
    · have other : ∀ {i : Instr} {u : Use}, useInstr i = some u → u.settleWait s = some .other → waits i .other false :=
        fun hu h => exec_settleWait_other hu ho (drains_nil hi) (settleDrains_nil hi) h
      have named : ∀ {i : Instr} {u : Use} {w : Wait}, useInstr i = some u → s.seq.sb = [] → u.settleWait s = some w →
          waits i w false :=
        fun hu hsb h => exec_settleWait hu ho (drains_nil hi) (settleDrains_nil hi) (waits_nil hsb) h
      refine ⟨fun hsb i hmem => ?_, fun hsup => ?_, fun hat i hmem => ?_, fun hland => ?_, fun hsb hr => ?_,
        fun hsb w hw hr => ?_⟩
      · fin_cases hmem <;> exact other rfl (settleWait_all (settles _ rfl) rfl hsb)
      · exact other rfl (settleWait_supervisor (settles _ rfl) rfl hsup)
      · fin_cases hmem <;> exact other rfl (settleWait_atomics (settles _ rfl) rfl hat)
      · exact other rfl (settleWait_scoreboard (settles _ rfl) rfl hland)
      · exact named rfl hsb (settleWait_reflected (settles _ rfl) rfl hr)
      · exact named rfl hsb (settleWait_window (settles _ rfl) rfl hw hr)

end Sys2Proof.Machine

namespace Sys2Proof.Proofs
open Sys2Proof.Machine

/-- Settles O5: a word by itself is presented as a group of one; what it waits for decides the step, and what it leaves of its
group decides the closing. -/
theorem wordAloneIsIssued : Obligations.WordAloneIsIssued := ⟨freeWordsAreIssued, wordsWaitForWhatIsInFlight⟩

end Sys2Proof.Proofs
end

section
/-! PROOFS. A step of the machine: the fetch of a packet, the group that is presented, and the events that have happened (R75, R76,
R78, R80, R92). -/

open Sys2Proof.Claims

namespace Sys2Proof.Machine

/-! ### Decoded words are words -/

theorem useInstr_of_encode {i : Instr} {w : W32} (h : encode i = some w) : ∃ u, useInstr i = some u := by
  cases i <;> cases h <;> exact ⟨_, rfl⟩

theorem useInstr_of_decode {i : Instr} {w : W32} (h : decodeWord w = .ok i) : ∃ u, useInstr i = some u :=
  useInstr_of_encode (Proofs.encodeUndoesDecode i w h).1

/-! ### Fetching -/

section
variable (s : State)

theorem packetWords_cases : packetWords s = memoryPacket s ∨ cachedPacket s = some (packetWords s) := by
  unfold packetWords
  dsimp only
  split
  · split_ifs <;> simp_all
  · exact .inl rfl

theorem packetWords_of_none (h : cachedPacket s = none) : packetWords s = memoryPacket s := by
  simp [packetWords, h]

theorem packetWords_of_same (h : cachedPacket s = some (memoryPacket s)) : packetWords s = memoryPacket s := by
  simp [packetWords, h]

theorem fetched_mem : (fetched s).mem = s.mem := by
  unfold fetched
  dsimp only
  split
  · split_ifs
    · rfl
    · exact onSeq_mem ..
  · rw [charge_mem, onSeq_mem]

/-- A packet put last into a cache that held none for the PC. -/
theorem cachedPacket_last {t : State} {p : List W32} {c : List (BitVec 40 × List W32)} {k : Nat}
    (hc : ∀ x ∈ c, x.1 ≠ t.seq.pc) (h : t.seq.icache = c.drop k ++ [(t.seq.pc, p)]) : cachedPacket t = some p := by
  have hnone : (c.drop k).find? (·.1 == t.seq.pc) = none :=
    List.find?_eq_none.2 fun x hx => by simpa using hc x (List.mem_of_mem_drop hx)
  rw [cachedPacket, h, List.find?_append, hnone]
  simp

/-- What a fetch took is what the cache then holds. -/
theorem cachedPacket_fetched : cachedPacket (fetched s) = some (packetWords s) := by
  have hpc : (fetched s).seq.pc = s.seq.pc := by rw [fetched_seq]
  cases hc : cachedPacket s with
  | none =>
    have hall : ∀ x ∈ s.seq.icache, x.1 ≠ s.seq.pc := by simpa [cachedPacket] using hc
    refine cachedPacket_last (c := s.seq.icache) (k := s.seq.icache.length + 1 - cachePackets) (by rwa [hpc]) ?_
    simp only [fetched, hc, charge_seq, onSeq_seq]
  | some c =>
    by_cases hsame : c = memoryPacket s
    · have hf : fetched s = s := by simp [fetched, hc, hsame]
      rw [hf, hc, packetWords_of_same s (hsame ▸ hc), hsame]
    · have hall : ∀ x ∈ s.seq.icache.filter (·.1 != s.seq.pc), x.1 ≠ s.seq.pc := fun x hx => by
        simpa using (List.mem_filter.1 hx).2
      refine cachedPacket_last (k := (s.seq.icache.filter (·.1 != s.seq.pc)).length + 1 - cachePackets) (by rwa [hpc]) ?_
      simp only [fetched, hc, beq_eq_false_iff_ne.2 hsame, Bool.false_eq_true, if_false, onSeq_seq]

/-! What the sequencer decides of a group does not rest on the instruction cache. -/

theorem fetched_seq_icache : ∃ c, (fetched s).seq = { s.seq with icache := c } := ⟨_, fetched_seq s⟩

theorem encodingTrap_fetched (p : List W32) (ws : List (W32 × Nat)) : encodingTrap (fetched s) p ws = encodingTrap s p ws := by
  obtain ⟨c, hseq⟩ := fetched_seq_icache s
  have hcheck : wordCheck (fetched s) = wordCheck s := by
    unfold wordCheck badVtag
    rw [hseq]
  simp only [encodingTrap, hcheck, packetAddr, hseq]

theorem nullified_fetched (ws : List (W32 × Nat)) : nullified (fetched s) ws = nullified s ws := by
  obtain ⟨c, hseq⟩ := fetched_seq_icache s
  simp only [nullified, guardGone, guardMask, guardPass, readP, hseq]

theorem slotsOfGroup_fetched (ws : List (W32 × Nat)) : slotsOfGroup (fetched s) ws = slotsOfGroup s ws := by
  obtain ⟨c, hseq⟩ := fetched_seq_icache s
  simp only [slotsOfGroup, slotUse, slotInstr, hseq]

theorem preemptDue_fetched : preemptDue (fetched s) = preemptDue s := by
  obtain ⟨c, hseq⟩ := fetched_seq_icache s
  simp only [preemptDue, hseq]

end

/-! ### The group presented -/

section
variable {s : State} {ws : List (W32 × Nat)} (hp : presents s ws)
include hp

theorem presents_groupWords : groupWords s = ws ∧ s.seq.group.isOpen = false := by
  obtain ⟨-, -, -, -, -, -, -, -, -, -, hgroup⟩ := hp
  exact hgroup

/-- A step of a bay that presents a group fetches its packet and presents its words. -/
theorem step_presents : step s = presentPacket (packetWords s) ws (fetched s) := by
  obtain ⟨hinbox, hstop, hclamp, hhalt, hrun, hdiv, hcause, hpre, hfetch, hadmit, hwords, hopen⟩ := hp
  simp [step, hinbox, bayStep, hstop, hclamp, hhalt, hrun, runStep, hdiv, hcause, hpre, groupStep, hfetch, hadmit, hwords]

theorem step_traps {t : TrapInfo} (h : encodingTrap s (packetWords s) ws = some t) :
    step s = .next (passCycle (deliverTrap t 0 (fetched s))) := by
  rw [step_presents hp, presentPacket, encodingTrap_fetched, h]

theorem step_runs (h : encodingTrap s (packetWords s) ws = none) (hn : nullified s ws = false) :
    step s = presentGroup ((slotsOfGroup s ws).map (·.2.1)) ws.length (runWords (slotsOfGroup s ws)) (fetched s) := by
  have hpre : preemptDue (fetched s) = false := by
    obtain ⟨-, -, -, -, -, -, -, hpre, -⟩ := hp
    rw [preemptDue_fetched]
    simp [preemptDue, hpre]
  rw [step_presents hp, presentPacket, encodingTrap_fetched, h]
  simp [nullified_fetched, hn, presentWords, hpre, slotsOfGroup_fetched]

end

theorem groupWords_single {s : State} {w : W32} {p : Nat} (h : groupWords s = [(w, p)]) : p = s.seq.gpos := by
  unfold groupWords at h
  cases hg : takeGroup ((packetWords s).drop s.seq.gpos) with
  | nil => simp [hg] at h
  | cons x xs =>
    simp [hg, List.zipIdx_cons] at h
    exact h.1.2.symm

theorem runWords_single (i : Instr) (u : Use) (p : Nat) (s : State) : runWords [(i, u, p)] s = runWord i p s := by
  have hturn : wordTurn i u < 4 := by
    unfold wordTurn
    split
    · decide
    · split_ifs <;> decide
  interval_cases h : wordTurn i u <;> simp [runWords, h]

/-- A group of one word whose position is the group's: presented as the word by itself is. -/
theorem presentGroup_runWords {i : Instr} {u : Use} {s : State} (hu : useInstr i = some u) (ho : s.seq.group.isOpen = false) :
    presentGroup [u] 1 (runWords [(i, u, s.seq.gpos)]) s = exec i s := by
  obtain ⟨f, hexec⟩ := exec_word i u hu
  have hrun : runWords [(i, u, s.seq.gpos)] (openGroup s) = f (openGroup s) := by
    rw [runWords_single, runWord, show onGroup (fun g => { g with pos := s.seq.gpos }) (openGroup s) = openGroup s from rfl,
      hexec, issue_open rfl]
  rw [hexec, issue_closed ho]
  simp only [presentGroup, hrun]

end Sys2Proof.Machine

namespace Sys2Proof.Proofs
open Sys2Proof.Machine

/-- Settles O4: the fetch changes nothing that the sequencer judges a group by, and a group of one word is presented as the word by
itself is. -/
theorem stepRunsTheDecodedWord : Obligations.StepRunsTheDecodedWord := by
  refine ⟨fun s w p i hp hlegal hnull hdone hdec => ?_, fun s ws hp hlegal hnull => step_runs hp hlegal hnull,
    fun s ws t hp htrap => step_traps hp htrap, fun s => ⟨packetWords_cases s, ?_, fetched_mem s, fetched_seq s,
    cachedPacket_fetched s⟩, fun s i rest hin hu => ?_⟩
  · obtain ⟨u, hu⟩ := useInstr_of_decode hdec
    have hslots : slotsOfGroup s [(w, p)] = [(i, u, p)] := by
      simp [slotsOfGroup, slotUse, slotInstr, hdec, hdone, hu]
    obtain ⟨hwords, hopen⟩ := presents_groupWords hp
    have hpos : p = (fetched s).seq.gpos := by rw [fetched_seq s]; exact groupWords_single hwords
    rw [step_runs hp hlegal hnull, hslots, hpos]
    exact presentGroup_runWords hu (by rw [fetched_seq s]; exact hopen)
  · rintro (h | h)
    · exact packetWords_of_none s h
    · exact packetWords_of_same s h
  · obtain ⟨f, hf⟩ := exec_event i hu
    have hstep : step s = exec i { s with inbox := rest } := by simp only [step, hin, hu]
    exact ⟨hstep, f _, hstep.trans (hf _)⟩

/-- Settles O1: the words are fixed, so the decoder is run on each of them. -/
theorem decodedWordsOfEachFamily : Obligations.DecodedWordsOfEachFamily := by
  and_intros <;> rfl

end Sys2Proof.Proofs
end

section
/-! PROOFS. What the scalar words compute: shifts, products, the lesser and the greater, quotients, counts of bits and bytes (R101
to R103, R107, R109). -/

open Sys2Proof.Claims

namespace Sys2Proof.Machine

/-! ### Shifts -/

theorem shiftLeft_eq_ofNat (x : W64) (n : Nat) : x <<< n = BitVec.ofNat 64 (x.toNat * 2 ^ n) :=
  BitVec.eq_of_toNat_eq (by simp [Nat.shiftLeft_eq])

theorem ushiftRight_eq_ofNat (x : W64) (n : Nat) : x >>> n = BitVec.ofNat 64 (x.toNat / 2 ^ n) := by
  rw [← Nat.shiftRight_eq_div_pow, ← BitVec.toNat_ushiftRight, BitVec.ofNat_toNat, BitVec.setWidth_eq]

theorem sshiftRight_eq_ofInt (x : W64) (n : Nat) : x.sshiftRight n = BitVec.ofInt 64 (x.toInt / 2 ^ n) := by
  rw [BitVec.sshiftRight_eq, Int.shiftRight_eq_div_pow]; norm_cast

/-- The step of building a constant: a value moved up by 14 bits, and 14 further bits below it (R106). -/
theorem shiftLeft_or_setWidth (x : W64) (k : BitVec 14) :
    (x <<< 14) ||| k.setWidth 64 = BitVec.ofNat 64 (x.toNat * 2 ^ 14 + k.toNat) := by
  rw [← Nat.shiftLeft_eq, Nat.shiftLeft_add_eq_or_of_lt k.isLt, BitVec.ofNat_or, Nat.shiftLeft_eq, ← shiftLeft_eq_ofNat,
    BitVec.ofNat_toNat]

/-! ### Products -/

theorem mul_eq_ofNat (x y : W64) : x * y = BitVec.ofNat 64 (x.toNat * y.toNat) := by
  rw [BitVec.ofNat_mul, BitVec.ofNat_toNat, BitVec.ofNat_toNat, BitVec.setWidth_eq, BitVec.setWidth_eq]

theorem extractLsb'_high_ofInt (z : Int) : (BitVec.ofInt 128 z).extractLsb' 64 64 = BitVec.ofInt 64 (z / 2 ^ 64) := by
  apply BitVec.eq_of_toNat_eq
  simp only [BitVec.extractLsb'_toNat, BitVec.toNat_ofInt, Nat.shiftRight_eq_div_pow]
  omega

theorem mulHigh_eq_ofInt (x y : W64) : mulHigh x y = BitVec.ofInt 64 (x.toInt * y.toInt / 2 ^ 64) := by
  rw [← extractLsb'_high_ofInt, BitVec.ofInt_mul]; rfl

theorem mulHighU_eq_ofNat (x y : W64) : mulHighU x y = BitVec.ofNat 64 (x.toNat * y.toNat / 2 ^ 64) := by
  rw [← extractLsb'_ofNat (w := 128) _ _ _ le_rfl, BitVec.ofNat_mul, BitVec.ofNat_toNat, BitVec.ofNat_toNat]; rfl

/-! ### Compares -/

theorem ult_iff (x y : W64) : x.ult y = true ↔ x.toNat < y.toNat := by rw [BitVec.ult_iff_lt, BitVec.lt_def]

theorem not_ult_iff (x y : W64) : (!x.ult y) = true ↔ y.toNat ≤ x.toNat := by
  rw [Bool.not_eq_true', Bool.eq_false_iff, Ne, ult_iff, not_lt]

theorem not_slt_iff (x y : W64) : (!x.slt y) = true ↔ y.toInt ≤ x.toInt := by
  rw [Bool.not_eq_true', Bool.eq_false_iff, Ne, BitVec.slt_iff_toInt_lt, not_lt]

theorem allLanes_eq_lanes {p : Prop} [Decidable p] {b : Bool} (h : b = true ↔ p) : allLanes b = lanes p :=
  if_congr h rfl rfl

/-! ### The lesser and the greater -/

theorem minS_eq_ofInt (x y : W64) : minS x y = BitVec.ofInt 64 (min x.toInt y.toInt) := by
  rw [min_comm, min_def_lt, apply_ite (BitVec.ofInt 64), BitVec.ofInt_toInt, BitVec.ofInt_toInt]
  exact if_congr BitVec.slt_iff_toInt_lt rfl rfl

theorem maxS_eq_ofInt (x y : W64) : maxS x y = BitVec.ofInt 64 (max x.toInt y.toInt) := by
  rw [max_def_lt, apply_ite (BitVec.ofInt 64), BitVec.ofInt_toInt, BitVec.ofInt_toInt]
  exact if_congr BitVec.slt_iff_toInt_lt rfl rfl

theorem minU_eq_ofNat (x y : W64) : minU x y = BitVec.ofNat 64 (min x.toNat y.toNat) := by
  rw [min_comm, min_def_lt, apply_ite (BitVec.ofNat 64), BitVec.ofNat_toNat, BitVec.ofNat_toNat, BitVec.setWidth_eq,
    BitVec.setWidth_eq]
  exact if_congr (ult_iff _ _) rfl rfl

theorem maxU_eq_ofNat (x y : W64) : maxU x y = BitVec.ofNat 64 (max x.toNat y.toNat) := by
  rw [max_def_lt, apply_ite (BitVec.ofNat 64), BitVec.ofNat_toNat, BitVec.ofNat_toNat, BitVec.setWidth_eq,
    BitVec.setWidth_eq]
  exact if_congr (ult_iff _ _) rfl rfl

/-! ### Quotients and remainders -/

theorem div_by_zero {b x : W64} (h : x = 0) :
    divS b x = BitVec.allOnes 64 ∧ divU b x = BitVec.allOnes 64 ∧ remS b x = b ∧ remU b x = b := by
  subst h; exact ⟨rfl, rfl, rfl, rfl⟩

/-- The most negative value divided by -1 wraps to itself, which is what its quotient 2^63 is in 64 bits (R103). -/
theorem sdiv_eq_ofInt (b x : W64) : b.sdiv x = BitVec.ofInt 64 (b.toInt.tdiv x.toInt) :=
  BitVec.eq_of_toInt_eq (by rw [BitVec.toInt_sdiv, BitVec.toInt_ofInt])

section
variable {b x : W64} (h : x ≠ 0)
include h

theorem divS_eq_ofInt : divS b x = BitVec.ofInt 64 (b.toInt.tdiv x.toInt) := by
  rw [divS, if_neg (by simpa using h), sdiv_eq_ofInt]

theorem divU_toNat : (divU b x).toNat = b.toNat / x.toNat := by
  rw [divU, if_neg (by simpa using h)]; exact BitVec.toNat_udiv

theorem remS_toInt : (remS b x).toInt = b.toInt.tmod x.toInt := by
  rw [remS, if_neg (by simpa using h), BitVec.toInt_srem]

theorem remU_toNat : (remU b x).toNat = b.toNat % x.toNat := by
  rw [remU, if_neg (by simpa using h)]; exact BitVec.toNat_umod

end

/-! ### Counts of bits -/

theorem oneBits_toNat (x : W64) : (oneBits x).toNat = ((List.range 64).filter (fun i => x.getLsbD i)).length := by
  have hle : (List.range 64).countP (fun i => x.getLsbD i) ≤ 64 := List.countP_le_length
  rw [oneBits, BitVec.toNat_ofNat, Nat.mod_eq_of_lt (by omega), List.countP_eq_length_filter]

/-- The first index below 64 that passes a test, or 64. -/
theorem find_range_spec (f : Nat → Bool) (n : W64) (hn : n = BitVec.ofNat 64 (((List.range 64).find? f).getD 64)) :
    n.toNat ≤ 64 ∧ (∀ i, i < n.toNat → f i = false) ∧ (n.toNat < 64 → f n.toNat = true) := by
  cases h : (List.range 64).find? f with
  | none =>
    have hnone : n.toNat = 64 := by simp [hn, h]
    rw [hnone]
    refine ⟨le_rfl, fun i hi => ?_, fun hlt => absurd hlt (lt_irrefl _)⟩
    simpa using List.find?_eq_none.mp h i (List.mem_range.mpr hi)
  | some k =>
    obtain ⟨hpass, hmem, hbefore⟩ := List.find?_range_eq_some.mp h
    have hk := List.mem_range.mp hmem
    have hsome : n.toNat = k := by rw [hn, h, Option.getD_some]; exact Nat.mod_eq_of_lt (by omega)
    rw [hsome]
    exact ⟨hk.le, fun i hi => by simpa using hbefore i hi, fun _ => hpass⟩

theorem leadingZeros_spec (x : W64) : (leadingZeros x).toNat ≤ 64 ∧
    (∀ i, i < (leadingZeros x).toNat → x.getLsbD (63 - i) = false) ∧
    ((leadingZeros x).toNat < 64 → x.getLsbD (63 - (leadingZeros x).toNat) = true) :=
  find_range_spec (fun i => x.getLsbD (63 - i)) _ rfl

theorem trailingZeros_spec (x : W64) : (trailingZeros x).toNat ≤ 64 ∧
    (∀ i, i < (trailingZeros x).toNat → x.getLsbD i = false) ∧
    ((trailingZeros x).toNat < 64 → x.getLsbD (trailingZeros x).toNat = true) :=
  find_range_spec x.getLsbD _ rfl

/-! ### Bytes -/

theorem bytesOfNat_getD (n v i : Nat) (h : i < n) : (bytesOfNat n v).getD i 0 = BitVec.ofNat 8 (v / 2 ^ (8 * i)) := by
  induction n generalizing v i with
  | zero => omega
  | succ n ih =>
    cases i with
    | zero => simp [bytesOfNat]
    | succ i =>
      rw [bytesOfNat, List.getD_cons_succ, ih _ _ (by omega), Nat.div_div_eq_div_mul, Nat.mul_succ, Nat.add_comm (8 * i),
        Nat.pow_add]

/-- Byte i of the swapped value is byte 7 - i of the value (R102). -/
theorem byteSwap_byte (x : W64) (i : Nat) (h : i < 8) :
    (byteSwap x).extractLsb' (8 * i) 8 = x.extractLsb' (8 * (7 - i)) 8 := by
  have hlen := bytesOfNat_length 8 x.toNat
  calc (byteSwap x).extractLsb' (8 * i) 8
      = (bytesOfNat 8 x.toNat).reverse.getD i 0 := extractLsb'_ofDigits _ i (by omega)
    _ = (bytesOfNat 8 x.toNat).getD (7 - i) 0 := by
        rw [List.getD_eq_getElem?_getD, List.getD_eq_getElem?_getD, List.getElem?_reverse (by omega), hlen]
    _ = BitVec.ofNat 8 (x.toNat / 2 ^ (8 * (7 - i))) := bytesOfNat_getD 8 _ _ (by omega)
    _ = x.extractLsb' (8 * (7 - i)) 8 := by rw [BitVec.extractLsb', Nat.shiftRight_eq_div_pow]

end Sys2Proof.Machine
end

section
/-! PROOFS. Scalar and predicate words (R101 to R109): each form's result, and the words by their forms. -/

open Sys2Proof.Claims

namespace Sys2Proof.Machine

/-! ### The forms -/

section
variable {hd : Hdr} {s : State} (h : acts hd s)
include h

theorem aluWord_gives (f : W64 → W64 → W64) {lat : Nat} {a b x : Reg5} {v : W64} (hv : f (readS s b) (readS s x) = v) :
    aluWord lat f hd a b x s = .next (exposeS lat a v 0 s) :=
  hv ▸ issue_guarded h

theorem immWord_gives (f : W64 → W64) {a b : Reg5} {v : W64} (hv : f (readS s b) = v) :
    immWord f hd a b s = .next (exposeS 1 a v 0 s) :=
  hv ▸ issue_guarded h

theorem alu2Word_pends (f : W64 → W64 → W64) (a b x : Reg5) :
    alu2Word f hd a b x s = .next (pendS a (f (readS s b) (readS s x)) s) := issue_guarded h

theorem unaryWord_pends (f : W64 → W64) (a b : Reg5) : unaryWord f hd a b s = .next (pendS a (f (readS s b)) s) :=
  issue_guarded h

theorem cmpWord_gives (f : W64 → W64 → Bool) {a : Reg4} {b x : Reg5} {p : Prop} [Decidable p]
    (hp : f (readS s b) (readS s x) = true ↔ p) :
    cmpWord f hd a b x s = .next (exposeP 1 a (lanes p) (BitVec.allOnes 64) 0 s) :=
  allLanes_eq_lanes hp ▸ issue_guarded h

theorem cmpImmWord_gives (f : W64 → Bool) {a : Reg4} {b : Reg5} {p : Prop} [Decidable p] (hp : f (readS s b) = true ↔ p) :
    cmpImmWord f hd a b s = .next (exposeP 1 a (lanes p) (BitVec.allOnes 64) 0 s) :=
  allLanes_eq_lanes hp ▸ issue_guarded h

theorem predWord_gives (u : Use) (f : State → W64) (a : Reg4) :
    predWord u f hd a s = .next (exposeP 1 a (f s) (BitVec.allOnes 64) 0 s) := issue_guarded h

end

/-! ### The words -/

theorem aluWordsGiveTheirResults : AluWordsGiveTheirResults := fun _ _ _ _ _ h =>
  ⟨aluWord_gives h (· + ·) rfl, aluWord_gives h (· - ·) rfl, aluWord_gives h (· &&& ·) rfl, aluWord_gives h (· ||| ·) rfl,
    aluWord_gives h (· ^^^ ·) rfl, aluWord_gives h (fun x y => x &&& ~~~y) rfl,
    aluWord_gives h (fun x y => x <<< shiftAmount y) (shiftLeft_eq_ofNat _ _),
    aluWord_gives h (fun x y => x >>> shiftAmount y) (ushiftRight_eq_ofNat _ _),
    aluWord_gives h (fun x y => x.sshiftRight (shiftAmount y)) (sshiftRight_eq_ofInt _ _),
    aluWord_gives h (· * ·) (mul_eq_ofNat _ _), aluWord_gives h mulHigh (mulHigh_eq_ofInt _ _),
    aluWord_gives h mulHighU (mulHighU_eq_ofNat _ _), aluWord_gives h minS (minS_eq_ofInt _ _),
    aluWord_gives h maxS (maxS_eq_ofInt _ _), aluWord_gives h minU (minU_eq_ofNat _ _),
    aluWord_gives h maxU (maxU_eq_ofNat _ _)⟩

theorem immediateWordsGiveTheirResults : ImmediateWordsGiveTheirResults := fun _ _ _ i n _ _ h =>
  ⟨immWord_gives h (· + imm9 i) rfl, immWord_gives h (· &&& imm9 i) rfl, immWord_gives h (· ||| imm9 i) rfl,
    immWord_gives h (· ^^^ imm9 i) rfl, immWord_gives h (· <<< n.toNat) rfl, immWord_gives h (· >>> n.toNat) rfl,
    immWord_gives h (·.sshiftRight n.toNat) rfl, issue_guarded h, shiftLeft_or_setWidth _ _ ▸ issue_guarded h⟩

theorem compareWordsWriteEveryLane : CompareWordsWriteEveryLane := fun _ _ _ _ i _ h =>
  ⟨cmpWord_gives h (· == ·) beq_iff_eq, cmpWord_gives h (· != ·) bne_iff_ne,
    cmpWord_gives h BitVec.slt BitVec.slt_iff_toInt_lt, cmpWord_gives h (fun x y => !x.slt y) (not_slt_iff _ _),
    cmpWord_gives h BitVec.ult (ult_iff _ _), cmpWord_gives h (fun x y => !x.ult y) (not_ult_iff _ _),
    cmpImmWord_gives h (· == imm9 i) beq_iff_eq, cmpImmWord_gives h (BitVec.slt · (imm9 i)) BitVec.slt_iff_toInt_lt,
    cmpImmWord_gives h (BitVec.ult · (imm9 i)) (ult_iff _ _)⟩

theorem predicateWordsGiveTheirLanes : PredicateWordsGiveTheirLanes := fun _ _ q r _ s h =>
  ⟨predWord_gives h _ (fun s => readP s q &&& readP s r) _, predWord_gives h _ (fun s => readP s q ||| readP s r) _,
    predWord_gives h _ (fun s => readP s q ^^^ readP s r) _, predWord_gives h _ (fun s => readP s q &&& ~~~readP s r) _,
    predWord_gives h _ (fun s => ~~~readP s q) _, predWord_gives h _ (readP · q) _,
    predWord_gives h _ (fun _ => BitVec.allOnes 64) _, predWord_gives h _ (fun _ => 0) _,
    ⟨oneBits (readP s q), issue_guarded h, oneBits_toNat _⟩,
    ⟨trailingZeros (readP s q), issue_guarded h, trailingZeros_spec _⟩⟩

theorem divisionsGiveQuotientsAndRemainders : DivisionsGiveQuotientsAndRemainders := fun _ _ _ _ _ h =>
  ⟨_, _, _, _, alu2Word_pends h divS _ _ _, alu2Word_pends h divU _ _ _, alu2Word_pends h remS _ _ _,
    alu2Word_pends h remU _ _ _, div_by_zero, fun hx => ⟨divS_eq_ofInt hx, divU_toNat hx, remS_toInt hx, remU_toNat hx⟩⟩

theorem bitWordsGiveTheirResults : BitWordsGiveTheirResults := by
  intro hd a b s h
  obtain ⟨hlz, hlzBefore, hlzAt⟩ := leadingZeros_spec (readS s b)
  obtain ⟨htz, htzBefore, htzAt⟩ := trailingZeros_spec (readS s b)
  exact ⟨_, _, _, _, unaryWord_pends h leadingZeros _ _, unaryWord_pends h trailingZeros _ _, unaryWord_pends h oneBits _ _,
    unaryWord_pends h byteSwap _ _, hlz, hlzBefore, hlzAt, htz, htzBefore, htzAt, oneBits_toNat _, byteSwap_byte _,
    unaryWord_pends h (fun x => (x.setWidth 8).signExtend 64) _ _,
    unaryWord_pends h (fun x => (x.setWidth 16).signExtend 64) _ _,
    unaryWord_pends h (fun x => (x.setWidth 32).signExtend 64) _ _,
    unaryWord_pends h (fun x => (x.setWidth 32).setWidth 64) _ _⟩

end Sys2Proof.Machine

namespace Sys2Proof.Proofs
open Sys2Proof.Machine

/-- Settles O12: each word is of its form, and the quotients and counts are those of the arithmetic lemmas; the most
negative value divided by -1 is no case of its own, as its quotient wraps. -/
theorem divisionAndBitWords : Obligations.DivisionAndBitWords :=
  ⟨divisionsGiveQuotientsAndRemainders, bitWordsGiveTheirResults⟩

/-- Settles O13: each word is of its form, and its result is that of the arithmetic lemmas. -/
theorem aluCompareAndPredicateWords : Obligations.AluCompareAndPredicateWords :=
  ⟨aluWordsGiveTheirResults, immediateWordsGiveTheirResults, compareWordsWriteEveryLane, predicateWordsGiveTheirLanes⟩

end Sys2Proof.Proofs
end

section
/-! PROOFS. Branch words (R80, R110, R111, R113, R117): the bodies that a transfer leaves, and the targets it takes. -/

open Sys2Proof.Claims

namespace Sys2Proof.Machine

/-! ### The bodies left -/

/-- A transfer from packet x to a target leaves the body of an entry (R113). -/
abbrev leavesBody (x target : BitVec 40) (e : LoopEntry) : Prop :=
  (e.start.toNat ≤ x.toNat ∧ x.toNat ≤ e.stop.toNat) ∧ ¬ (e.start.toNat ≤ target.toNat ∧ target.toNat ≤ e.stop.toNat)

theorem popFor_eq_dropWhile (x target : BitVec 40) (l : List LoopEntry) :
    popFor x target l = l.dropWhile (fun e => decide (leavesBody x target e)) := by
  induction l with
  | nil => rfl
  | cons e es ih => rw [popFor, ih, List.dropWhile_cons]; simp [leavesBody]

theorem transfersPopTheBodiesTheyLeave : TransfersPopTheBodiesTheyLeave := by
  intro x target l
  rw [popFor_eq_dropWhile]
  refine ⟨l.takeWhile (fun e => decide (leavesBody x target e)), List.takeWhile_append_dropWhile.symm, fun e he => ?_,
    fun e tail heq => ?_⟩
  · have hleft := List.mem_takeWhile_imp he
    exact of_decide_eq_true (p := leavesBody x target e) hleft
  · have hstays := List.head?_dropWhile_not (fun e => decide (leavesBody x target e)) l
    rw [heq] at hstays
    exact of_decide_eq_false (p := leavesBody x target e) hstays

/-! ### Targets -/

theorem registerTarget_index {v : W64} (h : v.toNat < 2 ^ 40) (f : BitVec 40 → State → State) (s : State) :
    registerTarget v f s = f (v.setWidth 40) s := if_pos h

theorem registerTarget_wild {v : W64} (h : 2 ^ 40 ≤ v.toNat) (f : BitVec 40 → State → State) (s : State) :
    registerTarget v f s = raise (sequenceTrap 0x04 v s) s := if_neg (not_lt.mpr h)

theorem branchTo_transfers (target : BitVec 40) {s : State} (h : s.seq.group.trap = none) : branchTo target s =
    transfer (.jump target) (onSeq (fun q => { q with loops := popFor q.pc target q.loops }) s) := unlessTrapped_none h

theorem callTo_links (link : Reg5) (target : BitVec 40) {s : State} (h : s.seq.group.trap = none) : callTo link target s =
    transfer (.jump target) (exposeS 1 link ((s.seq.pc + 1).setWidth 64) 0 s) := unlessTrapped_none h

/-! ### The words -/

section
variable {hd : Hdr} {s : State} (h : acts hd s)
include h

theorem exec_jr (b : Reg5) : exec (.jr hd b) s = next (registerTarget (readS s b) branchTo s) := issue_guarded h

theorem exec_ret : exec (.ret hd) s = next (registerTarget (readS s 31) branchTo s) := issue_guarded h

theorem exec_jalr (a b : Reg5) :
    exec (.jalr hd a b) s = next (registerTarget (readS s b) (if a == 0 then branchTo else callTo a) s) := issue_guarded h

end

theorem branchWordsTransfer : BranchWordsTransfer := by
  intro hd d a b s ⟨h, ht⟩ leave link
  have hleave : ∀ v : W64, v.toNat < 2 ^ 40 → next (registerTarget v branchTo s) = leave (v.setWidth 40) := fun v hv =>
    congrArg next ((registerTarget_index hv _ s).trans (branchTo_transfers _ ht))
  refine ⟨(issue_guarded h).trans (congrArg next (branchTo_transfers _ ht)),
    (issue_guarded h).trans (congrArg next (callTo_links _ _ ht)),
    fun hb => ⟨(exec_jr h b).trans (hleave _ hb), (exec_jalr h 0 b).trans (hleave _ hb), fun ha => ?_⟩,
    fun hb => (exec_ret h).trans (hleave _ hb)⟩
  rw [exec_jalr h, registerTarget_index hb, if_neg (by simpa using ha)]
  exact congrArg next (callTo_links _ _ ht)

theorem wildRegisterTargetsTrap : WildRegisterTargetsTrap := fun _ a b s h =>
  ⟨fun hb => ⟨(exec_jr h b).trans (congrArg next (registerTarget_wild hb _ s)),
    (exec_jalr h a b).trans (congrArg next (registerTarget_wild hb _ s))⟩,
    fun hb => (exec_ret h).trans (congrArg next (registerTarget_wild hb _ s))⟩

end Sys2Proof.Machine

namespace Sys2Proof.Proofs
open Sys2Proof.Machine

/-- Settles O15: the entries popped are the longest run from the innermost whose bodies are left. -/
theorem branchWordsTransferOrTrap : Obligations.BranchWordsTransferOrTrap :=
  ⟨branchWordsTransfer, transfersPopTheBodiesTheyLeave, wildRegisterTargetsTrap⟩

end Sys2Proof.Proofs
end

section
/-! PROOFS. Loop words, and the end of a loop's body (R114 to R117). -/

open Sys2Proof.Claims

namespace Sys2Proof.Machine

/-! ### The cases of a loop word -/

/-- The body of the loop word's length runs past the end of the innermost body that holds the word (R115). -/
def overrunsInnermost (len : Nat) (s : State) : Prop :=
  ∃ top rest, s.seq.loops = top :: rest ∧ top.start.toNat ≤ s.seq.pc.toNat ∧ s.seq.pc.toNat ≤ top.stop.toNat ∧
    top.stop.toNat < s.seq.pc.toNat + len

section
variable {count : W64} {len : Nat} {s : State}

theorem loopWord_tooMany (h : 0xFFFFFFFF < count.toNat) : loopWord count len s = raise (sequenceTrap 0x02 count s) s :=
  if_pos h

theorem loopWord_zero (ht : s.seq.group.trap = none) :
    loopWord 0 len s = transfer (.skip (s.seq.pc + BitVec.ofNat 40 (len + 1))) s :=
  unlessTrapped_none ht

variable (hpos : count ≠ 0) (hmax : ¬ 0xFFFFFFFF < count.toNat)
include hpos hmax

theorem loopWord_full (hl : s.seq.loops.length = 6) : loopWord count len s = raise (sequenceTrap 0x01 0 s) s := by
  unfold loopWord
  rw [if_neg hmax, if_neg (by simpa using hpos), if_pos (by simpa using hl)]

theorem loopWord_overruns (hl : s.seq.loops.length ≠ 6) (ho : overrunsInnermost len s) :
    loopWord count len s = raise (sequenceTrap 0x03 (BitVec.ofNat 64 (s.seq.pc.toNat + len)) s) s := by
  obtain ⟨top, rest, hloops, hstart, hstop, hover⟩ := ho
  unfold loopWord
  rw [if_neg hmax, if_neg (by simpa using hpos), if_neg (by simpa using hl), if_pos (by simp [hloops, hstart, hstop, hover])]

theorem loopWord_pushes (ht : s.seq.group.trap = none) (hl : s.seq.loops.length ≠ 6) (ho : ¬ overrunsInnermost len s) :
    loopWord count len s = transfer (.push { start := s.seq.pc + 1, stop := s.seq.pc + BitVec.ofNat 40 len,
                                             remain := count.setWidth 32, index := 0 }) s := by
  unfold loopWord
  rw [if_neg hmax, if_neg (by simpa using hpos), if_neg (by simpa using hl), if_neg, unlessTrapped_none ht]
  cases hloops : s.seq.loops with
  | nil => exact Bool.false_ne_true
  | cons top rest => simpa [overrunsInnermost, hloops] using ho

end

theorem loopWordsPushOrSkip : LoopWordsPushOrSkip := by
  intro hd b k l s ⟨h, ht⟩ pc trap answers
  have hcases : ∀ (count : W64) (r : Host.Outcome State Fault Refusal), r = next (loopWord count l.toNat s) →
      answers r count.toNat := by
    rintro count r rfl
    have hnat : BitVec.ofNat 64 count.toNat = count := by rw [BitVec.ofNat_toNat, BitVec.setWidth_eq]
    have hne : 0 < count.toNat → count ≠ 0 := fun hpos hz => by simp [hz] at hpos
    refine ⟨fun hmany => ?_, fun hz => ?_, fun hpos hmax hl => ?_, fun hpos hmax hl => ⟨fun ho => ?_, fun hno => ?_⟩⟩
    · rw [hnat]
      exact congrArg next (loopWord_tooMany hmany)
    · obtain rfl : count = 0 := BitVec.eq_of_toNat_eq hz
      exact congrArg next (loopWord_zero ht)
    · exact congrArg next (loopWord_full (hne hpos) (not_lt.mpr hmax) hl)
    · exact congrArg next (loopWord_overruns (hne hpos) (not_lt.mpr hmax) hl ho)
    · rw [BitVec.ofNat_toNat (m := 32)]
      exact congrArg next (loopWord_pushes (hne hpos) (not_lt.mpr hmax) ht hl fun ⟨top, rest, hloops, ho⟩ =>
        hno top rest hloops ho)
  have hk : (k.setWidth 64).toNat = k.toNat := BitVec.toNat_setWidth_of_le (by omega)
  exact ⟨hcases _ _ (issue_guarded h), hk ▸ hcases _ _ (issue_guarded h)⟩

/-! ### The group of a loop word -/

theorem fallThrough_within {n : Nat} {s : State} (h : s.seq.gpos + n < 3) :
    fallThrough n s = onSeq (fun q => { q with gpos := q.gpos + n }) s := by
  simp only [fallThrough, onSeq, if_pos h]

theorem fallThrough_leaves {n : Nat} {s : State} (h : 3 ≤ s.seq.gpos + n) : fallThrough n s =
    onSeq (fun q => { q with gpos := 0, loops := (endOfBody q.pc q.loops).1, pc := (endOfBody q.pc q.loops).2 }) s := by
  simp only [fallThrough, onSeq, if_neg (not_lt.mpr h)]

theorem loopTransfersLeaveThePacket : LoopTransfersLeaveThePacket := by
  intro n e target hd b k l s
  refine ⟨⟨rfl, rfl, rfl, rfl⟩, ⟨rfl, rfl, rfl, rfl⟩, fun hn => ?_, fun ho hg => ?_⟩
  · have happly : applyTransfer n none s = onSeq (fun q => { q with gpos := q.gpos + n }) s := fallThrough_within hn
    rw [happly]
    exact ⟨rfl, rfl, rfl, rfl⟩
  · exact ⟨(issue_open ho).trans (congrArg next (guarded_fail hg)), (issue_open ho).trans (congrArg next (guarded_fail hg))⟩

/-! ### The end of a body -/

theorem endOfBody_pops {x : BitVec 40} {pops : List LoopEntry} (rest : List LoopEntry)
    (h : ∀ e ∈ pops, e.stop = x ∧ e.remain = 1) : endOfBody x (pops ++ rest) = endOfBody x rest := by
  induction pops with
  | nil => rfl
  | cons e es ih =>
    obtain ⟨⟨hstop, hremain⟩, hes⟩ := List.forall_mem_cons.mp h
    rw [List.cons_append, endOfBody, if_pos (by simpa using hstop), if_neg (by simp [hremain]), ih hes]

theorem endOfBody_repeats {x : BitVec 40} {e : LoopEntry} (tail : List LoopEntry) (hstop : e.stop = x)
    (hremain : 1 < e.remain.toNat) :
    endOfBody x (e :: tail) = ({ e with remain := e.remain - 1, index := e.index + 1 } :: tail, e.start) := by
  rw [endOfBody, if_pos (by simpa using hstop), if_pos hremain]

theorem endOfBody_ends {x : BitVec 40} {rest : List LoopEntry} (h : ∀ e tail, rest = e :: tail → e.stop ≠ x) :
    endOfBody x rest = (rest, x + 1) := by
  cases rest with
  | nil => rfl
  | cons e tail => rw [endOfBody, if_neg (by simpa using h e tail rfl)]

theorem endOfBodyRunsTheInnermostLoop : EndOfBodyRunsTheInnermostLoop := by
  intro n s pops rest hn hloops hpops
  rw [fallThrough_leaves hn]
  simp only [onSeq_seq, hloops, endOfBody_pops rest hpops]
  refine ⟨fun e tail hrest hstop hremain => ?_, fun hrest => ?_, trivial⟩
  · rw [hrest, endOfBody_repeats tail hstop hremain]
    exact ⟨rfl, rfl⟩
  · rw [endOfBody_ends hrest]
    exact ⟨rfl, rfl⟩

end Sys2Proof.Machine

namespace Sys2Proof.Proofs
open Sys2Proof.Machine

/-- Settles O16: a loop word by the first of its cases that applies, and the end of a body by popping the entries in their last
iteration. -/
theorem loopWordsAndEndOfBody : Obligations.LoopWordsAndEndOfBody :=
  ⟨loopWordsPushOrSkip, loopTransfersLeaveThePacket, endOfBodyRunsTheInnermostLoop⟩

end Sys2Proof.Proofs
end

section
/-! PROOFS. Vector words by their forms: the check of their tags, and the lanes of what they write (R121, R122). -/

open Sys2Proof.Claims

namespace Sys2Proof.Machine

/-! ### The check of tags -/

section
variable {cls : TagClass} {s : State} {r : Reg5} {field : Nat} {ops : List (Reg5 × Nat × TagClass)}

theorem checkTags_accepted (h : cls.accepts (readV s r).tag = true) : checkTags ((r, field, cls) :: ops) s = checkTags ops s := by
  simp [checkTags, h]

theorem checkTags_wrong (h : cls.accepts (readV s r).tag = false) :
    checkTags ((r, field, cls) :: ops) s = some (tagTrap (readV s r).tag r.toNat field) := by
  simp [checkTags, h]

end

theorem checkTags_one {s : State} {b : Reg5} {cls : TagClass} {field : Nat} (hb : cls.accepts (readV s b).tag = true) :
    checkTags [(b, field, cls)] s = none := checkTags_accepted hb

theorem checkTags_two {s : State} {b c : Reg5} {cls cls' : TagClass} {field field' : Nat}
    (hb : cls.accepts (readV s b).tag = true) (hc : cls'.accepts (readV s c).tag = true) :
    checkTags [(b, field, cls), (c, field', cls')] s = none := (checkTags_accepted hb).trans (checkTags_one hc)

/-! ### Results that fill the lanes -/

/-- A vector word that passes its checks gives what its effect puts in flight, lane by lane. -/
theorem laneWord_gives {u : Use} {ops : List (Reg5 × Nat × TagClass)} {run : W64 → State → State} {s : State}
    (hv : vacts u.hd s) (ht : checkTags ops s = none) {lat : Nat} {a : Reg5} {fmt : BitVec 4} {flags : Flags}
    {f g : Nat → W32} {tag : Byte}
    (hrun : run (guardMask u.hd s) s = exposeV lat a (vecOf g) tag 0xFF (guardMask u.hd s) flags s)
    (htag : tag = mkTag fmt false false) (hg : ∀ i, g i = f i) :
    laneResult (laneWord u ops run s) lat a fmt flags u.hd s f := by
  subst htag
  exact ⟨vecOf g, (laneWord_acts hv.1 hv.2 ht).trans (congrArg _ hrun), fun i hi => (lane_vecOf g i hi).trans (hg i)⟩

end Sys2Proof.Machine
end

section
/-! PROOFS. The integer and logic words of VALU and VALUS: their lanes by the arithmetic of R101 and R124. -/

open Sys2Proof.Claims

namespace Sys2Proof.Machine

/-! ### Lanes -/

theorem extractLsb'_upper_ofInt (z : Int) : (BitVec.ofInt 64 z).extractLsb' 32 32 = BitVec.ofInt 32 (z / 2 ^ 32) := by
  apply BitVec.eq_of_toNat_eq
  simp only [BitVec.extractLsb'_toNat, BitVec.toNat_ofInt, Nat.shiftRight_eq_div_pow]
  omega

theorem lane_mulh (x y : W32) : LaneOp.mulh.apply x y = BitVec.ofInt 32 (x.toInt * y.toInt / 2 ^ 32) := by
  rw [← extractLsb'_upper_ofInt, BitVec.ofInt_mul]; rfl

theorem lane_mulhu (x y : W32) : LaneOp.mulhu.apply x y = BitVec.ofNat 32 (x.toNat * y.toNat / 2 ^ 32) := by
  rw [← extractLsb'_ofNat (w := 64) _ _ _ le_rfl, BitVec.ofNat_mul, BitVec.ofNat_toNat, BitVec.ofNat_toNat]; rfl

theorem lane_min (x y : W32) : LaneOp.min.apply x y = BitVec.ofInt 32 (min x.toInt y.toInt) := by
  rw [min_comm, min_def_lt, apply_ite (BitVec.ofInt 32), BitVec.ofInt_toInt, BitVec.ofInt_toInt]
  exact if_congr BitVec.slt_iff_toInt_lt rfl rfl

theorem lane_max (x y : W32) : LaneOp.max.apply x y = BitVec.ofInt 32 (max x.toInt y.toInt) := by
  rw [max_def_lt, apply_ite (BitVec.ofInt 32), BitVec.ofInt_toInt, BitVec.ofInt_toInt]
  exact if_congr BitVec.slt_iff_toInt_lt rfl rfl

theorem lane_minu (x y : W32) : LaneOp.minu.apply x y = BitVec.ofNat 32 (min x.toNat y.toNat) := by
  rw [min_comm, min_def_lt, apply_ite (BitVec.ofNat 32), BitVec.ofNat_toNat, BitVec.ofNat_toNat, BitVec.setWidth_eq,
    BitVec.setWidth_eq]
  exact if_congr BitVec.ult_iff_lt rfl rfl

theorem lane_maxu (x y : W32) : LaneOp.maxu.apply x y = BitVec.ofNat 32 (max x.toNat y.toNat) := by
  rw [max_def_lt, apply_ite (BitVec.ofNat 32), BitVec.ofNat_toNat, BitVec.ofNat_toNat, BitVec.setWidth_eq,
    BitVec.setWidth_eq]
  exact if_congr BitVec.ult_iff_lt rfl rfl

/-! ### The words -/

section
variable {hd : Hdr} {s : State} (h : vacts hd s) {b : Reg5} {op : LaneOp} (hb : op.cls.accepts (readV s b).tag = true)
include h hb

theorem valuWord_gives {c : Reg5} (hc : op.cls.accepts (readV s c).tag = true) {a : Reg5} {fmt : BitVec 4} {f : W32 → W32 → W32}
    (hfmt : op.resultTag (readV s b).tag = mkTag fmt false false) (hf : ∀ x y, op.apply x y = f x y) :
    laneResult (valuWord op hd a b c s) 2 a fmt 0 hd s (fun i => f (laneOf s b i) (laneOf s c i)) :=
  laneWord_gives (u := useV3 hd a b c) h (checkTags_two hb hc) rfl hfmt (fun _ => hf _ _)

theorem valusWord_gives {a c : Reg5} {fmt : BitVec 4} {f : W32 → W32 → W32}
    (hfmt : op.resultTag (readV s b).tag = mkTag fmt false false) (hf : ∀ x y, op.apply x y = f x y) :
    laneResult (valusWord op hd a b c s) 2 a fmt 0 hd s (fun i => f (laneOf s b i) ((readS s c).setWidth 32)) :=
  laneWord_gives (u := useVS hd a b c) h (checkTags_one hb) rfl hfmt (fun _ => hf _ _)

end

theorem cls_integer {op : LaneOp} (h : op.isLogic = false) : op.cls = .integer := if_neg (by simp [h])

theorem resultTag_integer {op : LaneOp} (h : op.isLogic = false) (t : Byte) : op.resultTag t = mkTag 3 false false :=
  if_neg (by simp [h])

theorem valuIntegerWordsGiveLanes : ValuIntegerWordsGiveLanes := by
  intro hd a b c s h hb hc x y
  have gives := fun (op : LaneOp) (hop : op.isLogic = false) => fun {f : W32 → W32 → W32} =>
    valuWord_gives (op := op) (a := a) (f := f) h (cls_integer hop ▸ accepts_integer hb) (cls_integer hop ▸ accepts_integer hc)
      (resultTag_integer hop _)
  exact ⟨gives .add rfl (fun _ _ => rfl), gives .sub rfl (fun _ _ => rfl), gives .sll rfl (fun _ _ => rfl),
    gives .srl rfl (fun _ _ => rfl), gives .sra rfl (fun _ _ => rfl), gives .mul rfl (fun _ _ => rfl), gives .mulh rfl lane_mulh,
    gives .mulhu rfl lane_mulhu, gives .min rfl lane_min, gives .max rfl lane_max, gives .minu rfl lane_minu,
    gives .maxu rfl lane_maxu⟩

theorem valusIntegerWordsGiveLanes : ValusIntegerWordsGiveLanes := by
  intro hd a b c s h hb x y
  have gives := fun (op : LaneOp) (hop : op.isLogic = false) => fun {f : W32 → W32 → W32} =>
    valusWord_gives (op := op) (a := a) (c := c) (f := f) h (cls_integer hop ▸ accepts_integer hb) (resultTag_integer hop _)
  exact ⟨gives .add rfl (fun _ _ => rfl), gives .sub rfl (fun _ _ => rfl), gives .sll rfl (fun _ _ => rfl),
    gives .srl rfl (fun _ _ => rfl), gives .sra rfl (fun _ _ => rfl), gives .mul rfl (fun _ _ => rfl), gives .mulh rfl lane_mulh,
    gives .mulhu rfl lane_mulhu, gives .min rfl lane_min, gives .max rfl lane_max, gives .minu rfl lane_minu,
    gives .maxu rfl lane_maxu⟩

theorem vectorLogicWordsKeepTheFormat : VectorLogicWordsKeepTheFormat := by
  intro hd a b c s h hb x y z f
  have hb' := accepts_any hb
  refine ⟨fun hc => ?_, valusWord_gives (op := .and) h hb' rfl (fun _ _ => rfl),
    valusWord_gives (op := .or) h hb' rfl (fun _ _ => rfl), valusWord_gives (op := .xor) h hb' rfl (fun _ _ => rfl),
    valusWord_gives (op := .andn) (f := fun v w => v &&& ~~~w) h hb' rfl (fun _ _ => rfl)⟩
  have hc' := accepts_any hc
  exact ⟨valuWord_gives (op := .and) h hb' hc' rfl (fun _ _ => rfl), valuWord_gives (op := .or) h hb' hc' rfl (fun _ _ => rfl),
    valuWord_gives (op := .xor) h hb' hc' rfl (fun _ _ => rfl),
    valuWord_gives (op := .andn) (f := fun v w => v &&& ~~~w) h hb' hc' rfl (fun _ _ => rfl)⟩

end Sys2Proof.Machine

namespace Sys2Proof.Proofs
open Sys2Proof.Machine

/-- Settles O17: a word is of its form and its operation, whose lane is that of the arithmetic. -/
theorem vectorIntegerAndLogicWords : Obligations.VectorIntegerAndLogicWords :=
  ⟨valuIntegerWordsGiveLanes, valusIntegerWordsGiveLanes, vectorLogicWordsKeepTheFormat⟩

end Sys2Proof.Proofs
end

section
/-! PROOFS. The float words, the fused words and the compares of vectors (R125 to R127). -/

open Sys2Proof.Claims

namespace Sys2Proof.Machine

section
variable {hd : Hdr} {s : State} (h : vacts hd s) {a b : Reg5} (hb : floatReg s b)
include h hb

theorem floatWord_gives {c : Reg5} (hc : floatReg s c) (f : W32 → W32 → Res W32) :
    laneResult (floatWord f hd a b c s) 4 a 1 (laneFlags (guardMask hd s) (fun i => (f (laneOf s b i) (laneOf s c i)).flags)) hd s
      (fun i => (f (laneOf s b i) (laneOf s c i)).val) :=
  laneWord_gives (u := useV3 hd a b c) h (checkTags_two (accepts_float hb) (accepts_float hc)) rfl rfl (fun _ => rfl)

theorem floatUnary_gives (f : W32 → Res W32) :
    laneResult (floatUnary f hd a b s) 4 a 1 (laneFlags (guardMask hd s) (fun i => (f (laneOf s b i)).flags)) hd s
      (fun i => (f (laneOf s b i)).val) :=
  laneWord_gives (u := useV2 hd a b) h (checkTags_one (accepts_float hb)) rfl rfl (fun _ => rfl)

end

theorem floatWordsGiveLanes : FloatWordsGiveLanes := by
  intro hd a b c s h hb gives gives2
  refine ⟨fun hc => ?_, floatUnary_gives h hb (fun x => { val := absF32 x, flags := 0 }),
    floatUnary_gives h hb (fun x => { val := negF32 x, flags := 0 }), floatUnary_gives h hb sqrtF32,
    floatUnary_gives h hb rcpF32, floatUnary_gives h hb rsqF32, floatUnary_gives h hb exp2F32, floatUnary_gives h hb log2F32⟩
  exact ⟨floatWord_gives h hb hc addF32, floatWord_gives h hb hc subF32, floatWord_gives h hb hc mulF32,
    floatWord_gives h hb hc (quietOp minF32), floatWord_gives h hb hc (quietOp maxF32)⟩

/-- A fused word, by the sign of its product and of its addend. -/
theorem fmaWord_gives {hd : Hdr} {s : State} (h : vacts hd s) {a b c : Reg5} (ha : floatReg s a) (hb : floatReg s b)
    (hc : floatReg s c) (negP negA : Bool) :
    let f := fun i =>
      let p := decodeF32 (laneOf s b i)
      let z := decodeF32 (laneOf s a i)
      fmaF32 (if negP then p.negate else p) (decodeF32 (laneOf s c i)) (if negA then z.negate else z)
    laneResult (fmaWord negP negA hd a b c s) 4 a 1 (laneFlags (guardMask hd s) (fun i => (f i).flags)) hd s
      (fun i => (f i).val) :=
  laneWord_gives (u := useFma hd a b c) h
    ((checkTags_accepted (accepts_float ha)).trans (checkTags_two (accepts_float hb) (accepts_float hc))) rfl rfl (fun _ => rfl)

theorem fusedWordsRoundOnce : FusedWordsRoundOnce := fun _ _ _ _ _ h ha hb hc =>
  ⟨fmaWord_gives h ha hb hc false false, fmaWord_gives h ha hb hc false true, fmaWord_gives h ha hb hc true false⟩

/-! ### Compares -/

theorem laneFlags_none (mask : W64) : laneFlags mask (fun _ => 0) = 0 :=
  List.foldl_fixed' (fun _ => by split; exacts [BitVec.or_zero, rfl]) _

theorem lane_not_slt (x y : W32) : (!y.slt x) = decide (x.toInt ≤ y.toInt) := by
  rw [BitVec.slt, ← decide_not]; exact decide_eq_decide.mpr not_lt

/-- A compare of registers of its class writes its truths over the active lanes. -/
theorem vcmpWord_gives {hd : Hdr} {s : State} (h : vacts hd s) {cls : TagClass} {b c : Reg5}
    (hb : cls.accepts (readV s b).tag = true) (hc : cls.accepts (readV s c).tag = true) (p : Reg4) (f : W32 → W32 → Bool)
    (flags : W32 → W32 → Flags) {fl : Flags} {g : Nat → Bool}
    (hfl : laneFlags (guardMask hd s) (fun i => flags (laneOf s b i) (laneOf s c i)) = fl)
    (hg : ∀ i, f (laneOf s b i) (laneOf s c i) = g i) :
    ∃ v : W64, vcmpWord cls f flags hd p b c s = .next (exposeP 2 p v (guardMask hd s) fl s) ∧
      ∀ i, i < 64 → v.getLsbD i = g i := by
  subst hfl
  exact ⟨maskOf (fun i => f (laneOf s b i) (laneOf s c i)),
    laneWord_acts (u := useVcmp hd p b c) h.1 h.2 (checkTags_two hb hc), fun i hi => (getLsbD_maskOf _ i hi).trans (hg i)⟩

end Sys2Proof.Machine

namespace Sys2Proof.Proofs
open Sys2Proof.Machine

/-- Settles O18: each word is of its form, whose lanes are those of its operation. -/
theorem vectorFloatWords : Obligations.VectorFloatWords := ⟨floatWordsGiveLanes, fusedWordsRoundOnce⟩

/-- Settles O19: each compare is of its form; the flags of all but the ordered float compares are those of no lane. -/
theorem vectorComparesWriteActiveLanes : Obligations.VectorComparesWriteActiveLanes := by
  intro hd p b c s h x y nan gives
  have quiet : laneFlags (guardMask hd s) (fun i => noFlags (x i) (y i)) = 0 := laneFlags_none _
  refine ⟨fun hb hc => ?_, fun hb hc => ?_, fun hb hc => ?_⟩
  · have writes := fun f => @vcmpWord_gives hd s h .any b c (accepts_any hb) (accepts_any hc) p f noFlags
    exact ⟨writes (· == ·) quiet (fun _ => rfl), writes (· != ·) quiet (fun _ => (decide_not ..).symm)⟩
  · have writes := fun f => @vcmpWord_gives hd s h .integer b c (accepts_integer hb) (accepts_integer hc) p f noFlags
    exact ⟨writes BitVec.slt quiet (fun _ => rfl), writes (fun v w => !w.slt v) quiet (fun _ => lane_not_slt _ _),
      writes BitVec.ult quiet (fun _ => rfl)⟩
  · have writes := @vcmpWord_gives hd s h .float b c (accepts_float hb) (accepts_float hc) p
    exact ⟨writes numEq noFlags quiet (fun _ => rfl), writes numLt orderedFlags rfl (fun _ => rfl),
      writes (fun v w => numLt v w || numEq v w) orderedFlags rfl (fun _ => rfl),
      writes (fun v w => isNanF32 v || isNanF32 w) noFlags quiet (fun _ => rfl)⟩

end Sys2Proof.Proofs
end

section
/-! PROOFS. The conversions of VCVT (R128 to R130). -/

open Sys2Proof.Claims

namespace Sys2Proof.Machine

theorem accepts_only {s : State} {b : Reg5} {fmt : BitVec 4} (h : tagFmt (readV s b).tag = fmt) :
    (TagClass.only fmt).accepts (readV s b).tag = true := by
  simpa [TagClass.accepts] using h

theorem accepts_bytes {s : State} {b : Reg5} (h : tagFmt (readV s b).tag = 4 ∨ tagFmt (readV s b).tag = 5) :
    TagClass.bytes.accepts (readV s b).tag = true := by
  simpa [TagClass.accepts] using h

/-- The format of a register's elements: a raw one is read as i32 (R122). -/
def sourceFmt (s : State) (b : Reg5) : BitVec 4 := if tagFmt (readV s b).tag = 0 then 3 else tagFmt (readV s b).tag

theorem sourceFmt_integer {s : State} {b : Reg5} (h : intReg s b) : sourceFmt s b = 3 := by
  rcases h with h | h <;> simp [sourceFmt, h]

theorem sourceFmt_of_ne_zero {s : State} {b : Reg5} (h : tagFmt (readV s b).tag ≠ 0) : sourceFmt s b = tagFmt (readV s b).tag :=
  if_neg h

section
variable {hd : Hdr} {s : State} (h : vacts hd s) {cls : TagClass} {b : Reg5} (hb : cls.accepts (readV s b).tag = true)
include h hb

theorem widenWord_gives {src : State → BitVec 4} {fmt : BitVec 4} (hsrc : src s = fmt) (dst : BitVec 4) (rz : Bool) (j : Nat)
    (a : Reg5) :
    let e := fun i => convertTo dst rz (elemValue fmt (laneOf s b i) j)
    laneResult (widenWord cls src dst rz j hd a b s) 4 a dst (laneFlags (guardMask hd s) (fun i => (e i).flags)) hd s
      (fun i => (e i).val) := by
  subst hsrc
  exact laneWord_gives (u := useV2 hd a b) h (checkTags_one hb) rfl rfl (fun _ => rfl)

/-- A conversion into elements of w bits puts in flight those of one number in each lane, and their mask. -/
theorem narrowWord_gives {dst : BitVec 4} {w : Nat} (hw : elemBits dst = w) (src : BitVec 4) (rz : Bool) (j : Nat) (a : Reg5) :
    let e := fun i => convertTo dst rz (elemValue src (laneOf s b i) 0)
    ∃ d : BitVec 2048, narrowWord cls src dst rz j hd a b s = .next (exposeV 4 a d (mkTag dst false false) ((1 : Byte) <<< j)
        (guardMask hd s) (laneFlags (guardMask hd s) (fun i => (e i).flags)) s) ∧
      ∀ i, i < 64 → lane d i = BitVec.ofNat 32 ((e i).val.toNat % 2 ^ w) <<< (w * j) := by
  subst hw
  exact ⟨_, laneWord_acts (u := useV2 hd a b) h.1 h.2 (checkTags_one hb), fun i hi => lane_vecOf _ i hi⟩

end

theorem wideningConversionsFillTheLanes : WideningConversionsFillTheLanes := by
  intro hd a b t z s h f gives
  have only := fun (fmt : BitVec 4) (hne : fmt ≠ 0) (hf : f = fmt) =>
    widenWord_gives (src := fun _ => fmt) (fmt := sourceFmt s b) h (accepts_only hf)
      ((sourceFmt_of_ne_zero (hf.trans_ne hne)).trans hf).symm
  refine ⟨fun hb => widenWord_gives h (accepts_integer hb) (sourceFmt_integer hb).symm 1 (z == 1) 0 a,
    fun hf => ?_, fun hf => only 2 (by decide) hf 1 false t.toNat a, fun hf => only 6 (by decide) hf 1 false t.toNat a,
    fun hf => only 7 (by decide) hf 1 false t.toNat a, fun hf => only 9 (by decide) hf 1 false t.toNat a,
    fun hf => only 10 (by decide) hf 1 false t.toNat a, fun hf => ?_⟩
  · have hne : f ≠ 0 := hf.trans_ne (by decide)
    exact widenWord_gives (fmt := sourceFmt s b) h (accepts_float hf) ((sourceFmt_of_ne_zero hne).trans hf).symm 3 (z == 1) 0 a
  · have hne : f ≠ 0 := by rcases hf with hf | hf <;> exact hf.trans_ne (by decide)
    exact widenWord_gives (fmt := sourceFmt s b) h (accepts_bytes hf) (sourceFmt_of_ne_zero hne).symm 3 false t.toNat a

theorem narrowingConversionsWriteElements : NarrowingConversionsWriteElements := by
  intro hd a b t u z s h m gives
  refine ⟨fun hb => ?_, fun hb => ?_⟩
  · have narrows := fun (dst : BitVec 4) (w : Nat) (hw : elemBits dst = w) (rz : Bool) =>
      narrowWord_gives h (accepts_float hb) hw 1 rz t.toNat a
    exact ⟨narrows 2 16 rfl (z == 1), narrows 6 8 rfl (z == 1), narrows 7 8 rfl (z == 1), narrows 9 8 rfl false,
      narrows 10 8 rfl false⟩
  · rcases eq_or_ne u 1 with rfl | hu
    · exact narrowWord_gives h (accepts_integer hb) (dst := 5) rfl 3 false t.toNat a
    · have hdst : (if u = 1 then (5 : BitVec 4) else 4) = 4 := if_neg hu
      have hexec : exec (.vcvtI8I32 hd a b u t z) s = narrowWord .integer 3 4 false t.toNat hd a b s := by
        show narrowWord .integer 3 (if u == 1 then 5 else 4) false t.toNat hd a b s = _
        rw [if_neg (by simpa using hu)]
      simp only [gives, hdst, hexec]
      exact narrowWord_gives h (accepts_integer hb) (dst := 4) rfl 3 false t.toNat a

theorem narrowPair_gives {hd : Hdr} {s : State} (h : vacts hd s) {b : Reg5} (hb : floatReg s b) (hodd : floatReg s (b + 1))
    (rz : Bool) (part : Nat) (a : Reg5) :
    let e := fun (r : Reg5) i => convertTo 8 rz (elemValue 1 (laneOf s r i) 0)
    narrowPair rz part hd a b s = .next (exposeV 4 a
      (vecOf (fun i => placeElem 4 (2 * part) (e b i).val ||| placeElem 4 (2 * part + 1) (e (b + 1) i).val)) (mkTag 8 false false)
      ((3 : Byte) <<< (2 * part)) (guardMask hd s)
      (laneFlags (guardMask hd s) (fun i => (e b i).flags ||| (e (b + 1) i).flags)) s) := by
  refine (laneWord_acts (u := useV hd [.v b, .v (b + 1)] [.v a]) h.1 h.2 (checkTags_one (accepts_float hb))).trans (congrArg _ ?_)
  exact if_neg (by rw [accepts_float hodd]; decide)

theorem widenPair_gives {hd : Hdr} {s : State} (h : vacts hd s) {b : Reg5} (hf : tagFmt (readV s b).tag = 8) (part : Nat)
    (a : Reg5) :
    let e := fun k => vecOf (fun i => (convertTo 1 false (elemValue 8 (laneOf s b i) (2 * part + k))).val)
    widenPair part hd a b s = .next (exposeV 4 (a + 1) (e 1) (mkTag 1 false false) 0xFF (guardMask hd s) 0
      (exposeV 4 a (e 0) (mkTag 1 false false) 0xFF (guardMask hd s) 0 s)) :=
  laneWord_acts (u := useV hd [.v b] [.v a, .v (a + 1)]) h.1 h.2 (checkTags_one (accepts_only hf))

theorem placeElem_low_nibble (t : Nat) (x : W32) : placeElem 4 (2 * t) x = BitVec.ofNat 32 (x.toNat % 16) <<< (8 * t) := by
  rw [placeElem, show 4 * (2 * t) = 8 * t by omega]; rfl

theorem placeElem_high_nibble (t : Nat) (x : W32) :
    placeElem 4 (2 * t + 1) x = BitVec.ofNat 32 (x.toNat % 16) <<< (8 * t + 4) := by
  rw [placeElem, show 4 * (2 * t + 1) = 8 * t + 4 by omega]; rfl

theorem pairConversionsJoinAndSplitNibbles : PairConversionsJoinAndSplitNibbles := by
  intro hd a b t z s h m
  refine ⟨fun hb hodd => ⟨_, narrowPair_gives h hb hodd (z == 1) t.toNat a, fun i hi => ?_⟩,
    fun hf => ⟨_, _, widenPair_gives h hf t.toNat a, fun i hi => ⟨lane_vecOf _ i hi, lane_vecOf _ i hi⟩⟩⟩
  rw [lane_vecOf _ i hi, placeElem_low_nibble, placeElem_high_nibble]

end Sys2Proof.Machine

namespace Sys2Proof.Proofs
open Sys2Proof.Machine

/-- Settles O20: each conversion is of its form, and the form of its operand's class. -/
theorem conversionsBetweenFormats : Obligations.ConversionsBetweenFormats :=
  ⟨wideningConversionsFillTheLanes, narrowingConversionsWriteElements, pairConversionsJoinAndSplitNibbles⟩

end Sys2Proof.Proofs
end

section
/-! PROOFS. The permutations, the insertion of one lane, lane numbers and the splat (R121, R132, R133). -/

open Sys2Proof.Claims

namespace Sys2Proof.Machine

/-- A permutation of a register of any format keeps the format. -/
theorem permWord_gives {u : Use} {s : State} (h : vacts u.hd s) {b : Reg5} (hb : anyReg s b)
    {extra : List (Reg5 × Nat × TagClass)} (hextra : checkTags extra s = none) (a : Reg5) (f : State → Nat → W32) :
    laneResult (permWord u extra f a b s) 3 a (tagFmt (readV s b).tag) 0 u.hd s (f s) :=
  laneWord_gives h ((checkTags_accepted (accepts_any hb)).trans hextra) rfl rfl (fun _ => rfl)

theorem onesBelow_eq (p : W64) (i : Nat) : onesBelow p i = ((List.range i).filter (fun j => p.getLsbD j)).length :=
  List.countP_eq_length_filter

/-- `vext` writes its scalar only where the lane it reads passes. -/
theorem exec_vext {hd : Hdr} {s : State} (h : vacts hd s) {b : Reg5} (hb : anyReg s b) (a c : Reg5) :
    exec (.vext hd a b c) s = .next (if (guardMask hd s).getLsbD ((readS s c).toNat % 64) then
      exposeS 3 a ((laneOf s b ((readS s c).toNat % 64)).setWidth 64) 0 s else s) := by
  show execVext hd a b c s = _
  exact laneWord_acts (u := useV hd (.v b :: sName c) (sName a)) h.1 h.2 (checkTags_one (accepts_any hb))

theorem exec_vid {hd : Hdr} {s : State} (h : vacts hd s) (a : Reg5) :
    laneResult (exec (.vid hd a) s) 3 a 3 0 hd s (fun i => BitVec.ofNat 32 i) := by
  show laneResult (execVid hd a s) 3 a 3 0 hd s _
  exact laneWord_gives (u := useV hd [] [.v a]) h rfl rfl rfl (fun _ => rfl)

theorem exec_vsplat {hd : Hdr} {s : State} (h : vacts hd s) (a : Reg5) (k : BitVec 14) :
    laneResult (exec (.vsplat hd a k) s) 1 a 3 0 hd s (fun _ => k.signExtend 32) := by
  show laneResult (execVsplat hd a k s) 1 a 3 0 hd s _
  exact laneWord_gives (u := useV hd [] [.v a]) h rfl rfl rfl (fun _ => rfl)

theorem permutationsMoveLanes : PermutationsMoveLanes := by
  intro hd a b c p k s h x f n q
  refine ⟨fun hb => ?_, exec_vid h a, exec_vsplat h a k⟩
  have permutes := fun (u : Use) (hu : u.hd = hd) => permWord_gives (u := u) (hu ▸ h) hb (extra := []) rfl a
  refine ⟨fun hc => permWord_gives (u := useV3 hd a b c) h hb (checkTags_one (accepts_integer hc)) a _,
    permutes (useVS hd a b c) rfl _, permutes (useVS hd a b c) rfl _, permutes (useVP hd a b p) rfl _, ?_, exec_vext h hb a c⟩
  simp only [← onesBelow_eq, q]
  exact permutes (useVP hd a b p) rfl _

/-! ### The insertion of one lane -/

theorem getLsbD_oneBit (k i : Nat) (hk : k < 64) : ((1 : W64) <<< k).getLsbD i = decide (i = k) := by
  show (BitVec.twoPow 64 k).getLsbD i = _
  rw [BitVec.getLsbD_twoPow, decide_eq_true hk, Bool.true_and, decide_eq_decide]
  exact eq_comm

theorem lane_shifted (x : W32) (k : Nat) (hk : k < 64) : lane (x.setWidth 2048 <<< (32 * k)) k = x := by
  refine BitVec.eq_of_getLsbD_eq (fun j hj => ?_)
  rw [lane, BitVec.getLsbD_extractLsb', BitVec.getLsbD_shiftLeft, BitVec.getLsbD_setWidth, Nat.add_sub_cancel_left]
  simp only [hj, show 32 * k + j < 2048 by omega, show ¬ 32 * k + j < 32 * k by omega, show j < 2048 by omega, decide_true,
    decide_false, Bool.not_false, Bool.true_and]

/-- What `vins` puts in flight: one lane, and no tag. -/
def insertion (a : Reg5) (k : Nat) (x : W32) : InFlight :=
  { kind := .vector, reg := a, remain := 3, flags := 0, tag := 0, setsTag := false, emask := 0xFF, lmask := 1 <<< k,
    value := x.setWidth 2048 <<< (32 * k) }

theorem exec_vins {hd : Hdr} {s : State} (h : vacts hd s) {a : Reg5} (ha : anyReg s a) (b c : Reg5) :
    exec (.vins hd a b c) s = .next (if (guardMask hd s).getLsbD ((readS s c).toNat % 64) then
      expose (insertion a ((readS s c).toNat % 64) ((readS s b).setWidth 32)) s else s) := by
  show execVins hd a b c s = _
  exact laneWord_acts (u := useV hd (.v a :: sName b ++ sName c) [.v a]) h.1 h.2 (checkTags_one (accepts_any ha))

theorem tag_insertion (a : Reg5) (k : Nat) (x : W32) (old : VReg) : (mergeLanes (insertion a k x) old).tag = old.tag := by
  rw [(vectorResultsMerge (insertion a k x) old 0 0 (by decide) (by decide)).1]
  exact if_neg Bool.false_ne_true

theorem lane_insertion (a : Reg5) {k : Nat} (hk : k < 64) (x : W32) (old : VReg) (i : Nat) (hi : i < 64) :
    lane (mergeLanes (insertion a k x) old).data i = if i = k then x else lane old.data i := by
  have hwritten : writtenBits (insertion a k x) = BitVec.allOnes 32 := rfl
  have hmask : (insertion a k x).lmask.getLsbD i = decide (i = k) := getLsbD_oneBit k i hk
  rw [lane_mergeLanes _ _ i hi, hwritten, hmask]
  rcases eq_or_ne i k with rfl | hne
  · have hvalue : lane (insertion a i x).value i = x := lane_shifted x i hi
    rw [if_pos (decide_eq_true rfl), if_pos rfl, hvalue, BitVec.not_allOnes, BitVec.and_allOnes]
    split <;> exact (congrArg (x ||| ·) BitVec.and_zero).trans BitVec.or_zero
  · rw [if_neg (by simpa using hne), if_neg hne]

theorem vinsReplacesOneLane : VinsReplacesOneLane := by
  intro hd a b c s h ha k
  have hk : k < 64 := Nat.mod_lt _ (by decide)
  have hexec := exec_vins h ha b c
  refine ⟨fun hfail => ?_, fun hpass => ⟨insertion a k ((readS s b).setWidth 32), ?_, rfl, rfl, rfl, rfl,
    fun old => ⟨tag_insertion a k _ old, lane_insertion a hk _ old⟩⟩⟩
  · rw [hexec, if_neg (by rw [hfail]; decide)]
  · rw [hexec, if_pos hpass]

end Sys2Proof.Machine

namespace Sys2Proof.Proofs
open Sys2Proof.Machine

/-- Settles O22: the permutations are of one form; the merge of what `vins` puts in flight changes the lane of its mask. -/
theorem permutationsAndInsertion : Obligations.PermutationsAndInsertion := ⟨permutationsMoveLanes, vinsReplacesOneLane⟩

end Sys2Proof.Proofs
end

section
/-! PROOFS. The tags that vector words check (R122). -/

open Sys2Proof.Claims

namespace Sys2Proof.Machine

theorem refuses_integer {s : State} {b : Reg5} (h : ¬ intReg s b) : TagClass.integer.accepts (readV s b).tag = false := by
  simpa [TagClass.accepts, intReg] using h

theorem refuses_float {s : State} {b : Reg5} (h : ¬ floatReg s b) : TagClass.float.accepts (readV s b).tag = false := by
  simpa [TagClass.accepts, floatReg] using h

theorem refuses_any {s : State} {b : Reg5} (h : ¬ anyReg s b) : TagClass.any.accepts (readV s b).tag = false := by
  simpa [TagClass.accepts, anyReg] using h

theorem refuses_bytes {s : State} {b : Reg5} (h : ¬ (tagFmt (readV s b).tag = 4 ∨ tagFmt (readV s b).tag = 5)) :
    TagClass.bytes.accepts (readV s b).tag = false := by
  simpa [TagClass.accepts] using h

theorem refuses_only {s : State} {b : Reg5} {fmt : BitVec 4} (h : ¬ tagFmt (readV s b).tag = fmt) :
    (TagClass.only fmt).accepts (readV s b).tag = false := by
  simpa [TagClass.accepts] using h

/-! ### The order of the checks -/

/-- A word checks the tags of a list of operands, in its order. -/
def checksTags (hd : Hdr) (ops : List (Reg5 × Nat × TagClass)) (i : Instr) : Prop :=
  ∀ s t, vacts hd s → checkTags ops s = some t → exec i s = .next (raise t s)

section
variable {hd : Hdr} {s : State} (h : vacts hd s) {r r' : Reg5} {cls cls' : TagClass} {field field' : Nat}
  {ops : List (Reg5 × Nat × TagClass)} {ws : List Instr}
include h

theorem wrongTag_of_first (hws : ∀ i ∈ ws, checksTags hd ((r, field, cls) :: ops) i)
    (hr : cls.accepts (readV s r).tag = false) : ∀ i ∈ ws, exec i s = wrongTag s (readV s r).tag r field :=
  fun i hi => hws i hi s _ h (checkTags_wrong hr)

theorem wrongTag_of_second (hws : ∀ i ∈ ws, checksTags hd ((r, field, cls) :: (r', field', cls') :: ops) i)
    (hr : cls.accepts (readV s r).tag = true) (hr' : cls'.accepts (readV s r').tag = false) :
    ∀ i ∈ ws, exec i s = wrongTag s (readV s r').tag r' field' :=
  fun i hi => hws i hi s _ h ((checkTags_accepted hr).trans (checkTags_wrong hr'))

end

theorem tagTraps_first {hd : Hdr} {s : State} (h : vacts hd s) {r : Reg5} {cls : TagClass} {field : Nat}
    {ops : List (Reg5 × Nat × TagClass)} {ws : List Instr} {accepted : Prop}
    (hrefuses : ¬ accepted → cls.accepts (readV s r).tag = false) (hws : ∀ i ∈ ws, checksTags hd ((r, field, cls) :: ops) i) :
    tagTraps s ws r field accepted := fun hr => wrongTag_of_first h hws (hrefuses hr)

theorem tagTraps_two {hd : Hdr} {s : State} (h : vacts hd s) {b c : Reg5} {cls : TagClass} {ws : List Instr}
    {is : State → Reg5 → Prop} (haccepts : ∀ r, is s r → cls.accepts (readV s r).tag = true)
    (hrefuses : ∀ r, ¬ is s r → cls.accepts (readV s r).tag = false)
    (hws : ∀ i ∈ ws, checksTags hd [(b, 1, cls), (c, 2, cls)] i) :
    tagTraps s ws b 1 (is s b) ∧ (is s b → tagTraps s ws c 2 (is s c)) :=
  ⟨fun hb => wrongTag_of_first h hws (hrefuses b hb), fun hb hc => wrongTag_of_second h hws (haccepts b hb) (hrefuses c hc)⟩

/-! ### The forms -/

section
variable (hd : Hdr) (a b c : Reg5) (p : Reg4) (s : State) (t : TrapInfo) (h : vacts hd s)
include h

theorem valuWord_traps (op : LaneOp) (ht : checkTags [(b, 1, op.cls), (c, 2, op.cls)] s = some t) :
    valuWord op hd a b c s = .next (raise t s) := laneWord_traps (u := useV3 hd a b c) h.1 h.2 ht

theorem valusWord_traps (op : LaneOp) (ht : checkTags [(b, 1, op.cls)] s = some t) :
    valusWord op hd a b c s = .next (raise t s) := laneWord_traps (u := useVS hd a b c) h.1 h.2 ht

theorem floatWord_traps (f : W32 → W32 → Res W32) (ht : checkTags [(b, 1, .float), (c, 2, .float)] s = some t) :
    floatWord f hd a b c s = .next (raise t s) := laneWord_traps (u := useV3 hd a b c) h.1 h.2 ht

theorem floatUnary_traps (f : W32 → Res W32) (ht : checkTags [(b, 1, .float)] s = some t) :
    floatUnary f hd a b s = .next (raise t s) := laneWord_traps (u := useV2 hd a b) h.1 h.2 ht

theorem fmaWord_traps (negP negA : Bool) (ht : checkTags [(a, 0, .float), (b, 1, .float), (c, 2, .float)] s = some t) :
    fmaWord negP negA hd a b c s = .next (raise t s) := laneWord_traps (u := useFma hd a b c) h.1 h.2 ht

theorem vcmpWord_traps (cls : TagClass) (f : W32 → W32 → Bool) (flags : W32 → W32 → Flags)
    (ht : checkTags [(b, 1, cls), (c, 2, cls)] s = some t) : vcmpWord cls f flags hd p b c s = .next (raise t s) :=
  laneWord_traps (u := useVcmp hd p b c) h.1 h.2 ht

end

theorem laneWordsCheckTags : LaneWordsCheckTags := by
  intro hd a b c p s h two
  have valu := fun op s t hv => valuWord_traps hd a b c s t hv op
  have valus := fun op s t hv => valusWord_traps hd a b c s t hv op
  have float := fun f s t hv => floatWord_traps hd a b c s t hv f
  have unary := fun f s t hv => floatUnary_traps hd a b s t hv f
  have fma := fun np na s t hv => fmaWord_traps hd a b c s t hv np na
  have vcmp := fun cls f fl s t hv => vcmpWord_traps hd b c p s t hv cls f fl
  refine ⟨tagTraps_two h (fun _ => accepts_integer) (fun _ => refuses_integer) (fun i hi => ?_),
    tagTraps_two h (fun _ => accepts_any) (fun _ => refuses_any) (fun i hi => ?_),
    tagTraps_two h (fun _ => accepts_float) (fun _ => refuses_float) (fun i hi => ?_),
    tagTraps_first (ops := []) h refuses_integer (fun i hi => ?_), tagTraps_first (ops := []) h refuses_any (fun i hi => ?_),
    tagTraps_first (ops := []) h refuses_float (fun i hi => ?_), ?_⟩
  · fin_cases hi
    exacts [valu .add, valu .sub, valu .sll, valu .srl, valu .sra, valu .mul, valu .mulh, valu .mulhu, valu .min, valu .max,
      valu .minu, valu .maxu, vcmp .integer BitVec.slt noFlags, vcmp .integer (fun v w => !w.slt v) noFlags,
      vcmp .integer BitVec.ult noFlags]
  · fin_cases hi
    exacts [valu .and, valu .or, valu .xor, valu .andn, vcmp .any (· == ·) noFlags, vcmp .any (· != ·) noFlags]
  · fin_cases hi
    exacts [float addF32, float subF32, float mulF32, float (quietOp minF32), float (quietOp maxF32), vcmp .float numEq noFlags,
      vcmp .float numLt orderedFlags, vcmp .float (fun v w => numLt v w || numEq v w) orderedFlags,
      vcmp .float (fun v w => isNanF32 v || isNanF32 w) noFlags]
  · fin_cases hi
    exacts [valus .add, valus .sub, valus .sll, valus .srl, valus .sra, valus .mul, valus .mulh, valus .mulhu, valus .min,
      valus .max, valus .minu, valus .maxu]
  · fin_cases hi
    exacts [valus .and, valus .or, valus .xor, valus .andn]
  · fin_cases hi
    exacts [unary (fun v => { val := absF32 v, flags := 0 }), unary (fun v => { val := negF32 v, flags := 0 }), unary sqrtF32,
      unary rcpF32, unary rsqF32, unary exp2F32, unary log2F32]
  · have hws : ∀ i ∈ [Instr.fma hd a b c, .fms hd a b c, .fnma hd a b c],
        checksTags hd [(a, 0, .float), (b, 1, .float), (c, 2, .float)] i := by
      intro i hi
      fin_cases hi
      exacts [fma false false, fma false true, fma true false]
    refine ⟨fun ha => wrongTag_of_first h hws (refuses_float ha),
      fun ha hb => wrongTag_of_second h hws (accepts_float ha) (refuses_float hb), fun ha hb hc i hi => hws i hi s _ h ?_⟩
    rw [checkTags_accepted (accepts_float ha), checkTags_accepted (accepts_float hb), checkTags_wrong (refuses_float hc)]; rfl

/-! ### Reductions, conversions and permutations -/

theorem vredWord_wrong {cls : TagClass} {s : State} {b : Reg5} (ho : s.seq.group.isOpen = true)
    (hb : cls.accepts (readV s b).tag = false) (id : W32) (op : W32 → W32 → Res W32) (signed : Bool) (hd : Hdr) (a : Reg5) :
    vredWord cls id op signed hd a b s = wrongTag s (readV s b).tag b 1 := by
  rw [vredWord, issue_open ho, checkTags_wrong hb]
  rfl

section
variable (hd : Hdr) (a b : Reg5) (s : State) (t : TrapInfo) (h : vacts hd s)
include h

theorem widenWord_traps (cls : TagClass) (src : State → BitVec 4) (dst : BitVec 4) (rz : Bool) (j : Nat)
    (ht : checkTags [(b, 1, cls)] s = some t) : widenWord cls src dst rz j hd a b s = .next (raise t s) :=
  laneWord_traps (u := useV2 hd a b) h.1 h.2 ht

theorem narrowWord_traps (cls : TagClass) (src dst : BitVec 4) (rz : Bool) (j : Nat) (ht : checkTags [(b, 1, cls)] s = some t) :
    narrowWord cls src dst rz j hd a b s = .next (raise t s) := laneWord_traps (u := useV2 hd a b) h.1 h.2 ht

theorem narrowPair_traps (rz : Bool) (part : Nat) (ht : checkTags [(b, 1, .float)] s = some t) :
    narrowPair rz part hd a b s = .next (raise t s) :=
  laneWord_traps (u := useV hd [.v b, .v (b + 1)] [.v a]) h.1 h.2 ht

theorem widenPair_traps (part : Nat) (ht : checkTags [(b, 1, .only 8)] s = some t) :
    widenPair part hd a b s = .next (raise t s) :=
  laneWord_traps (u := useV hd [.v b] [.v a, .v (a + 1)]) h.1 h.2 ht

end

/-- A pair whose odd register is no f32 is reported by the number in field B. -/
theorem narrowPair_odd {hd : Hdr} {s : State} (h : vacts hd s) {b : Reg5} (hb : floatReg s b) (hodd : ¬ floatReg s (b + 1))
    (rz : Bool) (part : Nat) (a : Reg5) : narrowPair rz part hd a b s = wrongTag s (readV s (b + 1)).tag b 1 := by
  refine (laneWord_acts (u := useV hd [.v b, .v (b + 1)] [.v a]) h.1 h.2 (checkTags_one (accepts_float hb))).trans (congrArg _ ?_)
  exact if_pos (by rw [refuses_float hodd]; rfl)

section
variable {u : Use} {s : State} (h : vacts u.hd s) {b : Reg5} (extra : List (Reg5 × Nat × TagClass)) (f : State → Nat → W32)
  (a : Reg5)
include h

theorem permWord_wrong (hb : ¬ anyReg s b) : permWord u extra f a b s = wrongTag s (readV s b).tag b 1 :=
  laneWord_traps h.1 h.2 (checkTags_wrong (refuses_any hb))

theorem permWord_wrong_second (hb : anyReg s b) {c : Reg5} (hc : ¬ intReg s c) :
    permWord u ((c, 2, .integer) :: extra) f a b s = wrongTag s (readV s c).tag c 2 :=
  laneWord_traps h.1 h.2 ((checkTags_accepted (accepts_any hb)).trans (checkTags_wrong (refuses_integer hc)))

end

theorem exec_vins_traps {hd : Hdr} {s : State} {t : TrapInfo} (h : vacts hd s) {a : Reg5} (b c : Reg5)
    (ht : checkTags [(a, 0, .any)] s = some t) : exec (.vins hd a b c) s = .next (raise t s) := by
  show execVins hd a b c s = _
  exact laneWord_traps (u := useV hd (.v a :: sName b ++ sName c) [.v a]) h.1 h.2 ht

theorem permutationsCheckTags {hd : Hdr} {s : State} (h : vacts hd s) (a b c : Reg5) (p : Reg4) :
    tagTraps s [.vperm hd a b c, .vrot hd a b c, .vbcast hd a b c, .vext hd a b c, .vcompress hd a b p, .vexpand hd a b p] b 1
      (anyReg s b) ∧ (anyReg s b → tagTraps s [.vperm hd a b c] c 2 (intReg s c)) := by
  refine ⟨fun hb i hi => ?_, fun hb hc => List.forall_mem_singleton.mpr ?_⟩
  · fin_cases hi
    · show execVperm hd a b c s = _
      exact permWord_wrong (u := useV3 hd a b c) h _ _ a hb
    · show execVrot hd a b c s = _
      exact permWord_wrong (u := useVS hd a b c) h _ _ a hb
    · show execVbcast hd a b c s = _
      exact permWord_wrong (u := useVS hd a b c) h _ _ a hb
    · show execVext hd a b c s = _
      exact laneWord_traps (u := useV hd (.v b :: sName c) (sName a)) h.1 h.2 (checkTags_wrong (refuses_any hb))
    · show execVcompress hd a b p s = _
      exact permWord_wrong (u := useVP hd a b p) h _ _ a hb
    · show execVexpand hd a b p s = _
      exact permWord_wrong (u := useVP hd a b p) h _ _ a hb
  · show execVperm hd a b c s = _
    exact permWord_wrong_second (u := useV3 hd a b c) h _ _ a hb hc

theorem reductionsCheckTags {hd : Hdr} {s : State} (ho : s.seq.group.isOpen = true) (a b : Reg5) :
    tagTraps s [.vredSumI32 hd a b, .vredMin hd a b, .vredMax hd a b] b 1 (intReg s b) ∧
    tagTraps s [.vredSumF32 hd a b, .vredFmin hd a b, .vredFmax hd a b] b 1 (floatReg s b) ∧
    tagTraps s [.vredAnd hd a b, .vredOr hd a b] b 1 (anyReg s b) := by
  refine ⟨fun hb i hi => ?_, fun hb i hi => ?_, fun hb i hi => ?_⟩
  · have wrong := fun id op => vredWord_wrong ho (refuses_integer hb) id op true hd a
    fin_cases hi
    exacts [wrong 0 (quietOp (· + ·)), wrong 0x7FFFFFFF (quietOp (LaneOp.apply .min)),
      wrong 0x80000000 (quietOp (LaneOp.apply .max))]
  · have wrong := fun id op => vredWord_wrong ho (refuses_float hb) id op false hd a
    fin_cases hi
    exacts [wrong 0x80000000 addF32, wrong 0x7F800000 (quietOp minF32), wrong 0xFF800000 (quietOp maxF32)]
  · have wrong := fun id op => vredWord_wrong ho (refuses_any hb) id op false hd a
    fin_cases hi
    exacts [wrong 0xFFFFFFFF (quietOp (· &&& ·)), wrong 0 (quietOp (· ||| ·))]

theorem otherVectorWordsCheckTags : OtherVectorWordsCheckTags := by
  intro hd a b c p t u z s f
  refine ⟨fun ho => reductionsCheckTags ho a b, fun h => ?_⟩
  have narrow := fun cls src dst rz j s t hv => narrowWord_traps hd a b s t hv cls src dst rz j
  have widen := fun cls src dst rz j s t hv => widenWord_traps hd a b s t hv cls src dst rz j
  have only := fun fmt => widen (.only fmt) (fun _ => fmt) 1 false t.toNat
  have one := fun {i : Instr} {r : Reg5} {cls : TagClass} {field : Nat} {p : Prop}
    (hr : ¬ p → cls.accepts (readV s r).tag = false) (hi : checksTags hd [(r, field, cls)] i) =>
      tagTraps_first h hr (List.forall_mem_singleton.mpr hi)
  refine ⟨tagTraps_first (ops := []) h refuses_integer (fun i hi => ?_),
    tagTraps_first (ops := []) h refuses_float (fun i hi => ?_),
    one refuses_only (only 2), one refuses_only (only 6), one refuses_only (only 7),
    one refuses_only (fun s v hv => widenPair_traps hd a b s v hv t.toNat), one refuses_only (only 9), one refuses_only (only 10),
    one refuses_bytes (widen .bytes (fun s => tagFmt (readV s b).tag) 3 false t.toNat),
    fun hb hodd => narrowPair_odd h hb hodd (z == 1) t.toNat a,
    (permutationsCheckTags h a b c p).1, (permutationsCheckTags h a b c p).2,
    one refuses_any (fun s v hv => exec_vins_traps hv b c)⟩
  · fin_cases hi
    exacts [widen .integer (fun _ => 3) 1 (z == 1) 0, narrow .integer 3 (if u == 1 then 5 else 4) false t.toNat]
  · fin_cases hi
    exacts [widen .float (fun _ => 1) 3 (z == 1) 0, narrow .float 1 2 (z == 1) t.toNat, narrow .float 1 6 (z == 1) t.toNat,
      narrow .float 1 7 (z == 1) t.toNat, narrow .float 1 9 false t.toNat, narrow .float 1 10 false t.toNat,
      fun s v hv => narrowPair_traps hd a b s v hv (z == 1) t.toNat]

end Sys2Proof.Machine

namespace Sys2Proof.Proofs
open Sys2Proof.Machine

/-- Settles O23: each word checks a list of operands in its order, and traps on the first whose class refuses its tag. -/
theorem wrongTagsTrapBeforeAnyEffect : Obligations.WrongTagsTrapBeforeAnyEffect :=
  ⟨laneWordsCheckTags, otherVectorWordsCheckTags⟩

end Sys2Proof.Proofs
end

section
/-! PROOFS. The address map, and the descriptor that covers an address (R203, R205, R335). -/

open Sys2Proof.Claims

namespace Sys2Proof.Machine

/-! ### The rows -/

theorem rowOf_extent {a : Nat} (h : 0x100000000 ≤ a) (h' : a < 0x10000000000) : rowOf a = some (.extent, 0x10000000000) := by
  simp only [rowOf, Bool.and_eq_true, decide_eq_true_eq]
  rw [if_neg (by omega), if_pos ⟨h, h'⟩]

theorem rowOf_window {a : Nat} (h : 0x10000000000 ≤ a) (h' : a < 0x20000000000) : rowOf a = some (.window, 0x20000000000) := by
  simp only [rowOf, Bool.and_eq_true, decide_eq_true_eq]
  rw [if_neg (by omega), if_neg (by omega), if_pos ⟨h, h'⟩]

theorem rowOf_control {a : Nat} (h : 0x20000000000 ≤ a) (h' : a < 0x20100000000) : rowOf a = some (.control, 0x20100000000) := by
  simp only [rowOf, Bool.and_eq_true, decide_eq_true_eq]
  rw [if_neg (by omega), if_neg (by omega), if_neg (by omega), if_pos ⟨h, h'⟩]

theorem rowOf_host {a : Nat} (h : 0x8000000000000000 ≤ a) (h' : a < 0x8200000000000000) :
    rowOf a = some (.host, 0x8200000000000000) := by
  simp only [rowOf, Bool.and_eq_true, decide_eq_true_eq]
  rw [if_neg (by omega), if_neg (by omega), if_neg (by omega), if_neg (by omega), if_pos ⟨h, h'⟩]

theorem rowOf_unmapped {a : Nat} (h : ¬ a < 0x14000000) (h1 : ¬ (0x100000000 ≤ a ∧ a < 0x20100000000))
    (h2 : ¬ (0x8000000000000000 ≤ a ∧ a < 0x8200000000000000)) : rowOf a = none := by
  simp only [rowOf, Bool.and_eq_true, decide_eq_true_eq]
  rw [if_neg h, if_neg (by omega), if_neg (by omega), if_neg (by omega), if_neg h2]

/-- An address lies in one row of the map, or in none. -/
theorem rowOf_cases (a : Nat) :
    (a < 0x14000000 ∧ rowOf a = some (.scratchpad, 0x14000000)) ∨
    ((0x100000000 ≤ a ∧ a < 0x10000000000) ∧ rowOf a = some (.extent, 0x10000000000)) ∨
    ((0x10000000000 ≤ a ∧ a < 0x20000000000) ∧ rowOf a = some (.window, 0x20000000000)) ∨
    ((0x20000000000 ≤ a ∧ a < 0x20100000000) ∧ rowOf a = some (.control, 0x20100000000)) ∨
    ((0x8000000000000000 ≤ a ∧ a < 0x8200000000000000) ∧ rowOf a = some (.host, 0x8200000000000000)) ∨
    ((¬ a < 0x14000000 ∧ ¬ (0x100000000 ≤ a ∧ a < 0x20100000000) ∧ ¬ (0x8000000000000000 ≤ a ∧ a < 0x8200000000000000)) ∧
      rowOf a = none) := by
  by_cases h0 : a < 0x14000000
  · exact .inl ⟨h0, rowOf_spad h0⟩
  by_cases h1 : 0x100000000 ≤ a ∧ a < 0x10000000000
  · exact .inr (.inl ⟨h1, rowOf_extent h1.1 h1.2⟩)
  by_cases h2 : 0x10000000000 ≤ a ∧ a < 0x20000000000
  · exact .inr (.inr (.inl ⟨h2, rowOf_window h2.1 h2.2⟩))
  by_cases h3 : 0x20000000000 ≤ a ∧ a < 0x20100000000
  · exact .inr (.inr (.inr (.inl ⟨h3, rowOf_control h3.1 h3.2⟩)))
  by_cases h4 : 0x8000000000000000 ≤ a ∧ a < 0x8200000000000000
  · exact .inr (.inr (.inr (.inr (.inl ⟨h4, rowOf_host h4.1 h4.2⟩))))
  · have hgap : ¬ (0x100000000 ≤ a ∧ a < 0x20100000000) := by omega
    exact .inr (.inr (.inr (.inr (.inr ⟨⟨h0, hgap, h4⟩, rowOf_unmapped h0 hgap h4⟩))))

theorem spaceOf_of_row {a : Nat} {r : Option (Space × Nat)} (h : rowOf a = r) : spaceOf a = r.map (·.1) := congrArg _ h

/-- The end of a row is past the address, and the addresses up to it are of the row. -/
theorem rowOf_row {x stop : Nat} {k : Space} (h : rowOf x = some (k, stop)) :
    x < stop ∧ rowLow x ≤ x ∧ (∀ y, x ≤ y → y < stop → rowOf y = some (k, stop)) ∧ spaceOf stop ≠ some k := by
  rcases rowOf_cases x with ⟨hx, hr⟩ | ⟨⟨hlo, hx⟩, hr⟩ | ⟨⟨hlo, hx⟩, hr⟩ | ⟨⟨hlo, hx⟩, hr⟩ | ⟨⟨hlo, hx⟩, hr⟩ | ⟨-, hr⟩ <;>
    rw [hr] at h
  · obtain ⟨rfl, rfl⟩ := Prod.mk.inj (Option.some.inj h)
    exact ⟨hx, by simp [rowLow, hr], fun y _ hy => rowOf_spad hy, by decide⟩
  · obtain ⟨rfl, rfl⟩ := Prod.mk.inj (Option.some.inj h)
    exact ⟨hx, by simpa [rowLow, hr] using hlo, fun y hy => rowOf_extent (hlo.trans hy), by decide⟩
  · obtain ⟨rfl, rfl⟩ := Prod.mk.inj (Option.some.inj h)
    exact ⟨hx, by simpa [rowLow, hr] using hlo, fun y hy => rowOf_window (hlo.trans hy), by decide⟩
  · obtain ⟨rfl, rfl⟩ := Prod.mk.inj (Option.some.inj h)
    exact ⟨hx, by simpa [rowLow, hr] using hlo, fun y hy => rowOf_control (hlo.trans hy), by decide⟩
  · obtain ⟨rfl, rfl⟩ := Prod.mk.inj (Option.some.inj h)
    exact ⟨hx, by simpa [rowLow, hr] using hlo, fun y hy => rowOf_host (hlo.trans hy), by decide⟩
  · exact absurd h nofun

theorem addressMapRows : AddressMapRows := by
  intro x
  refine and_assoc.mp (and_assoc.mp (and_assoc.mp (and_assoc.mp ⟨?_, fun k stop h => ?_⟩)))
  · rcases rowOf_cases x with ⟨hx, hr⟩ | ⟨hx, hr⟩ | ⟨hx, hr⟩ | ⟨hx, hr⟩ | ⟨hx, hr⟩ | ⟨hx, hr⟩ <;>
      simp [spaceOf, hr] <;> omega
  · obtain ⟨hx, -, hrow, hstop⟩ := rowOf_row h
    exact ⟨hx, fun y hy hy' => spaceOf_of_row (hrow y hy hy'), hstop⟩

/-! ### Descriptors -/

/-- A read within the cells that a filter keeps. -/
theorem memRead_filter (m : Memory) (lo n a k : Nat) (h : lo ≤ a) (h' : a + k ≤ lo + n) :
    memRead (m.filter (fun c => lo ≤ c.1 && c.1 < lo + n)) a k = memRead m a k := by
  rw [memRead_eq, memRead_eq]
  refine List.map_congr_left (fun i hi => memByte_filter m _ _ (fun c _ hc => ?_))
  have := List.mem_range.1 hi
  simp only [Bool.and_eq_true, decide_eq_true_eq]
  omega

theorem descriptorAt_filter (m : Memory) (x i : Nat) (hi : i < 64) :
    descriptorAt (m.filter (fun c => x ≤ c.1 && c.1 < x + 2048)) x i = descriptorAt m x i := by
  simp only [descriptorAt, memWord]
  rw [memRead_filter m x 2048 _ 8 (by omega) (by omega), memRead_filter m x 2048 _ 8 (by omega) (by omega),
    memRead_filter m x 2048 _ 8 (by omega) (by omega), memRead_filter m x 2048 _ 8 (by omega) (by omega)]

/-- The search gives the lowest-numbered covering descriptor of n from number i on, or none covers. -/
theorem coverFrom_spec (cells : Memory) (x : Nat) (sup : Bool) (a n i : Nat) :
    (coverFrom cells x sup a n i = none ∧ ∀ j, i ≤ j → j < i + n → (descriptorAt cells x j).covers sup a = false) ∨
    ∃ j, i ≤ j ∧ j < i + n ∧ coverFrom cells x sup a n i = some (descriptorAt cells x j) ∧
      (descriptorAt cells x j).covers sup a = true ∧ ∀ l, i ≤ l → l < j → (descriptorAt cells x l).covers sup a = false := by
  induction n generalizing i with
  | zero => exact .inl ⟨rfl, fun j _ _ => by omega⟩
  | succ n ih =>
    by_cases hc : (descriptorAt cells x i).covers sup a = true
    · exact .inr ⟨i, le_rfl, by omega, if_pos hc, hc, fun l _ _ => by omega⟩
    · have hstep : coverFrom cells x sup a (n + 1) i = coverFrom cells x sup a n (i + 1) := if_neg hc
      have hbelow : ∀ l, i ≤ l → ¬ i + 1 ≤ l → (descriptorAt cells x l).covers sup a = false := fun l _ _ => by
        rwa [show l = i by omega, ← Bool.not_eq_true]
      rcases ih (i + 1) with ⟨hnone, hall⟩ | ⟨j, hij, hjn, hsome, hcov, hmin⟩
      · exact .inl ⟨hstep.trans hnone, fun j hj _ => if h : i + 1 ≤ j then hall j h (by omega) else hbelow j hj h⟩
      · exact .inr ⟨j, by omega, by omega, hstep.trans hsome, hcov,
          fun l hl _ => if h : i + 1 ≤ l then hmin l h ‹_› else hbelow l hl h⟩

/-- The lowest-numbered covering descriptor of the table, or none covers. -/
theorem coverOf_spec (m : Mem) (w : Who) (a : Nat) :
    (coverOf m w a = none ∧ ∀ j, j < 64 → (descriptorAt m.hbm w.xtbl.toNat j).covers w.sup a = false) ∨
    ∃ j, j < 64 ∧ coverOf m w a = some (descriptorAt m.hbm w.xtbl.toNat j) ∧
      (descriptorAt m.hbm w.xtbl.toNat j).covers w.sup a = true ∧
      ∀ l, l < j → (descriptorAt m.hbm w.xtbl.toNat l).covers w.sup a = false := by
  have hf := fun j hj => descriptorAt_filter m.hbm w.xtbl.toNat j hj
  rcases coverFrom_spec (m.hbm.filter (fun c => w.xtbl.toNat ≤ c.1 && c.1 < w.xtbl.toNat + 2048)) w.xtbl.toNat w.sup a 64 0 with
    ⟨hnone, hall⟩ | ⟨j, -, hj, hsome, hcov, hmin⟩
  · exact .inl ⟨hnone, fun j hj => hf j hj ▸ hall j (Nat.zero_le j) (by omega)⟩
  · rw [Nat.zero_add] at hj
    exact .inr ⟨j, hj, hsome.trans (by rw [hf j hj]), hf j hj ▸ hcov,
      fun l hl => hf l (hl.trans hj) ▸ hmin l (Nat.zero_le l) hl⟩

theorem covers_iff (m : Memory) (x i : Nat) (sup : Bool) (a : Nat) :
    let word := fun o => natOfBytes (memRead m (x + 32 * i + o) 8)
    (descriptorAt m x i).covers sup a = true ↔
      (word 24).testBit 0 = true ∧ (sup = true ∨ (word 24).testBit 4 = false) ∧ word 0 ≤ a ∧ a < word 0 + word 8 := by
  intro word
  show ((BitVec.ofNat 64 (word 24)).getLsbD 0 && (sup || !(BitVec.ofNat 64 (word 24)).getLsbD 4) && decide (word 0 ≤ a) &&
    decide (a < word 0 + word 8)) = true ↔ _
  simp only [BitVec.getLsbD_ofNat, Bool.and_eq_true, Bool.or_eq_true, Bool.not_eq_true', decide_eq_true_eq, and_assoc]
  simp

theorem descriptorsCover : DescriptorsCover := by
  intro s w x word holds
  have hcov : ∀ i, (descriptorAt s.mem.hbm w.xtbl.toNat i).covers w.sup x = true ↔ holds i := fun i => covers_iff _ _ i _ x
  have hfail : ∀ i, (descriptorAt s.mem.hbm w.xtbl.toNat i).covers w.sup x = false ↔ ¬ holds i := fun i => by
    rw [← hcov i, Bool.not_eq_true]
  refine ⟨?_, fun e he => ?_, fun e => Bool.or_eq_true_iff⟩
  · rcases coverOf_spec s.mem w x with ⟨hnone, hall⟩ | ⟨j, hj, hsome, hc, -⟩
    · exact ⟨fun _ i hi => (hfail i).mp (hall i hi), fun _ => hnone⟩
    · exact ⟨fun h => by simp [h] at hsome, fun h => absurd ((hcov j).mp hc) (h j hj)⟩
  · rcases coverOf_spec s.mem w x with ⟨hnone, -⟩ | ⟨j, hj, hsome, hc, hmin⟩
    · simp [he] at hnone
    · obtain rfl := Option.some.inj (he.symm.trans hsome)
      exact ⟨j, hj, (hcov j).mp hc, fun l hl => (hfail l).mp (hmin l hl), rfl, rfl, rfl, rfl⟩

end Sys2Proof.Machine
end

section
/-! PROOFS. The checks of a core access, lane by lane (R135, R136, R139, R203, R239). -/

open Sys2Proof.Claims

namespace Sys2Proof.Machine

/-! ### The first of several -/

theorem findSome?_of_first {α β : Type} {l : List α} {g : α → Option β} {i : Nat} {a : α} {b : β} (hi : l[i]? = some a)
    (ha : g a = some b) (hlt : ∀ j x, j < i → l[j]? = some x → g x = none) : l.findSome? g = some b := by
  obtain ⟨hlen, rfl⟩ := List.getElem?_eq_some_iff.mp hi
  refine List.findSome?_eq_some_iff.mpr ⟨l.take i, l[i], l.drop (i + 1), by simp, ha, fun x hx => ?_⟩
  obtain ⟨j, hj, rfl⟩ := List.mem_take_iff_getElem.mp hx
  exact hlt j _ (by omega) (List.getElem?_eq_getElem _)

theorem findSome?_cons_or {α β : Type} (g : α → Option β) (a : α) (l : List α) :
    (a :: l).findSome? g = (g a).or (l.findSome? g) := by
  rw [List.findSome?_cons]
  cases g a <;> rfl

theorem findSome?_congr_mem {α β : Type} {l : List α} {g h : α → Option β} (heq : ∀ a ∈ l, g a = h a) :
    l.findSome? g = l.findSome? h := by
  induction l with
  | nil => rfl
  | cons a l ih =>
    rw [findSome?_cons_or, findSome?_cons_or, heq a List.mem_cons_self, ih (fun x hx => heq x (List.mem_cons_of_mem _ hx))]

/-! ### Blocks -/

/-- The parts of a short range within blocks begin at its first byte, and at a boundary it crosses. -/
theorem cutsFrom_firstBytes {b x n : Nat} (h0 : 0 < n) (hn : n ≤ b) :
    (cutsFrom b (n / b + 2) x n).map Prod.fst = firstBytes b x n := by
  have hdm : x / b * b + x % b = x := Nat.div_add_mod' x b
  have hmod : x % b < b := Nat.mod_lt _ (by omega)
  have hsucc : (x / b + 1) * b = x / b * b + b := Nat.succ_mul _ _
  have hne : (n == 0) = false := beq_false_of_ne (by omega)
  by_cases hfit : n ≤ b - x % b
  · have hsame : x / b = (x + n - 1) / b := (Nat.div_eq_of_lt_le (by omega) (by omega)).symm
    simp only [cutsFrom, hne, hfit, firstBytes, if_pos hsame, if_true, Bool.false_eq_true, if_false, List.map_cons, List.map_nil]
  · have hcross : ¬ x / b = (x + n - 1) / b := fun he => by
      have := Nat.lt_div_mul_add (a := x + n - 1) (b := b) (by omega)
      rw [← he] at this
      omega
    have hnext : x + (b - x % b) = (x / b + 1) * b := by omega
    have hrest : (n - (b - x % b) == 0) = false := beq_false_of_ne (by omega)
    have hlast : n - (b - x % b) ≤ b := by omega
    simp only [cutsFrom, hne, hfit, firstBytes, if_neg hcross, hnext, hrest, Nat.mul_mod_left, Nat.sub_zero, hlast, if_true,
      Bool.false_eq_true, if_false, List.map_cons, List.map_nil]

theorem findSome?_cuts {β : Type} {b x n : Nat} (h0 : 0 < n) (hn : n ≤ b) {g : Nat × Nat → Option β} {f : Nat → Option β}
    (hg : ∀ c, g c = f c.1) : (cutsFrom b (n / b + 2) x n).findSome? g = (firstBytes b x n).findSome? f := by
  rw [← cutsFrom_firstBytes h0 hn, List.findSome?_map]
  exact findSome?_congr_mem (fun c _ => hg c)

/-! ### What a failed check reports -/

/-- The failure that a check reports for a lane: its cause, and RACEINFO for a race alone (R136, R139). -/
def reported (s : State) (write : Bool) (i : Nat) (f : BitVec 4 × BitVec 6 × Nat) : Failure :=
  { trap := cause f.1 f.2.1 (BitVec.ofNat 64 f.2.2) (BitVec.ofNat 64 i)
    race := if f.1 = 7 then some (raceWord s write f.2.2) else none }

theorem failAt_eq_reported (s : State) (write : Bool) {i : Nat} (hi : i < 256) {cls : BitVec 4} (hc : cls ≠ 7) (detail : BitVec 6)
    (y : Nat) : failAt cls detail y i = reported s write i (cls, detail, y) := by
  rw [failAt, reported, Nat.mod_eq_of_lt hi, if_neg hc]

/-! ### Races -/

theorem raceInfo_eq_raceWord {s : State} (write : Bool) {y : Nat} {o : Owner} (ho : ownerOf s.mem (y / 64) = some o) :
    raceInfo write o y = raceWord s write y := by
  cases o <;> simp only [raceInfo, raceWord, ho] <;> exact congrArg (BitVec.ofNat 64) (by ring)

/-- A race as a check reports it. -/
def raceFailure (i : Nat) (r : Race) : Failure := { failAt 7 r.detail r.addr i with race := some r.info }

theorem raceFailure_reported {s : State} (write : Bool) {i : Nat} (hi : i < 256) {y : Nat} {o : Owner}
    (ho : ownerOf s.mem (y / 64) = some o) (detail : BitVec 6) :
    raceFailure i { detail := detail, addr := y, info := raceInfo write o y } = reported s write i (7, detail, y) := by
  rw [raceInfo_eq_raceWord write ho, raceFailure, failAt, Nat.mod_eq_of_lt hi]
  rfl

theorem checkOwner_eq {m : Mem} {agent : BitVec 9} {kind : AccessKind} {p : Part} (hk : kind = .load ∨ kind = .store) :
    checkOwner m agent kind p = (raceOf m agent (kind == .store) p.addr p.len).map (raceFailure p.lane) := by
  rw [checkOwner, if_pos (by rcases hk with rfl | rfl <;> rfl)]
  cases raceOf m agent (kind == .store) p.addr p.len <;> rfl

/-! ### The checks of one lane -/

section
variable {s : State} {q : MemAccess} (write : Bool) {p : Part} (hp : p.lane < 256)
include hp

theorem checkSpace_lane (hk : q.kind ≠ .side) (hrow : rowOf p.addr ≠ none) :
    checkSpace s q.kind q.narrow q.fn p = (q.failure s p.lane p.addr 2).map (reported s write p.lane) := by
  have h5 := fun d => failAt_eq_reported s write hp (cls := 5) (by decide) d p.addr
  rcases rowOf_cases p.addr with ⟨-, hr⟩ | ⟨-, hr⟩ | ⟨-, hr⟩ | ⟨-, hr⟩ | ⟨-, hr⟩ | ⟨-, hr⟩
  · simp only [checkSpace, MemAccess.failure, spaceOf, hr]; rfl
  · cases hkind : q.kind <;> simp only [checkSpace, MemAccess.failure, spaceOf, hr, hkind, h5] <;> rfl
  · cases hkind : q.kind
    case atomicNon =>
      simp only [checkSpace, MemAccess.failure, spaceOf, hr, hkind, h5, State.regionHandle, Option.map_some]
      cases txWindowAt s.refl (s.seq.region.setWidth 32) p.addr with
      | none => rfl
      | some w => dsimp only; split <;> rfl
    case side => exact absurd hkind hk
    all_goals simp only [checkSpace, MemAccess.failure, spaceOf, hr, hkind, h5]; rfl
  · cases hkind : q.kind
    case load | store =>
      simp only [checkSpace, MemAccess.failure, spaceOf, hr, hkind, h5, Option.map_some]
      split <;> rfl
    all_goals simp only [checkSpace, MemAccess.failure, spaceOf, hr, hkind, h5]; rfl
  · cases hkind : q.kind
    case side => exact absurd hkind hk
    all_goals simp only [checkSpace, MemAccess.failure, spaceOf, hr, hkind, h5]; rfl
  · exact absurd hr hrow

variable (hlen : p.len = q.n)
include hlen

theorem checkWindow_lane : checkWindow s p = (q.failure s p.lane p.addr 5).map (reported s write p.lane) := by
  have h9 := fun y => failAt_eq_reported s write hp (cls := 9) (by decide) 0x01 y
  rcases rowOf_cases p.addr with ⟨-, hr⟩ | ⟨-, hr⟩ | ⟨-, hr⟩ | ⟨-, hr⟩ | ⟨-, hr⟩ | ⟨-, hr⟩
  case inr.inr.inl =>
    simp only [checkWindow, MemAccess.failure, spaceOf, hr, h9, Option.map_some, if_true, State.regionHandle, hlen]
    cases txWindowAt s.refl (s.seq.region.setWidth 32) p.addr with
    | none => rfl
    | some w => dsimp only; split <;> rfl
  all_goals simp only [checkWindow, MemAccess.failure, spaceOf, hr]; rfl

theorem checkDamage_lane :
    checkDamage s.mem q.kind p = (q.failure s p.lane p.addr 8).map (reported s write p.lane) := by
  have h5 : (fun y => failAt 5 0x09 y p.lane) = reported s write p.lane ∘ (fun y => (5, 0x09, y)) :=
    funext (failAt_eq_reported s write hp (by decide) 0x09)
  rcases rowOf_cases p.addr with ⟨-, hr⟩ | ⟨-, hr⟩ | ⟨-, hr⟩ | ⟨-, hr⟩ | ⟨-, hr⟩ | ⟨-, hr⟩
  case inl =>
    cases hkind : q.kind
    case load | atomicRet | atomicNon =>
      simp only [checkDamage, AccessKind.reads, MemAccess.failure, spaceOf, hr, hkind, h5, hlen, ← Option.map_map]
      rfl
    all_goals simp only [checkDamage, AccessKind.reads, MemAccess.failure, spaceOf, hr, hkind]; rfl
  all_goals cases hkind : q.kind <;> simp only [checkDamage, AccessKind.reads, MemAccess.failure, spaceOf, hr, hkind] <;> rfl

variable (hn : 0 < q.n ∧ q.n ≤ 64)
include hn

theorem checkRights_lane (hk : q.kind ≠ .side) (hfe : q.kind = .fullEmpty → spaceOf p.addr ≠ some .extent) :
    checkRights s.mem (coreWho s) q.kind p = (q.failure s p.lane p.addr 3).map (reported s write p.lane) := by
  have h5 := fun y => failAt_eq_reported s write hp (cls := 5) (by decide) 0x0A y
  rcases rowOf_cases p.addr with ⟨-, hr⟩ | ⟨-, hr⟩ | ⟨-, hr⟩ | ⟨-, hr⟩ | ⟨-, hr⟩ | ⟨-, hr⟩
  case inr.inl =>
    simp only [checkRights, MemAccess.failure, spaceOf, hr, h5, Option.map_some, if_true, pageParts, List.map_findSome?]
    rw [hlen]
    refine findSome?_cuts (by omega) (by omega) (fun c => ?_)
    simp only [Function.comp_apply]
    cases coverOf s.mem (coreWho s) c.1 with
    | none => rfl
    | some e =>
      cases hkind : q.kind
      case side => exact absurd hkind hk
      case fullEmpty => exact absurd (spaceOf_of_row hr) (hfe hkind)
      all_goals exact (apply_ite (Option.map (reported s write p.lane)) (rightsOk _ e = true) none (some _)).symm
  all_goals simp only [checkRights, MemAccess.failure, spaceOf, hr]; rfl

theorem checkExtent_lane :
    checkExtent s.mem (coreWho s) q.kind p = (q.failure s p.lane p.addr 4).map (reported s write p.lane) := by
  have h6 := fun d y => failAt_eq_reported s write hp (cls := 6) (by decide) d y
  rcases rowOf_cases p.addr with ⟨-, hr⟩ | ⟨-, hr⟩ | ⟨-, hr⟩ | ⟨-, hr⟩ | ⟨-, hr⟩ | ⟨-, hr⟩
  case inr.inl =>
    simp only [checkExtent, MemAccess.failure, spaceOf, hr, h6, Option.map_some, if_true, pageParts, List.map_findSome?]
    rw [hlen]
    refine findSome?_cuts (by omega) (by omega) (fun c => ?_)
    simp only [Function.comp_apply]
    cases coverOf s.mem (coreWho s) c.1 with
    | none => rfl
    | some e =>
      simp only [Bool.or_eq_true, beq_iff_eq]
      split <;> rfl
  all_goals simp only [checkExtent, MemAccess.failure, spaceOf, hr]; rfl

theorem checkHost_lane : checkHost s p = (q.failure s p.lane p.addr 6).map (reported s write p.lane) := by
  have h6 := fun y => failAt_eq_reported s write hp (cls := 6) (by decide) 0x03 y
  rcases rowOf_cases p.addr with ⟨-, hr⟩ | ⟨-, hr⟩ | ⟨-, hr⟩ | ⟨-, hr⟩ | ⟨-, hr⟩ | ⟨-, hr⟩
  case inr.inr.inr.inr.inl =>
    simp only [checkHost, MemAccess.failure, spaceOf, hr, h6, Option.map_some, if_true, hostParts, List.map_findSome?]
    rw [hlen]
    refine findSome?_cuts (by omega) (by omega) (fun c => ?_)
    simp only [Function.comp_apply, beq_iff_eq]
    split <;> rfl
  all_goals simp only [checkHost, MemAccess.failure, spaceOf, hr]; rfl

theorem checkOwner_lane :
    checkOwner s.mem s.agent q.kind p = (q.failure s p.lane p.addr 7).map (reported s (q.kind == .store) p.lane) := by
  by_cases hkind : q.kind = .load ∨ q.kind = .store
  · rw [checkOwner_eq hkind]
    rcases rowOf_cases p.addr with ⟨-, hr⟩ | ⟨-, hr⟩ | ⟨-, hr⟩ | ⟨-, hr⟩ | ⟨-, hr⟩ | ⟨-, hr⟩
    case inl =>
      simp only [raceOf, MemAccess.failure, spaceOf, hr, Option.map_some, if_true, granuleParts, List.map_findSome?]
      rw [hlen]
      refine findSome?_cuts (by omega) (by omega) (fun c => ?_)
      cases ho : ownerOf s.mem (c.1 / 64) with
      | none => rcases hkind with hkind | hkind <;> simp only [hkind, Function.comp_apply, ho, readRaceAt, writeRaceAt] <;> rfl
      | some o =>
        rcases hkind with hkind | hkind <;> cases o <;>
          simp only [hkind, Function.comp_apply, ho, readRaceAt, writeRaceAt, beq_iff_eq]
        case inl.excl g =>
          show Option.map _ (if g = s.agent then none else some _) = _
          rw [apply_ite (Option.map _), apply_ite (Option.map _), Option.map_some, raceFailure_reported false hp ho]
          rfl
        case inl.pub => rfl
        case inr.excl g =>
          show Option.map _ (if g = s.agent then none else some _) = _
          rw [apply_ite (Option.map _), apply_ite (Option.map _), Option.map_some, raceFailure_reported true hp ho]
          rfl
        case inr.pub => exact congrArg some (raceFailure_reported true hp ho 3)
    all_goals simp only [raceOf, MemAccess.failure, spaceOf, hr]; rfl
  · obtain ⟨hl, hs⟩ := not_or.mp hkind
    have hnone : q.failure s p.lane p.addr 7 = none := by
      simp only [MemAccess.failure]
      split
      · refine List.findSome?_eq_none_iff.mpr (fun y _ => ?_)
        split
        · exact absurd ‹q.kind = .load› hl
        · exact absurd ‹q.kind = .store› hs
        · exact absurd ‹q.kind = .store› hs
        · rfl
      · rfl
    rw [hnone, checkOwner, if_neg (by simp [hl, hs])]
    rfl

end

end Sys2Proof.Machine
end

section
/-! PROOFS. The checks of a memory word's access, in order (R136, R339). -/

open Sys2Proof.Claims

namespace Sys2Proof.Machine

/-! ### The access of a memory word -/

/-- The access that a word makes of its lanes. -/
def coreOf (q : MemAccess) : CoreAccess :=
  let parts := q.lanes.mapIdx (fun i x => ({ lane := i, addr := x, len := q.n } : Part))
  { kind := q.kind, narrow := q.narrow, fn := q.fn, parts := parts
    align := parts.findSome? (fun p => if q.aligned p.lane then none else some (failAt 5 0x02 p.addr p.lane)) }

/-- The accesses that memory words make: up to 64 lanes of up to 64 bytes, those of one range none below its first. -/
structure formed (q : MemAccess) : Prop where
  size : 0 < q.n ∧ q.n ≤ 64
  lanes : q.lanes.length ≤ 64
  kind : q.kind ≠ .side
  rising : q.whole = true → ∀ x ∈ q.lanes, q.lanes.headD 0 ≤ x

theorem getElem?_parts (q : MemAccess) (i : Nat) :
    (coreOf q).parts[i]? = (q.lanes[i]?).map (fun x => { lane := i, addr := x, len := q.n }) := List.getElem?_mapIdx

theorem mem_parts {q : MemAccess} {p : Part} (h : p ∈ (coreOf q).parts) :
    p.len = q.n ∧ q.lanes[p.lane]? = some p.addr := by
  obtain ⟨i, hi, rfl⟩ := List.mem_mapIdx.mp h
  exact ⟨rfl, List.getElem?_eq_getElem hi⟩

theorem lane_lt_of_mem_parts {q : MemAccess} (hq : formed q) {p : Part} (h : p ∈ (coreOf q).parts) : p.lane < 256 := by
  obtain ⟨hi, -⟩ := List.getElem?_eq_some_iff.mp (mem_parts h).2
  have := hq.lanes
  omega

/-- What a check reports of one lane. -/
def laneFailure (s : State) (q : MemAccess) (k : Nat) (p : Part) : Option Failure :=
  (q.failure s p.lane p.addr k).map (reported s (q.kind == .store) p.lane)

/-! ### The map -/

/-- The byte whose row an access of lane address x must keep to: the first of one range, else x. -/
def rowByte (q : MemAccess) (x : Nat) : Nat := if q.whole then q.lanes.headD 0 else x

theorem rowByte_le {q : MemAccess} (hq : formed q) {p : Part} (hp : p ∈ (coreOf q).parts) : rowByte q p.addr ≤ p.addr := by
  unfold rowByte
  split
  · exact hq.rising ‹_› _ (List.mem_of_getElem? (mem_parts hp).2)
  · exact le_rfl

theorem laneFailure_unmapped {s : State} {q : MemAccess} {p : Part} (hp : p.lane < 256) (hr : rowOf (rowByte q p.addr) = none) :
    laneFailure s q 0 p = some (failAt 5 0x01 p.addr p.lane) := by
  have hf : q.failure s p.lane p.addr 0 = some (5, 0x01, p.addr) := by
    rw [rowByte] at hr
    simp only [MemAccess.failure, hr]
  rw [laneFailure, hf, failAt_eq_reported s (q.kind == .store) hp (by decide)]
  rfl

theorem laneFailure_mapped {s : State} {q : MemAccess} {p : Part} (hp : p.lane < 256) (hlen : p.len = q.n) {k : Space}
    {stop : Nat} (hr : rowOf (rowByte q p.addr) = some (k, stop)) :
    laneFailure s q 0 p = if stop ≤ p.addr then some (failAt 5 0x01 p.addr p.lane)
      else if stop < p.addr + p.len then some (failAt 5 0x01 stop p.lane) else none := by
  have h5 := failAt_eq_reported s (q.kind == .store) hp (cls := 5) (by decide) 0x01
  have hf : q.failure s p.lane p.addr 0 = if stop ≤ p.addr then some (5, 0x01, p.addr)
      else if stop < p.addr + q.n then some (5, 0x01, stop) else none := by
    rw [rowByte] at hr
    simp only [MemAccess.failure, hr]
  rw [laneFailure, hf, hlen, h5, h5, apply_ite (Option.map _), apply_ite (Option.map _)]
  rfl

/-- A lane that passes the first check lies in a row whole. -/
theorem row_of_passed {s : State} {q : MemAccess} (hq : formed q) {p : Part} (hp : p ∈ (coreOf q).parts)
    (h : q.failure s p.lane p.addr 0 = none) : ∃ k stop, rowOf p.addr = some (k, stop) ∧ p.addr + p.len ≤ stop := by
  have hlane := lane_lt_of_mem_parts hq hp
  have hnone : laneFailure s q 0 p = none := by rw [laneFailure, h]; rfl
  cases hr : rowOf (rowByte q p.addr) with
  | none => simp [laneFailure_unmapped hlane hr] at hnone
  | some r =>
    obtain ⟨k, stop⟩ := r
    obtain ⟨-, -, hrow, -⟩ := rowOf_row hr
    rw [laneFailure_mapped hlane (mem_parts hp).1 hr] at hnone
    split at hnone
    · cases hnone
    · split at hnone
      · cases hnone
      · exact ⟨k, stop, hrow p.addr (rowByte_le hq hp) (by omega), by omega⟩

theorem checkMap_of_passed {s : State} {q : MemAccess} (hq : formed q) {p : Part} (hp : p ∈ (coreOf q).parts)
    (h : q.failure s p.lane p.addr 0 = none) : checkMap p = none := by
  obtain ⟨k, stop, hr, hle⟩ := row_of_passed hq hp h
  simp only [checkMap, hr, if_neg (not_lt.mpr hle)]

theorem checkMap_lane {s : State} {q : MemAccess} {p : Part} (hp : p.lane < 256) (hlen : p.len = q.n) (hw : q.whole = false) :
    checkMap p = laneFailure s q 0 p := by
  have hbyte : rowByte q p.addr = p.addr := if_neg (by simp [hw])
  cases hr : rowOf p.addr with
  | none => rw [laneFailure_unmapped hp (by rw [hbyte, hr])]; simp only [checkMap, hr]
  | some r =>
    obtain ⟨hlt, -⟩ := rowOf_row hr
    rw [laneFailure_mapped hp hlen (by rw [hbyte, hr]), if_neg (not_le.mpr hlt)]
    simp only [checkMap, hr]

/-- In an access of one range the row is that of its first byte. -/
theorem checkSameRow_lanes {s : State} {q : MemAccess} (hq : formed q) (hw : q.whole = true) :
    checkSameRow (coreOf q).parts = (coreOf q).parts.findSome? (laneFailure s q 0) := by
  cases hparts : (coreOf q).parts with
  | nil => rfl
  | cons p rest =>
    have hfirst : p.lane = 0 ∧ q.lanes.headD 0 = p.addr := by
      have hget := getElem?_parts q 0
      rw [hparts, List.getElem?_cons_zero] at hget
      obtain ⟨x, hx, rfl⟩ := Option.map_eq_some_iff.mp hget.symm
      rw [List.headD_eq_head?_getD, List.head?_eq_getElem?, hx]
      exact ⟨rfl, rfl⟩
    have hbyte : ∀ x, rowByte q x = p.addr := fun x => (if_pos hw).trans hfirst.2
    cases hr : rowOf p.addr with
    | none =>
      rw [findSome?_cons_or, laneFailure_unmapped (by omega) (by rw [hbyte, hr]), Option.some_or]
      simp only [checkSameRow, hr]
    | some r =>
      obtain ⟨-, hlow, -⟩ := rowOf_row hr
      simp only [checkSameRow, hr]
      refine findSome?_congr_mem (fun x hx => ?_)
      have hmem : x ∈ (coreOf q).parts := hparts ▸ hx
      have hle := rowByte_le hq hmem
      rw [hbyte] at hle
      rw [laneFailure_mapped (lane_lt_of_mem_parts hq hmem) (mem_parts hmem).1 (by rw [hbyte, hr])]
      refine if_congr ?_ rfl rfl
      simp only [Bool.or_eq_true, decide_eq_true_eq]
      omega

/-! ### The order of the checks -/

/-- Check k of an access (R136). -/
def checkOf (s : State) (q : MemAccess) : Nat → Option Failure
  | 0 => (if q.whole then checkSameRow (coreOf q).parts else none).or ((coreOf q).parts.findSome? checkMap)
  | 1 => (coreOf q).align
  | 2 => (coreOf q).parts.findSome? (checkSpace s q.kind q.narrow q.fn)
  | 3 => (coreOf q).parts.findSome? (checkRights s.mem (coreWho s) q.kind)
  | 4 => (coreOf q).parts.findSome? (checkExtent s.mem (coreWho s) q.kind)
  | 5 => (coreOf q).parts.findSome? (checkWindow s)
  | 6 => (coreOf q).parts.findSome? (checkHost s)
  | 7 => (coreOf q).parts.findSome? (checkOwner s.mem s.agent q.kind)
  | 8 => (coreOf q).parts.findSome? (checkDamage s.mem q.kind)
  | _ => none

theorem checks_in_order (s : State) (q : MemAccess) :
    (if q.whole then checkSameRow (coreOf q).parts else none).or (checkAccess s (coreOf q)) =
      (List.range 9).findSome? (checkOf s q) := by
  have hrange : List.range 9 = [0, 1, 2, 3, 4, 5, 6, 7, 8] := rfl
  rw [hrange]
  simp only [findSome?_cons_or, List.findSome?_nil, Option.or_none]
  exact (Option.or_assoc).symm

/-- The first check, of the map, lane by lane. -/
theorem checkOf_map {s : State} {q : MemAccess} (hq : formed q) :
    checkOf s q 0 = (coreOf q).parts.findSome? (laneFailure s q 0) := by
  cases hw : q.whole with
  | false =>
    simp only [checkOf, hw, Bool.false_eq_true, if_false, Option.none_or]
    exact findSome?_congr_mem (fun p hp => checkMap_lane (lane_lt_of_mem_parts hq hp) (mem_parts hp).1 hw)
  | true =>
    simp only [checkOf, hw, if_true, checkSameRow_lanes (s := s) hq hw]
    cases hrow : (coreOf q).parts.findSome? (laneFailure s q 0) with
    | some f => rfl
    | none =>
      rw [Option.none_or, List.findSome?_eq_none_iff]
      exact fun p hp => checkMap_of_passed hq hp (Option.map_eq_none_iff.mp (List.findSome?_eq_none_iff.mp hrow p hp))

theorem align_lane {s : State} {q : MemAccess} {p : Part} (hp : p.lane < 256) :
    (if q.aligned p.lane then none else some (failAt 5 0x02 p.addr p.lane)) = laneFailure s q 1 p := by
  rw [failAt_eq_reported s (q.kind == .store) hp (by decide)]
  exact (apply_ite (Option.map (reported s (q.kind == .store) p.lane)) (q.aligned p.lane = true) none (some _)).symm

theorem checkOf_lanes {s : State} {q : MemAccess} (hq : formed q) (k : Nat)
    (passed : ∀ j, j < k → ∀ p ∈ (coreOf q).parts, q.failure s p.lane p.addr j = none) :
    checkOf s q k = (coreOf q).parts.findSome? (laneFailure s q k) := by
  have hlane := fun p hp => lane_lt_of_mem_parts hq (p := p) hp
  have hlen := fun p hp => (mem_parts (q := q) (p := p) hp).1
  match k with
  | 0 => exact checkOf_map hq
  | 1 => exact findSome?_congr_mem (fun p hp => align_lane (hlane p hp))
  | 2 =>
    refine findSome?_congr_mem (fun p hp => checkSpace_lane _ (hlane p hp) hq.kind ?_)
    obtain ⟨k, stop, hr, -⟩ := row_of_passed hq hp (passed 0 (by omega) p hp)
    simp [hr]
  | 3 =>
    refine findSome?_congr_mem (fun p hp => checkRights_lane _ (hlane p hp) (hlen p hp) hq.size hq.kind (fun hfe hext => ?_))
    have hspace := passed 2 (by omega) p hp
    simp [MemAccess.failure, hfe, hext] at hspace
  | 4 => exact findSome?_congr_mem (fun p hp => checkExtent_lane _ (hlane p hp) (hlen p hp) hq.size)
  | 5 => exact findSome?_congr_mem (fun p hp => checkWindow_lane _ (hlane p hp) (hlen p hp))
  | 6 => exact findSome?_congr_mem (fun p hp => checkHost_lane _ (hlane p hp) (hlen p hp) hq.size)
  | 7 => exact findSome?_congr_mem (fun p hp => checkOwner_lane (hlane p hp) (hlen p hp) hq.size)
  | 8 => exact findSome?_congr_mem (fun p hp => checkDamage_lane _ (hlane p hp) (hlen p hp))
  | k + 9 => exact (List.findSome?_eq_none_iff.mpr (fun p _ => rfl)).symm

/-- The first lane that fails the first check failed is reported. -/
theorem checks_report {s : State} {q : MemAccess} (hq : formed q) {i x k : Nat} {f : BitVec 4 × BitVec 6 × Nat}
    (hi : q.lanes[i]? = some x) (hf : q.failure s i x k = some f)
    (hk : ∀ j, j < k → ∀ (i' y : Nat), q.lanes[i']? = some y → q.failure s i' y j = none)
    (hlt : ∀ (i' y : Nat), i' < i → q.lanes[i']? = some y → q.failure s i' y k = none) :
    (if q.whole then checkSameRow (coreOf q).parts else none).or (checkAccess s (coreOf q)) =
      some (reported s (q.kind == .store) i f) := by
  have passed : ∀ j, j < k → ∀ p ∈ (coreOf q).parts, q.failure s p.lane p.addr j = none :=
    fun j hj p hp => hk j hj p.lane p.addr (mem_parts hp).2
  have hnine : k < 9 := by
    by_contra hge
    obtain ⟨j, rfl⟩ := Nat.exists_eq_add_of_le' (not_lt.mp hge)
    cases hf
  have hlast : checkOf s q k = some (reported s (q.kind == .store) i f) := by
    rw [checkOf_lanes hq k passed]
    refine findSome?_of_first (i := i) (a := { lane := i, addr := x, len := q.n }) (by rw [getElem?_parts, hi]; rfl)
      (by rw [laneFailure, hf]; rfl) (fun j p hj hp => ?_)
    rw [getElem?_parts] at hp
    obtain ⟨y, hy, rfl⟩ := Option.map_eq_some_iff.mp hp
    rw [laneFailure, hlt j y hj hy]
    rfl
  rw [checks_in_order]
  refine findSome?_of_first (i := k) (List.getElem?_range hnine) hlast (fun j y hj hy => ?_)
  rw [List.getElem?_range (hj.trans hnine)] at hy
  obtain rfl := Option.some.inj hy
  rw [checkOf_lanes hq j (fun l hl => passed l (hl.trans hj)), List.findSome?_eq_none_iff]
  exact fun p hp => by rw [laneFailure, passed j hj p hp]; rfl

end Sys2Proof.Machine
end

section
/-! PROOFS. Memory words by their forms: the access each makes, and what its failure leaves (R136, R139, R339). -/

open Sys2Proof.Claims

namespace Sys2Proof.Machine

/-! ### What a failed access leaves -/

/-- A state in which some translation requests have been dropped, and nothing else has changed. -/
def dropsRequests (s t : State) : Prop :=
  ∃ r : List AtsRequest, t = { s with host := { s.host with requests := r } } ∧ r.Sublist s.host.requests

theorem dropsRequests_refl (s : State) : dropsRequests s s := ⟨s.host.requests, rfl, List.Sublist.refl _⟩

theorem dropsRequests_dropRefused (a n : Nat) (s : State) : dropsRequests s (dropRefused a n s) :=
  ⟨_, rfl, List.filter_sublist⟩

theorem dropsRequests_trans {s t u : State} (h : dropsRequests s t) (h' : dropsRequests t u) : dropsRequests s u := by
  obtain ⟨r, rfl, hr⟩ := h
  obtain ⟨r', rfl, hr'⟩ := h'
  exact ⟨r', rfl, hr'.trans hr⟩

theorem dropsRequests_foldl {α : Type} {g : State → α → State} (hg : ∀ s x, dropsRequests s (g s x)) (l : List α) (s : State) :
    dropsRequests s (l.foldl g s) := by
  induction l generalizing s with
  | nil => exact dropsRequests_refl s
  | cons x l ih => exact dropsRequests_trans (hg s x) (ih _)

theorem fail_reported (s t : State) (write : Bool) (i : Nat) (f : BitVec 4 × BitVec 6 × Nat) :
    fail (reported s write i f) t = raise (cause f.1 f.2.1 (BitVec.ofNat 64 f.2.2) (BitVec.ofNat 64 i))
      (onSeq (fun q => { q with raceinfo := if f.1 = 7 then raceWord s write f.2.2 else q.raceinfo }) t) := by
  by_cases h : f.1 = 7
  · simp only [fail, reported, if_pos h]
  · simp only [fail, reported, if_neg h]
    rfl

/-- A failed access drops requests for a refused translation alone (R339). -/
theorem failAccess_drops (parts : List Part) (s : State) (write : Bool) (i : Nat) (f : BitVec 4 × BitVec 6 × Nat) :
    ∃ t, failAccess parts (reported s write i f) s = fail (reported s write i f) t ∧ dropsRequests s t ∧
      (f.1 = 6 ∧ f.2.1 = 0x03 ∨ t = s) := by
  refine ⟨_, rfl, ?_, ?_⟩
  · split
    · refine dropsRequests_foldl (fun t p => ?_) parts s
      split
      · exact dropsRequests_dropRefused _ _ t
      · exact dropsRequests_refl t
    · exact dropsRequests_refl s
  · split
    · rename_i hcause
      exact .inl (by simpa [reported, cause] using hcause)
    · exact .inr rfl

theorem failAccess_failsAt {r : Host.Outcome State Fault Refusal} {s : State} {write : Bool} {i : Nat}
    {f : BitVec 4 × BitVec 6 × Nat} {parts : List Part} (h : r = next (failAccess parts (reported s write i f) s)) :
    failsAt r s write i f := by
  obtain ⟨t, hfail, ⟨l, rfl, hsub⟩, hsame⟩ := failAccess_drops parts s write i f
  rw [hfail, fail_reported] at h
  exact ⟨_, h, rfl, hsub, hsame.imp_right (fun ht => congrArg (·.host.requests) ht)⟩

/-! ### Forms of access -/

/-- An access of one lane. -/
def oneLane (w : Instr) (kind : AccessKind) (narrow : Bool) (fn : BitVec 4) (x n : Nat) : MemAccess :=
  { word := w, kind := kind, narrow := narrow, fn := fn, whole := true, lanes := [x], n := n, aligned := fun _ => x % n == 0,
    ready := True }

/-- An access of 64 lanes of k bytes in one range. -/
def inRange (w : Instr) (kind : AccessKind) (x k : Nat) (ready : Prop) : MemAccess :=
  { word := w, kind := kind, narrow := false, fn := 0, whole := true, lanes := (List.range 64).map (fun i => x + k * i), n := k,
    aligned := fun i => i != 0 || (x % 64 == 0 && x / 0x200000 == (x + 64 * k - 1) / 0x200000), ready := ready }

/-- An access of 64 lanes of 4 bytes, each at its own address. -/
def apart (w : Instr) (kind : AccessKind) (s : State) (b c : Reg5) (ready : Prop) : MemAccess :=
  { word := w, kind := kind, narrow := false, fn := 0, whole := false, lanes := (List.range 64).map (laneAddr s b c), n := 4,
    aligned := fun i => laneAddr s b c i % 4 == 0, ready := ready }

theorem formed_oneLane {kind : AccessKind} (hk : kind ≠ .side) {n : Nat} (hn : 0 < n ∧ n ≤ 64) (w : Instr) (narrow : Bool)
    (fn : BitVec 4) (x : Nat) : formed (oneLane w kind narrow fn x n) :=
  ⟨hn, by simp [oneLane], hk, fun _ y hy => (List.mem_singleton.mp hy).ge⟩

theorem formed_inRange {kind : AccessKind} (hk : kind ≠ .side) {k : Nat} (hn : 0 < k ∧ k ≤ 64) (w : Instr) (x : Nat)
    (ready : Prop) : formed (inRange w kind x k ready) := by
  refine ⟨hn, by simp [inRange], hk, fun _ y hy => ?_⟩
  obtain ⟨i, -, rfl⟩ := List.mem_map.mp hy
  exact Nat.le_add_right x (k * i)

theorem formed_apart {kind : AccessKind} (hk : kind ≠ .side) (w : Instr) (s : State) (b c : Reg5) (ready : Prop) :
    formed (apart w kind s b c ready) :=
  ⟨by simp [apart], by simp [apart], hk, fun h => absurd h Bool.false_ne_true⟩

theorem coreOf_oneLane (w : Instr) (kind : AccessKind) (narrow : Bool) (fn : BitVec 4) (x n : Nat) :
    coreOf (oneLane w kind narrow fn x n) =
      { kind := kind, narrow := narrow, fn := fn, parts := [{ lane := 0, addr := x, len := n }], align := alignCheck x n } := by
  have halign : [({ lane := 0, addr := x, len := n } : Part)].findSome? (fun p =>
      if x % n == 0 then none else some (failAt 5 0x02 p.addr p.lane)) = alignCheck x n := by
    rw [findSome?_cons_or]
    exact Option.or_none
  exact congrArg (CoreAccess.mk kind narrow fn _) halign

theorem coreOf_atom (w : Instr) (fn : BitVec 4) (a : Reg5) (x n : Nat) :
    coreOf (oneLane w (if a = 0 then .atomicNon else .atomicRet) false fn x n) = atomAccess fn a x n := by
  rw [coreOf_oneLane, atomAccess]
  exact congrArg (CoreAccess.mk · false fn _ _) (if_congr beq_iff_eq rfl rfl).symm

/-- The lanes of a range of addresses, as parts. -/
theorem mapIdx_map_range (g : Nat → Nat) (k : Nat) :
    ((List.range 64).map g).mapIdx (fun i x => ({ lane := i, addr := x, len := k } : Part)) =
      (List.range 64).map (fun i => { lane := i, addr := g i, len := k }) := by
  refine List.ext_getElem (by simp) (fun i _ _ => by simp)

/-- The alignment of a vector access is that of its first lane. -/
theorem findSome?_vectorParts (x k : Nat) (ok : Bool) :
    (vectorParts x k).findSome? (fun p => if p.lane != 0 || ok then none else some (failAt 5 0x02 p.addr p.lane)) =
      if ok then none else some (failAt 5 0x02 x 0) := by
  cases ok with
  | true => exact List.findSome?_eq_none_iff.mpr (fun p _ => if_pos (Bool.or_true _))
  | false =>
    have hfirst : (vectorParts x k)[0]? = some { lane := 0, addr := x, len := k } := by simp [vectorParts]
    exact findSome?_of_first hfirst rfl (fun j _ hj => absurd hj (Nat.not_lt_zero j))

theorem coreOf_inRange (w : Instr) (kind : AccessKind) (x k : Nat) (ready : Prop) :
    coreOf (inRange w kind x k ready) = vectorAccess kind x k := by
  simp only [coreOf, inRange, mapIdx_map_range (fun i => x + k * i)]
  exact congrArg (CoreAccess.mk kind false 0 (vectorParts x k)) (findSome?_vectorParts x k _)

theorem coreOf_apart (w : Instr) (kind : AccessKind) (s : State) (b c : Reg5) (ready : Prop) :
    coreOf (apart w kind s b c ready) = laneAccess kind b c s := by
  simp only [coreOf, apart, mapIdx_map_range (laneAddr s b c)]
  refine congrArg (CoreAccess.mk kind false 0 _) (findSome?_congr_mem (fun p hp => ?_))
  obtain ⟨i, -, rfl⟩ := List.mem_map.mp hp
  rfl

/-! ### The words -/

/-- A word makes its access after the checks of its tags. -/
def performs (s : State) (q : MemAccess) (pre : W32 → State → Option TrapInfo) : Prop :=
  formed q ∧ ∃ w f, encode q.word = some w ∧ exec q.word s = next (checkedAccess w (pre w) q.whole (fun _ => coreOf q) f s)

theorem performs_of {s : State} {q : MemAccess} {pre : W32 → State → Option TrapInfo} {w : W32} {f : State → State}
    {acc : CoreAccess} (hq : formed q) (hacc : coreOf q = acc) (he : encode q.word = some w)
    (hx : exec q.word s = next (checkedAccess w (pre w) q.whole (fun _ => acc) f s)) : performs s q pre := by
  subst hacc
  exact ⟨hq, w, f, he, hx⟩

section
variable {hd : Hdr} {s : State} (h : acts hd s) {i : Instr} {a b c : Reg5} {d : BitVec 6}
include h

theorem loadWord_performs (n : Nat) (narrow : Bool) (ext : Nat → W64) (m : BitVec 3)
    (hi : exec i s = loadWord n narrow ext m hd a b d s) (he : encode i = some (packWord hd 0x15 (packM a b d m)))
    (hn : 0 < n ∧ n ≤ 64) : performs s (oneLane i .load narrow 0 (wordAddr s b d n) n) (fun _ => noPre) :=
  performs_of (formed_oneLane (by decide) hn _ _ _ _) (coreOf_oneLane ..) he (hi.trans (issue_guarded h))

theorem storeWord_performs (n : Nat) (narrow : Bool) (m : BitVec 3) (hi : exec i s = storeWord n narrow m hd a b d s)
    (he : encode i = some (packWord hd 0x16 (packM a b d m))) (hn : 0 < n ∧ n ≤ 64) :
    performs s (oneLane i .store narrow 0 (wordAddr s b d n) n) (fun _ => noPre) :=
  performs_of (formed_oneLane (by decide) hn _ _ _ _) (coreOf_oneLane ..) he (hi.trans (issue_guarded h))

theorem feWord_performs (m : BitVec 3) (want : Option Bool) (load after : Bool)
    (hi : exec i s = feWord m want load after hd a b d s) (he : encode i = some (packWord hd 0x17 (packM a b d m))) :
    performs s (oneLane i .fullEmpty false 0 (wordAddr s b d 8) 8) (fun _ => noPre) :=
  performs_of (formed_oneLane (by decide) (by decide) _ _ _ _) (coreOf_oneLane ..) he (hi.trans (issue_guarded h))

theorem atomWord_performs (op : BitVec 6) (n : Nat) (fn : BitVec 4) (u : Use) (hi : exec i s = atomWord op n fn u hd a b c s)
    (he : encode i = some (packWord hd op (packR a b c fn))) (hn : 0 < n ∧ n ≤ 64) :
    performs s (oneLane i (if a = 0 then .atomicNon else .atomicRet) false fn (placeOf s (readS s b)) n) (fun _ => noPre) :=
  performs_of (formed_oneLane (by split <;> decide) hn _ _ _ _) (coreOf_atom ..) he (hi.trans (issue_guarded h))

theorem faddg_performs :
    performs s (oneLane (.faddg hd a b c) (if a = 0 then .atomicNon else .atomicRet) false 13 (placeOf s (readS s b)) 16)
      (fun _ => noPre) :=
  performs_of (formed_oneLane (by split <;> decide) (by decide) _ _ _ _) (coreOf_atom ..) rfl
    (issue_guarded (u := useAtom hd a b c) h)

theorem vloadWord_performs (m : BitVec 3) {k : Nat} (hk : (if m == 7 && loadTag m s == 10 then 3 else 4) = k) (ready : Prop)
    (hi : exec i s = vloadWord m hd a b d s) (he : encode i = some (packWord hd 0x18 (packM a b d m))) :
    performs s (inRange i .load (wordAddr s b d 256) k ready) (fun w s => if m == 7 then vtagCheck w a false s else none) := by
  subst hk
  exact performs_of (formed_inRange (by decide) (by split <;> decide) _ _ _) (coreOf_inRange ..) he
    (hi.trans (issue_guarded h))

theorem vstoreWord_performs (ht6 : Bool) (ready : Prop) (hi : exec i s = vstoreWord ht6 hd a b d s)
    (he : encode i = some (packWord hd 0x19 (packM a b d (if ht6 then 1 else 0)))) :
    performs s (inRange i .store (wordAddr s b d 256) (if ht6 then 3 else 4) ready) (fun _ _ =>
      if ht6 && tagFmt (readV s a).tag != 10 then some (tagTrap (readV s a).tag a.toNat 0) else none) :=
  performs_of (formed_inRange (by decide) (by split <;> decide) _ _ _) (coreOf_inRange ..) he (hi.trans (issue_guarded h))

theorem vldg_performs (p : Reg4) (ready : Prop) : performs s (apart (.vldg hd a b c p) .load s b c ready)
    (fun w s => (vtagCheck w a true s).or (indexCheck c s)) :=
  performs_of (formed_apart (by decide) _ _ _ _ _) (coreOf_apart ..) rfl (issue_guarded (u := useGather hd a b c p) h)

theorem vsts_performs (ready : Prop) : performs s (apart (.vsts hd a b c) .store s b c ready) (fun _ => indexCheck c) :=
  performs_of (formed_apart (by decide) _ _ _ _ _) (coreOf_apart ..) rfl (issue_guarded (u := useScatter hd a b c) h)

end

/-! ### The tags they use -/

theorem vtagCheck_passes (w : W32) (a : Reg5) {noHt6 : Bool} {s : State} (hle : (tagFmt s.seq.vtag).toNat ≤ 10)
    (hsc : tagSc s.seq.vtag = false) (h6 : noHt6 = true → tagFmt s.seq.vtag ≠ 10) : vtagCheck w a noHt6 s = none := by
  rw [vtagCheck]
  simp only [if_neg (not_lt.mpr hle), hsc, Bool.false_or, Bool.and_eq_true, beq_iff_eq]
  exact if_neg (fun h => h6 h.1 h.2)

theorem indexCheck_passes {c : Reg5} {s : State} (h : intReg s c) : indexCheck c s = none :=
  if_pos (by simpa [intReg] using h)

/-- A word makes its access, and its tags pass when the access is ready. -/
def accesses (s : State) (q : MemAccess) : Prop := ∃ pre, performs s q pre ∧ (q.ready → ∀ w, pre w s = none)

theorem accesses_free {s : State} {q : MemAccess} (h : performs s q (fun _ => noPre)) : accesses s q := ⟨_, h, fun _ _ => rfl⟩

/-- A vector load of a mode that names its format. -/
theorem plainVload_accesses {hd : Hdr} {s : State} (h : acts hd s) {i : Instr} {a b : Reg5} {d : BitVec 6} {m : BitVec 3}
    (hm : m ≠ 7) (hi : exec i s = vloadWord m hd a b d s) (he : encode i = some (packWord hd 0x18 (packM a b d m))) :
    accesses s (inRange i .load (wordAddr s b d 256) 4 True) :=
  have hm' : (m == 7) = false := beq_false_of_ne hm
  ⟨_, vloadWord_performs h m (by rw [hm']; rfl) True hi he, fun _ _ => by rw [hm']; rfl⟩

theorem memoryWords_access {hd : Hdr} {s : State} (h : acts hd s) (a b c : Reg5) (p : Reg4) (d : BitVec 6) :
    ∀ q ∈ memAccesses hd a b c p d s, accesses s q := by
  refine List.forall_mem_append.mpr ⟨List.forall_mem_append.mpr ⟨fun q hq => ?_, fun q hq => ?_⟩, fun q hq => ?_⟩
  · have load := fun {i : Instr} n narrow ext m hi he hn =>
      accesses_free (@loadWord_performs hd s h i a b d n narrow ext m hi he hn)
    have store := fun {i : Instr} n narrow m hi he hn => accesses_free (@storeWord_performs hd s h i a b d n narrow m hi he hn)
    have fe := fun {i : Instr} m want ld after hi he => accesses_free (@feWord_performs hd s h i a b d m want ld after hi he)
    fin_cases hq
    exacts [load 1 false (signExt 8) 0 rfl rfl (by decide), load 1 false zeroExt 1 rfl rfl (by decide),
      load 2 false (signExt 16) 2 rfl rfl (by decide), load 2 false zeroExt 3 rfl rfl (by decide),
      load 4 true (signExt 32) 4 rfl rfl (by decide), load 4 false zeroExt 5 rfl rfl (by decide),
      load 8 true zeroExt 6 rfl rfl (by decide), store 1 false 0 rfl rfl (by decide), store 2 false 1 rfl rfl (by decide),
      store 4 true 2 rfl rfl (by decide), store 8 true 3 rfl rfl (by decide), fe 0 (some true) true true rfl rfl,
      fe 1 (some true) true false rfl rfl, fe 2 (some false) false true rfl rfl, fe 3 none false true rfl rfl]
  · have vload := fun {i : Instr} m hm hi he => @plainVload_accesses hd s h i a b d m hm hi he
    fin_cases hq
    exacts [vload 0 (by decide) rfl rfl, vload 1 (by decide) rfl rfl, vload 2 (by decide) rfl rfl, vload 3 (by decide) rfl rfl,
      vload 4 (by decide) rfl rfl, vload 5 (by decide) rfl rfl, vload 6 (by decide) rfl rfl,
      ⟨_, vloadWord_performs h 7 (if_congr beq_iff_eq rfl rfl) _ rfl rfl, fun ht w => vtagCheck_passes w a ht.1 ht.2 nofun⟩,
      ⟨_, vstoreWord_performs h false True rfl rfl, fun _ _ => rfl⟩,
      ⟨_, vstoreWord_performs h true _ rfl rfl, fun ht _ => if_neg (by simpa using ht)⟩,
      ⟨_, vldg_performs h p _, fun ⟨hle, hsc, hi⟩ w => by
        rw [vtagCheck_passes w a hle.le hsc (fun _ he => by simp [he] at hle), indexCheck_passes hi, Option.or_none]⟩,
      ⟨_, vsts_performs h _, fun hi _ => indexCheck_passes hi⟩]
  · have atom32 := fun {i : Instr} fn u hi he =>
      accesses_free (@atomWord_performs hd s h i a b c 0x1C 4 fn u hi he (by decide))
    have atom64 := fun {i : Instr} fn u hi he =>
      accesses_free (@atomWord_performs hd s h i a b c 0x1D 8 fn u hi he (by decide))
    fin_cases hq
    exacts [atom32 0 (useAtom hd a b c) rfl rfl, atom32 1 (useAtom hd a b c) rfl rfl, atom32 2 (useAtom hd a b c) rfl rfl,
      atom32 3 (useAtom hd a b c) rfl rfl, atom32 4 (useAtom hd a b c) rfl rfl, atom32 5 (useAtom hd a b c) rfl rfl,
      atom32 6 (useAtom hd a b c) rfl rfl, atom32 7 (useAtom hd a b c) rfl rfl, atom32 8 (useAtom hd a b c) rfl rfl,
      atom32 9 (useCas hd a b c) rfl rfl, atom32 10 (useAtom hd a b c) rfl rfl, atom32 11 (useAtom hd a b c) rfl rfl,
      atom32 12 (useAtom hd a b c) rfl rfl, atom64 0 (useAtom hd a b c) rfl rfl, atom64 1 (useAtom hd a b c) rfl rfl,
      atom64 2 (useAtom hd a b c) rfl rfl, atom64 3 (useAtom hd a b c) rfl rfl, atom64 4 (useAtom hd a b c) rfl rfl,
      atom64 5 (useAtom hd a b c) rfl rfl, atom64 6 (useAtom hd a b c) rfl rfl, atom64 7 (useAtom hd a b c) rfl rfl,
      atom64 8 (useAtom hd a b c) rfl rfl, atom64 9 (useCas hd a b c) rfl rfl, accesses_free (faddg_performs h)]

end Sys2Proof.Machine
end

section
/-! PROOFS. Where memory words trap: privileged control space, the tags, and the checks in order (R122, R135, R136). -/

open Sys2Proof.Claims

namespace Sys2Proof.Machine

/-! ### Privileged control space -/

theorem checkPrivilege_user {s : State} (h : s.seq.supervisor = false) (parts : List Part) :
    checkPrivilege s parts = parts.findSome? (fun p => if spaceOf p.addr = some .control then some p.addr else none) := by
  simp only [checkPrivilege, h, Bool.false_eq_true, if_false]
  induction parts with
  | nil => rfl
  | cons p parts ih =>
    rw [findSome?_cons_or, ← ih, List.find?_cons]
    rcases rowOf_cases p.addr with ⟨-, hr⟩ | ⟨-, hr⟩ | ⟨-, hr⟩ | ⟨-, hr⟩ | ⟨-, hr⟩ | ⟨-, hr⟩ <;> simp [spaceOf, hr]

theorem checkPrivilege_passes {s : State} {parts : List Part}
    (h : s.seq.supervisor = true ∨ ∀ p ∈ parts, spaceOf p.addr ≠ some .control) : checkPrivilege s parts = none := by
  cases hs : s.seq.supervisor with
  | true => exact if_pos hs
  | false =>
    rw [checkPrivilege_user hs, List.findSome?_eq_none_iff]
    exact fun p hp => if_neg (h.resolve_left (by simp [hs]) p hp)

theorem checkPrivilege_traps {s : State} (hs : s.seq.supervisor = false) {parts : List Part} {i : Nat} {p : Part}
    (hi : parts[i]? = some p) (hp : spaceOf p.addr = some .control)
    (hlt : ∀ (j : Nat) x, j < i → parts[j]? = some x → spaceOf x.addr ≠ some .control) :
    checkPrivilege s parts = some p.addr := by
  rw [checkPrivilege_user hs]
  exact findSome?_of_first hi (if_pos hp) (fun j x hj hx => if_neg (hlt j x hj hx))

theorem privilege_passes {s : State} {q : MemAccess} (h : s.seq.supervisor = true ∨ ∀ x ∈ q.lanes, spaceOf x ≠ some .control) :
    checkPrivilege s (coreOf q).parts = none :=
  checkPrivilege_passes (h.imp_right (fun hq p hp => hq p.addr (List.mem_of_getElem? (mem_parts hp).2)))

/-! ### The traps of an access -/

section
variable {s : State} {q : MemAccess} {pre : W32 → State → Option TrapInfo}

theorem performs_control (h : performs s q pre) (hs : s.seq.supervisor = false) {i x : Nat} (hi : q.lanes[i]? = some x)
    (hx : spaceOf x = some .control) (hlt : ∀ (j y : Nat), j < i → q.lanes[j]? = some y → spaceOf y ≠ some .control) {w : W32}
    (hw : encode q.word = some w) : exec q.word s = next (raise (cause 1 0x02 (BitVec.ofNat 64 x) (w.setWidth 64 <<< 32)) s) := by
  obtain ⟨-, w', f, he, hexec⟩ := h
  obtain rfl := Option.some.inj (he.symm.trans hw)
  have hp : checkPrivilege s (coreOf q).parts = some x := by
    refine checkPrivilege_traps hs (i := i) (p := { lane := i, addr := x, len := q.n }) (by rw [getElem?_parts, hi]; rfl) hx
      (fun j y hj hy => ?_)
    rw [getElem?_parts] at hy
    obtain ⟨z, hz, rfl⟩ := Option.map_eq_some_iff.mp hy
    exact hlt j z hj hz
  rw [hexec, checkedAccess]
  simp only [hp]
  rfl

variable (h : performs s q pre) (hc : s.seq.supervisor = true ∨ ∀ x ∈ q.lanes, spaceOf x ≠ some .control)
include h hc

theorem performs_pre {t : TrapInfo} (ht : ∀ w, encode q.word = some w → pre w s = some t) : exec q.word s = next (raise t s) := by
  obtain ⟨-, w, f, he, hexec⟩ := h
  rw [hexec, checkedAccess]
  simp only [privilege_passes hc, ht w he]

theorem performs_fails (hpre : ∀ w, pre w s = none) {i x k : Nat} {f : BitVec 4 × BitVec 6 × Nat} (hi : q.lanes[i]? = some x)
    (hf : q.failure s i x k = some f)
    (hk : ∀ j, j < k → ∀ (i' y : Nat), q.lanes[i']? = some y → q.failure s i' y j = none)
    (hlt : ∀ (i' y : Nat), i' < i → q.lanes[i']? = some y → q.failure s i' y k = none) :
    failsAt (exec q.word s) s (q.kind == .store) i f := by
  obtain ⟨hq, w, g, -, hexec⟩ := h
  refine failAccess_failsAt (parts := (coreOf q).parts) (hexec.trans (congrArg next ?_))
  rw [checkedAccess]
  simp only [privilege_passes hc, hpre, checks_report hq hi hf hk hlt]

end

theorem memoryWordsTrapOnTheFirstCheck : MemoryWordsTrapOnTheFirstCheck := by
  intro hd a b c p d s h q hq
  obtain ⟨pre, hperf, hpre⟩ := memoryWords_access h a b c p d q hq
  exact ⟨fun hready hc _ _ _ _ hi hf hk hlt => performs_fails hperf hc (hpre hready) hi hf hk hlt,
    fun hs _ _ _ hi hx hlt hw => performs_control hperf hs hi hx hlt hw⟩

/-! ### The traps on tags -/

theorem vtagCheck_illegal {w : W32} {a : Reg5} {noHt6 : Bool} {s : State} (h : 10 < (tagFmt s.seq.vtag).toNat) :
    vtagCheck w a noHt6 s = some (vtagTrap w s) := if_pos h

theorem vtagCheck_wrong {w : W32} {a : Reg5} {noHt6 : Bool} {s : State} (hle : (tagFmt s.seq.vtag).toNat ≤ 10)
    (h : tagSc s.seq.vtag = true ∨ noHt6 = true ∧ tagFmt s.seq.vtag = 10) :
    vtagCheck w a noHt6 s = some (tagTrap s.seq.vtag a.toNat 0) := by
  rw [vtagCheck]
  simp only [if_neg (not_lt.mpr hle), Bool.or_eq_true, Bool.and_eq_true, beq_iff_eq, if_pos h]

theorem indexCheck_wrong {c : Reg5} {s : State} (h : ¬ intReg s c) : indexCheck c s = some (tagTrap (readV s c).tag c.toNat 2) :=
  if_neg (by simpa [intReg] using h)

theorem memoryWordsCheckTags : MemoryWordsCheckTags := by
  intro hd a b c p d w s h tag allowed illegal
  have member := fun {q : MemAccess} (n : Nat) (hq : ((memAccesses hd a b c p d s)[n]?) = some q) (ha : allowed q.word) =>
    ha.imp_right (fun hx => hx q (List.mem_of_getElem? hq) rfl)
  have vldVtag := fun ha {t} => performs_pre (t := t) (vloadWord_performs h 7 (if_congr beq_iff_eq rfl rfl) _ rfl rfl)
    (member 22 rfl ha)
  have vstHt6 := fun ha {t} => performs_pre (t := t) (vstoreWord_performs h true _ rfl rfl) (member 24 rfl ha)
  have vldg := fun ha {t} => performs_pre (t := t) (vldg_performs h p _) (member 25 rfl ha)
  have vsts := fun ha {t} => performs_pre (t := t) (vsts_performs h _) (member 26 rfl ha)
  have same := fun {i : Instr} {w' : W32} (hw : encode i = some w) (hw' : encode i = some w') =>
    Option.some.inj (hw'.symm.trans hw)
  refine ⟨fun hlt => ⟨fun ha hw => vldVtag ha (fun w' hw' => ?_), fun ha hw => vldg ha (fun w' hw' => ?_)⟩,
    fun ha hle hsc => vldVtag ha (fun _ _ => ?_), fun ha => ⟨fun hle hwrong => vldg ha (fun _ _ => ?_), fun hlt hsc hint => ?_⟩,
    fun ha hfmt => ?_, fun ha hint => ?_⟩
  · obtain rfl := same hw hw'
    exact vtagCheck_illegal hlt
  · obtain rfl := same hw hw'
    rw [vtagCheck_illegal hlt]
    rfl
  · exact vtagCheck_wrong hle (.inl hsc)
  · rw [vtagCheck_wrong hle (hwrong.imp_right (fun h10 => ⟨rfl, h10⟩))]
    rfl
  · refine List.forall_mem_singleton.mpr (vldg ha (fun w _ => ?_))
    rw [vtagCheck_passes w a hlt.le hsc (fun _ he => by simp [tag, he] at hlt), indexCheck_wrong hint]
    rfl
  · exact List.forall_mem_singleton.mpr (vstHt6 ha (fun _ _ => if_pos (by simpa using hfmt)))
  · exact List.forall_mem_singleton.mpr (vsts ha (fun _ _ => indexCheck_wrong hint))

end Sys2Proof.Machine
end

section
/-! PROOFS. Where `rel` and `ret` of OWN trap (R135, R136, R151), and the order of the traps of memory words. -/

open Sys2Proof.Claims

namespace Sys2Proof.Machine

/-! ### Granules in order -/

section
variable {m : Mem} {agent : BitVec 9} {o : Option Owner}

theorem relGranules_cons_free {g : Nat} (h : ∀ x, ownerOf m g = some (.excl x) → x = agent) (gs : List Nat) :
    relGranules m agent o (g :: gs) = relGranules (setOwner m g o) agent o gs := by
  simp only [relGranules]
  split
  · exact if_pos (beq_iff_eq.mpr (h _ ‹_›))
  · rfl

theorem relGranules_cons_held {g : Nat} {x : BitVec 9} (h : ownerOf m g = some (.excl x)) (hx : x ≠ agent) (gs : List Nat) :
    relGranules m agent o (g :: gs) = (m, some { detail := 4, addr := g * 64, info := raceInfo false (.excl x) (g * 64) }) := by
  simp only [relGranules, h]
  exact if_neg (by simpa using hx)

/-- Granules that no other agent holds are passed, and those after them follow. -/
theorem relGranules_append (ho : ∀ x, o = some (.excl x) → x = agent) (lo rest : List Nat)
    (h : ∀ g ∈ lo, ∀ x, ownerOf m g = some (.excl x) → x = agent) :
    relGranules m agent o (lo ++ rest) = relGranules (relGranules m agent o lo).1 agent o rest := by
  induction lo generalizing m with
  | nil => rfl
  | cons g lo ih =>
    obtain ⟨hg, hlo⟩ := List.forall_mem_cons.mp h
    rw [List.cons_append, relGranules_cons_free hg, relGranules_cons_free hg]
    refine ih (fun y hy x hx => ?_)
    rw [ownerOf_setOwner] at hx
    split at hx
    · exact ho x hx
    · exact hlo y hy x hx

theorem relGranules_changes_owner (gs : List Nat) :
    (relGranules m agent o gs).1 = { m with owner := (relGranules m agent o gs).1.owner } := by
  induction gs generalizing m with
  | nil => rfl
  | cons g gs ih =>
    by_cases h : ∀ x, ownerOf m g = some (.excl x) → x = agent
    · rw [relGranules_cons_free h]
      exact ih
    · push Not at h
      obtain ⟨x, hg, hx⟩ := h
      rw [relGranules_cons_held hg hx]

end

/-! ### The words -/

/-- The range of a `rel` or `ret`, as one part. -/
def ownPart (s : State) (b c : Reg5) : Part := { lane := 0, addr := placeOf s (readS s b), len := (readS s c).toNat }

section
variable {hd : Hdr} {b c : Reg5} {s : State} (h : acts hd s) {fn : BitVec 4} {own : Option Owner}
include h

theorem ownWord_control (hn : 0 < (readS s c).toNat) {x : Nat} (hp : checkPrivilege s [ownPart s b c] = some x) :
    ownWord fn own hd b c s = next (raise (controlTrap x (packWord hd 0x1F (packR 0 b c fn))) s) := by
  refine (issue_guarded h).trans (congrArg next ?_)
  rw [ownPart] at hp
  simp only [beq_false_of_ne hn.ne', hp, Bool.false_eq_true, if_false]

variable (hp : checkPrivilege s [ownPart s b c] = none)
include hp

theorem ownWord_fails {f : Failure} (hf : checkRange (placeOf s (readS s b)) (readS s c).toNat = some f) :
    ownWord fn own hd b c s = next (fail f s) := by
  refine (issue_guarded h).trans (congrArg next ?_)
  rw [ownPart] at hp
  simp only [hp, hf, ite_self]

theorem ownWord_races (hf : checkRange (placeOf s (readS s b)) (readS s c).toNat = none) {m : Mem} {race : Race}
    (hr : relGranules s.mem s.agent own (granulesOf (placeOf s (readS s b)) (readS s c).toNat) = (m, some race)) :
    ownWord fn own hd b c s =
      next (raise (cause 7 race.detail (BitVec.ofNat 64 (max (placeOf s (readS s b)) race.addr)) 0)
        { s with mem := m, seq := { s.seq with raceinfo := race.info } }) := by
  refine (issue_guarded h).trans (congrArg next ?_)
  rw [ownPart] at hp
  simp only [hp, hf, hr, ite_self]
  rfl

end

/-! ### The range -/

theorem fail_failAt (cls : BitVec 4) (detail : BitVec 6) (y : Nat) (s : State) :
    fail (failAt cls detail y 0) s = raise (cause cls detail (BitVec.ofNat 64 y) 0) s := rfl

section
variable {x n : Nat} (hn : 0 < n)
include hn

theorem checkRange_unmapped (h : rowOf x = none) : checkRange x n = some (failAt 5 0x01 x 0) := by
  simp only [checkRange, beq_false_of_ne hn.ne', Bool.false_eq_true, if_false, checkMap, h]

variable {k : Space} {stop : Nat} (h : rowOf x = some (k, stop))
include h

theorem checkRange_past (hlt : stop < x + n) : checkRange x n = some (failAt 5 0x01 stop 0) := by
  simp only [checkRange, beq_false_of_ne hn.ne', Bool.false_eq_true, if_false, checkMap, h, if_pos hlt]

theorem checkRange_other (hle : x + n ≤ stop) (hk : k ≠ .scratchpad) : checkRange x n = some (failAt 5 0x06 x 0) := by
  cases k
  case scratchpad => exact absurd rfl hk
  all_goals simp only [checkRange, beq_false_of_ne hn.ne', Bool.false_eq_true, if_false, checkMap, h, if_neg (not_lt.mpr hle)]

end

theorem checkRange_scratchpad {x n : Nat} (hle : x + n ≤ 0x14000000) : checkRange x n = none := by
  rcases Nat.eq_zero_or_pos n with rfl | hn
  · rfl
  · simp only [checkRange, beq_false_of_ne hn.ne', Bool.false_eq_true, if_false, checkMap,
      rowOf_spad (show x < 0x14000000 by omega), if_neg (not_lt.mpr hle)]

/-- The first granule that another agent holds ends a `rel` or `ret`. -/
theorem relGranules_race {s : State} {own : Option Owner} (ho : ∀ x, own = some (.excl x) → x = s.agent) {gs lo hi : List Nat}
    {g : Nat} {w : BitVec 9} (hgs : gs = lo ++ g :: hi) (hg : ownerOf s.mem g = some (.excl w)) (hw : w ≠ s.agent)
    (hlo : ∀ y ∈ lo, ∀ v, ownerOf s.mem y = some (.excl v) → v = s.agent) :
    relGranules s.mem s.agent own gs = ((relGranules s.mem s.agent own lo).1,
      some { detail := 4, addr := 64 * g, info := raceWord s false (64 * g) }) := by
  obtain ⟨-, -, howner⟩ := relGranules_free ho lo s.mem hlo
  have hg' : ownerOf (relGranules s.mem s.agent own lo).1 g = some (.excl w) := by
    rw [howner, if_neg (fun hmem => hw (hlo g hmem w hg)), hg]
  rw [hgs, relGranules_append ho lo _ hlo, relGranules_cons_held hg' hw, Nat.mul_comm g 64,
    raceInfo_eq_raceWord false (by rwa [Nat.mul_div_cancel_left g (by decide)])]


theorem ownershipRangesTrap : OwnershipRangesTrap := by
  intro hd b c s h hn x n q hq fails
  obtain ⟨fn, hexec, he, ho⟩ : ∃ fn, exec q.1 s = ownWord fn q.2 hd b c s ∧
      encode q.1 = some (packWord hd 0x1F (packR 0 b c fn)) ∧ ∀ v, q.2 ≠ some (.excl v) := by
    fin_cases hq
    exacts [⟨0, rfl, rfl, nofun⟩, ⟨1, rfl, rfl, nofun⟩]
  refine ⟨fun hs hx w hw => ?_, fun hs => ?_⟩
  · obtain rfl := Option.some.inj (he.symm.trans hw)
    exact hexec.trans (ownWord_control h hn (checkPrivilege_traps hs (i := 0) (p := ownPart s b c) rfl hx nofun))
  · have hp : checkPrivilege s [ownPart s b c] = none :=
      checkPrivilege_passes (hs.imp_right (fun hx => List.forall_mem_singleton.mpr hx))
    have fails_at := fun {detail : BitVec 6} {y : Nat} hf => (hexec.trans (ownWord_fails h hp hf)).trans
      (congrArg next (fail_failAt 5 detail y s))
    refine ⟨fun hr => fails_at (checkRange_unmapped hn hr), fun k stop hr => ⟨fun hlt => fails_at (checkRange_past hn hr hlt),
      fun hle hk => fails_at (checkRange_other hn hr hle hk)⟩, fun hle lo hi g w hgs hg hw hlo => ?_⟩
    have hrun := ownWord_races (fn := fn) h hp (checkRange_scratchpad hle)
      (relGranules_race (fun v hv => absurd hv (ho v)) hgs hg hw hlo)
    refine ⟨_, hexec.trans hrun, ?_, (relGranules_free (fun v hv => absurd hv (ho v)) lo s.mem hlo).2.2⟩
    exact congrArg (fun m => { s with mem := m, seq := { s.seq with raceinfo := raceWord s false (64 * g) } })
      (relGranules_changes_owner lo)

end Sys2Proof.Machine

namespace Sys2Proof.Proofs

open Sys2Proof.Machine

/-- Settles O28: a memory word makes one access of its lanes, and each check of the access is judged lane by lane. -/
theorem memoryWordsTrapInOrder : Obligations.MemoryWordsTrapInOrder :=
  ⟨addressMapRows, descriptorsCover, memoryWordsTrapOnTheFirstCheck, memoryWordsCheckTags, ownershipRangesTrap⟩

end Sys2Proof.Proofs
end
